-- ==== Sys2Proof/Word.lean ====
section
/-! DEFINITION. The word types of the manual: an octet, a 32-bit register word (R9) and a string of octets. -/

namespace Sys2Proof

/-- An octet (8 bits). -/
abbrev Byte := BitVec 8

/-- A word: a register is 32 bits wide (R9). -/
abbrev Word := BitVec 32

/-- A string of octets, lowest offset first. -/
abbrev Octets := List Byte

end Sys2Proof
end

