-- ==== Sys2Proof/Types.lean ====
section
/-! DEFINITION. The operand types of the commands: what a pin, a wire, the host's memory, a sensor or an engine's own
datapath presents to the device at a command. Each is plain data. A field named `ok` or `…Ok` is the outcome of a check
on octets that the model does not hold (a signature, a Folio trailer, a DMA transfer). -/

namespace Sys2Proof

/-- The levels on the strap pins at the rising edge of PORST_N (R29, R30), before R31 corrects them. -/
structure StrapPins where
  role : Fin 4
  hid : Fin 16
  nvmMode : Fin 4
  mgmtMode : Fin 4
  refsel : Bool
  pcieEn : Bool
  spareCl : Bool
deriving DecidableEq, Repr

/-- What the wiring checks of R39 found. A lane or highway flag is true when its check failed. -/
structure WiringResult where
  flashAbsent : Bool
  refclkABad : Bool
  refclkBBad : Bool
  pcieRefAbsent : Bool
  laneSignal : List (Fin 24)     -- lanes with receive signal
  tdmShort : List (Fin 8)        -- highways whose pins read shorted
  pairMismatch : Bool
  phyAbsent : Bool
deriving DecidableEq, Repr

/-- One bank that met a parity or write-back error during the wipe (R40): the domain it lies in (bit number of R16) and
whether the one repeat failed too. -/
structure WipeFail where
  domain : Fin 30
  again : Bool
deriving DecidableEq, Repr

/-- What flash discovery returned (R42 to R44): whether SFDP was valid, the density it reports in octets, whether it offers 1S-4D-4D, and the
4,096 header octets of each slot. -/
structure FlashRead where
  sfdpOk : Bool
  density : Nat
  ddr : Bool
  hdrA : Octets
  hdrB : Octets
deriving DecidableEq, Repr

/-- Why the decompressor refuses a Folio block (R351), codes 1 to 6. -/
inductive FolioFail where
  | magic | header | sequence | code | length | crc
deriving DecidableEq, Repr

/-- The read of an image (R49, R57): its octets as flash or the host's memory gave them, and the TYPE of a section of which a word failed
parity as the decompressor took it from its FIFO (R361). -/
structure ImageRead where
  octets : Octets
  parity : Option Nat
deriving DecidableEq, Repr

/-- A command descriptor but for its OPCODE octet, which the row names (R141). -/
structure Desc where
  flags : Byte
  evr : Byte
  rsvd : Byte
  tag : Word
  channel : Word
  aux : Word
  params : Octets
deriving DecidableEq, Repr

/-- Who makes a register access (R546). -/
inductive Requester where
  | fw
  | host
  | nd
deriving DecidableEq, Repr

/-- What a node runs on, named from the cluster whose ready lists hold it (R100): a tile by its number within the
cluster, the cluster's three engines, the MPE, or the fabric unit. -/
inductive Resource where
  | tile (t : Fin 16)
  | ee
  | rfe
  | td
  | mpe
  | fab
deriving DecidableEq, Repr

/-- What the parity of the two copies of a GDU record shows at a read (R115). -/
inductive RecPar where
  | ok
  | oneBad
  | listLost
  | instanceLost
  | flowLost
deriving DecidableEq, Repr

/-- A time stamp (R86): seconds, nanoseconds and the time epoch (R93). -/
structure Stamp where
  sec : Nat
  ns : Nat
  tepoch : Nat
deriving DecidableEq, Repr

/-- An event on its way to the Ledger (R86, R88): the fields of its entry. -/
structure LedgerEvent where
  stamp : Stamp
  src : Nat
  code : Nat
  flags : Nat
  chan : Option Nat
  data : Octets
deriving DecidableEq, Repr

/-- A line of echo state that failed parity (R260). -/
inductive EchoLine where
  | foreground (w : Fin 4)
  | background (w : Fin 4)
  | both (w : Fin 4)
  | reference
  | locator
deriving DecidableEq, Repr

/-- What the NLP's filter bank measured over one ms (R251), in each of the 16 bands: the mean squares of the far-end signal, the near-end signal, the
echo estimate and the residual. -/
structure NlpMs where
  far : List Nat
  near : List Nat
  est : List Nat
  res : List Nat
deriving DecidableEq, Repr

/-- The classes of R307 that the detector reports. -/
inductive ToneClass where
  | dtmf | mfr1 | mfcFwd | mfcBwd | callProgress | sit | v21 | ans | ansam | cng
deriving DecidableEq, Repr

/-- One recognition that the Tone Detector makes between the limits of R306, or of a sequence of tones (R303 to R307): an onset, an offset or a phase
reversal, with the values that its event carries. `recv` is the listening point, `degrees` the phase change of a reversal, `stamp` the corrected stamp
of R298. -/
structure ToneHit where
  on : Bool
  reversal : Bool
  cls : ToneClass
  value : Nat
  f1 : Nat
  f2 : Nat
  level : Nat
  degrees : Nat
  recv : Bool
  stamp : Stamp
deriving DecidableEq, Repr

/-- One bin of a window (R303 to R305): its nominal frequency and the estimate from its phase advance, in 0.1 Hz, the mean square of its component over
the window, and the component's amplitude at each sample by which the window advanced. -/
structure ToneBin where
  nominal : Nat
  freq : Nat
  power : Nat
  amps : List Nat
deriving DecidableEq, Repr

/-- What the bins gave of one window of a listening point (R303); the window's own power the model takes from the signal. -/
structure ToneWin where
  recv : Bool
  bins : List ToneBin
deriving DecidableEq, Repr

/-- What the RFE found in its memories in one node (R291, R292): a history line that failed parity, and copies of the active bank that failed. -/
structure RfeOut where
  histParity : Bool
  bankCopies : Nat
deriving DecidableEq, Repr

/-- What a node's function did on its resource: the part of a node's outcome that its kernel, engine or unit computes. A node whose
kind has nothing to report ends with `plain`. -/
inductive NodeOutcome where
  | plain
  /-- TDM in: the codes that the span's slots carried, in order, and which of its samples failed parity in the line memory (R333). -/
  | tdmIn (codes : List Nat) (bad : List Nat)
  /-- Jitter-buffer pull: packets whose cells failed parity (R170), by sequence number. -/
  | pull (badSeq : List Nat)
  /-- Decode or concealment: whether the codec state failed parity (R224), and the samples that the codec's kernel made, where the manual leaves its
  arithmetic to the codec's own standard. -/
  | codec (parity : Bool) (samples : List Int)
  /-- VAD: whether the frame is active (R215, R226). -/
  | vad (active : Bool)
  /-- Encode: whether the codec state failed parity (R224), and what the kernel made of the frame, or none for a frame that DTX leaves unsent. -/
  | encode (parity : Bool) (payload : Option Octets)
  /-- Echo: a line of state that failed parity (R260), and the 1 kHz samples, far-end and near-end, that the locator's filters made (R245). -/
  | echo (repair : Option EchoLine) (dec : List (Int × Int))
  /-- NLP/CNG: whether its band state failed parity (R260), and what its filter bank measured in each ms. -/
  | nlp (parity : Bool) (ms : List NlpMs)
  /-- Tone detect (R303 to R307): the windows in time order, the recognitions that R306 leaves open, and a detector line that failed parity (R320). -/
  | tones (wins : List ToneWin) (hits : List ToneHit) (parity : Bool)
  /-- RFE in or RFE out. -/
  | rfe (o : RfeOut)
  /-- Statistics: whether the block reached host memory, when one is due (R157). -/
  | stats (dmaOk : Bool)
  /-- Dossier: the echo record's taps as mantissae octets (R258), and, in restore mode, whether the stored dossier fails parity or its
  CRC as the channel is restored from it (R508). -/
  | dossier (taps : Octets) (bad : Bool)
  /-- Migrate: whether the copied context passed parity (R127). -/
  | migrate (parityOk : Bool)
deriving DecidableEq, Repr

/-- Why a shadow is abandoned (R249, R265). -/
inductive AbandonCause where
  | shadowMax | divergence | tone | span | parity
deriving DecidableEq, Repr

/-- The parity of the two copies of a session's route record at a read (R162). -/
inductive RoutePar where
  | ok | oneBad | lost
deriving DecidableEq, Repr

/-- What a read of a session's entry found (R162, R183): the parity of its route record, and whether the crypto context of the packet's direction
failed parity. -/
structure EntryCheck where
  route : RoutePar
  ctxBad : Bool
deriving DecidableEq, Repr

/-- The crypto contexts of a session (R163), both directions. -/
structure CryptoCtx where
  rxKey : Octets := []
  rxSalt : Octets := []
  sl : Nat := 0
  roc : Nat := 0
  replay : BitVec 64 := 0
  srtcpHi : Nat := 0
  srtcpValid : Bool := false
  txKey : Octets := []
  txSalt : Octets := []
  seq : Nat := 0
  txRoc : Nat := 0
  txSsrc : Word := 0
  srtcpIdx : Nat := 0
deriving DecidableEq, Repr

/-- The three pins of a highway that the device may drive (R324). -/
inductive TdmPin where
  | clk | fs | tx
deriving DecidableEq, Repr

/-- What the compressor made of a block (R350): its DEFLATE octets, whether a word popped from the input FIFO failed parity, and which word of
the block, if any, fails parity when it is popped from the output FIFO (R361). -/
structure CompressOut where
  coded : Octets
  inParity : Bool
  outParity : Option Nat := none
deriving DecidableEq, Repr

/-- A MAC: one of the eight network MACs, or the Night Desk's own (R474). -/
inductive MacPort where
  | mac (e : Fin 8)
  | nd
deriving DecidableEq, Repr

/-- A frame as it arrives at a MAC (R378): its octets from DA up to the FCS, the octets the wire carried from DA to FCS, whether the FCS
is correct and the buffer's parity held, and what the FEC found in the codewords that carried it (R391): codewords corrected and not
correctable, and symbols corrected per lane. -/
structure RxFrame where
  octets : Octets
  len : Nat
  fcsOk : Bool
  parityOk : Bool
  fecCorr : Nat
  fecUncorr : Nat
  fecSym : List (Fin 8 × Nat)
deriving DecidableEq, Repr

/-- What training settled on a lane (R370 to R374). -/
structure TrainOut where
  rxInv : Bool
  ffe : Word
  eq : Word
deriving DecidableEq, Repr

/-- What one PTP exchange gave firmware (R404, R413 to R416). -/
structure PtpExchange where
  mac : Fin 8
  offset : Int
  meanPath : Nat
deriving DecidableEq, Repr

/-- A correction of R409 as R424 carries it: the apply instant on the master's scale in ns, the offset, and whether it is a step. -/
structure Correction where
  applyAt : Nat
  delta : Int
  step : Bool
  tepoch : Nat
  first : Bool
deriving DecidableEq, Repr

/-- The header of a received Ronong frame (R432). -/
structure RonHdr where
  enc : Bool := false
  phase : Bool := false
  src : Fin 16
  dst : Fin 16
  length : Nat
  seq : Nat
deriving DecidableEq, Repr

/-- A stamp with its sixteenths of a nanosecond, as time frames carry it (R402, R433). -/
structure FineStamp where
  stamp : Stamp
  sixteenths : Fin 16
deriving DecidableEq, Repr

/-- What a HEARTBEAT's payload tells (R438). -/
structure HbMsg where
  role : Fin 4
  active : Bool
  activeHeard : Bool
  reserveReady : Bool
  serving : Bool
  epoch : Nat
  tepoch : Nat
  heard : BitVec 16
  servedHid : Fin 16
  cadence : Nat
  nextSeq : List Nat
  freed : List Nat
  aliases : List Nat
  digestOk : Bool
deriving DecidableEq, Repr

/-- Why a received Ronong frame is dropped (R432, R433, R440). -/
inductive RonDrop where
  | crc | length | dst | vl | type | clear | tag
deriving DecidableEq, Repr

/-- What an EPOCH frame holds (R79, R85): an announcement, or a report of switch or release. -/
inductive EpochMsg where
  | announce (epoch : Nat) (tick : Nat)
  | switched (applied : Nat) (late : Bool)
  | released
deriving DecidableEq, Repr

/-- A rotation cache entry (R180). -/
structure RotEntry where
  session : Nat
  retained : Bool
  from_ : Nat
  key : Octets
  salt : Octets
  promo : Nat
deriving DecidableEq, Repr

/-- What a MIRROR frame holds (R184): a session's route record, its contexts and its rotation cache entry while ROT is set, or the removal of a
session. -/
structure MirrorMsg where
  session : Nat
  route : Option Octets
  ctx : CryptoCtx
  rot : Option RotEntry := none
deriving DecidableEq, Repr

/-- A media record (R434), with the epoch that a frame of a processing device carries (R81): none for a payload received from the network. -/
structure MediaRec where
  chan : Nat
  kind : Nat
  stamp : Stamp
  rtp : Octets
  epoch : Option Nat := none
deriving DecidableEq, Repr

/-- A test's origin (R532, R534): the ring opcode MIRROR_TEST, the SELF_TEST request at the head of the Night Desk's queue, or firmware's
own return-to-service test of a tile. -/
inductive TestOrigin where
  | ring (r : Fin 4) (d : Desc)
  | nd
  | service (tile : Fin 256)
deriving DecidableEq, Repr

/-- What a test measured (R533 to R536, R538). -/
structure TestMeasure where
  erle : Nat := 0
  delay : Nat := 0
  modelLag : Nat := 0
  level : Int := 0
  onset : Int := 0
  concealed : Nat := 0
  frames : Nat := 0
  residual : Int := 0
  snr : Nat := 0
  eyes : List (Nat × Nat) := []
  vectors : Nat := 0
  failed : Nat := 0
deriving DecidableEq, Repr

/-- A kind of test and its unit (R532): 1 LANE, 2 TILE, 3 MIRROR. -/
structure TestKey where
  kind : Nat
  unit : Nat
deriving DecidableEq, Repr

/-- What a source's chapter gives an occurrence beside its number (R490): a block-specific code if it has one, data octets 0 to 7, and
a channel. -/
structure OccData where
  code : Option Nat := none
  data : Octets := []
  chan : Option Nat := none
deriving DecidableEq, Repr

/-- A CMOS output other than TDM pins and the error pair (R570). -/
inductive OutPin where
  | ppsOut | flash | ndk | avs | jtag
deriving DecidableEq, Repr

/-- A PTP message firmware sends (R404). -/
inductive PtpKind where
  | sync | announce | delayReq | followUp
deriving DecidableEq, Repr

end Sys2Proof
end

