-- ==== Sys2Proof/Syntax.lean ====
section
/-! DEFINITION. The commands of the device: one constructor for each row of spec/opcode_table.json, in the table's order, with what
the pin, bus, protocol or physical event that the row names brings with it. -/

namespace Sys2Proof

/-- The commands (spec/opcode_table.json). `by_` is the requester of a register access (R546), `chan` a local channel ID, `ring` a command
ring, `k` a Ronong lane L(8 + k), and `hd` the header of a received Ronong frame. -/
inductive Instr where
  /-- PORST_N_RELEASE (R34, R29). -/
  | porstNRelease (pins : StrapPins)
  /-- WRST_N_RELEASE (R34). -/
  | wrstNRelease
  /-- VDD_AON_LOW_HOLD (R559). -/
  | vddAonLowHold
  /-- GLB_RESET_WRITE (R551): the value written. -/
  | glbResetWrite (by_ : Requester) (value : Word)
  /-- HOST_RESET (R34, R551). -/
  | hostReset
  /-- CORE_PLL_LOCKED (R36). -/
  | corePllLocked
  /-- CRYSTAL_STABLE (R36). -/
  | crystalStable
  /-- WIRING_CHECKS_DONE (R39). -/
  | wiringChecksDone (r : WiringResult)
  /-- WIPE_COMPLETE (R40): the banks that failed. -/
  | wipeComplete (fails : List WipeFail)
  /-- FLASH_HEADERS_READ (R42 to R46): none when the flash answered nothing. -/
  | flashHeadersRead (r : Option FlashRead)
  /-- IMAGE_READ_DONE (R49). -/
  | imageReadDone (r : ImageRead)
  /-- SIGNATURE_VERIFIED (R51). -/
  | signatureVerified
  /-- APPLY (R53): the tiles drawn for the power-on self-test and what each of their tests measured, and the same of lanes L0 to L7
  (R541). -/
  | apply (tiles : List (Fin 256 × TestMeasure)) (lanes : List (Fin 8 × TestMeasure))
  /-- HOST_BOOT_GO (R57): the value written to BOOT.HB_CTRL. -/
  | hostBootGo (by_ : Requester) (value : Word)
  /-- HOST_BOOT_PULL_DONE (R57): none on a bus error or completer abort; else the image as pulled. -/
  | hostBootPullDone (r : Option ImageRead)
  /-- FRAME_TICK (R65): the flow records whose copies fail parity as the tick reads them (R115), and the channels of a takeover whose
  catalogue records fail parity as their takeover instances spawn (R508). -/
  | frameTick (par : List (Nat × RecPar)) (bad : List Nat)
  /-- TICK_CTRL_WRITE (R69). -/
  | tickCtrlWrite (by_ : Requester) (value : Word)
  /-- NODE_DISPATCH (R112). -/
  | nodeDispatch (cluster : Fin 16) (r : Resource) (par : RecPar)
  /-- NODE_COMPLETE (R106): the channel whose node ends, and what its node's function did. -/
  | nodeComplete (cluster : Fin 16) (r : Resource) (chan : Nat) (out : NodeOutcome) (par : RecPar)
  /-- INSTANCE_LATE (R72): of the flow's ACTIVE instance, or of its DEFERRED one. -/
  | instanceLate (chan : Nat) (deferred : Bool)
  /-- INSTANCE_ABORT (R116). -/
  | instanceAbort (chan : Nat) (deferred : Bool)
  /-- NODE_WATCHDOG (R117). -/
  | nodeWatchdog (cluster : Fin 16) (r : Resource) (chan : Nat)
  /-- GDU_CFG_EN_WRITE (R122). -/
  | gduCfgEnWrite (by_ : Requester) (en : Bool)
  /-- GDU_SPARE_CL_WRITE (R33). -/
  | gduSpareClWrite (by_ : Requester) (spare : Bool)
  /-- CLUSTER_RETENTION (R131). -/
  | clusterRetention (cluster : Fin 16)
  /-- CLUSTER_RET_LEAD_WAKE (R131). -/
  | clusterRetLeadWake (cluster : Fin 16)
  /-- CLUSTER_WAKE_COMPLETE (R131). -/
  | clusterWakeComplete (cluster : Fin 16)
  /-- CLUSTER_WAKE_TIMEOUT (R131). -/
  | clusterWakeTimeout (cluster : Fin 16)
  /-- CONSOLIDATION_START (R129). -/
  | consolidationStart
  /-- COMMAND_RING_TAIL_DOORBELL (R465): the TAIL written. -/
  | commandRingTailDoorbell (ring : Fin 4) (tail : Word)
  /-- EVENT_RING_HEAD_DOORBELL (R467): the HEAD written. -/
  | eventRingHeadDoorbell (ring : Fin 4) (head : Word)
  /-- RING_CTRL_WRITE (R468): of a command ring, or of an event ring. -/
  | ringCtrlWrite (event : Bool) (ring : Fin 4) (value : Word)
  /-- EVENT_RING_COALESCE_TIMER (R469). -/
  | eventRingCoalesceTimer (ring : Fin 4)
  /-- OPEN (R151). -/
  | open_ (ring : Fin 4) (d : Desc)
  /-- MODIFY (R152). -/
  | modify (ring : Fin 4) (d : Desc)
  /-- CONNECT with LEG 0 (R153). -/
  | connectLine (ring : Fin 4) (d : Desc)
  /-- CONNECT with LEG 1 (R182). -/
  | connectPacket (ring : Fin 4) (d : Desc)
  /-- CONNECT with LEG 2 (R154). -/
  | connectPair (ring : Fin 4) (d : Desc)
  /-- DISCONNECT with LEG 0 (R153). -/
  | disconnectLine (ring : Fin 4) (d : Desc)
  /-- DISCONNECT with LEG 1 (R153). -/
  | disconnectPacket (ring : Fin 4) (d : Desc)
  /-- DISCONNECT with LEG 2 (R154). -/
  | disconnectPair (ring : Fin 4) (d : Desc)
  /-- CLOSE (R120): whether a statistics write it makes at once reaches host memory. -/
  | close (ring : Fin 4) (d : Desc) (dmaOk : Bool)
  /-- QUERY (R149). -/
  | query (ring : Fin 4) (d : Desc) (dmaOk : Bool)
  /-- STATS (R157). -/
  | stats (ring : Fin 4) (d : Desc) (dmaOk : Bool)
  /-- TONE_PLAY (R316). -/
  | tonePlay (ring : Fin 4) (d : Desc)
  /-- TONE_STOP (R316). -/
  | toneStop (ring : Fin 4) (d : Desc)
  /-- RECORD_START (R342). -/
  | recordStart (ring : Fin 4) (d : Desc)
  /-- RECORD_STOP (R346). -/
  | recordStop (ring : Fin 4) (d : Desc)
  /-- KEY_SET (R179). -/
  | keySet (ring : Fin 4) (d : Desc)
  /-- KEY_ROTATE with DIR 1 (R180). -/
  | keyRotateReceive (ring : Fin 4) (d : Desc)
  /-- KEY_ROTATE with DIR 2 (R180). -/
  | keyRotateTransmit (ring : Fin 4) (d : Desc)
  /-- SESSION_SET (R178). -/
  | sessionSet (ring : Fin 4) (d : Desc)
  /-- EPOCH_SCHEDULE (R77). -/
  | epochSchedule (ring : Fin 4) (d : Desc)
  /-- EPOCH_CMD_GO (R77): the value written to GDU.EPOCH_CMD. -/
  | epochCmdGo (by_ : Requester) (value : Word)
  /-- EPOCH_STAGE BEGIN (R78). -/
  | epochStageBegin (ring : Fin 4) (d : Desc)
  /-- EPOCH_STAGE SECTION (R78): the Folio blocks that the DMA read returned, or none on a DMA failure. -/
  | epochStageSection (ring : Fin 4) (d : Desc) (payload : Option Octets)
  /-- EPOCH_STAGE END (R78): whether every staged profile's CRC is correct. -/
  | epochStageEnd (ring : Fin 4) (d : Desc)
  /-- EPOCH_STAGE ABORT (R78). -/
  | epochStageAbort (ring : Fin 4) (d : Desc)
  /-- TEMPLATE_LOAD (R99): the octets read from the host, or none on a DMA failure. -/
  | templateLoad (ring : Fin 4) (d : Desc) (payload : Option Octets)
  /-- MIGRATE (R127). -/
  | migrate (ring : Fin 4) (d : Desc)
  /-- CONSOLIDATE with NOW (R129). -/
  | consolidateNow (ring : Fin 4) (d : Desc)
  /-- CONSOLIDATE with STOP (R148). -/
  | consolidateStop (ring : Fin 4) (d : Desc)
  /-- IMAGE_WRITE (R58): the octets read from the host (none on a DMA failure), and whether the flash took them. -/
  | imageWrite (ring : Fin 4) (d : Desc) (payload : Option Octets) (flashOk : Bool)
  /-- LEDGER_READ (R148): the entries, by index, that fail parity as they are read (R92). -/
  | ledgerRead (ring : Fin 4) (d : Desc) (dmaOk : Bool) (bad : List Nat)
  /-- TIME_STEP (R409). -/
  | timeStep (ring : Fin 4) (d : Desc)
  /-- LC_NONCE (R60). -/
  | lcNonce (ring : Fin 4) (d : Desc)
  /-- LC_TRANSITION (R60): the token's octets (none on a DMA failure), and whether the fuses read back as blown. -/
  | lcTransition (ring : Fin 4) (d : Desc) (token : Option Octets) (fuseOk : Bool)
  /-- NOP (R148). -/
  | nop (ring : Fin 4) (d : Desc)
  /-- EVENT_TEST (R148). -/
  | eventTest (ring : Fin 4) (d : Desc)
  /-- A command with a reserved OPCODE (R148). -/
  | badOpcode (ring : Fin 4) (opcode : Byte) (d : Desc)
  /-- LANE_TEST (R533). -/
  | laneTest (o : TestOrigin) (m : TestMeasure)
  /-- TILE_TEST (R534). -/
  | tileTest (o : TestOrigin) (m : TestMeasure)
  /-- MIRROR_PAIR_TEST (R535). -/
  | mirrorPairTest (o : TestOrigin) (m : TestMeasure)
  /-- TEST_RESULT (R538). -/
  | testResult (t : TestKey)
  /-- EPOCH_BANK_RELEASE (R84). -/
  | epochBankRelease
  /-- EPOCH_INCOMPLETE_TIMEOUT (R85). -/
  | epochIncompleteTimeout
  /-- LEDGER_EVENT_ARRIVAL (R90). -/
  | ledgerEventArrival (e : LedgerEvent)
  /-- LEDGER_RELEASE (R89): of the event with the lowest key among those whose wait has expired. -/
  | ledgerRelease
  /-- LEDGER_EXPORT_FLUSH (R362). -/
  | ledgerExportFlush
  /-- INGRESS_FRAME (R166): the MPE takes the oldest frame of the MAC's receive buffer; what the read of its session's entry finds. -/
  | ingressFrame (mac : Fin 8) (x : EntryCheck)
  /-- ROTATION_RELEASE (R180): the rotation cache entry. -/
  | rotationRelease (entry : Nat)
  /-- RTCP_SEND_TIMER (R174): the session, and what the read of its entry finds (R183). -/
  | rtcpSendTimer (session : Nat) (x : EntryCheck)
  /-- EGRESS_PACKET (R176): the oldest packet that a packetise node has handed to the MPE. -/
  | egressPacket (x : EntryCheck)
  /-- CRYPTO_FETCH_DONE (R183): the session and the standby's copy of its contexts. -/
  | cryptoFetchDone (session : Nat) (c : CryptoCtx)
  /-- MPE_CFG_EN_WRITE (R187). -/
  | mpeCfgEnWrite (by_ : Requester) (en : Bool)
  /-- SEC_CFG_EN_WRITE (R187). -/
  | secCfgEnWrite (by_ : Requester) (en : Bool)
  /-- HISTOGRAM_DECAY (R200). -/
  | histogramDecay (chan : Nat)
  /-- DRIFT_FIT (R210). -/
  | driftFit (chan : Nat)
  /-- ALIGN_STALE (R204). -/
  | alignStale (chan : Nat)
  /-- ECHO_COPY (R243, R248). -/
  | echoCopy (chan : Nat)
  /-- DIVERGE (R243): P_b less P_f in 0.1 dB. -/
  | diverge (chan : Nat) (excess : Nat)
  /-- PLACEMENT_RUN (R246). -/
  | placementRun (chan : Nat)
  /-- WINDOW_MOVE (R248). -/
  | windowMove (chan : Nat)
  /-- MOVE_ABANDON (R249). -/
  | moveAbandon (chan : Nat) (cause : AbandonCause)
  /-- DOUBLE_TALK_CLEAR (R244). -/
  | doubleTalkClear (chan : Nat)
  /-- TONE_RELEASE (R254). -/
  | toneRelease (chan : Nat)
  /-- EE_CFG_EN_WRITE (R257). -/
  | eeCfgEnWrite (by_ : Requester) (cluster : Fin 16) (en : Bool)
  /-- COMMIT (R283). -/
  | commit (by_ : Requester) (cluster : Fin 16) (profile : Fin 64) (bank : Bool)
  /-- READ (R283). -/
  | read (by_ : Requester) (cluster : Fin 16) (profile : Fin 64) (bank : Bool)
  /-- SWAP (R284): FADE in ms. -/
  | swap (by_ : Requester) (cluster : Fin 16) (profile : Fin 64) (fade : Fin 128)
  /-- SETTLE (R283). -/
  | settle (by_ : Requester) (cluster : Fin 16) (profile : Fin 64) (bank : Bool)
  /-- BANK_CMD with a reserved OP (R283). -/
  | bankCmdReservedOp (by_ : Requester) (cluster : Fin 16) (op : Fin 8)
  /-- SWAP_END (R285). -/
  | swapEnd (cluster : Fin 16) (profile : Fin 64)
  /-- SYNC_CMD_GO (R287): the value written to SYNC_CMD. -/
  | syncCmdGo (by_ : Requester) (cluster : Fin 16) (value : Word)
  /-- LVL_SEL_WRITE (R290). -/
  | lvlSelWrite (by_ : Requester) (cluster : Fin 16) (value : Word)
  /-- RFE_CFG_EN_WRITE (R293). -/
  | rfeCfgEnWrite (by_ : Requester) (cluster : Fin 16) (en : Bool)
  /-- VBD_QUIET (R310). -/
  | vbdQuiet (chan : Nat)
  /-- EVENT_RX_END_TIMEOUT (R314). -/
  | eventRxEndTimeout (chan : Nat)
  /-- TD_CFG_EN_WRITE (R321). -/
  | tdCfgEnWrite (by_ : Requester) (cluster : Fin 16) (en : Bool)
  /-- KERNEL_RELOAD (R229, R230): the tile, the instruction address that failed parity, and whether the reserve's copy of the set
  passes its CRC. -/
  | kernelReload (cluster : Fin 16) (tile : Fin 16) (addr : Word) (reserveOk : Bool)
  /-- RELOAD_DONE (R229). -/
  | reloadDone (cluster : Fin 16) (tile : Fin 16)
  /-- KSET_LOAD (R228). -/
  | ksetLoad (cluster : Fin 16) (tile : Fin 16)
  /-- TDM_CFG_WRITE (R339). -/
  | tdmCfgWrite (by_ : Requester) (h : Fin 8) (value : Word)
  /-- REARM (R337). -/
  | rearm (by_ : Requester) (h : Fin 8) (value : Word)
  /-- SLIP (R329): of the receive or the transmit direction, repeating or deleting a frame. -/
  | slip (h : Fin 8) (receive : Bool) (repeated : Bool)
  /-- CLK_LOSS (R335). -/
  | clkLoss (h : Fin 8)
  /-- FS_LOSS (R335). -/
  | fsLoss (h : Fin 8)
  /-- TDM_CLOCK_RECOVERED (R335). -/
  | tdmClockRecovered (h : Fin 8)
  /-- FALLBACK (R336). -/
  | fallback (h : Fin 8)
  /-- FIGHT (R336, R337). -/
  | fight (h : Fin 8) (pin : TdmPin)
  /-- UNDERRUN (R333): the channel whose connected leg's span was not supplied. -/
  | underrun (h : Fin 8) (chan : Nat)
  /-- BLOCK_COMPRESSED (R350): what the compressor made of the oldest closed block of a sink. -/
  | blockCompressed (sink : Fin 2) (r : CompressOut)
  /-- SINK_TAIL_WRITE (R353): the TAIL written, and the descriptors (address, length) it posts, as fetched. -/
  | sinkTailWrite (by_ : Requester) (sink : Fin 2) (tail : Word) (bufs : List (Nat × Nat))
  /-- SINK_IDLE_CLOSE (R353). -/
  | sinkIdleClose (sink : Fin 2)
  /-- SINK_DMA_ERROR (R353). -/
  | sinkDmaError (sink : Fin 2)
  /-- OUTPUT_EXHAUSTED (R355). -/
  | outputExhausted (sink : Fin 2)
  /-- ARC_CFG_EN_WRITE (R364). -/
  | arcCfgEnWrite (by_ : Requester) (en : Bool)
  /-- FIFO_CFG_WRITE (R356). -/
  | fifoCfgWrite (by_ : Requester) (f : Fin 6) (value : Word)
  /-- GROUP_WRITE (R368): of group A or B. -/
  | groupWrite (by_ : Requester) (groupB : Bool) (value : Word)
  /-- MAC_CFG_EN_WRITE (R393). -/
  | macCfgEnWrite (by_ : Requester) (mac : Fin 8) (en : Bool)
  /-- SDS_CFG_EN_WRITE (R394). -/
  | sdsCfgEnWrite (by_ : Requester) (lane : Fin 24) (en : Bool)
  /-- SDS_LOOP_WRITE (R376). -/
  | sdsLoopWrite (by_ : Requester) (lane : Fin 24) (loop : Fin 4)
  /-- SIGNAL_DETECT (R370). -/
  | signalDetect (lane : Fin 24)
  /-- AN_RESOLVED (R370). -/
  | anResolved (lane : Fin 24)
  /-- TRAINING_COMPLETE (R370). -/
  | trainingComplete (lane : Fin 24) (r : TrainOut)
  /-- TRAINING_FAIL (R371). -/
  | trainingFail (lane : Fin 24)
  /-- FAILED_WAIT_END (R370). -/
  | failedWaitEnd (lane : Fin 24)
  /-- RX_POLARITY_FLIP (R372). -/
  | rxPolarityFlip (lane : Fin 24)
  /-- SIGNAL_LOST (R370). -/
  | signalLost (lane : Fin 24)
  /-- EYE_MEASURE (R375): height and width of each eye, upper to lower, and the SNR. -/
  | eyeMeasure (lane : Fin 24) (eyes : List (Nat × Nat)) (snr : Nat)
  /-- LINK_UP (R377): the lane map that the alignment markers gave (R373). -/
  | linkUp (mac : Fin 8) (laneMap : Byte)
  /-- LINK_DOWN (R377): whether the Reconciliation Sublayer sees a local or a remote fault. -/
  | linkDown (mac : Fin 8) (localFault remoteFault : Bool)
  /-- MAC_RECEIVE_FRAME (R378). -/
  | macReceiveFrame (port : MacPort) (f : RxFrame)
  /-- PAUSE_TIMER_EXPIRY (R386). -/
  | pauseTimerExpiry (port : MacPort)
  /-- XOFF_RESEND (R385). -/
  | xoffResend (port : MacPort)
  /-- TRANSMIT_FRAME (R388): whether the buffer's parity held during transmission (R392), and the sixteenths of its stamp (R402). -/
  | transmitFrame (port : MacPort) (parityOk : Bool) (sixteenths : Fin 16)
  /-- TSQ_W3_READ (R406). -/
  | tsqW3Read (by_ : Requester) (mac : Fin 8)
  /-- INCR_INT_WRITE (R400). -/
  | incrIntWrite (by_ : Requester) (value : Word)
  /-- TIME_NS_READ (R401). -/
  | timeNsRead (by_ : Requester)
  /-- ADJ_CMD_GO (R409): the value written to TB.ADJ_CMD. -/
  | adjCmdGo (by_ : Requester) (value : Word)
  /-- SLEW_END (R410). -/
  | slewEnd
  /-- CORRECTION_APPLY (R424). -/
  | correctionApply
  /-- PTP_MESSAGE (R404). -/
  | ptpMessage (m : PtpExchange)
  /-- HOLDOVER_TIMEOUT (R414). -/
  | holdoverTimeout
  /-- SERVO_LOCKED (R413). -/
  | servoLocked
  /-- PPS_OUT_EDGE (R417). -/
  | ppsOutEdge
  /-- PPS_OUT_FALL (R417). -/
  | ppsOutFall
  /-- PPS_IN_EDGE (R418): the pulse's width in ns and the sixteenths of its stamp. -/
  | ppsInEdge (width : Nat) (sixteenths : Fin 16)
  /-- PPS_IN_MISSING (R418). -/
  | ppsInMissing
  /-- PPS_IN_NS_READ (R418). -/
  | ppsInNsRead (by_ : Requester)
  /-- SYNTH_CFG_WRITE (R420). -/
  | synthCfgWrite (by_ : Requester) (n : Fin 8) (value : Word)
  /-- TIME_MASTER_LOST (R425). -/
  | timeMasterLost
  /-- CALIB_DONE (R437): the Ronong lane and its mean residual in 1/16 ns. -/
  | calibDone (k : Fin 16) (residual : Int)
  /-- HELLO (R439). -/
  | hello (k : Fin 16) (hd : RonHdr) (payload : Octets)
  /-- HELLO_RETRY (R439). -/
  | helloRetry (k : Fin 16)
  /-- LANE_DOWN_END (R436). -/
  | laneDownEnd (k : Fin 16)
  /-- HEARTBEAT_SEND (R438). -/
  | heartbeatSend (k : Fin 16)
  /-- HB_KICK (R438). -/
  | hbKick (by_ : Requester)
  /-- HEARTBEAT (R438). -/
  | heartbeat (k : Fin 16) (hd : RonHdr) (payload : Octets)
  /-- PARTNER_LOST (R450). -/
  | partnerLost (k : Fin 16)
  /-- WORKER_TAKEOVER (R451). -/
  | workerTakeover (h : Fin 16)
  /-- REKEY (R440): the partner's side of the new agreement, in the form of a HELLO. -/
  | rekey (k : Fin 16) (payload : Octets)
  /-- RONONG_FRAME_DROP (R432). -/
  | ronongFrameDrop (k : Fin 16) (why : RonDrop)
  /-- T_SYNC (R423): the sender's t1 and its sixteenths. -/
  | tSync (k : Fin 16) (hd : RonHdr) (t1 : FineStamp)
  /-- T_REPLY (R423): the offset that t1 to t4 give the follower, in ns. -/
  | tReply (k : Fin 16) (hd : RonHdr) (t1 t2 t3 : FineStamp)
  /-- T_CORR (R424). -/
  | tCorr (k : Fin 16) (hd : RonHdr) (c : Correction)
  /-- COMMAND_FRAME (R144): the forwarded descriptor, its OPCODE, the origin ring and slot, and whether a write to the host that the command makes at
  once succeeds (R149, R157). -/
  | commandFrame (k : Fin 16) (hd : RonHdr) (opcode : Byte) (d : Desc) (aux : Word) (dmaOk : Bool)
  /-- COMPLETION_FRAME (R144): the 32 octets of the completion, and the origin ring and slot. -/
  | completionFrame (k : Fin 16) (hd : RonHdr) (octets : Octets) (aux : Word)
  /-- EPOCH_FRAME (R79, R85). -/
  | epochFrame (k : Fin 16) (hd : RonHdr) (m : EpochMsg)
  /-- TAKEOVER of kind 0 (R451): the HID taken over. -/
  | takeover (k : Fin 16) (hd : RonHdr) (hid : Fin 16) (tick : Nat)
  /-- TAKEOVER of kind 1 (R454). -/
  | handBack (k : Fin 16) (hd : RonHdr) (hid : Fin 16) (tick : Nat)
  /-- TAKEOVER of kind 2 (R451). -/
  | fence (k : Fin 16) (hd : RonHdr) (hid : Fin 16)
  /-- ACK (R433): TYPE and SEQ of the frame acknowledged. -/
  | ack (k : Fin 16) (hd : RonHdr) (type : Nat) (seq : Nat)
  /-- MIRROR (R184). -/
  | mirror (k : Fin 16) (hd : RonHdr) (m : MirrorMsg)
  /-- MEDIA (R434). -/
  | media (k : Fin 16) (hd : RonHdr) (recs : List MediaRec)
  /-- DOSSIER (R443): the global channel ID, the spawn tick, the catalogue record and the dossier. -/
  | dossier (k : Fin 16) (hd : RonHdr) (chan : Nat) (spawn : Word) (record : Octets) (dossier : Octets)
  /-- CATALOGUE (R442). -/
  | catalogue (k : Fin 16) (hd : RonHdr) (record : Octets)
  /-- LEDGER (R95): entries of 32 octets. -/
  | ledgerFrame (k : Fin 16) (hd : RonHdr) (entries : List Octets)
  /-- FOLIO (R345, R78): AUX, and the block or part of one. -/
  | folioFrame (k : Fin 16) (hd : RonHdr) (aux : Word) (block : Octets)
  /-- DOSSIER_BATCH_WRITE (R444). -/
  | dossierBatchWrite
  /-- DEDUP_END (R451). -/
  | dedupEnd (h : Fin 16)
  /-- HANDBACK (R454). -/
  | handback (by_ : Requester) (h : Fin 16)
  /-- SWITCHOVER (R458). -/
  | switchover (by_ : Requester)
  /-- MANAGER_TAKEOVER (R456). -/
  | managerTakeover
  /-- SPLIT_LANE (R455). -/
  | splitLane
  /-- PCIE_LINK_DOWN (R471). -/
  | pcieLinkDown
  /-- FUNCTION_LEVEL_RESET (R471). -/
  | functionLevelReset
  /-- DMA_READ_ERROR (R470): the DMA channel. -/
  | dmaReadError (ch : Fin 16)
  /-- ND_DATAGRAM (R478): the Night Desk takes the oldest frame of its receive FIFO. -/
  | ndDatagram
  /-- ND_HELLO (R479): the request at the head of the Night Desk's queue, as for every ND row. -/
  | ndHello
  /-- ND_IDENTITY (R479). -/
  | ndIdentity
  /-- ND_POWER (R479). -/
  | ndPower
  /-- ND_FAULTS (R479). -/
  | ndFaults
  /-- ND_LAST_GASP (R479). -/
  | ndLastGasp
  /-- ND_FAULT_LOG (R479): the records that fail parity when read (R504). -/
  | ndFaultLog (badRecords : List Nat)
  /-- ND_DOMAIN (R481). -/
  | ndDomain
  /-- ND_RESET (R479). -/
  | ndReset
  /-- ND_IMAGE_BEGIN (R480): whether the flash erased. -/
  | ndImageBegin (flashOk : Bool)
  /-- ND_IMAGE_WRITE (R480): whether the flash programmed. -/
  | ndImageWrite (flashOk : Bool)
  /-- ND_BOOT_RETRY (R480). -/
  | ndBootRetry
  /-- ND_TIME_STEP (R409). -/
  | ndTimeStep
  /-- ND_LC_NONCE (R60). -/
  | ndLcNonce
  /-- ND_LC_TRANSITION (R60): whether the fuses read back as blown. -/
  | ndLcTransition (fuseOk : Bool)
  /-- ND_SELF_TEST (R539). -/
  | ndSelfTest (m : TestMeasure)
  /-- A Night Desk request with a reserved opcode (R479). -/
  | ndBadOpcode
  /-- PHY_POLL (R473): link, duplex and speed as the PHY's registers show them. -/
  | phyPoll (link full speed100 : Bool)
  /-- RMII_REFERENCE_MISSING (R473). -/
  | rmiiReferenceMissing
  /-- COLLISION (R475): the bits of the frame already sent. -/
  | collision (bits : Nat)
  /-- BACKOFF_EXPIRY (R475). -/
  | backoffExpiry
  /-- FAULT_OCCURRENCE (R492). -/
  | faultOccurrence (src : Fin 1024) (o : OccData)
  /-- FAULT_CLEAR (R490). -/
  | faultClear (src : Fin 1024)
  /-- FORCE (R502). -/
  | force (by_ : Requester) (src : Fin 1024)
  /-- CLEAR (R510). -/
  | clear (by_ : Requester) (src : Fin 1024)
  /-- LOCK (R496). -/
  | lock (by_ : Requester)
  /-- PAIR_CLEAR (R499). -/
  | pairClear (by_ : Requester)
  /-- FLT_HB_KICK (R500). -/
  | fltHbKick (by_ : Requester)
  /-- TRAP_NOT_ANSWERED (R495). -/
  | trapNotAnswered (src : Fin 1024)
  /-- PAIR_READBACK_MISMATCH (R501). -/
  | pairReadbackMismatch
  /-- FIRMWARE_WATCHDOG (R487). -/
  | firmwareWatchdog
  /-- CONTROL_SRAM_PARITY (R506): whether the other copy was good. -/
  | controlSramParity (repaired : Bool)
  /-- DOMAIN_EN_WRITE (R515). -/
  | domainEnWrite (by_ : Requester) (value : Word)
  /-- DRAIN_TIMEOUT (R515). -/
  | drainTimeout (domain : Fin 30)
  /-- CLKSEL_WRITE (R518). -/
  | clkselWrite (by_ : Requester) (value : Word)
  /-- REFERENCE_CHECK (R517): whether each reference is within ±100 ppm. -/
  | referenceCheck (aOk bOk : Bool)
  /-- PLL_LOCK_LOSS (R517). -/
  | pllLockLoss
  /-- DROOP_FIRE (R521): the sensor. -/
  | droopFire (sensor : Fin 72)
  /-- DROOP_HOLD_END (R521): the domain. -/
  | droopHoldEnd (domain : Fin 30)
  /-- AVS_RUN (R523): the smallest slack of each cluster's path monitors in ps, and whether the regulator answered. -/
  | avsRun (slack : List Int) (answered : Bool)
  /-- TELEMETRY_READ (R525): VOUT in 0.1 mV and IOUT in 0.01 A, or none where the device failed to answer. -/
  | telemetryRead (core : Option (Nat × Nat))
  /-- SUPPLY_WINDOW_EXIT (R525): 0 VDD_CORE, 1 VDD_SRAM, 2 VDD_AON, 3 SerDes analogue. -/
  | supplyWindowExit (rail : Fin 4)
  /-- TEMPERATURE_READ (R526): each sensor's reading in 0.1 °C. -/
  | temperatureRead (readings : List Int)
  /-- THROTTLE_STEP_DOWN (R527). -/
  | throttleStepDown
  /-- THROTTLE_STEP_UP (R527). -/
  | throttleStepUp
  /-- AON_FAST_OSCILLATOR_STOP (R516). -/
  | aonFastOscillatorStop
  /-- DEBUG_WINDOW_READ (R552): the window offset, and whether the line fails parity. -/
  | debugWindowRead (by_ : Requester) (off : Nat) (parityBad : Bool)
  /-- DEBUG_WINDOW_WRITE (R552). -/
  | debugWindowWrite (by_ : Requester) (off : Nat) (value : Word)
  /-- COUNTER_LOW_WORD_READ (R546). -/
  | counterLowWordRead (by_ : Requester) (addr : Nat)
  /-- RC_REGISTER_READ (R11). -/
  | rcRegisterRead (by_ : Requester) (addr : Nat)
  /-- REGISTER_WRITE (R11, R545): a BAR0 address, a size in octets and a value. -/
  | registerWrite (by_ : Requester) (addr : Nat) (size : Nat) (value : BitVec 64)
  /-- PORST_N_LOW (R560). -/
  | porstNLow
  /-- WRST_N_LOW (R560). -/
  | wrstNLow
  /-- CRYSTAL_ABSENT (R486). -/
  | crystalAbsent
  /-- TICK_LO_READ (R69). -/
  | tickLoRead (by_ : Requester)
  /-- GRID_SLEW_END (R422). -/
  | gridSlewEnd
  /-- TIME_FRAME_SEND (R423). -/
  | timeFrameSend (k : Fin 16)
  /-- CORRECTION_RESEND (R424). -/
  | correctionResend
  /-- CALIB_REPEAT (R542). -/
  | calibRepeat (k : Fin 16)
  /-- OUTPUT_SHORT (R570). -/
  | outputShort (pin : OutPin)
  /-- PAIR_HEARTBEAT_HALF (R500). -/
  | pairHeartbeatHalf
  /-- DEFER_END (R475). -/
  | deferEnd
  /-- SLAVE_FS_EDGE (R335): whether the edge came one frame after the last. -/
  | slaveFsEdge (h : Fin 8) (onTime : Bool)
  /-- PTP_TRANSMIT (R404): the MAC, the message, one-step operation, the identifier of a stamp request and the frame's octets. -/
  | ptpTransmit (mac : Fin 8) (kind : PtpKind) (oneStep : Bool) (id : Fin 65536) (frame : Octets)
  /-- DOMAIN_WAKE_DONE (R511). -/
  | domainWakeDone (domain : Fin 30)
deriving DecidableEq, Repr

end Sys2Proof
end

