-- ==== Sys2Proof/Machine/Flags.lean ====
section
/-! DEFINITION. Fields and flags of a register word, and the saturating and wrapping counters. -/

namespace Sys2Proof.Machine

/-- The field of `len` bits of `w` whose lowest bit is `lo`. -/
def fld (w : Word) (lo len : Nat) : Nat := (w.toNat >>> lo) % 2 ^ len

/-- The field of `len` bits of a number whose lowest bit is `lo`. -/
def nfld (n lo len : Nat) : Nat := (n >>> lo) % 2 ^ len

/-- `w` with the field of `len` bits at `lo` replaced by the low bits of `v`. -/
def putFld (w : Word) (lo len v : Nat) : Word :=
  BitVec.ofNat 32 (w.toNat - fld w lo len * 2 ^ lo + (v % 2 ^ len) * 2 ^ lo)

/-- Bit `i` of `w`. -/
def bit (w : Word) (i : Nat) : Bool := w.toNat.testBit i

/-- `w` with bit `i` set to `b`. -/
def putBit (w : Word) (i : Nat) (b : Bool) : Word := putFld w i 1 b.toNat

/-- The lesser of `n` and the largest value of `bits` bits: a saturating field (R10). -/
def sat (bits n : Nat) : Nat := min n (2 ^ bits - 1)

/-- A signed number in `bits` bits of two's complement, held at the ends of its range. -/
def satInt (bits : Nat) (n : Int) : Nat :=
  let lim : Int := 2 ^ (bits - 1)
  let m := if n ≥ lim then lim - 1 else if n < -lim then -lim else n
  (m % (2 ^ bits : Int)).toNat

/-- The signed number that `bits` bits of two's complement hold. -/
def signed (bits n : Nat) : Int := if n % 2 ^ bits < 2 ^ (bits - 1) then n % 2 ^ bits else (n % 2 ^ bits : Nat) - (2 ^ bits : Int)

/-- `a` is past `b` on a counter of `bits` bits that wraps: the difference read as signed is above zero. -/
def pastMod (bits a b : Nat) : Bool := 0 < signed bits (a + 2 ^ bits - b % 2 ^ bits)

end Sys2Proof.Machine
end

