-- ==== Sys2Proof/Machine/Operands.lean ====
section
/-! DEFINITION. The operand forms: octet strings in the two byte orders (R10), the parameter fields of a descriptor (R141), and the two
checksums of the wire formats. -/

namespace Sys2Proof.Machine

/-- `n` octets of `o` from offset `off`; fewer where `o` ends. -/
def octs (o : Octets) (off n : Nat) : Octets := (o.drop off).take n

/-- The octet of `o` at `off`; zero past the end. -/
def oct (o : Octets) (off : Nat) : Nat := (o.getD off 0).toNat

/-- The number that octets spell, least significant first. -/
def leNat : Octets → Nat
  | [] => 0
  | b :: r => b.toNat + 256 * leNat r

/-- The number that octets spell, most significant first. -/
def beNat (o : Octets) : Nat := leNat o.reverse

/-- The little-endian number of `n` octets at `off`. -/
def le (o : Octets) (off n : Nat) : Nat := leNat (octs o off n)

/-- The big-endian number of `n` octets at `off`. -/
def be (o : Octets) (off n : Nat) : Nat := beNat (octs o off n)

/-- `v` in `n` octets, least significant first. -/
def toLe : Nat → Nat → Octets
  | 0, _ => []
  | n + 1, v => BitVec.ofNat 8 v :: toLe n (v / 256)

/-- `v` in `n` octets, most significant first. -/
def toBe (n v : Nat) : Octets := (toLe n v).reverse

/-- `n` zero octets. -/
def zeros (n : Nat) : Octets := List.replicate n 0

/-- `o` cut or filled with zeros to `n` octets. -/
def padTo (n : Nat) (o : Octets) : Octets := o.take n ++ zeros (n - o.length)

/-- `o` with the octets of `v` in place of those at `off`. -/
def putOcts (o : Octets) (off : Nat) (v : Octets) : Octets := o.take off ++ v ++ o.drop (off + v.length)

/-- All octets are zero. -/
def allZero (o : Octets) : Bool := o.all (· == 0)

/-- One octet into a reflected CRC with the reflected polynomial `poly`. -/
def crcOctet (poly : Nat) (c : Nat) (b : Byte) : Nat :=
  (List.range 8).foldl (fun c _ => if c % 2 = 1 then (c / 2) ^^^ poly else c / 2) (c ^^^ b.toNat)

/-- A reflected 32-bit CRC: initial value and final exclusive-or 0xFFFF_FFFF. -/
def crc32With (poly : Nat) (o : Octets) : Nat := (o.foldl (crcOctet poly) 0xFFFFFFFF) ^^^ 0xFFFFFFFF

/-- CRC-32C (R10). -/
def crc32c (o : Octets) : Nat := crc32With 0x82F63B78 o

/-- The CRC-32 of IEEE 802.3. -/
def crc32 (o : Octets) : Nat := crc32With 0xEDB88320 o

end Sys2Proof.Machine

namespace Sys2Proof

/-- The parameter of `n` octets at octet `off` of a descriptor's PARAMS, little-endian (R141). -/
def Desc.arg (d : Desc) (off n : Nat) : Nat := Machine.le d.params off n

/-- Octets of a descriptor's PARAMS. -/
def Desc.octs (d : Desc) (off n : Nat) : Octets := Machine.octs d.params off n

/-- Octets `a` to `b` of PARAMS are zero. -/
def Desc.zeroFrom (d : Desc) (a b : Nat) : Bool := Machine.allZero (Machine.octs d.params a (b + 1 - a))

end Sys2Proof
end

