-- ==== Sys2Proof/Machine/Folio.lean ====
section
/-! DEFINITION. The decompressor: raw DEFLATE streams (R348) and the Folio blocks of a job (R347, R351). The DEFLATE format is RFC 1951's, which
R348 names (PRESUMED, log entry 53). -/

namespace Sys2Proof.Machine

/-! ### Bits -/

/-- The bits of a string of octets in the order of DEFLATE: each octet from its least significant bit. -/
def bitsOf (o : Octets) : List Bool := o.flatMap (fun b => (List.range 8).map b.toNat.testBit)

/-- The number that the next `n` bits spell, least significant first, and the bits after them. -/
def takeBits : Nat → List Bool → Option (Nat × List Bool)
  | 0, l => some (0, l)
  | _ + 1, [] => none
  | n + 1, b :: l => (takeBits n l).map (fun p => (b.toNat + 2 * p.1, p.2))

/-! ### Huffman codes -/

/-- A Huffman code: how many symbols have each length from 1 to 15, and the symbols by length and value. -/
structure Huffman where
  counts : List Nat
  symbols : List Nat

/-- The code that a list of code lengths makes (zero for a symbol without a code). -/
def huffmanOf (lens : List Nat) : Huffman :=
  { counts := (List.range 15).map (fun i => lens.count (i + 1)),
    symbols := (List.range 15).flatMap (fun i => (lens.zipIdx.filter (fun p => p.1 == i + 1)).map (·.2)) }

/-- What the lengths leave of the code space, in units of 2⁻¹⁵: negative for too many codes. -/
def Huffman.left (h : Huffman) : Int := (32768 : Int) - ((h.counts.zipIdx.map (fun p => p.1 * 2 ^ (14 - p.2))).sum : Nat)

/-- The lengths are a code of DEFLATE: the space is filled, or one symbol of one bit stands alone, or none at all. -/
def Huffman.ok (h : Huffman) : Bool := h.left == 0 || h.symbols.isEmpty || (h.symbols.length == 1 && h.counts.headD 0 == 1)

/-- Decoding goes on at a length: `code` are the bits so far, `first` the first code of this length and `index` its symbol's place. -/
def huffStep (symbols : List Nat) : List Nat → Nat → Nat → Nat → List Bool → Except FolioFail (Nat × List Bool)
  | [], _, _, _, _ => .error .code
  | _ :: _, _, _, _, [] => .error .length
  | n :: r, code, first, index, b :: l =>
    let code := code + b.toNat
    if code < first + n then .ok (symbols.getD (index + (code - first)) 0, l)
    else huffStep symbols r (2 * code) (2 * (first + n)) (index + n) l

/-- The next symbol of a code. -/
def huffSymbol (h : Huffman) (l : List Bool) : Except FolioFail (Nat × List Bool) := huffStep h.symbols h.counts 0 0 0 l

/-! ### DEFLATE -/

/-- Base lengths of the length symbols 257 to 285, and their extra bits. -/
def lengthBase : List (Nat × Nat) :=
  [(3, 0), (4, 0), (5, 0), (6, 0), (7, 0), (8, 0), (9, 0), (10, 0), (11, 1), (13, 1), (15, 1), (17, 1), (19, 2), (23, 2), (27, 2)] ++
    [(31, 2), (35, 3), (43, 3), (51, 3), (59, 3), (67, 4), (83, 4), (99, 4), (115, 4), (131, 5), (163, 5), (195, 5), (227, 5), (258, 0)]

/-- The base and the extra bits of distance symbol `d`. -/
def distBase (d : Nat) : Nat × Nat := if d < 2 then (d + 1, 0) else (2 ^ (d / 2 - 1) * (2 + d % 2) + 1, d / 2 - 1)

/-- The output of an inflation: its octets, newest first, and their number. -/
structure Inflated where
  out : Octets := []
  n : Nat := 0

/-- One octet more. -/
def Inflated.push (x : Inflated) (b : Byte) : Inflated := { out := b :: x.out, n := x.n + 1 }

/-- `len` octets again from `dist` back. -/
def Inflated.copy (dist : Nat) : Nat → Inflated → Inflated
  | 0, x => x
  | len + 1, x => Inflated.copy dist len (x.push (x.out.getD (dist - 1) 0))

/-- `n` more bits, or the end of the input. -/
def needBits (n : Nat) (l : List Bool) : Except FolioFail (Nat × List Bool) :=
  match takeBits n l with
  | some p => .ok p
  | none => .error .length

/-- The symbols of a block up to its end, at most `fuel` of them; no more than `limit` octets come out. -/
def inflateCodes (lit dist : Huffman) (limit : Nat) : Nat → Inflated → List Bool → Except FolioFail (Inflated × List Bool)
  | 0, _, _ => .error .length
  | fuel + 1, x, l => do
    let (sym, l) ← huffSymbol lit l
    if sym < 256 then
      if limit ≤ x.n then .error .length else inflateCodes lit dist limit fuel (x.push (BitVec.ofNat 8 sym)) l
    else if sym = 256 then .ok (x, l)
    else match lengthBase[sym - 257]? with
      | none => .error .code
      | some (base, extra) =>
        let (e, l) ← needBits extra l
        let (d, l) ← huffSymbol dist l
        if 30 ≤ d then .error .code
        else
          let (f, l) ← needBits (distBase d).2 l
          let back := (distBase d).1 + f
          if x.n < back then .error .code
          else if limit < x.n + base + e then .error .length
          else inflateCodes lit dist limit fuel (Inflated.copy back (base + e) x) l

/-- The order in which the lengths of the code length code come. -/
def clenOrder : List Nat := [16, 17, 18, 0, 8, 7, 9, 6, 10, 5, 11, 4, 12, 3, 13, 2, 14, 1, 15]

/-- `n` code lengths, each by the code length code `h`; `acc` holds those read, newest first. -/
def codeLengths (h : Huffman) (n : Nat) : Nat → List Nat → List Bool → Except FolioFail (List Nat × List Bool)
  | 0, _, _ => .error .length
  | fuel + 1, acc, l =>
    if acc.length = n then .ok (acc.reverse, l)
    else do
      let (sym, l) ← huffSymbol h l
      if sym < 16 then codeLengths h n fuel (sym :: acc) l
      else
        let (e, l) ← needBits (if sym = 16 then 2 else if sym = 17 then 3 else 7) l
        let again := e + (if sym = 18 then 11 else 3)
        if n < acc.length + again ∨ (sym = 16 ∧ acc.isEmpty) then .error .code
        else codeLengths h n fuel (List.replicate again (if sym = 16 then acc.headD 0 else 0) ++ acc) l

/-- The two codes of a block with dynamic codes. -/
def dynamicCodes (l : List Bool) : Except FolioFail (Huffman × Huffman × List Bool) := do
  let (hlit, l) ← needBits 5 l
  let (hdist, l) ← needBits 5 l
  let (hclen, l) ← needBits 4 l
  let (cl, l) ← (List.range (hclen + 4)).foldlM (fun (p : List (Nat × Nat) × List Bool) i => do
    let (v, l) ← needBits 3 p.2
    pure ((clenOrder.getD i 0, v) :: p.1, l)) ([], l)
  let h := huffmanOf ((List.range 19).map (fun s => ((cl.find? (fun p => p.1 == s)).map (·.2)).getD 0))
  if h.left ≠ 0 then .error .code
  else
    let (lens, l) ← codeLengths h (hlit + 257 + hdist + 1) (hlit + hdist + 259) [] l
    let lit := huffmanOf (lens.take (hlit + 257))
    let dist := huffmanOf (lens.drop (hlit + 257))
    if 286 < hlit + 257 ∨ 30 < hdist + 1 ∨ lens.getD 256 0 = 0 ∨ ¬ lit.ok ∨ ¬ dist.ok then .error .code else .ok (lit, dist, l)

/-- The fixed codes. -/
def fixedCodes : Huffman × Huffman :=
  (huffmanOf (List.replicate 144 8 ++ List.replicate 112 9 ++ List.replicate 24 7 ++ List.replicate 8 8), huffmanOf (List.replicate 30 5))

/-- A stored block: its length, the complement and the octets, from the next octet boundary. -/
def inflateStored (limit : Nat) (x : Inflated) (l : List Bool) : Except FolioFail (Inflated × List Bool) := do
  let l := l.drop (l.length % 8)
  let (n, l) ← needBits 16 l
  let (m, l) ← needBits 16 l
  if n + m ≠ 0xFFFF then .error .code
  else if limit < x.n + n then .error .length
  else
    (List.range n).foldlM (fun (p : Inflated × List Bool) _ => do
      let (b, l) ← needBits 8 p.2
      pure (p.1.push (BitVec.ofNat 8 b), l)) (x, l)

/-- The blocks of a stream up to the final one, at most `fuel` of them. -/
def inflateBlocks (limit total : Nat) : Nat → Inflated → List Bool → Except FolioFail (Inflated × List Bool)
  | 0, _, _ => .error .length
  | fuel + 1, x, l => do
    let (final, l) ← needBits 1 l
    let (ty, l) ← needBits 2 l
    let (x, l) ← match ty with
      | 0 => inflateStored limit x l
      | 1 => inflateCodes fixedCodes.1 fixedCodes.2 limit (total + 1) x l
      | 2 => do
        let (lit, dist, l) ← dynamicCodes l
        inflateCodes lit dist limit (total + 1) x l
      | _ => .error .code
    if final = 1 then .ok (x, l) else inflateBlocks limit total fuel x l

/-- The octets that a data field makes, `limit` of them, and the bits left in its last octet (R348, R351). -/
def inflateBits (limit : Nat) (o : Octets) : Except FolioFail (Octets × List Bool) := do
  let l := bitsOf o
  let (x, r) ← inflateBlocks limit l.length (l.length + 1) {} l
  if x.n ≠ limit ∨ 8 ≤ r.length then .error .length else .ok (x.out.reverse, r)

/-- The data field of a block without STORED (R348, R351): it makes `limit` octets and ends in the last octet of the field. -/
def inflate (limit : Nat) (o : Octets) : Except FolioFail Octets := (inflateBits limit o).map (·.1)

/-- The same with zero padding bits, as the compressor writes it (R348). -/
def inflateExact (limit : Nat) (o : Octets) : Except FolioFail Octets := do
  let (x, r) ← inflateBits limit o
  if r.any id then .error .length else .ok x

/-! ### Folio blocks -/

/-- The header tests of a block (R351) in a job of image blocks that expects stream `sid` and sequence `seq`: none when it passes. -/
def folioHeaderFail (sid seq : Nat) (o : Octets) : Option FolioFail :=
  let flags := oct o 3
  if 3 ≤ o.length ∧ (le o 0 2 ≠ 0xF011 ∨ oct o 2 ≠ 1) then some .magic
  else if o.length < 32 ∨ flags / 64 ≠ 0 ∨ flags / 2 % 8 ≠ 0 ∨ oct o 28 ≠ 0 ∨ le o 8 4 = 0 ∨ 65536 < le o 8 4 ∨
      (flags % 2 = 1 ∧ le o 12 4 ≠ le o 8 4) ∨ le o 30 2 ≠ 0 then some .header
  else if le o 4 4 ≠ seq ∨ le o 16 2 ≠ sid then some .sequence
  else none

/-- The octets of one block (R351): its data field, inflated unless STORED, with the trailer that it must match. -/
def blockDecode (sid seq : Nat) (o : Octets) : Except FolioFail (Octets × Octets) :=
  match folioHeaderFail sid seq o with
  | some e => .error e
  | none => do
    let ulen := le o 8 4
    let clen := le o 12 4
    if o.length < 36 + clen then .error .length
    else
      let data := octs o 32 clen
      let out ← if oct o 3 % 2 = 1 then .ok data else inflate ulen data
      if crc32c out ≠ le o (32 + clen) 4 then .error .crc else .ok (out, o.drop (36 + clen))

/-- The blocks of a stream one after another, from sequence `seq`, at most `fuel` of them. -/
def blocksDecode (sid : Nat) : Nat → Nat → Octets → Except FolioFail Octets
  | 0, _, _ => .ok []
  | fuel + 1, seq, o =>
    if o.isEmpty then .ok []
    else do
      let (out, r) ← blockDecode sid seq o
      let rest ← blocksDecode sid fuel (seq + 1) r
      .ok (out ++ rest)

/-- What a job of the decompressor makes of the blocks of stream `sid`: its octets, or the first failure (R49, R351). -/
def folioDecode (sid : Nat) (o : Octets) : Except FolioFail Octets := blocksDecode sid o.length 0 o

end Sys2Proof.Machine
end

