-- ==== Sys2Proof/Config.lean ====
section
/-! DEFINITION. The free values: what the manual leaves to the implementation or to the datapath, as constants that have no body. A
statement about one holds for every value of it. -/

namespace Sys2Proof

/-- A free word, drawn by number: taps after an adaptation, random bits, what kernels have written to a tile's memory. -/
opaque Config.freeWord : Nat → Word

/-- A free number, drawn by number. -/
opaque Config.freeNat : Nat → Nat

/-- Free octets, drawn by number: the octets of an image section whose format the manual does not lay out come from here. -/
opaque Config.freeOctets : Nat → Octets

/-- LOCK_TH in ns that a network settings section gives (R413), zero for the default; the manual does not lay the section out. -/
opaque Config.lockTh : Octets → Nat

/-- Whether a network settings section names PPS_IN as the servo's phase reference (R418). -/
opaque Config.ppsReference : Octets → Bool

/-- The limit record of R537 in a kernel library section (32 octets); the manual does not lay the section out. -/
opaque Config.limitRecord : Octets → Octets

/-- The length of an echo path model of ITU-T G.168 Annex D in 0.125 ms, by its number (R536, R539). -/
opaque Config.echoModelLen : Nat → Nat

/-- The cost that an admission cost model section carries for a node kind, codec and rate (R101); the manual does not lay out the section. -/
opaque Config.modelCost : Octets → Nat → Nat → Nat → Option Nat

/-- Whether a codec tables section holds a codec, by its ID (R77, R217); the manual does not lay out the section. -/
opaque Config.codecHeld : Octets → Nat → Bool

/-- The octets of decode and encode state that a codec tables section gives a codec, by its ID (R77, R219). -/
opaque Config.codecState : Octets → Nat → Nat

/-- The kernel sets that a kernel library section holds, each as the list of its codecs (R227); the manual does not lay out the section. -/
opaque Config.kernelSets : Octets → List (List Nat)

/-- The payload octets of an EPOCH frame (R433): the manual does not lay them out. -/
opaque Config.epochPayload : EpochMsg → Octets

/-- The payload octets of a MIRROR frame (R433); the manual does not lay them out. -/
opaque Config.mirrorPayload : MirrorMsg → Octets

/-- The next hop that the network settings give for a remote address from a local address (R164), as a 128-bit address; the manual does not
lay the settings out. -/
opaque Config.nextHop : Octets → Nat → Nat → Nat

/-- The devices that a hierarchy plan section names, each by HID, role and serial number (R430); the manual does not lay the section out. -/
opaque Config.planDevices : Octets → List (Nat × Nat × BitVec 128)

/-- The Ronong certificate, 256 octets, that a hierarchy plan section holds for a HID (R430, R439). -/
opaque Config.planCert : Octets → Nat → Octets

/-- The HID of the manager that a hierarchy plan section names active at boot (R430). -/
opaque Config.planActive : Octets → Nat

/-- The local addresses that a network settings section defines (R165): index, and the words of IP0 to IP3, CFG and PLEN. -/
opaque Config.imageAddrs : Octets → List (Nat × List Word)

/-- The SRTP drops of a channel that the statistics block of another device than the manager shows (R157, R173), authentication failures and replays,
by global channel ID and tick: the manager counts them, and the manual names no frame that carries them. -/
opaque Config.srtpDrops : Nat → Nat → Nat × Nat

/-- The session entries that a network settings section defines (R159): index, route record and crypto contexts. -/
opaque Config.imageSessions : Octets → List (Nat × (Octets × CryptoCtx))

/-- The identity public key of a device (R479), 97 octets, by its serial number and the state of the identity fuses. -/
opaque Config.identityKey : BitVec 128 → Nat → Octets

/-- Whether the engines round a quotient up (R241, R272, R284): the manual gives their results no rounding. -/
opaque Config.roundsUp : Int → Int → Bool

/-- A coefficient of the converter between two rates, in 2⁻²⁹, by its distance from the nearer end of the filter (R272). -/
opaque Config.converterTap : Nat → Nat → Nat → Int

/-- A sample that the fractional trim reads between two input samples, by its phase in 2⁻⁴⁸ of a sample (R273). -/
opaque Config.interpolated : Nat → Int → Int → Int

/-- A sample under a gain in 0.001 dB (R226, R276), before it is limited. -/
opaque Config.gained : Int → Int → Int

/-- The accumulator of a biquad stage after a result that 56 bits do not hold (R276). -/
opaque Config.accumulated : Int → Int

/-- How far a level detector reads from the exact value, within the tolerance of R289. -/
opaque Config.detectorSlack : Nat → Nat → Nat

/-- The envelope follower after one sample: its time constant in 0.1 ms, the rate, the follower and the magnitude (R288). -/
opaque Config.followed : Nat → Nat → Nat → Nat → Nat

/-- An average after one value, by its time constant in ms (R245, R251). -/
opaque Config.averaged : Nat → Int → Int → Int

/-- The square, in 2⁻³⁰, of a correlation of a signal that is zero (R244, R245), which the manual does not define. -/
opaque Config.corrNone : Nat

/-- The ERLE in 0.01 dB where no residual is left (R262). -/
opaque Config.erleNone : Nat

/-- The near-end signal above 16 kHz less the estimate of its lower band (R234): rate, near-end signal, estimate. -/
opaque Config.bandLess : Nat → List Int → List Int → List Int

/-- What the NLP's filter bank puts together (R251): rate, whether comfort noise is on, CNG_OFFSET in 0.1 dB, the gains in 2⁻¹⁶ and noise powers of the
bands, and the residual. -/
opaque Config.nlpOut : Nat → Bool → Int → List Nat → List Nat → List Int → List Int

/-- The samples of a tone (R314, R316, R317): definition record or event, level in 0.01 dBm0, rate, position in 0.1 ms, and count. -/
opaque Config.toneSamples : Octets → Int → Nat → Nat → Nat → List Int

/-- The samples by which a node conceals a missing span (R109, R209): rate, what came before, and count. -/
opaque Config.concealed : Nat → List Int → Nat → List Int

/-- The AGC's measure of the active speech level after a frame, from the measure before and the frame's level, in 0.01 dBm0 (R226). -/
opaque Config.speechLevel : Option Int → Int → Int

/-- The code of a sample under µ-law (`true`) or A-law (R268): G.711 rounds 14- or 13-bit samples, and the manual does not say how 24 bits come to them. -/
opaque Config.companded : Bool → Int → Nat

/-- The hop limit of the Night Desk's packets, which its settings do not give (R476). -/
opaque Config.nightHops : Nat

/-- The CNAME that the device sends in SDES (R174). -/
opaque Config.cname : Octets

end Sys2Proof
end

