-- ==== Sys2Proof/Machine/RegMap.lean ====
section
/-! DEFINITION. The register map: the blocks of BAR0 (R544, R548), every register of every block with its offset,
array form, reset value and field access masks (R69, R85, R95, R133, R189, R190, R232, R267, R296, R323, R341, R366,
R396 to R398, R428, R463, R468, R469, R484, R510, R531, R548, R549, R553, R57), and a name for each address. -/

namespace Sys2Proof.Machine

/-- The register blocks of R544 and R548. A block with several instances is numbered by its unit: fault source,
cluster, tile, MAC, lane or highway. -/
inductive RegBlock where
  | glb
  | pwr
  | flt
  | src
  | ldg
  | tb
  | gdu
  | boot
  | ctl
  | cl
  | tile
  | ee
  | rfe
  | td
  | mpe
  | sec
  | mac
  | sds
  | ron
  | pci
  | tdm
  | arc
  | ndk
deriving DecidableEq, Repr

/-- One row of a register table. Access masks follow R11: a bit in none of the masks is RO (or a reserved bit, which
reads zero). `rc` marks a 32-bit RC register, `rc64` a 64-bit RC counter of two words (R133, R390). A WO command
register has no mask: its write is an action of its own, its read is the value hardware left. -/
structure RegRow where
  name : String
  off : Nat
  stride : Nat := 4
  count : Nat := 1
  reset : Nat := 0
  rw : Nat := 0
  rws : Nat := 0
  rwl : Nat := 0
  w1c : Nat := 0
  w1s : Nat := 0
  rc : Bool := false
  rc64 : Bool := false
deriving DecidableEq, Repr

/-- Registers of the GLB block. -/
def glbRows : List RegRow := [
  .mk "ID" 0x0 0x4 1 0x73201f6c 0x0 0x0 0x0 0x0 0x0 false false,
  .mk "STEPPING" 0x4 0x4 1 0x110 0x0 0x0 0x0 0x0 0x0 false false,
  .mk "SERIAL" 0x8 0x4 4 0x0 0x0 0x0 0x0 0x0 0x0 false false,
  .mk "CAP0" 0x18 0x4 1 0x18100100 0x0 0x0 0x0 0x0 0x0 false false,
  .mk "CAP1" 0x1c 0x4 1 0x4080808 0x0 0x0 0x0 0x0 0x0 false false,
  .mk "CAP2" 0x20 0x4 1 0xa000080 0x0 0x0 0x0 0x0 0x0 false false,
  .mk "CAP3" 0x24 0x4 1 0x600040 0x0 0x0 0x0 0x0 0x0 false false,
  .mk "CAP4" 0x28 0x4 1 0x3f 0x0 0x0 0x0 0x0 0x0 false false,
  .mk "RESET" 0x2c 0x4 1 0x0 0x0 0x0 0x0 0x0 0x0 false false,
  .mk "DBG_PAGE" 0x30 0x4 1 0x0 0xff 0x0 0x0 0x0 0x0 false false,
  .mk "DBG_STATUS" 0x34 0x4 1 0x0 0x0 0x0 0x0 0x0 0x0 false false,
  .mk "BAD_ACCESS" 0x38 0x4 1 0x0 0x0 0x0 0x0 0x0 0x0 true false,
  .mk "SCRATCH" 0x3c 0x4 1 0x0 0xffffffff 0x0 0x0 0x0 0x0 false false]

/-- Registers of the PWR block. -/
def pwrRows : List RegRow := [
  .mk "DOMAIN_ON" 0x0 0x4 1 0x1 0x0 0x0 0x0 0x0 0x0 false false,
  .mk "DOMAIN_EN" 0x4 0x4 1 0x1 0x18fdfffe 0x1000000 0x0 0x0 0x0 false false,
  .mk "DOMAIN_FAIL" 0x8 0x4 1 0x0 0x0 0x0 0x0 0x0 0x0 false false,
  .mk "CLKSEL" 0xc 0x4 1 0x0 0x0 0x1 0x0 0x0 0x0 false false,
  .mk "AVS_TARGET" 0x10 0x4 1 0x1f40 0x0 0x0 0x0 0x0 0x0 false false,
  .mk "AVS_CTRL" 0x14 0x4 1 0x1 0x1 0x0 0x0 0x0 0x0 false false,
  .mk "VCORE_MEAS" 0x18 0x4 1 0xffff 0x0 0x0 0x0 0x0 0x0 false false,
  .mk "ICORE_MEAS" 0x1c 0x4 1 0xffff 0x0 0x0 0x0 0x0 0x0 false false,
  .mk "THERM_MAX" 0x20 0x4 1 0x8000 0x0 0x0 0x0 0x0 0x0 false false,
  .mk "TEMP" 0x40 0x4 20 0x8000 0x0 0x0 0x0 0x0 0x0 false false,
  .mk "CL_CLK" 0x100 0x4 16 0x0 0x0 0x0 0x0 0x0 0x0 false false,
  .mk "CL_DROOP" 0x140 0x4 16 0x0 0x0 0x0 0x0 0x0 0x0 true false,
  .mk "DROOP_OTHER" 0x180 0x4 1 0x0 0x0 0x0 0x0 0x0 0x0 true false,
  .mk "AVS_STEPS" 0x184 0x4 1 0x0 0x0 0x0 0x0 0x0 0x0 true false,
  .mk "THROTTLE_MS" 0x188 0x4 1 0x0 0x0 0x0 0x0 0x0 0x0 true false,
  .mk "OFF_WR" 0x18c 0x4 1 0x0 0x0 0x0 0x0 0x0 0x0 true false,
  .mk "DRAIN_TIMEOUT" 0x190 0x4 1 0x0 0x0 0x0 0x0 0x0 0x0 true false,
  .mk "PROFILE" 0x200 0x4 8 0x0 0x0 0x0 0x0 0x0 0x0 false false]

/-- Registers of the FLT block. -/
def fltRows : List RegRow := [
  .mk "CFG" 0x0 0x4 1 0x1 0x3 0x0 0x4 0x0 0x8 false false,
  .mk "STATUS" 0x4 0x4 1 0x0 0x0 0x0 0x0 0x0 0x0 false false,
  .mk "PAIR_CLEAR" 0x8 0x4 1 0x0 0x0 0x0 0x0 0x0 0x0 false false,
  .mk "HB_KICK" 0xc 0x4 1 0x0 0x0 0x0 0x0 0x0 0x0 false false,
  .mk "FORCE_REFUSED" 0x10 0x4 1 0x0 0x0 0x0 0x0 0x0 0x0 true false,
  .mk "SUPPRESSED" 0x14 0x4 1 0x0 0x0 0x0 0x0 0x0 0x0 true false,
  .mk "LOG_WR" 0x18 0x4 1 0x0 0x0 0x0 0x0 0x0 0x0 false false,
  .mk "INT_PEND" 0x80 0x4 32 0x0 0x0 0x0 0x0 0xffffffff 0x0 false false,
  .mk "TRAP_PEND" 0x100 0x4 32 0x0 0x0 0x0 0x0 0xffffffff 0x0 false false,
  .mk "LIVE" 0x180 0x4 32 0x0 0x0 0x0 0x0 0x0 0x0 false false,
  .mk "STICKY" 0x200 0x4 32 0x0 0x0 0x0 0x0 0x0 0x0 false false,
  .mk "LG" 0x400 0x4 64 0x0 0x0 0x0 0x0 0x0 0x0 false false]

/-- Registers of the SRC block. -/
def srcRows : List RegRow := [
  .mk "CTRL" 0x0 0x4 1 0x0 0x1f 0x0 0x0 0x0 0x0 false false,
  .mk "STATUS" 0x4 0x4 1 0x0 0x0 0x0 0x0 0x6 0x0 false false,
  .mk "FIRST_NS" 0x8 0x4 1 0x0 0x0 0x0 0x0 0x0 0x0 false false,
  .mk "FIRST_SEC_LO" 0xc 0x4 1 0x0 0x0 0x0 0x0 0x0 0x0 false false,
  .mk "FIRST_SEC_HI" 0x10 0x4 1 0x0 0x0 0x0 0x0 0x0 0x0 false false,
  .mk "LAST_NS" 0x14 0x4 1 0x0 0x0 0x0 0x0 0x0 0x0 false false,
  .mk "LAST_SEC_LO" 0x18 0x4 1 0x0 0x0 0x0 0x0 0x0 0x0 false false,
  .mk "LAST_SEC_HI" 0x1c 0x4 1 0x0 0x0 0x0 0x0 0x0 0x0 false false]

/-- Registers of the LDG block. -/
def ldgRows : List RegRow := [
  .mk "CTRL" 0x0 0x4 1 0x640401 0xfffff03 0x0 0x0 0x0 0x0 false false,
  .mk "STATUS" 0x4 0x4 1 0x0 0x0 0x0 0x0 0x0 0x0 false false,
  .mk "WR_COUNT" 0x8 0x4 1 0x0 0x0 0x0 0x0 0x0 0x0 false false,
  .mk "RD_COUNT" 0xc 0x4 1 0x0 0xffffffff 0x0 0x0 0x0 0x0 false false,
  .mk "LOST" 0x10 0x4 1 0x0 0x0 0x0 0x0 0x0 0x0 true false,
  .mk "OOO" 0x14 0x4 1 0x0 0x0 0x0 0x0 0x0 0x0 true false,
  .mk "REORDER_MAX" 0x18 0x4 1 0x0 0x0 0x0 0x0 0x0 0x0 true false]

/-- Registers of the TB block. -/
def tbRows : List RegRow := [
  .mk "STATUS" 0x0 0x4 1 0x0 0x0 0x0 0x0 0x0 0x0 false false,
  .mk "SERVO" 0x4 0x4 1 0x0 0xff77 0x0 0x0 0x0 0x0 false false,
  .mk "TIME_NS" 0x10 0x4 1 0x0 0x0 0x0 0x0 0x0 0x0 false false,
  .mk "TIME_SEC_LO" 0x14 0x4 1 0x0 0x0 0x0 0x0 0x0 0x0 false false,
  .mk "TIME_SEC_HI" 0x18 0x4 1 0x0 0x0 0x0 0x0 0x0 0x0 false false,
  .mk "TIME_FRAC" 0x1c 0x4 1 0x0 0x0 0x0 0x0 0x0 0x0 false false,
  .mk "TIME_TEPOCH" 0x20 0x4 1 0x0 0x0 0x0 0x0 0x0 0x0 false false,
  .mk "INCR_FRAC" 0x24 0x4 1 0x0 0xffffffff 0x0 0x0 0x0 0x0 false false,
  .mk "INCR_INT" 0x28 0x4 1 0x2 0xff 0x0 0x0 0x0 0x0 false false,
  .mk "ADJ_LO" 0x30 0x4 1 0x0 0xffffffff 0x0 0x0 0x0 0x0 false false,
  .mk "ADJ_HI" 0x34 0x4 1 0x0 0xffffffff 0x0 0x0 0x0 0x0 false false,
  .mk "ADJ_CMD" 0x38 0x4 1 0x0 0x0 0x0 0x0 0x0 0x0 false false,
  .mk "ADJ_REMAIN" 0x3c 0x4 1 0x0 0x0 0x0 0x0 0x0 0x0 false false,
  .mk "JUMP_LIMIT" 0x40 0x4 1 0x186a0 0xffffff 0x0 0x0 0x0 0x0 false false,
  .mk "SLEW_MAX" 0x44 0x4 1 0x32 0xff 0x0 0x0 0x0 0x0 false false,
  .mk "PD_STEP" 0x48 0x4 1 0x14 0xffff 0x0 0x0 0x0 0x0 false false,
  .mk "ASYM_TH" 0x4c 0x4 1 0x64 0xffff 0x0 0x0 0x0 0x0 false false,
  .mk "TSQ_OVF" 0x50 0x4 1 0x0 0x0 0x0 0x0 0xff 0x0 false false,
  .mk "PPS_OUT" 0x100 0x4 1 0x6400 0x3ff01 0x0 0x0 0x0 0x0 false false,
  .mk "PPS_OUT_OFFSET" 0x104 0x4 1 0x0 0xffffffff 0x0 0x0 0x0 0x0 false false,
  .mk "PPS_IN" 0x108 0x4 1 0x0 0x3 0x0 0x0 0x0 0x0 false false,
  .mk "PPS_IN_NS" 0x10c 0x4 1 0x0 0x0 0x0 0x0 0x0 0x0 false false,
  .mk "PPS_IN_SEC" 0x110 0x4 1 0x0 0x0 0x0 0x0 0x0 0x0 false false,
  .mk "PPS_IN_INFO" 0x114 0x4 1 0x0 0x0 0x0 0x0 0x0 0x0 false false,
  .mk "PPS_IN_ERR" 0x118 0x4 1 0x0 0x0 0x0 0x0 0x0 0x0 false false,
  .mk "PPS_TOL" 0x11c 0x4 1 0x3e8 0xffffff 0x0 0x0 0x0 0x0 false false,
  .mk "PPS_IN_GLITCH" 0x120 0x4 1 0x0 0x0 0x0 0x0 0x0 0x0 true false,
  .mk "TICK_LO" 0x200 0x4 1 0x0 0x0 0x0 0x0 0x0 0x0 false false,
  .mk "TICK_HI" 0x204 0x4 1 0x0 0x0 0x0 0x0 0x0 0x0 false false,
  .mk "TICK_STATUS" 0x208 0x4 1 0x0 0x0 0x0 0x0 0x0 0x0 false false,
  .mk "TICK_PHASE" 0x20c 0x4 1 0x0 0x0 0x0 0x0 0x0 0x0 false false,
  .mk "TICK_CTRL" 0x210 0x4 1 0x0 0x1 0x0 0x0 0x0 0x0 false false,
  .mk "SYNTH_CFG" 0x300 0x10 8 0x0 0x1fff0001 0x0 0x0 0x0 0x0 false false,
  .mk "SYNTH_STATUS" 0x304 0x10 8 0x0 0x0 0x0 0x0 0x0 0x0 false false,
  .mk "TSQ_W0" 0x400 0x20 8 0x0 0x0 0x0 0x0 0x0 0x0 false false,
  .mk "TSQ_W1" 0x404 0x20 8 0x0 0x0 0x0 0x0 0x0 0x0 false false,
  .mk "TSQ_W2" 0x408 0x20 8 0x0 0x0 0x0 0x0 0x0 0x0 false false,
  .mk "TSQ_W3" 0x40c 0x20 8 0x0 0x0 0x0 0x0 0x0 0x0 false false,
  .mk "TSQ_COUNT" 0x410 0x20 8 0x0 0x0 0x0 0x0 0x0 0x0 false false,
  .mk "TSQ_LOST" 0x414 0x20 8 0x0 0x0 0x0 0x0 0x0 0x0 true false] ++ [
  .mk "LAT" 0x600 0x4 24 0x0 0xffffffff 0x0 0x0 0x0 0x0 false false]

/-- Registers of the GDU block. -/
def gduRows : List RegRow := [
  .mk "CFG" 0x0 0x4 1 0x5a01 0xff01 0x2 0x0 0x0 0x0 false false,
  .mk "STATUS" 0x4 0x4 1 0x0 0x0 0x0 0x0 0x0 0x0 false false,
  .mk "CL_FENCE" 0x8 0x4 1 0x0 0xffff 0x0 0x0 0x0 0x0 false false,
  .mk "NODE_WDOG" 0x10 0x4 1 0x9c4 0x3fff 0x0 0x0 0x0 0x0 false false,
  .mk "MARGIN_WARN" 0x14 0x4 1 0x64 0xfff 0x0 0x0 0x0 0x0 false false,
  .mk "RET_MIN" 0x18 0x4 1 0x64 0xfff 0x0 0x0 0x0 0x0 false false,
  .mk "RET_LEAD" 0x1c 0x4 1 0x3 0xff 0x0 0x0 0x0 0x0 false false,
  .mk "CL_STATE" 0x20 0x4 1 0x0 0x0 0x0 0x0 0x0 0x0 false false,
  .mk "CL_MARGIN" 0x100 0x4 16 0x7fff 0x0 0x0 0x0 0x0 0x0 false false,
  .mk "CL_LOAD" 0x140 0x4 16 0x0 0x0 0x0 0x0 0x0 0x0 false false,
  .mk "CL_LIST_MAX" 0x180 0x4 16 0x0 0x0 0x0 0x0 0x0 0x0 true false,
  .mk "SPAWN" 0x400 0x4 1 0x0 0x0 0x0 0x0 0x0 0x0 false true,
  .mk "RETIRE" 0x408 0x4 1 0x0 0x0 0x0 0x0 0x0 0x0 false true,
  .mk "CANCEL" 0x410 0x4 1 0x0 0x0 0x0 0x0 0x0 0x0 false true,
  .mk "LATE" 0x418 0x4 1 0x0 0x0 0x0 0x0 0x0 0x0 true false,
  .mk "ABORT" 0x41c 0x4 1 0x0 0x0 0x0 0x0 0x0 0x0 true false,
  .mk "SKIP" 0x420 0x4 1 0x0 0x0 0x0 0x0 0x0 0x0 true false,
  .mk "DEFER" 0x424 0x4 1 0x0 0x0 0x0 0x0 0x0 0x0 true false,
  .mk "OVERFLOW" 0x428 0x4 1 0x0 0x0 0x0 0x0 0x0 0x0 true false,
  .mk "WDOG" 0x42c 0x4 1 0x0 0x0 0x0 0x0 0x0 0x0 true false,
  .mk "ADM_REFUSE" 0x430 0x4 1 0x0 0x0 0x0 0x0 0x0 0x0 true false,
  .mk "MIGRATE" 0x434 0x4 1 0x0 0x0 0x0 0x0 0x0 0x0 true false,
  .mk "MIGRATE_FAIL" 0x438 0x4 1 0x0 0x0 0x0 0x0 0x0 0x0 true false,
  .mk "DUAL_REPAIR" 0x43c 0x4 1 0x0 0x0 0x0 0x0 0x0 0x0 true false,
  .mk "EPOCH_CUR" 0x800 0x4 1 0x0 0x0 0x0 0x0 0x0 0x0 false false,
  .mk "EPOCH_SCHED_LO" 0x804 0x4 1 0x0 0xffffffff 0x0 0x0 0x0 0x0 false false,
  .mk "EPOCH_SCHED_HI" 0x808 0x4 1 0x0 0xffffffff 0x0 0x0 0x0 0x0 false false,
  .mk "EPOCH_CMD" 0x80c 0x4 1 0x0 0x0 0x0 0x0 0x0 0x0 false false,
  .mk "EPOCH_STATE" 0x810 0x4 1 0x0 0x0 0x0 0x0 0x0 0x0 false false,
  .mk "EPOCH_LATE" 0x814 0x4 1 0x0 0x0 0x0 0x0 0x0 0x0 true false,
  .mk "EPOCH_STALE" 0x818 0x4 1 0x0 0x0 0x0 0x0 0x0 0x0 true false,
  .mk "EPOCH_PROMOTED" 0x81c 0x4 1 0x0 0x0 0x0 0x0 0x0 0x0 true false,
  .mk "EPOCH_PENDING" 0x820 0x4 1 0x0 0x0 0x0 0x0 0x0 0x0 false false,
  .mk "SLACK" 0x830 0x4 1 0x1f4 0xfff 0x0 0x0 0x0 0x0 false false]

/-- Registers of the BOOT block. -/
def bootRows : List RegRow := [
  .mk "STRAP" 0x0 0x4 1 0x0 0x0 0x0 0x0 0x0 0x0 false false,
  .mk "STATUS" 0x4 0x4 1 0x0 0x0 0x0 0x0 0x0 0x0 false false,
  .mk "CAUSE" 0x8 0x4 1 0x0 0x0 0x0 0x0 0x0 0x0 true false,
  .mk "VERSION" 0x10 0x4 1 0x0 0x0 0x0 0x0 0x0 0x0 false false,
  .mk "LC" 0x14 0x4 1 0x0 0x0 0x0 0x0 0x0 0x0 false false,
  .mk "HB_SRC_LO" 0x20 0x4 1 0x0 0xffffffff 0x0 0x0 0x0 0x0 false false,
  .mk "HB_SRC_HI" 0x24 0x4 1 0x0 0xffffffff 0x0 0x0 0x0 0x0 false false,
  .mk "HB_LEN" 0x28 0x4 1 0x0 0xffffffff 0x0 0x0 0x0 0x0 false false,
  .mk "HB_CTRL" 0x2c 0x4 1 0x0 0x0 0x0 0x0 0x0 0x0 false false]

/-- Registers of the CTL block. -/
def ctlRows : List RegRow := [
  .mk "FW_VERSION" 0x0 0x4 1 0x0 0x0 0x0 0x0 0x0 0x0 false false,
  .mk "STATUS" 0x4 0x4 1 0x0 0x0 0x0 0x0 0x0 0x0 false false,
  .mk "TICKS" 0x8 0x4 1 0x0 0x0 0x0 0x0 0x0 0x0 false false,
  .mk "CORE_LOAD" 0xc 0x4 1 0x0 0x0 0x0 0x0 0x0 0x0 false false,
  .mk "SRAM_REPAIR" 0x10 0x4 1 0x0 0x0 0x0 0x0 0x0 0x0 false false]

/-- Registers of the CL block. -/
def clRows : List RegRow := [
  .mk "INFO" 0x0 0x4 1 0x0 0x0 0x0 0x0 0x0 0x0 false false,
  .mk "FAB_ERR" 0x4 0x4 1 0x0 0x0 0x0 0x0 0x0 0x0 true false]

/-- Registers of the TILE block. -/
def tileRows : List RegRow := [
  .mk "STATE" 0x0 0x4 1 0x0 0x0 0x0 0x0 0x0 0x0 false false,
  .mk "CH_COUNT" 0x4 0x4 1 0x0 0x0 0x0 0x0 0x0 0x0 false false,
  .mk "SRAM_USED" 0x8 0x4 1 0x0 0x0 0x0 0x0 0x0 0x0 false false,
  .mk "CYC_USED" 0xc 0x4 1 0x0 0x0 0x0 0x0 0x0 0x0 false false,
  .mk "IMEM_PAR" 0x10 0x4 1 0x0 0x0 0x0 0x0 0x0 0x0 true false,
  .mk "DMEM_PAR" 0x14 0x4 1 0x0 0x0 0x0 0x0 0x0 0x0 true false,
  .mk "RELOAD" 0x18 0x4 1 0x0 0x0 0x0 0x0 0x0 0x0 true false,
  .mk "CTRL" 0x1c 0x4 1 0x0 0x1 0x0 0x0 0x0 0x0 false false]

/-- Registers of the EE block. -/
def eeRows : List RegRow := [
  .mk "CFG" 0x0 0x4 1 0x1 0x1 0x0 0x0 0x0 0x0 false false,
  .mk "STATUS" 0x4 0x4 1 0x0 0x0 0x0 0x0 0x0 0x0 false false,
  .mk "CHARGE" 0x8 0x4 1 0x0 0x0 0x0 0x0 0x0 0x0 false false,
  .mk "CORR_LOAD" 0xc 0x4 1 0x0 0x0 0x0 0x0 0x0 0x0 false false,
  .mk "NODES" 0x10 0x4 1 0x0 0x0 0x0 0x0 0x0 0x0 false true,
  .mk "MOVES" 0x18 0x4 1 0x0 0x0 0x0 0x0 0x0 0x0 true false,
  .mk "ABANDONS" 0x1c 0x4 1 0x0 0x0 0x0 0x0 0x0 0x0 true false,
  .mk "DIVERGE" 0x20 0x4 1 0x0 0x0 0x0 0x0 0x0 0x0 true false,
  .mk "REPAIRS" 0x24 0x4 1 0x0 0x0 0x0 0x0 0x0 0x0 true false,
  .mk "DISABLES" 0x28 0x4 1 0x0 0x0 0x0 0x0 0x0 0x0 true false,
  .mk "PASS_NODES" 0x2c 0x4 1 0x0 0x0 0x0 0x0 0x0 0x0 true false,
  .mk "INT_PARITY" 0x30 0x4 1 0x0 0x0 0x0 0x0 0x0 0x0 true false]

/-- Registers of the RFE block. -/
def rfeRows : List RegRow := [
  .mk "CFG" 0x0 0x4 1 0x1 0x1 0x0 0x0 0x0 0x0 false false,
  .mk "STATUS" 0x4 0x4 1 0x0 0x0 0x0 0x0 0x0 0x0 false false,
  .mk "CHARGE" 0x8 0x4 1 0x0 0x0 0x0 0x0 0x0 0x0 false false,
  .mk "BANK_CMD" 0xc 0x4 1 0x0 0x0 0x0 0x0 0x0 0x0 false false,
  .mk "SYNC_LO" 0x10 0x4 1 0x0 0xffffffff 0x0 0x0 0x0 0x0 false false,
  .mk "SYNC_HI" 0x14 0x4 1 0x0 0xffffffff 0x0 0x0 0x0 0x0 false false,
  .mk "SYNC_CMD" 0x18 0x4 1 0x0 0x0 0x0 0x0 0x0 0x0 false false,
  .mk "LVL_SEL" 0x1c 0x4 1 0x0 0x1ffff 0x0 0x0 0x0 0x0 false false,
  .mk "LVL_RMS" 0x20 0x4 1 0x8000 0x0 0x0 0x0 0x0 0x0 false false,
  .mk "LVL_PEAK" 0x24 0x4 1 0x8000 0x0 0x0 0x0 0x0 0x0 false false,
  .mk "LVL_ENV" 0x28 0x4 1 0x8000 0x0 0x0 0x0 0x0 0x0 false false,
  .mk "LVL_TICK" 0x2c 0x4 1 0x0 0x0 0x0 0x0 0x0 0x0 false false,
  .mk "NODES" 0x30 0x4 1 0x0 0x0 0x0 0x0 0x0 0x0 false true,
  .mk "CLIPS" 0x38 0x4 1 0x0 0x0 0x0 0x0 0x0 0x0 true false,
  .mk "SWAPS" 0x3c 0x4 1 0x0 0x0 0x0 0x0 0x0 0x0 true false,
  .mk "SYNCS" 0x40 0x4 1 0x0 0x0 0x0 0x0 0x0 0x0 true false,
  .mk "HIST_REPAIR" 0x44 0x4 1 0x0 0x0 0x0 0x0 0x0 0x0 true false,
  .mk "BANK_REPAIR" 0x48 0x4 1 0x0 0x0 0x0 0x0 0x0 0x0 true false,
  .mk "TRIM_CLAMP" 0x4c 0x4 1 0x0 0x0 0x0 0x0 0x0 0x0 true false,
  .mk "PASS_NODES" 0x50 0x4 1 0x0 0x0 0x0 0x0 0x0 0x0 true false,
  .mk "INT_PARITY" 0x54 0x4 1 0x0 0x0 0x0 0x0 0x0 0x0 true false,
  .mk "BANK_WIN" 0x100 0x4 46 0x0 0xffffffff 0x0 0x0 0x0 0x0 false false,
  .mk "BANK_STATE" 0x400 0x4 64 0x0 0x0 0x0 0x0 0x0 0x0 false false]

/-- Registers of the TD block. -/
def tdRows : List RegRow := [
  .mk "CFG" 0x0 0x4 1 0x1 0x1 0x0 0x0 0x0 0x0 false false,
  .mk "STATUS" 0x4 0x4 1 0x0 0x0 0x0 0x0 0x0 0x0 false false,
  .mk "CHARGE" 0x8 0x4 1 0x0 0x0 0x0 0x0 0x0 0x0 false false,
  .mk "NODES" 0xc 0x4 1 0x0 0x0 0x0 0x0 0x0 0x0 false true,
  .mk "ONSETS" 0x14 0x4 1 0x0 0x0 0x0 0x0 0x0 0x0 true false,
  .mk "REVERSALS" 0x18 0x4 1 0x0 0x0 0x0 0x0 0x0 0x0 true false,
  .mk "VBD_TRIGGERS" 0x1c 0x4 1 0x0 0x0 0x0 0x0 0x0 0x0 true false,
  .mk "REPAIRS" 0x20 0x4 1 0x0 0x0 0x0 0x0 0x0 0x0 true false,
  .mk "PASS_NODES" 0x24 0x4 1 0x0 0x0 0x0 0x0 0x0 0x0 true false,
  .mk "INT_PARITY" 0x28 0x4 1 0x0 0x0 0x0 0x0 0x0 0x0 true false]

/-- Registers of the MPE block. -/
def mpeRows : List RegRow := [
  .mk "CFG" 0x0 0x4 1 0x3 0x3 0x0 0x0 0x0 0x0 false false,
  .mk "STATUS" 0x4 0x4 1 0x0 0x0 0x0 0x0 0x0 0x0 false false,
  .mk "PS_REPLAY" 0x8 0x4 1 0x0 0x1fffff 0x0 0x0 0x0 0x0 false false,
  .mk "PS_CH_MAX" 0xc 0x4 1 0x100 0xffff 0x0 0x0 0x0 0x0 false false,
  .mk "PS_FREE" 0x10 0x4 1 0x100000 0x0 0x0 0x0 0x0 0x0 false false,
  .mk "RTCP_CFG" 0x14 0x4 1 0x3204001a 0xff07003f 0x0 0x0 0x0 0x0 false false,
  .mk "PUNT_RATE" 0x18 0x4 1 0x2710 0xffffff 0x0 0x0 0x0 0x0 false false,
  .mk "ADDR_IP0" 0x100 0x20 16 0x0 0xffffffff 0x0 0x0 0x0 0x0 false false,
  .mk "ADDR_IP1" 0x104 0x20 16 0x0 0xffffffff 0x0 0x0 0x0 0x0 false false,
  .mk "ADDR_IP2" 0x108 0x20 16 0x0 0xffffffff 0x0 0x0 0x0 0x0 false false,
  .mk "ADDR_IP3" 0x10c 0x20 16 0x0 0xffffffff 0x0 0x0 0x0 0x0 false false,
  .mk "ADDR_CFG" 0x110 0x20 16 0x0 0x81ffffff 0x0 0x0 0x0 0x0 false false,
  .mk "ADDR_PLEN" 0x114 0x20 16 0x0 0xff 0x0 0x0 0x0 0x0 false false,
  .mk "DROP_ETHERTYPE" 0x1000 0x4 1 0x0 0x0 0x0 0x0 0x0 0x0 false true,
  .mk "DROP_VLAN" 0x1008 0x4 1 0x0 0x0 0x0 0x0 0x0 0x0 false true,
  .mk "DROP_IP_HDR" 0x1010 0x4 1 0x0 0x0 0x0 0x0 0x0 0x0 false true,
  .mk "DROP_FRAG" 0x1018 0x4 1 0x0 0x0 0x0 0x0 0x0 0x0 false true,
  .mk "DROP_PROTO" 0x1020 0x4 1 0x0 0x0 0x0 0x0 0x0 0x0 false true,
  .mk "DROP_NOT_LOCAL" 0x1028 0x4 1 0x0 0x0 0x0 0x0 0x0 0x0 false true,
  .mk "DROP_UDP" 0x1030 0x4 1 0x0 0x0 0x0 0x0 0x0 0x0 false true,
  .mk "DROP_NO_SESSION" 0x1038 0x4 1 0x0 0x0 0x0 0x0 0x0 0x0 false true,
  .mk "DROP_SRC" 0x1040 0x4 1 0x0 0x0 0x0 0x0 0x0 0x0 false true,
  .mk "DROP_RTP_HDR" 0x1048 0x4 1 0x0 0x0 0x0 0x0 0x0 0x0 false true,
  .mk "DROP_KEY_LOST" 0x1050 0x4 1 0x0 0x0 0x0 0x0 0x0 0x0 false true,
  .mk "DROP_AUTH" 0x1058 0x4 1 0x0 0x0 0x0 0x0 0x0 0x0 false true,
  .mk "DROP_REPLAY" 0x1060 0x4 1 0x0 0x0 0x0 0x0 0x0 0x0 false true,
  .mk "DROP_SSRC" 0x1068 0x4 1 0x0 0x0 0x0 0x0 0x0 0x0 false true,
  .mk "DROP_NO_LEG" 0x1070 0x4 1 0x0 0x0 0x0 0x0 0x0 0x0 false true,
  .mk "DROP_PT" 0x1078 0x4 1 0x0 0x0 0x0 0x0 0x0 0x0 false true,
  .mk "DROP_PS_QUOTA" 0x1080 0x4 1 0x0 0x0 0x0 0x0 0x0 0x0 false true,
  .mk "DROP_PS_FULL" 0x1088 0x4 1 0x0 0x0 0x0 0x0 0x0 0x0 false true,
  .mk "DROP_PUNT" 0x1090 0x4 1 0x0 0x0 0x0 0x0 0x0 0x0 false true,
  .mk "DROP_DISABLED" 0x1098 0x4 1 0x0 0x0 0x0 0x0 0x0 0x0 false true,
  .mk "EG_DROP_SESSION" 0x10a0 0x4 1 0x0 0x0 0x0 0x0 0x0 0x0 false true,
  .mk "EG_NO_NEIGH" 0x10a8 0x4 1 0x0 0x0 0x0 0x0 0x0 0x0 false true,
  .mk "EG_DROP_DISABLED" 0x10b0 0x4 1 0x0 0x0 0x0 0x0 0x0 0x0 false true,
  .mk "PS_PARITY" 0x10b8 0x4 1 0x0 0x0 0x0 0x0 0x0 0x0 false true,
  .mk "RX_PACKETS" 0x10c0 0x4 1 0x0 0x0 0x0 0x0 0x0 0x0 false true,
  .mk "TX_PACKETS" 0x10c8 0x4 1 0x0 0x0 0x0 0x0 0x0 0x0 false true]

/-- Registers of the SEC block. -/
def secRows : List RegRow := [
  .mk "CFG" 0x0 0x4 1 0x1 0x1 0x0 0x0 0x0 0x0 false false,
  .mk "STATUS" 0x4 0x4 1 0x0 0x0 0x0 0x0 0x0 0x0 false false,
  .mk "GUARD" 0x8 0x4 1 0x400 0xffff 0x0 0x0 0x0 0x0 false false,
  .mk "ROT_USED" 0xc 0x4 1 0x0 0x0 0x0 0x0 0x0 0x0 false false,
  .mk "PROTECT" 0x10 0x4 1 0x0 0x0 0x0 0x0 0x0 0x0 false true,
  .mk "UNPROTECT" 0x18 0x4 1 0x0 0x0 0x0 0x0 0x0 0x0 false true,
  .mk "ROT_PROMOTE" 0x20 0x4 1 0x0 0x0 0x0 0x0 0x0 0x0 true false,
  .mk "ROT_RELEASE" 0x24 0x4 1 0x0 0x0 0x0 0x0 0x0 0x0 true false,
  .mk "KEY_REPAIR" 0x28 0x4 1 0x0 0x0 0x0 0x0 0x0 0x0 true false,
  .mk "KEY_LOST" 0x2c 0x4 1 0x0 0x0 0x0 0x0 0x0 0x0 true false]

/-- Registers of the MAC block. -/
def macRows : List RegRow := [
  .mk "CFG" 0x0 0x4 1 0x58 0xfd 0x0 0x0 0x0 0x0 false false,
  .mk "STATUS" 0x4 0x4 1 0xe402 0x0 0x0 0x0 0x0 0x0 false false,
  .mk "MAX_FRAME" 0x8 0x4 1 0x5ee 0x3fff 0x0 0x0 0x0 0x0 false false,
  .mk "GROUP" 0xc 0x4 1 0x0 0x3f 0x0 0x0 0x0 0x0 false false,
  .mk "PAUSE_QUANTA" 0x10 0x4 1 0xffff 0xffff 0x0 0x0 0x0 0x0 false false,
  .mk "WM" 0x14 0x4 1 0x3020 0x3f3f 0x0 0x0 0x0 0x0 false false,
  .mk "RXB" 0x18 0x4 1 0x0 0x0 0x0 0x0 0x0 0x0 false false,
  .mk "RXB_MAX" 0x1c 0x4 1 0x0 0x0 0x0 0x0 0x0 0x0 true false,
  .mk "TXQ_PART_LO" 0x20 0x4 1 0x4040404 0x3f3f3f3f 0x0 0x0 0x0 0x0 false false,
  .mk "TXQ_PART_HI" 0x24 0x4 1 0x40c1808 0x3f3f3f3f 0x0 0x0 0x0 0x0 false false,
  .mk "UCAST_LO" 0x40 0x8 8 0x0 0xffffffff 0x0 0x0 0x0 0x0 false false,
  .mk "UCAST_HI" 0x44 0x8 8 0x0 0x8000ffff 0x0 0x0 0x0 0x0 false false,
  .mk "HASH" 0x80 0x4 16 0x0 0xffffffff 0x0 0x0 0x0 0x0 false false,
  .mk "RX_OK" 0x200 0x4 1 0x0 0x0 0x0 0x0 0x0 0x0 false true,
  .mk "RX_OCTETS" 0x208 0x4 1 0x0 0x0 0x0 0x0 0x0 0x0 false true,
  .mk "RX_RUNT" 0x210 0x4 1 0x0 0x0 0x0 0x0 0x0 0x0 false true,
  .mk "RX_OVERSIZE" 0x218 0x4 1 0x0 0x0 0x0 0x0 0x0 0x0 false true,
  .mk "RX_FCS" 0x220 0x4 1 0x0 0x0 0x0 0x0 0x0 0x0 false true,
  .mk "RX_FILTER" 0x228 0x4 1 0x0 0x0 0x0 0x0 0x0 0x0 false true,
  .mk "RX_OVERFLOW" 0x230 0x4 1 0x0 0x0 0x0 0x0 0x0 0x0 false true,
  .mk "RX_PARITY" 0x238 0x4 1 0x0 0x0 0x0 0x0 0x0 0x0 false true,
  .mk "RX_PAUSE" 0x240 0x4 1 0x0 0x0 0x0 0x0 0x0 0x0 false true,
  .mk "RX_MACCTL_UNSUP" 0x248 0x4 1 0x0 0x0 0x0 0x0 0x0 0x0 false true,
  .mk "RX_BCAST" 0x250 0x4 1 0x0 0x0 0x0 0x0 0x0 0x0 false true,
  .mk "RX_MCAST" 0x258 0x4 1 0x0 0x0 0x0 0x0 0x0 0x0 false true,
  .mk "TX_OK" 0x260 0x4 1 0x0 0x0 0x0 0x0 0x0 0x0 false true,
  .mk "TX_OCTETS" 0x268 0x4 1 0x0 0x0 0x0 0x0 0x0 0x0 false true,
  .mk "TX_PAUSE" 0x270 0x4 1 0x0 0x0 0x0 0x0 0x0 0x0 false true,
  .mk "TX_OVERSIZE" 0x278 0x4 1 0x0 0x0 0x0 0x0 0x0 0x0 false true,
  .mk "TX_DISABLED" 0x280 0x4 1 0x0 0x0 0x0 0x0 0x0 0x0 false true,
  .mk "TX_PARITY" 0x288 0x4 1 0x0 0x0 0x0 0x0 0x0 0x0 false true,
  .mk "FEC_CORR" 0x290 0x4 1 0x0 0x0 0x0 0x0 0x0 0x0 false true,
  .mk "FEC_UNCORR" 0x298 0x4 1 0x0 0x0 0x0 0x0 0x0 0x0 false true,
  .mk "TX_QFULL" 0x2a0 0x8 8 0x0 0x0 0x0 0x0 0x0 0x0 false true]

/-- Registers of the SDS block. -/
def sdsRows : List RegRow := [
  .mk "CFG" 0x0 0x4 1 0x258 0xff9 0x0 0x0 0x0 0x0 false false,
  .mk "STATUS" 0x4 0x4 1 0x0 0x0 0x0 0x0 0x0 0x0 false false,
  .mk "EYE" 0x8 0x4 3 0x0 0x0 0x0 0x0 0x0 0x0 false false,
  .mk "SNR" 0x14 0x4 1 0x0 0x0 0x0 0x0 0x0 0x0 false false,
  .mk "TX_FFE" 0x18 0x4 1 0x0 0x0 0x0 0x0 0x0 0x0 false false,
  .mk "RX_EQ" 0x1c 0x4 1 0x0 0x0 0x0 0x0 0x0 0x0 false false,
  .mk "TRAIN_FAIL" 0x20 0x4 1 0x0 0x0 0x0 0x0 0x0 0x0 true false,
  .mk "LOS" 0x24 0x4 1 0x0 0x0 0x0 0x0 0x0 0x0 true false,
  .mk "FEC_SYM" 0x28 0x4 1 0x0 0x0 0x0 0x0 0x0 0x0 false true]

/-- Registers of the RON block. -/
def ronRows : List RegRow := [
  .mk "CFG" 0x0 0x4 1 0x5 0x7 0x0 0x0 0x0 0x0 false false,
  .mk "STATUS" 0x4 0x4 1 0x0 0x0 0x0 0x0 0x0 0x0 false false,
  .mk "HB_TIMEOUT" 0x8 0x4 1 0x3e8 0xffff 0x0 0x0 0x0 0x0 false false,
  .mk "LOS_TIMEOUT" 0xc 0x4 1 0xa 0xff 0x0 0x0 0x0 0x0 false false,
  .mk "CTRL" 0x10 0x4 1 0x0 0x0 0x0 0x0 0x0 0x0 false false,
  .mk "REPLAY_MS" 0x14 0x4 1 0x28 0xff 0x0 0x0 0x0 0x0 false false,
  .mk "REPLAY_COVER" 0x18 0x4 1 0x0 0x0 0x0 0x0 0x0 0x0 false false,
  .mk "REKEY" 0x1c 0x4 1 0xe10 0xffffff 0x0 0x0 0x0 0x0 false false,
  .mk "HB_KICK" 0x20 0x4 1 0x0 0x0 0x0 0x0 0x0 0x0 false false,
  .mk "DEDUP" 0x24 0x4 1 0x0 0x0 0x0 0x0 0x0 0x0 true false,
  .mk "DOSSIER_BAD" 0x28 0x4 1 0x0 0x0 0x0 0x0 0x0 0x0 true false,
  .mk "TAKEOVERS" 0x2c 0x4 1 0x0 0x0 0x0 0x0 0x0 0x0 true false,
  .mk "ALIAS" 0x40 0x4 16 0x0 0xf 0x0 0x0 0x0 0x0 false false,
  .mk "CREDIT" 0x80 0x4 8 0x0 0x1fff 0x0 0x0 0x0 0x0 false false,
  .mk "LANE_STATUS" 0x100 0x40 16 0x0 0x0 0x0 0x0 0x0 0x0 false false,
  .mk "LANE_CAL" 0x104 0x40 16 0x0 0x0 0x0 0x0 0x0 0x0 false false,
  .mk "LANE_CRC_ERR" 0x108 0x40 16 0x0 0x0 0x0 0x0 0x0 0x0 true false,
  .mk "LANE_DROP" 0x10c 0x40 16 0x0 0x0 0x0 0x0 0x0 0x0 true false,
  .mk "LANE_AUTH_FAIL" 0x110 0x40 16 0x0 0x0 0x0 0x0 0x0 0x0 true false,
  .mk "LANE_HB_MISS" 0x114 0x40 16 0x0 0x0 0x0 0x0 0x0 0x0 true false,
  .mk "LANE_TX_FRAMES" 0x118 0x40 16 0x0 0x0 0x0 0x0 0x0 0x0 false true,
  .mk "LANE_RX_FRAMES" 0x120 0x40 16 0x0 0x0 0x0 0x0 0x0 0x0 false true]

/-- Registers of the PCI block. -/
def pciRows : List RegRow := [
  .mk "CR_BASE_LO" 0x100 0x20 4 0x0 0xffffffff 0x0 0x0 0x0 0x0 false false,
  .mk "CR_BASE_HI" 0x104 0x20 4 0x0 0xffffffff 0x0 0x0 0x0 0x0 false false,
  .mk "CR_CTRL" 0x108 0x20 4 0x0 0x1f 0x0 0x0 0x0 0x0 false false,
  .mk "CR_HEAD" 0x10c 0x20 4 0x0 0x0 0x0 0x0 0x0 0x0 false false,
  .mk "CR_TAIL" 0x110 0x20 4 0x0 0x0 0x0 0x0 0x0 0x0 false false,
  .mk "CR_STATUS" 0x114 0x20 4 0x0 0x0 0x0 0x0 0x0 0x0 false false,
  .mk "ER_BASE_LO" 0x200 0x20 4 0x0 0xffffffff 0x0 0x0 0x0 0x0 false false,
  .mk "ER_BASE_HI" 0x204 0x20 4 0x0 0xffffffff 0x0 0x0 0x0 0x0 false false,
  .mk "ER_CTRL" 0x208 0x20 4 0x0 0xffffff1f 0x0 0x0 0x0 0x0 false false,
  .mk "ER_HEAD" 0x20c 0x20 4 0x0 0x0 0x0 0x0 0x0 0x0 false false,
  .mk "ER_TAIL" 0x210 0x20 4 0x0 0x0 0x0 0x0 0x0 0x0 false false,
  .mk "ER_STATUS" 0x214 0x20 4 0x0 0x0 0x0 0x0 0x0 0x0 false false,
  .mk "FW_OWN_WR" 0x300 0x4 1 0x0 0x0 0x0 0x0 0x0 0x0 true false,
  .mk "MSIX_TABLE" 0x8000 0x4 256 0x0 0xffffffff 0x0 0x0 0x0 0x0 false false,
  .mk "MSIX_PBA" 0x9000 0x4 2 0x0 0x0 0x0 0x0 0x0 0x0 false false]

/-- Registers of the TDM block. -/
def tdmRows : List RegRow := [
  .mk "CFG" 0x0 0x4 1 0x0 0x8fff0007 0x0 0x0 0x0 0x0 false false,
  .mk "STATUS" 0x4 0x4 1 0x100 0x0 0x0 0x0 0x0 0x0 false false,
  .mk "IDLE" 0x8 0x4 1 0xd5 0xff 0x0 0x0 0x0 0x0 false false,
  .mk "FREQ" 0xc 0x4 1 0x0 0x0 0x0 0x0 0x0 0x0 false false,
  .mk "SLIP_RX" 0x10 0x4 1 0x0 0x0 0x0 0x0 0x0 0x0 true false,
  .mk "SLIP_TX" 0x14 0x4 1 0x0 0x0 0x0 0x0 0x0 0x0 true false,
  .mk "UNDERRUN" 0x18 0x4 1 0x0 0x0 0x0 0x0 0x0 0x0 true false,
  .mk "FIGHT" 0x1c 0x4 1 0x0 0x0 0x0 0x0 0x0 0x0 true false,
  .mk "CLK_LOSS" 0x20 0x4 1 0x0 0x0 0x0 0x0 0x0 0x0 true false,
  .mk "FS_ERR" 0x24 0x4 1 0x0 0x0 0x0 0x0 0x0 0x0 true false,
  .mk "REARM" 0x28 0x4 1 0x0 0x0 0x0 0x0 0x0 0x0 false false]

/-- Registers of the ARC block. -/
def arcRows : List RegRow := [
  .mk "CFG" 0x0 0x4 1 0x401 0x7f03 0x0 0x0 0x0 0x0 false false,
  .mk "STATUS" 0x4 0x4 1 0x1 0x0 0x0 0x0 0x0 0x0 false false,
  .mk "REC_LIMIT" 0x8 0x4 1 0x1b58 0xffff 0x0 0x0 0x0 0x0 false false,
  .mk "REC_LOAD" 0xc 0x4 1 0x0 0x0 0x0 0x0 0x0 0x0 false false,
  .mk "REC_POOL" 0x10 0x4 1 0x0 0x1fffff 0x0 0x0 0x0 0x0 false false,
  .mk "REC_POOL_FREE" 0x14 0x4 1 0x0 0x0 0x0 0x0 0x0 0x0 false false,
  .mk "EXH_WAIT" 0x18 0x4 1 0x64 0xffff 0x0 0x0 0x0 0x0 false false,
  .mk "DEC_STATUS" 0x1c 0x4 1 0x0 0x0 0x0 0x0 0x0 0x0 false false,
  .mk "SINK_BASE_LO" 0x20 0x20 2 0x0 0xffffffff 0x0 0x0 0x0 0x0 false false,
  .mk "SINK_BASE_HI" 0x24 0x20 2 0x0 0xffffffff 0x0 0x0 0x0 0x0 false false,
  .mk "SINK_SIZE" 0x28 0x20 2 0x0 0x1f 0x0 0x0 0x0 0x0 false false,
  .mk "SINK_HEAD" 0x2c 0x20 2 0x0 0x0 0x0 0x0 0x0 0x0 false false,
  .mk "SINK_TAIL" 0x30 0x20 2 0x0 0xffff 0x0 0x0 0x0 0x0 false false,
  .mk "SINK_CTRL" 0x34 0x20 2 0x0 0xff03 0x0 0x0 0x0 0x0 false false,
  .mk "SINK_STATUS" 0x38 0x20 2 0x0 0x0 0x0 0x0 0x0 0x0 false false,
  .mk "LDG_CTRL" 0x80 0x4 1 0x0 0x1 0x0 0x0 0x0 0x0 false false,
  .mk "LDG_STREAM" 0x84 0x4 1 0x0 0xffff 0x0 0x0 0x0 0x0 false false,
  .mk "LDG_FLUSH" 0x88 0x4 1 0x3e8 0xffff 0x0 0x0 0x0 0x0 false false,
  .mk "LDG_LOST" 0x8c 0x4 1 0x0 0x0 0x0 0x0 0x0 0x0 true false,
  .mk "BLOCKS" 0x100 0x4 1 0x0 0x0 0x0 0x0 0x0 0x0 false true,
  .mk "IN_OCTETS" 0x108 0x4 1 0x0 0x0 0x0 0x0 0x0 0x0 false true,
  .mk "OUT_OCTETS" 0x110 0x4 1 0x0 0x0 0x0 0x0 0x0 0x0 false true,
  .mk "EXHAUSTED" 0x118 0x4 1 0x0 0x0 0x0 0x0 0x0 0x0 true false,
  .mk "GAPS" 0x11c 0x4 1 0x0 0x0 0x0 0x0 0x0 0x0 true false,
  .mk "POOL_REFUSE" 0x120 0x4 1 0x0 0x0 0x0 0x0 0x0 0x0 true false,
  .mk "DEC_ERR" 0x124 0x4 1 0x0 0x0 0x0 0x0 0x0 0x0 true false,
  .mk "INT_PARITY" 0x128 0x4 1 0x0 0x0 0x0 0x0 0x0 0x0 true false,
  .mk "FIFO_CFG" 0x200 0x10 6 0x40 0x3ff 0x0 0x0 0x0 0x0 false false,
  .mk "FIFO_STATUS" 0x204 0x10 6 0x0 0x0 0x0 0x0 0x0 0x0 false false,
  .mk "FIFO_MARK_LOST" 0x208 0x10 6 0x0 0x0 0x0 0x0 0x0 0x0 true false,
  .mk "FIFO_WAIT" 0x20c 0x10 6 0x0 0x0 0x0 0x0 0x0 0x0 true false]

/-- Registers of the NDK block. -/
def ndkRows : List RegRow := [
  .mk "MODE" 0x0 0x4 1 0x0 0x0 0x3 0x0 0x0 0x0 false false,
  .mk "STATUS" 0x4 0x4 1 0x0 0x0 0x0 0x0 0x0 0x0 false false,
  .mk "CFG" 0x8 0x4 1 0x48 0xfd 0x0 0x0 0x0 0x0 false false,
  .mk "MAX_FRAME" 0xc 0x4 1 0x5ee 0xfff 0x0 0x0 0x0 0x0 false false,
  .mk "UCAST_LO" 0x10 0x8 2 0x0 0xffffffff 0x0 0x0 0x0 0x0 false false,
  .mk "UCAST_HI" 0x14 0x8 2 0x0 0x8000ffff 0x0 0x0 0x0 0x0 false false,
  .mk "HASH" 0x20 0x4 16 0x0 0xffffffff 0x0 0x0 0x0 0x0 false false,
  .mk "RX_OK" 0x100 0x4 1 0x0 0x0 0x0 0x0 0x0 0x0 false true,
  .mk "RX_RUNT" 0x108 0x4 1 0x0 0x0 0x0 0x0 0x0 0x0 false true,
  .mk "RX_OVERSIZE" 0x110 0x4 1 0x0 0x0 0x0 0x0 0x0 0x0 false true,
  .mk "RX_FCS" 0x118 0x4 1 0x0 0x0 0x0 0x0 0x0 0x0 false true,
  .mk "RX_FILTER" 0x120 0x4 1 0x0 0x0 0x0 0x0 0x0 0x0 false true,
  .mk "RX_OVERFLOW" 0x128 0x4 1 0x0 0x0 0x0 0x0 0x0 0x0 false true,
  .mk "RX_PAUSE" 0x130 0x4 1 0x0 0x0 0x0 0x0 0x0 0x0 false true,
  .mk "RX_MACCTL_UNSUP" 0x138 0x4 1 0x0 0x0 0x0 0x0 0x0 0x0 false true,
  .mk "TX_OK" 0x140 0x4 1 0x0 0x0 0x0 0x0 0x0 0x0 false true,
  .mk "TX_PAUSE" 0x148 0x4 1 0x0 0x0 0x0 0x0 0x0 0x0 false true,
  .mk "COLLISIONS" 0x150 0x4 1 0x0 0x0 0x0 0x0 0x0 0x0 false true,
  .mk "LATE_COLL" 0x158 0x4 1 0x0 0x0 0x0 0x0 0x0 0x0 false true,
  .mk "EXCESS_COLL" 0x160 0x4 1 0x0 0x0 0x0 0x0 0x0 0x0 false true,
  .mk "DEFERRED" 0x168 0x4 1 0x0 0x0 0x0 0x0 0x0 0x0 false true,
  .mk "AUTH_FAIL" 0x170 0x4 1 0x0 0x0 0x0 0x0 0x0 0x0 false true,
  .mk "STALE" 0x178 0x4 1 0x0 0x0 0x0 0x0 0x0 0x0 false true,
  .mk "RATE_DROP" 0x180 0x4 1 0x0 0x0 0x0 0x0 0x0 0x0 false true]

/-- The register table of a block. -/
def regRows : RegBlock → List RegRow
  | .glb => glbRows
  | .pwr => pwrRows
  | .flt => fltRows
  | .src => srcRows
  | .ldg => ldgRows
  | .tb => tbRows
  | .gdu => gduRows
  | .boot => bootRows
  | .ctl => ctlRows
  | .cl => clRows
  | .tile => tileRows
  | .ee => eeRows
  | .rfe => rfeRows
  | .td => tdRows
  | .mpe => mpeRows
  | .sec => secRows
  | .mac => macRows
  | .sds => sdsRows
  | .ron => ronRows
  | .pci => pciRows
  | .tdm => tdmRows
  | .arc => arcRows
  | .ndk => ndkRows

/-! Names of addresses. -/

/-- GLB.ID (R549). -/
def Reg.glbId : Nat := 0x0
/-- GLB.STEPPING (R549). -/
def Reg.glbStepping : Nat := 0x4
/-- GLB.SERIAL (R549). -/
def Reg.glbSerial (i : Nat) : Nat := 0x8 + 0x4 * i
/-- GLB.CAP0 (R549). -/
def Reg.glbCap0 : Nat := 0x18
/-- GLB.CAP1 (R549). -/
def Reg.glbCap1 : Nat := 0x1c
/-- GLB.CAP2 (R549). -/
def Reg.glbCap2 : Nat := 0x20
/-- GLB.CAP3 (R549). -/
def Reg.glbCap3 : Nat := 0x24
/-- GLB.CAP4 (R549). -/
def Reg.glbCap4 : Nat := 0x28
/-- GLB.RESET (R551). -/
def Reg.glbReset : Nat := 0x2c
/-- GLB.DBG_PAGE (R549). -/
def Reg.glbDbgPage : Nat := 0x30
/-- GLB.DBG_STATUS (R550). -/
def Reg.glbDbgStatus : Nat := 0x34
/-- GLB.BAD_ACCESS (R549). -/
def Reg.glbBadAccess : Nat := 0x38
/-- GLB.SCRATCH (R549). -/
def Reg.glbScratch : Nat := 0x3c
/-- PWR.DOMAIN_ON (R531). -/
def Reg.pwrDomainOn : Nat := 0x10000
/-- PWR.DOMAIN_EN (R531). -/
def Reg.pwrDomainEn : Nat := 0x10004
/-- PWR.DOMAIN_FAIL (R531). -/
def Reg.pwrDomainFail : Nat := 0x10008
/-- PWR.CLKSEL (R531). -/
def Reg.pwrClksel : Nat := 0x1000c
/-- PWR.AVS_TARGET (R531). -/
def Reg.pwrAvsTarget : Nat := 0x10010
/-- PWR.AVS_CTRL (R531). -/
def Reg.pwrAvsCtrl : Nat := 0x10014
/-- PWR.VCORE_MEAS (R531). -/
def Reg.pwrVcoreMeas : Nat := 0x10018
/-- PWR.ICORE_MEAS (R531). -/
def Reg.pwrIcoreMeas : Nat := 0x1001c
/-- PWR.THERM_MAX (R531). -/
def Reg.pwrThermMax : Nat := 0x10020
/-- PWR.TEMP (R531). -/
def Reg.pwrTemp (i : Nat) : Nat := 0x10040 + 0x4 * i
/-- PWR.CL_CLK (R531). -/
def Reg.pwrClClk (i : Nat) : Nat := 0x10100 + 0x4 * i
/-- PWR.CL_DROOP (R531). -/
def Reg.pwrClDroop (i : Nat) : Nat := 0x10140 + 0x4 * i
/-- PWR.DROOP_OTHER (R531). -/
def Reg.pwrDroopOther : Nat := 0x10180
/-- PWR.AVS_STEPS (R531). -/
def Reg.pwrAvsSteps : Nat := 0x10184
/-- PWR.THROTTLE_MS (R531). -/
def Reg.pwrThrottleMs : Nat := 0x10188
/-- PWR.OFF_WR (R531). -/
def Reg.pwrOffWr : Nat := 0x1018c
/-- PWR.DRAIN_TIMEOUT (R531). -/
def Reg.pwrDrainTimeout : Nat := 0x10190
/-- PWR.PROFILE (R531). -/
def Reg.pwrProfile (i : Nat) : Nat := 0x10200 + 0x4 * i
/-- FLT.CFG (R510). -/
def Reg.fltCfg : Nat := 0x20000
/-- FLT.STATUS (R510). -/
def Reg.fltStatus : Nat := 0x20004
/-- FLT.PAIR_CLEAR (R510). -/
def Reg.fltPairClear : Nat := 0x20008
/-- FLT.HB_KICK (R510). -/
def Reg.fltHbKick : Nat := 0x2000c
/-- FLT.FORCE_REFUSED (R510). -/
def Reg.fltForceRefused : Nat := 0x20010
/-- FLT.SUPPRESSED (R510). -/
def Reg.fltSuppressed : Nat := 0x20014
/-- FLT.LOG_WR (R510). -/
def Reg.fltLogWr : Nat := 0x20018
/-- FLT.INT_PEND (R510). -/
def Reg.fltIntPend (i : Nat) : Nat := 0x20080 + 0x4 * i
/-- FLT.TRAP_PEND (R510). -/
def Reg.fltTrapPend (i : Nat) : Nat := 0x20100 + 0x4 * i
/-- FLT.LIVE (R510). -/
def Reg.fltLive (i : Nat) : Nat := 0x20180 + 0x4 * i
/-- FLT.STICKY (R510). -/
def Reg.fltSticky (i : Nat) : Nat := 0x20200 + 0x4 * i
/-- FLT.LG (R503). -/
def Reg.fltLg (i : Nat) : Nat := 0x20400 + 0x4 * i
/-- SRC.CTRL (R510). -/
def Reg.srcCtrl (s : Nat) : Nat := 0x28000 + 0x20 * s
/-- SRC.STATUS (R510). -/
def Reg.srcStatus (s : Nat) : Nat := 0x28004 + 0x20 * s
/-- SRC.FIRST_NS (R510). -/
def Reg.srcFirstNs (s : Nat) : Nat := 0x28008 + 0x20 * s
/-- SRC.FIRST_SEC_LO (R510). -/
def Reg.srcFirstSecLo (s : Nat) : Nat := 0x2800c + 0x20 * s
/-- SRC.FIRST_SEC_HI (R510). -/
def Reg.srcFirstSecHi (s : Nat) : Nat := 0x28010 + 0x20 * s
/-- SRC.LAST_NS (R510). -/
def Reg.srcLastNs (s : Nat) : Nat := 0x28014 + 0x20 * s
/-- SRC.LAST_SEC_LO (R510). -/
def Reg.srcLastSecLo (s : Nat) : Nat := 0x28018 + 0x20 * s
/-- SRC.LAST_SEC_HI (R510). -/
def Reg.srcLastSecHi (s : Nat) : Nat := 0x2801c + 0x20 * s
/-- LDG.CTRL (R95). -/
def Reg.ldgCtrl : Nat := 0x30000
/-- LDG.STATUS (R95). -/
def Reg.ldgStatus : Nat := 0x30004
/-- LDG.WR_COUNT (R95). -/
def Reg.ldgWrCount : Nat := 0x30008
/-- LDG.RD_COUNT (R95). -/
def Reg.ldgRdCount : Nat := 0x3000c
/-- LDG.LOST (R95). -/
def Reg.ldgLost : Nat := 0x30010
/-- LDG.OOO (R95). -/
def Reg.ldgOoo : Nat := 0x30014
/-- LDG.REORDER_MAX (R95). -/
def Reg.ldgReorderMax : Nat := 0x30018
/-- TB.STATUS (R428). -/
def Reg.tbStatus : Nat := 0x40000
/-- TB.SERVO (R428). -/
def Reg.tbServo : Nat := 0x40004
/-- TB.TIME_NS (R428). -/
def Reg.tbTimeNs : Nat := 0x40010
/-- TB.TIME_SEC_LO (R428). -/
def Reg.tbTimeSecLo : Nat := 0x40014
/-- TB.TIME_SEC_HI (R428). -/
def Reg.tbTimeSecHi : Nat := 0x40018
/-- TB.TIME_FRAC (R428). -/
def Reg.tbTimeFrac : Nat := 0x4001c
/-- TB.TIME_TEPOCH (R428). -/
def Reg.tbTimeTepoch : Nat := 0x40020
/-- TB.INCR_FRAC (R428). -/
def Reg.tbIncrFrac : Nat := 0x40024
/-- TB.INCR_INT (R428). -/
def Reg.tbIncrInt : Nat := 0x40028
/-- TB.ADJ_LO (R428). -/
def Reg.tbAdjLo : Nat := 0x40030
/-- TB.ADJ_HI (R428). -/
def Reg.tbAdjHi : Nat := 0x40034
/-- TB.ADJ_CMD (R428). -/
def Reg.tbAdjCmd : Nat := 0x40038
/-- TB.ADJ_REMAIN (R428). -/
def Reg.tbAdjRemain : Nat := 0x4003c
/-- TB.JUMP_LIMIT (R428). -/
def Reg.tbJumpLimit : Nat := 0x40040
/-- TB.SLEW_MAX (R428). -/
def Reg.tbSlewMax : Nat := 0x40044
/-- TB.PD_STEP (R428). -/
def Reg.tbPdStep : Nat := 0x40048
/-- TB.ASYM_TH (R428). -/
def Reg.tbAsymTh : Nat := 0x4004c
/-- TB.TSQ_OVF (R428). -/
def Reg.tbTsqOvf : Nat := 0x40050
/-- TB.PPS_OUT (R428). -/
def Reg.tbPpsOut : Nat := 0x40100
/-- TB.PPS_OUT_OFFSET (R428). -/
def Reg.tbPpsOutOffset : Nat := 0x40104
/-- TB.PPS_IN (R428). -/
def Reg.tbPpsIn : Nat := 0x40108
/-- TB.PPS_IN_NS (R428). -/
def Reg.tbPpsInNs : Nat := 0x4010c
/-- TB.PPS_IN_SEC (R428). -/
def Reg.tbPpsInSec : Nat := 0x40110
/-- TB.PPS_IN_INFO (R428). -/
def Reg.tbPpsInInfo : Nat := 0x40114
/-- TB.PPS_IN_ERR (R428). -/
def Reg.tbPpsInErr : Nat := 0x40118
/-- TB.PPS_TOL (R428). -/
def Reg.tbPpsTol : Nat := 0x4011c
/-- TB.PPS_IN_GLITCH (R428). -/
def Reg.tbPpsInGlitch : Nat := 0x40120
/-- TB.TICK_LO (R69). -/
def Reg.tbTickLo : Nat := 0x40200
/-- TB.TICK_HI (R69). -/
def Reg.tbTickHi : Nat := 0x40204
/-- TB.TICK_STATUS (R69). -/
def Reg.tbTickStatus : Nat := 0x40208
/-- TB.TICK_PHASE (R69). -/
def Reg.tbTickPhase : Nat := 0x4020c
/-- TB.TICK_CTRL (R69). -/
def Reg.tbTickCtrl : Nat := 0x40210
/-- TB.SYNTH_CFG (R428). -/
def Reg.tbSynthCfg (i : Nat) : Nat := 0x40300 + 0x10 * i
/-- TB.SYNTH_STATUS (R428). -/
def Reg.tbSynthStatus (i : Nat) : Nat := 0x40304 + 0x10 * i
/-- TB.TSQ_W0 (R428). -/
def Reg.tbTsqW0 (i : Nat) : Nat := 0x40400 + 0x20 * i
/-- TB.TSQ_W1 (R428). -/
def Reg.tbTsqW1 (i : Nat) : Nat := 0x40404 + 0x20 * i
/-- TB.TSQ_W2 (R428). -/
def Reg.tbTsqW2 (i : Nat) : Nat := 0x40408 + 0x20 * i
/-- TB.TSQ_W3 (R428). -/
def Reg.tbTsqW3 (i : Nat) : Nat := 0x4040c + 0x20 * i
/-- TB.TSQ_COUNT (R428). -/
def Reg.tbTsqCount (i : Nat) : Nat := 0x40410 + 0x20 * i
/-- TB.TSQ_LOST (R428). -/
def Reg.tbTsqLost (i : Nat) : Nat := 0x40414 + 0x20 * i
/-- TB.LAT (R428). -/
def Reg.tbLat (i : Nat) : Nat := 0x40600 + 0x4 * i
/-- GDU.CFG (R133). -/
def Reg.gduCfg : Nat := 0x50000
/-- GDU.STATUS (R133). -/
def Reg.gduStatus : Nat := 0x50004
/-- GDU.CL_FENCE (R133). -/
def Reg.gduClFence : Nat := 0x50008
/-- GDU.NODE_WDOG (R133). -/
def Reg.gduNodeWdog : Nat := 0x50010
/-- GDU.MARGIN_WARN (R133). -/
def Reg.gduMarginWarn : Nat := 0x50014
/-- GDU.RET_MIN (R133). -/
def Reg.gduRetMin : Nat := 0x50018
/-- GDU.RET_LEAD (R133). -/
def Reg.gduRetLead : Nat := 0x5001c
/-- GDU.CL_STATE (R133). -/
def Reg.gduClState : Nat := 0x50020
/-- GDU.CL_MARGIN (R133). -/
def Reg.gduClMargin (i : Nat) : Nat := 0x50100 + 0x4 * i
/-- GDU.CL_LOAD (R133). -/
def Reg.gduClLoad (i : Nat) : Nat := 0x50140 + 0x4 * i
/-- GDU.CL_LIST_MAX (R133). -/
def Reg.gduClListMax (i : Nat) : Nat := 0x50180 + 0x4 * i
/-- GDU.SPAWN (R133). -/
def Reg.gduSpawn : Nat := 0x50400
/-- GDU.RETIRE (R133). -/
def Reg.gduRetire : Nat := 0x50408
/-- GDU.CANCEL (R133). -/
def Reg.gduCancel : Nat := 0x50410
/-- GDU.LATE (R133). -/
def Reg.gduLate : Nat := 0x50418
/-- GDU.ABORT (R133). -/
def Reg.gduAbort : Nat := 0x5041c
/-- GDU.SKIP (R133). -/
def Reg.gduSkip : Nat := 0x50420
/-- GDU.DEFER (R133). -/
def Reg.gduDefer : Nat := 0x50424
/-- GDU.OVERFLOW (R133). -/
def Reg.gduOverflow : Nat := 0x50428
/-- GDU.WDOG (R133). -/
def Reg.gduWdog : Nat := 0x5042c
/-- GDU.ADM_REFUSE (R133). -/
def Reg.gduAdmRefuse : Nat := 0x50430
/-- GDU.MIGRATE (R133). -/
def Reg.gduMigrate : Nat := 0x50434
/-- GDU.MIGRATE_FAIL (R133). -/
def Reg.gduMigrateFail : Nat := 0x50438
/-- GDU.DUAL_REPAIR (R133). -/
def Reg.gduDualRepair : Nat := 0x5043c
/-- GDU.EPOCH_CUR (R85). -/
def Reg.gduEpochCur : Nat := 0x50800
/-- GDU.EPOCH_SCHED_LO (R85). -/
def Reg.gduEpochSchedLo : Nat := 0x50804
/-- GDU.EPOCH_SCHED_HI (R85). -/
def Reg.gduEpochSchedHi : Nat := 0x50808
/-- GDU.EPOCH_CMD (R85). -/
def Reg.gduEpochCmd : Nat := 0x5080c
/-- GDU.EPOCH_STATE (R85). -/
def Reg.gduEpochState : Nat := 0x50810
/-- GDU.EPOCH_LATE (R85). -/
def Reg.gduEpochLate : Nat := 0x50814
/-- GDU.EPOCH_STALE (R85). -/
def Reg.gduEpochStale : Nat := 0x50818
/-- GDU.EPOCH_PROMOTED (R85). -/
def Reg.gduEpochPromoted : Nat := 0x5081c
/-- GDU.EPOCH_PENDING (R85). -/
def Reg.gduEpochPending : Nat := 0x50820
/-- GDU.SLACK (R85). -/
def Reg.gduSlack : Nat := 0x50830
/-- BOOT.STRAP (R57). -/
def Reg.bootStrap : Nat := 0x60000
/-- BOOT.STATUS (R57). -/
def Reg.bootStatus : Nat := 0x60004
/-- BOOT.CAUSE (R57). -/
def Reg.bootCause : Nat := 0x60008
/-- BOOT.VERSION (R57). -/
def Reg.bootVersion : Nat := 0x60010
/-- BOOT.LC (R57). -/
def Reg.bootLc : Nat := 0x60014
/-- BOOT.HB_SRC_LO (R57). -/
def Reg.bootHbSrcLo : Nat := 0x60020
/-- BOOT.HB_SRC_HI (R57). -/
def Reg.bootHbSrcHi : Nat := 0x60024
/-- BOOT.HB_LEN (R57). -/
def Reg.bootHbLen : Nat := 0x60028
/-- BOOT.HB_CTRL (R57). -/
def Reg.bootHbCtrl : Nat := 0x6002c
/-- CTL.FW_VERSION (R553). -/
def Reg.ctlFwVersion : Nat := 0x70000
/-- CTL.STATUS (R553). -/
def Reg.ctlStatus : Nat := 0x70004
/-- CTL.TICKS (R553). -/
def Reg.ctlTicks : Nat := 0x70008
/-- CTL.CORE_LOAD (R553). -/
def Reg.ctlCoreLoad : Nat := 0x7000c
/-- CTL.SRAM_REPAIR (R553). -/
def Reg.ctlSramRepair : Nat := 0x70010
/-- CL.INFO (R548). -/
def Reg.clInfo (n : Nat) : Nat := 0x100000 + 0x10000 * n
/-- CL.FAB_ERR (R548). -/
def Reg.clFabErr (n : Nat) : Nat := 0x100004 + 0x10000 * n
/-- TILE.STATE (R232). -/
def Reg.tileState (t : Nat) : Nat := 0x102000 + 0x10000 * (t / 16) + 0x400 * (t % 16)
/-- TILE.CH_COUNT (R232). -/
def Reg.tileChCount (t : Nat) : Nat := 0x102004 + 0x10000 * (t / 16) + 0x400 * (t % 16)
/-- TILE.SRAM_USED (R232). -/
def Reg.tileSramUsed (t : Nat) : Nat := 0x102008 + 0x10000 * (t / 16) + 0x400 * (t % 16)
/-- TILE.CYC_USED (R232). -/
def Reg.tileCycUsed (t : Nat) : Nat := 0x10200c + 0x10000 * (t / 16) + 0x400 * (t % 16)
/-- TILE.IMEM_PAR (R232). -/
def Reg.tileImemPar (t : Nat) : Nat := 0x102010 + 0x10000 * (t / 16) + 0x400 * (t % 16)
/-- TILE.DMEM_PAR (R232). -/
def Reg.tileDmemPar (t : Nat) : Nat := 0x102014 + 0x10000 * (t / 16) + 0x400 * (t % 16)
/-- TILE.RELOAD (R232). -/
def Reg.tileReload (t : Nat) : Nat := 0x102018 + 0x10000 * (t / 16) + 0x400 * (t % 16)
/-- TILE.CTRL (R232). -/
def Reg.tileCtrl (t : Nat) : Nat := 0x10201c + 0x10000 * (t / 16) + 0x400 * (t % 16)
/-- EE.CFG (R267). -/
def Reg.eeCfg (n : Nat) : Nat := 0x106000 + 0x10000 * n
/-- EE.STATUS (R267). -/
def Reg.eeStatus (n : Nat) : Nat := 0x106004 + 0x10000 * n
/-- EE.CHARGE (R267). -/
def Reg.eeCharge (n : Nat) : Nat := 0x106008 + 0x10000 * n
/-- EE.CORR_LOAD (R267). -/
def Reg.eeCorrLoad (n : Nat) : Nat := 0x10600c + 0x10000 * n
/-- EE.NODES (R267). -/
def Reg.eeNodes (n : Nat) : Nat := 0x106010 + 0x10000 * n
/-- EE.MOVES (R267). -/
def Reg.eeMoves (n : Nat) : Nat := 0x106018 + 0x10000 * n
/-- EE.ABANDONS (R267). -/
def Reg.eeAbandons (n : Nat) : Nat := 0x10601c + 0x10000 * n
/-- EE.DIVERGE (R267). -/
def Reg.eeDiverge (n : Nat) : Nat := 0x106020 + 0x10000 * n
/-- EE.REPAIRS (R267). -/
def Reg.eeRepairs (n : Nat) : Nat := 0x106024 + 0x10000 * n
/-- EE.DISABLES (R267). -/
def Reg.eeDisables (n : Nat) : Nat := 0x106028 + 0x10000 * n
/-- EE.PASS_NODES (R267). -/
def Reg.eePassNodes (n : Nat) : Nat := 0x10602c + 0x10000 * n
/-- EE.INT_PARITY (R267). -/
def Reg.eeIntParity (n : Nat) : Nat := 0x106030 + 0x10000 * n
/-- RFE.CFG (R296). -/
def Reg.rfeCfg (n : Nat) : Nat := 0x107000 + 0x10000 * n
/-- RFE.STATUS (R296). -/
def Reg.rfeStatus (n : Nat) : Nat := 0x107004 + 0x10000 * n
/-- RFE.CHARGE (R296). -/
def Reg.rfeCharge (n : Nat) : Nat := 0x107008 + 0x10000 * n
/-- RFE.BANK_CMD (R296). -/
def Reg.rfeBankCmd (n : Nat) : Nat := 0x10700c + 0x10000 * n
/-- RFE.SYNC_LO (R296). -/
def Reg.rfeSyncLo (n : Nat) : Nat := 0x107010 + 0x10000 * n
/-- RFE.SYNC_HI (R296). -/
def Reg.rfeSyncHi (n : Nat) : Nat := 0x107014 + 0x10000 * n
/-- RFE.SYNC_CMD (R296). -/
def Reg.rfeSyncCmd (n : Nat) : Nat := 0x107018 + 0x10000 * n
/-- RFE.LVL_SEL (R296). -/
def Reg.rfeLvlSel (n : Nat) : Nat := 0x10701c + 0x10000 * n
/-- RFE.LVL_RMS (R296). -/
def Reg.rfeLvlRms (n : Nat) : Nat := 0x107020 + 0x10000 * n
/-- RFE.LVL_PEAK (R296). -/
def Reg.rfeLvlPeak (n : Nat) : Nat := 0x107024 + 0x10000 * n
/-- RFE.LVL_ENV (R296). -/
def Reg.rfeLvlEnv (n : Nat) : Nat := 0x107028 + 0x10000 * n
/-- RFE.LVL_TICK (R296). -/
def Reg.rfeLvlTick (n : Nat) : Nat := 0x10702c + 0x10000 * n
/-- RFE.NODES (R296). -/
def Reg.rfeNodes (n : Nat) : Nat := 0x107030 + 0x10000 * n
/-- RFE.CLIPS (R296). -/
def Reg.rfeClips (n : Nat) : Nat := 0x107038 + 0x10000 * n
/-- RFE.SWAPS (R296). -/
def Reg.rfeSwaps (n : Nat) : Nat := 0x10703c + 0x10000 * n
/-- RFE.SYNCS (R296). -/
def Reg.rfeSyncs (n : Nat) : Nat := 0x107040 + 0x10000 * n
/-- RFE.HIST_REPAIR (R296). -/
def Reg.rfeHistRepair (n : Nat) : Nat := 0x107044 + 0x10000 * n
/-- RFE.BANK_REPAIR (R296). -/
def Reg.rfeBankRepair (n : Nat) : Nat := 0x107048 + 0x10000 * n
/-- RFE.TRIM_CLAMP (R296). -/
def Reg.rfeTrimClamp (n : Nat) : Nat := 0x10704c + 0x10000 * n
/-- RFE.PASS_NODES (R296). -/
def Reg.rfePassNodes (n : Nat) : Nat := 0x107050 + 0x10000 * n
/-- RFE.INT_PARITY (R296). -/
def Reg.rfeIntParity (n : Nat) : Nat := 0x107054 + 0x10000 * n
/-- RFE.BANK_WIN (R296). -/
def Reg.rfeBankWin (n : Nat) (i : Nat) : Nat := 0x107100 + 0x10000 * n + 0x4 * i
/-- RFE.BANK_STATE (R296). -/
def Reg.rfeBankState (n : Nat) (i : Nat) : Nat := 0x107400 + 0x10000 * n + 0x4 * i
/-- TD.CFG (R323). -/
def Reg.tdCfg (n : Nat) : Nat := 0x108000 + 0x10000 * n
/-- TD.STATUS (R323). -/
def Reg.tdStatus (n : Nat) : Nat := 0x108004 + 0x10000 * n
/-- TD.CHARGE (R323). -/
def Reg.tdCharge (n : Nat) : Nat := 0x108008 + 0x10000 * n
/-- TD.NODES (R323). -/
def Reg.tdNodes (n : Nat) : Nat := 0x10800c + 0x10000 * n
/-- TD.ONSETS (R323). -/
def Reg.tdOnsets (n : Nat) : Nat := 0x108014 + 0x10000 * n
/-- TD.REVERSALS (R323). -/
def Reg.tdReversals (n : Nat) : Nat := 0x108018 + 0x10000 * n
/-- TD.VBD_TRIGGERS (R323). -/
def Reg.tdVbdTriggers (n : Nat) : Nat := 0x10801c + 0x10000 * n
/-- TD.REPAIRS (R323). -/
def Reg.tdRepairs (n : Nat) : Nat := 0x108020 + 0x10000 * n
/-- TD.PASS_NODES (R323). -/
def Reg.tdPassNodes (n : Nat) : Nat := 0x108024 + 0x10000 * n
/-- TD.INT_PARITY (R323). -/
def Reg.tdIntParity (n : Nat) : Nat := 0x108028 + 0x10000 * n
/-- MPE.CFG (R189). -/
def Reg.mpeCfg : Nat := 0x200000
/-- MPE.STATUS (R189). -/
def Reg.mpeStatus : Nat := 0x200004
/-- MPE.PS_REPLAY (R189). -/
def Reg.mpePsReplay : Nat := 0x200008
/-- MPE.PS_CH_MAX (R189). -/
def Reg.mpePsChMax : Nat := 0x20000c
/-- MPE.PS_FREE (R189). -/
def Reg.mpePsFree : Nat := 0x200010
/-- MPE.RTCP_CFG (R189). -/
def Reg.mpeRtcpCfg : Nat := 0x200014
/-- MPE.PUNT_RATE (R189). -/
def Reg.mpePuntRate : Nat := 0x200018
/-- MPE.ADDR_IP0 (R189). -/
def Reg.mpeAddrIp0 (i : Nat) : Nat := 0x200100 + 0x20 * i
/-- MPE.ADDR_IP1 (R189). -/
def Reg.mpeAddrIp1 (i : Nat) : Nat := 0x200104 + 0x20 * i
/-- MPE.ADDR_IP2 (R189). -/
def Reg.mpeAddrIp2 (i : Nat) : Nat := 0x200108 + 0x20 * i
/-- MPE.ADDR_IP3 (R189). -/
def Reg.mpeAddrIp3 (i : Nat) : Nat := 0x20010c + 0x20 * i
/-- MPE.ADDR_CFG (R189). -/
def Reg.mpeAddrCfg (i : Nat) : Nat := 0x200110 + 0x20 * i
/-- MPE.ADDR_PLEN (R189). -/
def Reg.mpeAddrPlen (i : Nat) : Nat := 0x200114 + 0x20 * i
/-- MPE.DROP_ETHERTYPE (R189). -/
def Reg.mpeDropEthertype : Nat := 0x201000
/-- MPE.DROP_VLAN (R189). -/
def Reg.mpeDropVlan : Nat := 0x201008
/-- MPE.DROP_IP_HDR (R189). -/
def Reg.mpeDropIpHdr : Nat := 0x201010
/-- MPE.DROP_FRAG (R189). -/
def Reg.mpeDropFrag : Nat := 0x201018
/-- MPE.DROP_PROTO (R189). -/
def Reg.mpeDropProto : Nat := 0x201020
/-- MPE.DROP_NOT_LOCAL (R189). -/
def Reg.mpeDropNotLocal : Nat := 0x201028
/-- MPE.DROP_UDP (R189). -/
def Reg.mpeDropUdp : Nat := 0x201030
/-- MPE.DROP_NO_SESSION (R189). -/
def Reg.mpeDropNoSession : Nat := 0x201038
/-- MPE.DROP_SRC (R189). -/
def Reg.mpeDropSrc : Nat := 0x201040
/-- MPE.DROP_RTP_HDR (R189). -/
def Reg.mpeDropRtpHdr : Nat := 0x201048
/-- MPE.DROP_KEY_LOST (R189). -/
def Reg.mpeDropKeyLost : Nat := 0x201050
/-- MPE.DROP_AUTH (R189). -/
def Reg.mpeDropAuth : Nat := 0x201058
/-- MPE.DROP_REPLAY (R189). -/
def Reg.mpeDropReplay : Nat := 0x201060
/-- MPE.DROP_SSRC (R189). -/
def Reg.mpeDropSsrc : Nat := 0x201068
/-- MPE.DROP_NO_LEG (R189). -/
def Reg.mpeDropNoLeg : Nat := 0x201070
/-- MPE.DROP_PT (R189). -/
def Reg.mpeDropPt : Nat := 0x201078
/-- MPE.DROP_PS_QUOTA (R189). -/
def Reg.mpeDropPsQuota : Nat := 0x201080
/-- MPE.DROP_PS_FULL (R189). -/
def Reg.mpeDropPsFull : Nat := 0x201088
/-- MPE.DROP_PUNT (R189). -/
def Reg.mpeDropPunt : Nat := 0x201090
/-- MPE.DROP_DISABLED (R189). -/
def Reg.mpeDropDisabled : Nat := 0x201098
/-- MPE.EG_DROP_SESSION (R189). -/
def Reg.mpeEgDropSession : Nat := 0x2010a0
/-- MPE.EG_NO_NEIGH (R189). -/
def Reg.mpeEgNoNeigh : Nat := 0x2010a8
/-- MPE.EG_DROP_DISABLED (R189). -/
def Reg.mpeEgDropDisabled : Nat := 0x2010b0
/-- MPE.PS_PARITY (R189). -/
def Reg.mpePsParity : Nat := 0x2010b8
/-- MPE.RX_PACKETS (R189). -/
def Reg.mpeRxPackets : Nat := 0x2010c0
/-- MPE.TX_PACKETS (R189). -/
def Reg.mpeTxPackets : Nat := 0x2010c8
/-- SEC.CFG (R190). -/
def Reg.secCfg : Nat := 0x300000
/-- SEC.STATUS (R190). -/
def Reg.secStatus : Nat := 0x300004
/-- SEC.GUARD (R190). -/
def Reg.secGuard : Nat := 0x300008
/-- SEC.ROT_USED (R190). -/
def Reg.secRotUsed : Nat := 0x30000c
/-- SEC.PROTECT (R190). -/
def Reg.secProtect : Nat := 0x300010
/-- SEC.UNPROTECT (R190). -/
def Reg.secUnprotect : Nat := 0x300018
/-- SEC.ROT_PROMOTE (R190). -/
def Reg.secRotPromote : Nat := 0x300020
/-- SEC.ROT_RELEASE (R190). -/
def Reg.secRotRelease : Nat := 0x300024
/-- SEC.KEY_REPAIR (R190). -/
def Reg.secKeyRepair : Nat := 0x300028
/-- SEC.KEY_LOST (R190). -/
def Reg.secKeyLost : Nat := 0x30002c
/-- MAC.CFG (R397). -/
def Reg.macCfg (e : Nat) : Nat := 0x310000 + 0x1000 * e
/-- MAC.STATUS (R396). -/
def Reg.macStatus (e : Nat) : Nat := 0x310004 + 0x1000 * e
/-- MAC.MAX_FRAME (R396). -/
def Reg.macMaxFrame (e : Nat) : Nat := 0x310008 + 0x1000 * e
/-- MAC.GROUP (R396). -/
def Reg.macGroup (e : Nat) : Nat := 0x31000c + 0x1000 * e
/-- MAC.PAUSE_QUANTA (R396). -/
def Reg.macPauseQuanta (e : Nat) : Nat := 0x310010 + 0x1000 * e
/-- MAC.WM (R396). -/
def Reg.macWm (e : Nat) : Nat := 0x310014 + 0x1000 * e
/-- MAC.RXB (R396). -/
def Reg.macRxb (e : Nat) : Nat := 0x310018 + 0x1000 * e
/-- MAC.RXB_MAX (R396). -/
def Reg.macRxbMax (e : Nat) : Nat := 0x31001c + 0x1000 * e
/-- MAC.TXQ_PART_LO (R396). -/
def Reg.macTxqPartLo (e : Nat) : Nat := 0x310020 + 0x1000 * e
/-- MAC.TXQ_PART_HI (R396). -/
def Reg.macTxqPartHi (e : Nat) : Nat := 0x310024 + 0x1000 * e
/-- MAC.UCAST_LO (R396). -/
def Reg.macUcastLo (e : Nat) (i : Nat) : Nat := 0x310040 + 0x1000 * e + 0x8 * i
/-- MAC.UCAST_HI (R396). -/
def Reg.macUcastHi (e : Nat) (i : Nat) : Nat := 0x310044 + 0x1000 * e + 0x8 * i
/-- MAC.HASH (R396). -/
def Reg.macHash (e : Nat) (i : Nat) : Nat := 0x310080 + 0x1000 * e + 0x4 * i
/-- MAC.RX_OK (R396). -/
def Reg.macRxOk (e : Nat) : Nat := 0x310200 + 0x1000 * e
/-- MAC.RX_OCTETS (R396). -/
def Reg.macRxOctets (e : Nat) : Nat := 0x310208 + 0x1000 * e
/-- MAC.RX_RUNT (R396). -/
def Reg.macRxRunt (e : Nat) : Nat := 0x310210 + 0x1000 * e
/-- MAC.RX_OVERSIZE (R396). -/
def Reg.macRxOversize (e : Nat) : Nat := 0x310218 + 0x1000 * e
/-- MAC.RX_FCS (R396). -/
def Reg.macRxFcs (e : Nat) : Nat := 0x310220 + 0x1000 * e
/-- MAC.RX_FILTER (R396). -/
def Reg.macRxFilter (e : Nat) : Nat := 0x310228 + 0x1000 * e
/-- MAC.RX_OVERFLOW (R396). -/
def Reg.macRxOverflow (e : Nat) : Nat := 0x310230 + 0x1000 * e
/-- MAC.RX_PARITY (R396). -/
def Reg.macRxParity (e : Nat) : Nat := 0x310238 + 0x1000 * e
/-- MAC.RX_PAUSE (R396). -/
def Reg.macRxPause (e : Nat) : Nat := 0x310240 + 0x1000 * e
/-- MAC.RX_MACCTL_UNSUP (R396). -/
def Reg.macRxMacctlUnsup (e : Nat) : Nat := 0x310248 + 0x1000 * e
/-- MAC.RX_BCAST (R396). -/
def Reg.macRxBcast (e : Nat) : Nat := 0x310250 + 0x1000 * e
/-- MAC.RX_MCAST (R396). -/
def Reg.macRxMcast (e : Nat) : Nat := 0x310258 + 0x1000 * e
/-- MAC.TX_OK (R396). -/
def Reg.macTxOk (e : Nat) : Nat := 0x310260 + 0x1000 * e
/-- MAC.TX_OCTETS (R396). -/
def Reg.macTxOctets (e : Nat) : Nat := 0x310268 + 0x1000 * e
/-- MAC.TX_PAUSE (R396). -/
def Reg.macTxPause (e : Nat) : Nat := 0x310270 + 0x1000 * e
/-- MAC.TX_OVERSIZE (R396). -/
def Reg.macTxOversize (e : Nat) : Nat := 0x310278 + 0x1000 * e
/-- MAC.TX_DISABLED (R396). -/
def Reg.macTxDisabled (e : Nat) : Nat := 0x310280 + 0x1000 * e
/-- MAC.TX_PARITY (R396). -/
def Reg.macTxParity (e : Nat) : Nat := 0x310288 + 0x1000 * e
/-- MAC.FEC_CORR (R396). -/
def Reg.macFecCorr (e : Nat) : Nat := 0x310290 + 0x1000 * e
/-- MAC.FEC_UNCORR (R396). -/
def Reg.macFecUncorr (e : Nat) : Nat := 0x310298 + 0x1000 * e
/-- MAC.TX_QFULL (R396). -/
def Reg.macTxQfull (e : Nat) (i : Nat) : Nat := 0x3102a0 + 0x1000 * e + 0x8 * i
/-- SDS.CFG (R398). -/
def Reg.sdsCfg (m : Nat) : Nat := 0x320000 + 0x1000 * m
/-- SDS.STATUS (R398). -/
def Reg.sdsStatus (m : Nat) : Nat := 0x320004 + 0x1000 * m
/-- SDS.EYE (R398). -/
def Reg.sdsEye (m : Nat) (i : Nat) : Nat := 0x320008 + 0x1000 * m + 0x4 * i
/-- SDS.SNR (R398). -/
def Reg.sdsSnr (m : Nat) : Nat := 0x320014 + 0x1000 * m
/-- SDS.TX_FFE (R398). -/
def Reg.sdsTxFfe (m : Nat) : Nat := 0x320018 + 0x1000 * m
/-- SDS.RX_EQ (R398). -/
def Reg.sdsRxEq (m : Nat) : Nat := 0x32001c + 0x1000 * m
/-- SDS.TRAIN_FAIL (R398). -/
def Reg.sdsTrainFail (m : Nat) : Nat := 0x320020 + 0x1000 * m
/-- SDS.LOS (R398). -/
def Reg.sdsLos (m : Nat) : Nat := 0x320024 + 0x1000 * m
/-- SDS.FEC_SYM (R398). -/
def Reg.sdsFecSym (m : Nat) : Nat := 0x320028 + 0x1000 * m
/-- RON.CFG (R463). -/
def Reg.ronCfg : Nat := 0x340000
/-- RON.STATUS (R463). -/
def Reg.ronStatus : Nat := 0x340004
/-- RON.HB_TIMEOUT (R463). -/
def Reg.ronHbTimeout : Nat := 0x340008
/-- RON.LOS_TIMEOUT (R463). -/
def Reg.ronLosTimeout : Nat := 0x34000c
/-- RON.CTRL (R463). -/
def Reg.ronCtrl : Nat := 0x340010
/-- RON.REPLAY_MS (R463). -/
def Reg.ronReplayMs : Nat := 0x340014
/-- RON.REPLAY_COVER (R463). -/
def Reg.ronReplayCover : Nat := 0x340018
/-- RON.REKEY (R463). -/
def Reg.ronRekey : Nat := 0x34001c
/-- RON.HB_KICK (R463). -/
def Reg.ronHbKick : Nat := 0x340020
/-- RON.DEDUP (R463). -/
def Reg.ronDedup : Nat := 0x340024
/-- RON.DOSSIER_BAD (R463). -/
def Reg.ronDossierBad : Nat := 0x340028
/-- RON.TAKEOVERS (R463). -/
def Reg.ronTakeovers : Nat := 0x34002c
/-- RON.ALIAS (R463). -/
def Reg.ronAlias (i : Nat) : Nat := 0x340040 + 0x4 * i
/-- RON.CREDIT (R463). -/
def Reg.ronCredit (i : Nat) : Nat := 0x340080 + 0x4 * i
/-- RON.LANE_STATUS (R463). -/
def Reg.ronLaneStatus (i : Nat) : Nat := 0x340100 + 0x40 * i
/-- RON.LANE_CAL (R463). -/
def Reg.ronLaneCal (i : Nat) : Nat := 0x340104 + 0x40 * i
/-- RON.LANE_CRC_ERR (R463). -/
def Reg.ronLaneCrcErr (i : Nat) : Nat := 0x340108 + 0x40 * i
/-- RON.LANE_DROP (R463). -/
def Reg.ronLaneDrop (i : Nat) : Nat := 0x34010c + 0x40 * i
/-- RON.LANE_AUTH_FAIL (R463). -/
def Reg.ronLaneAuthFail (i : Nat) : Nat := 0x340110 + 0x40 * i
/-- RON.LANE_HB_MISS (R463). -/
def Reg.ronLaneHbMiss (i : Nat) : Nat := 0x340114 + 0x40 * i
/-- RON.LANE_TX_FRAMES (R463). -/
def Reg.ronLaneTxFrames (i : Nat) : Nat := 0x340118 + 0x40 * i
/-- RON.LANE_RX_FRAMES (R463). -/
def Reg.ronLaneRxFrames (i : Nat) : Nat := 0x340120 + 0x40 * i
/-- PCI.CR_BASE_LO (R468). -/
def Reg.pciCrBaseLo (i : Nat) : Nat := 0x350100 + 0x20 * i
/-- PCI.CR_BASE_HI (R468). -/
def Reg.pciCrBaseHi (i : Nat) : Nat := 0x350104 + 0x20 * i
/-- PCI.CR_CTRL (R468). -/
def Reg.pciCrCtrl (i : Nat) : Nat := 0x350108 + 0x20 * i
/-- PCI.CR_HEAD (R468). -/
def Reg.pciCrHead (i : Nat) : Nat := 0x35010c + 0x20 * i
/-- PCI.CR_TAIL (R468). -/
def Reg.pciCrTail (i : Nat) : Nat := 0x350110 + 0x20 * i
/-- PCI.CR_STATUS (R468). -/
def Reg.pciCrStatus (i : Nat) : Nat := 0x350114 + 0x20 * i
/-- PCI.ER_BASE_LO (R468). -/
def Reg.pciErBaseLo (i : Nat) : Nat := 0x350200 + 0x20 * i
/-- PCI.ER_BASE_HI (R468). -/
def Reg.pciErBaseHi (i : Nat) : Nat := 0x350204 + 0x20 * i
/-- PCI.ER_CTRL (R468). -/
def Reg.pciErCtrl (i : Nat) : Nat := 0x350208 + 0x20 * i
/-- PCI.ER_HEAD (R468). -/
def Reg.pciErHead (i : Nat) : Nat := 0x35020c + 0x20 * i
/-- PCI.ER_TAIL (R468). -/
def Reg.pciErTail (i : Nat) : Nat := 0x350210 + 0x20 * i
/-- PCI.ER_STATUS (R468). -/
def Reg.pciErStatus (i : Nat) : Nat := 0x350214 + 0x20 * i
/-- PCI.FW_OWN_WR (R484). -/
def Reg.pciFwOwnWr : Nat := 0x350300
/-- PCI.MSIX_TABLE (R469). -/
def Reg.pciMsixTable (i : Nat) : Nat := 0x358000 + 0x4 * i
/-- PCI.MSIX_PBA (R469). -/
def Reg.pciMsixPba (i : Nat) : Nat := 0x359000 + 0x4 * i
/-- TDM.CFG (R341). -/
def Reg.tdmCfg (h : Nat) : Nat := 0x360000 + 0x100 * h
/-- TDM.STATUS (R341). -/
def Reg.tdmStatus (h : Nat) : Nat := 0x360004 + 0x100 * h
/-- TDM.IDLE (R341). -/
def Reg.tdmIdle (h : Nat) : Nat := 0x360008 + 0x100 * h
/-- TDM.FREQ (R341). -/
def Reg.tdmFreq (h : Nat) : Nat := 0x36000c + 0x100 * h
/-- TDM.SLIP_RX (R341). -/
def Reg.tdmSlipRx (h : Nat) : Nat := 0x360010 + 0x100 * h
/-- TDM.SLIP_TX (R341). -/
def Reg.tdmSlipTx (h : Nat) : Nat := 0x360014 + 0x100 * h
/-- TDM.UNDERRUN (R341). -/
def Reg.tdmUnderrun (h : Nat) : Nat := 0x360018 + 0x100 * h
/-- TDM.FIGHT (R341). -/
def Reg.tdmFight (h : Nat) : Nat := 0x36001c + 0x100 * h
/-- TDM.CLK_LOSS (R341). -/
def Reg.tdmClkLoss (h : Nat) : Nat := 0x360020 + 0x100 * h
/-- TDM.FS_ERR (R341). -/
def Reg.tdmFsErr (h : Nat) : Nat := 0x360024 + 0x100 * h
/-- TDM.REARM (R341). -/
def Reg.tdmRearm (h : Nat) : Nat := 0x360028 + 0x100 * h
/-- ARC.CFG (R366). -/
def Reg.arcCfg : Nat := 0x370000
/-- ARC.STATUS (R366). -/
def Reg.arcStatus : Nat := 0x370004
/-- ARC.REC_LIMIT (R366). -/
def Reg.arcRecLimit : Nat := 0x370008
/-- ARC.REC_LOAD (R366). -/
def Reg.arcRecLoad : Nat := 0x37000c
/-- ARC.REC_POOL (R366). -/
def Reg.arcRecPool : Nat := 0x370010
/-- ARC.REC_POOL_FREE (R366). -/
def Reg.arcRecPoolFree : Nat := 0x370014
/-- ARC.EXH_WAIT (R366). -/
def Reg.arcExhWait : Nat := 0x370018
/-- ARC.DEC_STATUS (R366). -/
def Reg.arcDecStatus : Nat := 0x37001c
/-- ARC.SINK_BASE_LO (R366). -/
def Reg.arcSinkBaseLo (i : Nat) : Nat := 0x370020 + 0x20 * i
/-- ARC.SINK_BASE_HI (R366). -/
def Reg.arcSinkBaseHi (i : Nat) : Nat := 0x370024 + 0x20 * i
/-- ARC.SINK_SIZE (R366). -/
def Reg.arcSinkSize (i : Nat) : Nat := 0x370028 + 0x20 * i
/-- ARC.SINK_HEAD (R366). -/
def Reg.arcSinkHead (i : Nat) : Nat := 0x37002c + 0x20 * i
/-- ARC.SINK_TAIL (R366). -/
def Reg.arcSinkTail (i : Nat) : Nat := 0x370030 + 0x20 * i
/-- ARC.SINK_CTRL (R366). -/
def Reg.arcSinkCtrl (i : Nat) : Nat := 0x370034 + 0x20 * i
/-- ARC.SINK_STATUS (R366). -/
def Reg.arcSinkStatus (i : Nat) : Nat := 0x370038 + 0x20 * i
/-- ARC.LDG_CTRL (R366). -/
def Reg.arcLdgCtrl : Nat := 0x370080
/-- ARC.LDG_STREAM (R366). -/
def Reg.arcLdgStream : Nat := 0x370084
/-- ARC.LDG_FLUSH (R366). -/
def Reg.arcLdgFlush : Nat := 0x370088
/-- ARC.LDG_LOST (R366). -/
def Reg.arcLdgLost : Nat := 0x37008c
/-- ARC.BLOCKS (R366). -/
def Reg.arcBlocks : Nat := 0x370100
/-- ARC.IN_OCTETS (R366). -/
def Reg.arcInOctets : Nat := 0x370108
/-- ARC.OUT_OCTETS (R366). -/
def Reg.arcOutOctets : Nat := 0x370110
/-- ARC.EXHAUSTED (R366). -/
def Reg.arcExhausted : Nat := 0x370118
/-- ARC.GAPS (R366). -/
def Reg.arcGaps : Nat := 0x37011c
/-- ARC.POOL_REFUSE (R366). -/
def Reg.arcPoolRefuse : Nat := 0x370120
/-- ARC.DEC_ERR (R366). -/
def Reg.arcDecErr : Nat := 0x370124
/-- ARC.INT_PARITY (R366). -/
def Reg.arcIntParity : Nat := 0x370128
/-- ARC.FIFO_CFG (R366). -/
def Reg.arcFifoCfg (i : Nat) : Nat := 0x370200 + 0x10 * i
/-- ARC.FIFO_STATUS (R366). -/
def Reg.arcFifoStatus (i : Nat) : Nat := 0x370204 + 0x10 * i
/-- ARC.FIFO_MARK_LOST (R366). -/
def Reg.arcFifoMarkLost (i : Nat) : Nat := 0x370208 + 0x10 * i
/-- ARC.FIFO_WAIT (R366). -/
def Reg.arcFifoWait (i : Nat) : Nat := 0x37020c + 0x10 * i
/-- NDK.MODE (R484). -/
def Reg.ndkMode : Nat := 0x380000
/-- NDK.STATUS (R484). -/
def Reg.ndkStatus : Nat := 0x380004
/-- NDK.CFG (R484). -/
def Reg.ndkCfg : Nat := 0x380008
/-- NDK.MAX_FRAME (R484). -/
def Reg.ndkMaxFrame : Nat := 0x38000c
/-- NDK.UCAST_LO (R484). -/
def Reg.ndkUcastLo (i : Nat) : Nat := 0x380010 + 0x8 * i
/-- NDK.UCAST_HI (R484). -/
def Reg.ndkUcastHi (i : Nat) : Nat := 0x380014 + 0x8 * i
/-- NDK.HASH (R484). -/
def Reg.ndkHash (i : Nat) : Nat := 0x380020 + 0x4 * i
/-- NDK.RX_OK (R484). -/
def Reg.ndkRxOk : Nat := 0x380100
/-- NDK.RX_RUNT (R484). -/
def Reg.ndkRxRunt : Nat := 0x380108
/-- NDK.RX_OVERSIZE (R484). -/
def Reg.ndkRxOversize : Nat := 0x380110
/-- NDK.RX_FCS (R484). -/
def Reg.ndkRxFcs : Nat := 0x380118
/-- NDK.RX_FILTER (R484). -/
def Reg.ndkRxFilter : Nat := 0x380120
/-- NDK.RX_OVERFLOW (R484). -/
def Reg.ndkRxOverflow : Nat := 0x380128
/-- NDK.RX_PAUSE (R484). -/
def Reg.ndkRxPause : Nat := 0x380130
/-- NDK.RX_MACCTL_UNSUP (R484). -/
def Reg.ndkRxMacctlUnsup : Nat := 0x380138
/-- NDK.TX_OK (R484). -/
def Reg.ndkTxOk : Nat := 0x380140
/-- NDK.TX_PAUSE (R484). -/
def Reg.ndkTxPause : Nat := 0x380148
/-- NDK.COLLISIONS (R484). -/
def Reg.ndkCollisions : Nat := 0x380150
/-- NDK.LATE_COLL (R484). -/
def Reg.ndkLateColl : Nat := 0x380158
/-- NDK.EXCESS_COLL (R484). -/
def Reg.ndkExcessColl : Nat := 0x380160
/-- NDK.DEFERRED (R484). -/
def Reg.ndkDeferred : Nat := 0x380168
/-- NDK.AUTH_FAIL (R484). -/
def Reg.ndkAuthFail : Nat := 0x380170
/-- NDK.STALE (R484). -/
def Reg.ndkStale : Nat := 0x380178
/-- NDK.RATE_DROP (R484). -/
def Reg.ndkRateDrop : Nat := 0x380180

end Sys2Proof.Machine
end

