-- ==== Sys2Proof/Machine/Units.lean ====
section
/-! DEFINITION. The records of which the machine's state is made: what each unit of the device holds beside its registers. Each field's
default is its value at reset; where the manual states none, the assumption log names it. -/

namespace Sys2Proof.Machine

/-! ### Boot, fuses and the image (spec/02) -/

/-- The identity-key fuses (R59, R60). -/
inductive Identity where
  | absent | present | destroyed
deriving DecidableEq, Repr

/-- The fuses. Each life-cycle step is recorded by two fuses (R62); `identityKey` is the private identity key (R60), 48 octets; the rollback counter is the number of fuses blown (R55). -/
structure Fuses where
  serial : BitVec 128 := 0
  provA : Bool := false
  provB : Bool := false
  deplA : Bool := false
  deplB : Bool := false
  retdA : Bool := false
  retdB : Bool := false
  rootHash : Octets := []
  identity : Identity := .absent
  identityKey : Octets := []
  rollback : Nat := 0
deriving DecidableEq, Repr

/-- A section table entry (R47). -/
structure SecEntry where
  type : Nat
  off : Nat
  len : Nat
  ulen : Nat
deriving DecidableEq, Repr

/-- The fields of an image header (R47); `crcOk` is the test of HDR_CRC, `tailZero` that every entry past SECTION_COUNT is zero, and
`raw` the 4,096 octets as read, of which the digest of R51 is made. -/
structure Header where
  magic : Nat := 0
  format : Nat := 0
  version : Nat := 0
  flags : Nat := 0
  imageLen : Nat := 0
  sectionCount : Nat := 0
  sigOffset : Nat := 0
  crcOk : Bool := false
  entries : List SecEntry := []
  tailZero : Bool := false
  raw : Octets := []
deriving DecidableEq, Repr

/-- How the device reaches its flash (R42, R43). -/
inductive FlashMode where
  | none | single | quad | quadDdr | octal
deriving DecidableEq, Repr

/-- Who holds a flash slot, and until which elapsed cycle (R482). -/
structure SlotOwner where
  slot : Nat
  night : Bool
  until_ : Nat
deriving DecidableEq, Repr

/-- A slot erased by IMAGE_BEGIN (R480), and the offsets and lengths programmed since. -/
structure ErasedSlot where
  slot : Nat
  programmed : List (Nat × Nat)
deriving DecidableEq, Repr

/-- The boot loader and security unit (R29 to R63): the latched straps; whether PORST_N and WRST_N are low, and whether a power-on reset waits
for WRST_N (`coldHold`); whether this boot follows a power-on or life-cycle reset (`cold`), and so wipes the always-on SRAM; the mode in which
flash is read; the highways whose pins were found shorted (R39); the always-on copy of the life-cycle state; whether the flash and the PCIe reference passed the wiring checks; the
headers of the candidate slots, the slot that is being loaded (3 the host's image) and the slots already tried in this boot; the image being
loaded or in service with its sections, the digest and the signature block of the image being verified (R50, R51), the kernel sets of its library
(each as its codecs, at most 32) and the library's limit record (R537), and its signer's key; the identity key as read from the fuses; a host pull in flight; whether the Ledger has started and the events held until
then; the boot lock; the nonce of R60; the cycle of a requested host reset; who owns a flash slot, the slots' sizes as
discovered, and the erased slots; and the lanes that
failed the power-on self-test (R541). -/
structure Boot where
  straps : StrapPins := ⟨0, 0, 0, 0, false, false, false⟩
  strapErr : Bool := false
  porstLow : Bool := true
  wrstLow : Bool := false
  lcCopy : Nat := 0
  flashSeen : Bool := true
  hdrA : Option Header := none
  hdrB : Option Header := none
  loading : Nat := 0
  tried : List Nat := []
  image : Option Header := none
  sections : List (Nat × Octets) := []
  ksets : List (List Nat) := []
  limits : Octets := []
  digest : Octets := []
  sigBlock : Octets := []
  signer : Octets := []
  identity : Option Octets := none
  pulling : Bool := false
  ledgerOn : Bool := false
  held : List LedgerEvent := []
  rwlLocked : Bool := false
  nonce : Option Octets := none
  pciRefBad : Bool := false
  resetAt : Option Nat := none
  owners : List SlotOwner := []
  sizeA : Nat := 0x4000000
  sizeB : Nat := 0x4000000
  erased : List ErasedSlot := []
  coldHold : Bool := false
  cold : Bool := false
  flashMode : FlashMode := .none
  tdmShort : List Nat := []
  badLanes : List Nat := []
deriving DecidableEq, Repr

/-! ### Time (spec/15, spec/03) -/

/-- An entry of a transmit stamp queue (R406). -/
structure TsqEntry where
  stamp : Stamp
  sixteenths : Nat
  id : Nat
  gap : Bool
deriving DecidableEq, Repr

/-- A PTP exchange kept while PATH_HOLD judges its band (R415): mean path and offset. -/
structure PathSample where
  path : Nat
  offset : Int
deriving DecidableEq, Repr

/-- The time base (R399 to R428) and the tick generator (R65 to R70). Times of the scale are in units of 2⁻³² ns: `t` the time, `slewLeft`
the remaining slew, `nextTickAt` where the next tick falls, `tickRes` the last tick's offset from its boundary, `gridRes` the grid's offset
from its boundaries as a step left it at `gridFrom`. `ticks` counts delivered ticks; `lastTick` is the number of the last one and `lastTepoch` its time epoch. `incrLog`
holds the increments of the time LOCKED, newest first, each with its cycles; `incrFrom` the cycle since which the present one counts. -/
structure TimeBase where
  t : Nat := 0
  running : Bool := false
  incr : Nat := 8589934592
  slewLeft : Int := 0
  tepoch : Nat := 0
  cadence : Nat := 0
  adopted : Bool := false
  ticks : Nat := 0
  lastTick : Option Nat := none
  lastTepoch : Nat := 0
  nextTickAt : Nat := 0
  tickRes : Int := 0
  gridRes : Int := 0
  gridFrom : Nat := 0
  corr : Option Correction := none
  corrWait : List Nat := []
  path : Option Nat := none
  pathRun : List PathSample := []
  pathTries : Nat := 0
  lockSince : Option Nat := none
  incrLog : List (Nat × Nat) := []
  incrFrom : Option Nat := none
  lastOffset : Int := 0
  otherPort : Option (Nat × Int) := none
  asymRun : Nat := 0
  lastSync : Nat := 0
  ppsHigh : Bool := false
  ppsRiseAt : Option Nat := none
  ppsInAt : Nat := 0
  tsq : List (Nat × List TsqEntry) := []
  tsqGap : List Nat := []
  tsqLost : List (Nat × Nat) := []
deriving DecidableEq, Repr

/-- A tick as R68 orders it: its time epoch and its number. -/
structure TickAt where
  tepoch : Nat
  tick : Nat
deriving DecidableEq, Repr

/-! ### Epochs (spec/03) -/

/-- A node entry of a graph template (R98). -/
structure TNode where
  kind : Nat
  cls : Nat
  flags : Nat
  pred : Nat
  param : Nat
  arg0 : Nat
  arg1 : Nat
deriving DecidableEq, Repr

/-- A graph template (R97). -/
structure Template where
  id : Nat
  frameMask : Nat
  flags : Nat
  nodes : List TNode
deriving DecidableEq, Repr

/-- A bank of epoch-scoped settings (R74, R76). -/
structure Bank where
  epoch : Nat := 0
  templates : List (Nat × Template) := []
  codecTables : Octets := []
  profiles : List (Nat × Octets) := []
  cost : Octets := []
  power : Octets := []
deriving DecidableEq, Repr

/-- A schedule (R77): the epoch and its target tick, with the time epoch of the target, whether it was learned after the target (R83), and whether
an item of its epoch waits for the next tick (R82). -/
structure Schedule where
  epoch : Nat
  tick : Nat
  tepoch : Nat
  late : Bool := false
  item : Bool := false
deriving DecidableEq, Repr

/-- The epoch state of the device (R76 to R85): the banks, the schedule announced, whether this device has switched and not released, the
tick count of its release, the master's lists of HIDs that have not acknowledged, switched or released, the devices a staging step waits
for, whether this device accepted the schedule, the device that announced it, and the records held for the next epoch (R82). -/
structure Epochs where
  cur : Bank := {}
  prev : Option Bank := none
  next : Option Bank := none
  sched : Option Schedule := none
  releaseTick : Option Nat := none
  target : Nat := 0
  ackWait : List Nat := []
  switchWait : List Nat := []
  releaseWait : List Nat := []
  stageWait : List Nat := []
  master : Bool := false
  from_ : Option Nat := none
  items : List MediaRec := []
deriving DecidableEq, Repr

/-! ### Graph instances and dispatch (spec/04) -/

/-- The states of a node (R105). -/
inductive NState where
  | waiting | ready | inService | done | bypassed | cancelled | failed
deriving DecidableEq, Repr

/-- The states of an instance (R103). -/
inductive IState where
  | deferred | active | retired | aborted | skipped
deriving DecidableEq, Repr

/-- The legs of a channel (R135): a line descriptor, a session index and a partner's local ID. -/
structure Legs where
  line : Option Nat := none
  session : Option Nat := none
  partner : Option Nat := none
deriving DecidableEq, Repr

/-- An instance of a channel's graph (R102 to R106). Node 32, when present, is the migrate node of R127; it is the last of `nodes`. -/
structure Instance where
  state : IState
  spawnTick : Nat
  tepoch : Nat
  spawnAt : Nat
  tickNo : Nat
  epoch : Nat
  template : Template
  nodes : List NState
  params : Octets
  legs : Legs
  migrate : Option Nat := none
  rotated : Bool := false
  late : Bool := false
  aborting : Bool := false
  closing : Bool := false
  vbd : Bool := false
  toneLine : Bool := false
  toneNet : Bool := false
  recording : Bool := false
  restore : Bool := false
  evacuate : Bool := false
deriving DecidableEq, Repr

/-- An entry of a ready list (R110): the channel, the node's index in its instance, the class, and the GDU cycle of listing. -/
structure ListEntry where
  chan : Nat
  node : Nat
  cls : Nat
  res : Resource
  cycle : Nat
deriving DecidableEq, Repr

/-- A node in service (R110): since which elapsed cycle, and whether its engine was enabled as it took the node (R257, R293, R321). -/
structure Service where
  res : Resource
  chan : Nat
  node : Nat
  since : Nat
  on : Bool
deriving DecidableEq, Repr

/-- What the GDU holds of a cluster (R110 to R113, R119, R131). -/
structure ClusterGdu where
  ready : List ListEntry := []
  held : List ListEntry := []
  service : List Service := []
  sinceP3 : List (Resource × Nat) := []
  margins : List (Nat × Int) := []
  waking : Option Nat := none
deriving DecidableEq, Repr

/-- Night consolidation (R129): the cluster being emptied, and clusters emptied so far. -/
structure Consol where
  cluster : Option Nat := none
  lowSince : Option Nat := none
  emptied : Nat := 0
deriving DecidableEq, Repr

/-! ### Channels (spec/05 to spec/13) -/

/-- The states of an open channel (R134); a channel that is FREE has no record. -/
inductive ChState where
  | opening | opened | running | closing
deriving DecidableEq, Repr

/-- The statistics of a channel (R157), but for those read from other fields. -/
structure Stats where
  openTick : Nat := 0
  snapTick : Nat := 0
  spawned : Nat := 0
  late : Nat := 0
  aborted : Nat := 0
  skipped : Nat := 0
  sent : Nat := 0
  received : Nat := 0
  octSent : Nat := 0
  octRecv : Nat := 0
  lost : Nat := 0
  latePkts : Nat := 0
  dup : Nat := 0
  reordered : Nat := 0
  concealed : Nat := 0
  authFail : Nat := 0
  replay : Nat := 0
  toneEvents : Nat := 0
  repairs : Nat := 0
  codecResets : Nat := 0
  migrations : Nat := 0
deriving DecidableEq, Repr

/-- A packet in a channel's chain of the packet store (R170): its RTP timestamp extended past 2³², its extended sequence number, its class
(0 voice, 1 event, 2 comfort noise), `vbd`, under which codec R169 accepted it (R311), its place `no` in the order of storing, and the units at its
head that have been played or discarded. -/
structure Pkt where
  ts : Nat
  seq : Nat
  marker : Bool
  cls : Nat
  payload : Octets
  stampNs : Nat
  cells : Nat
  vbd : Bool
  no : Nat := 0
  skip : Nat := 0
deriving DecidableEq, Repr

/-- The sequence state of RFC 3550 appendix A.1 (R206), and the unique packets received since its start (R207). -/
structure SeqState where
  started : Bool := false
  maxSeq : Nat := 0
  cycles : Nat := 0
  baseSeq : Nat := 0
  badSeq : Nat := 0x10001
  probation : Nat := 2
  uniq : Nat := 0
deriving DecidableEq, Repr

/-- A sender report (R202): its NTP instant in ns of the scale and its RTP timestamp. -/
structure SrPair where
  ntp : Nat
  ts : Nat
deriving DecidableEq, Repr

/-- An ALIGNED mapping (R202): the report it starts from, and c_m as a count of RTP units over a count of ns. -/
structure AlignMap where
  ntp : Nat
  ts : Nat
  units : Nat
  ns : Nat
deriving DecidableEq, Repr

/-- The jitter buffer of a channel (R191 to R212). Depths and times are in ns, drift in 10⁻⁹. `fresh` are the packets stored since the last
pull (timestamp, stamp), `secmin` the least r of each second of the stamp, `pulledTo` the end of the span of due instants last pulled,
`missed` the instances whose pull did not run, `run` the length of the present run of frames without a payload, `spurtAt` the elapsed cycle
of the last talkspurt start, `restore` a first pull after a dossier. `stored` counts packets as they are stored, and `cut` is its value as the pull
node in service was dispatched (R194); `ssrc` is the stream's SSRC where the channel's media is forwarded to it (R168); `slew` the samples of the
output grid by which a small move of an ALIGNED mapping is still to come (R204). -/
structure Jb where
  pkts : List Pkt := []
  t0 : Option Nat := none
  bs : Int := 0
  d : Nat := 0
  drift : Int := 0
  secmin : List (Nat × Int) := []
  hist : List (Nat × Nat) := []
  measured : Nat := 0
  fresh : List (Nat × Nat) := []
  seq : SeqState := {}
  played : List Nat := []
  stored : Nat := 0
  cut : Option Nat := none
  ssrc : Option Nat := none
  slew : Int := 0
  jitter : Nat := 0
  transit : Option Int := none
  ahead : Nat := 0
  run : Nat := 0
  lastCn : Bool := false
  lastTs : Option Nat := none
  voiceTs : Option Nat := none
  pulledTo : Option Nat := none
  lateSeen : Bool := false
  shrinkSince : Option Nat := none
  spurtAt : Nat := 0
  missed : Nat := 0
  restore : Bool := false
  srs : List SrPair := []
  mapping : Option AlignMap := none
  mappingNext : Option AlignMap := none
  mappingSince : Nat := 0
  stale : Bool := false
  srAt : Option Nat := none
deriving DecidableEq, Repr

/-- The taps of one window; the empty list is a window of zero taps. -/
abbrev Taps := List Word

/-- A shadow (R247), and a move in its cross-fade (R248): the window, its new start and its old start. -/
structure Shadow where
  window : Nat
  start : Nat
  oldStart : Nat
deriving DecidableEq, Repr

/-- The tone states of the canceller (R253). -/
inductive EchoTone where
  | enabled | nlpOff | disabled
deriving DecidableEq, Repr

/-- A block of samples between nodes (R271): the stamp of its first sample in ns with its time epoch, its rate, its samples against a full scale of
2²³ − 1, how many of them lead unsettled, its flags, and its epoch. -/
structure Block where
  stamp : Nat := 0
  tepoch : Nat := 0
  hz : Nat := 8000
  samples : List Int := []
  unsettled : Nat := 0
  clipped : Bool := false
  fading : Bool := false
  changed : Bool := false
  epoch : Nat := 0
deriving DecidableEq, Repr

/-- The signals of the instance that a channel's flow is working on: the line's samples, the near-end signal and its copy in the canceller's band, the
signal towards the network as the last node left it, the decoded signal, the signal towards the line and its copy, the line's output, and the
canceller's estimate; `loaded` once a node has read the handoff ring. A block without samples is a frame of zeros (R136). -/
structure Media where
  lineIn : Block := {}
  near : Block := {}
  nearBand : Block := {}
  up : Block := {}
  est : Block := {}
  dec : Block := {}
  far : Block := {}
  farBand : Block := {}
  lineOut : Block := {}
  loaded : Bool := false
deriving DecidableEq, Repr

/-- Sums over samples of the canceller (R243, R244, R262): the squares of the far-end reference, the near-end signal, e_f, e_b and the foreground
estimate, and the products of near-end signal and estimate. -/
structure EchoSums where
  x : Nat := 0
  y : Nat := 0
  f : Nat := 0
  b : Nat := 0
  h : Nat := 0
  yh : Int := 0
deriving DecidableEq, Repr

/-- The locator (R245): the decimated reference, newest first, R(l) and P_x(l) for each lag, and P_y. -/
structure Locator where
  xs : List Int := []
  r : List Int := []
  px : List Int := []
  py : Int := 0
deriving DecidableEq, Repr

/-- The NLP's state in each of its 16 bands (R251, R252): the gain in 2⁻¹⁶, near-end and residual power summed over the last 10 ms of adaptation,
newest first, far-end power of the last ms of the span and residual power of the last 2 s, newest first, and the noise estimate. -/
structure Nlp where
  gain : List Nat := List.replicate 16 65536
  erle : List (List Nat × List Nat) := []
  far : List (List Nat) := []
  res : List (List Nat) := []
  noise : List Nat := []
deriving DecidableEq, Repr

/-- The echo canceller of a channel (R233 to R262). `span` is the search span of its last node in ms, 0 before the first. `ref` is the far-end reference,
newest first, and `refEnd` the media instant in ns after its newest sample; `refBad` the samples until a line written as zero has left it. `acc` sums the
present ms, of which `inMs` samples have passed; `ms` holds the last ten ms, newest first, and `count` counts ms. `coh` is the coherence test of R244; `copies` and `resets` count the updates
of R243, `dtLeft` the samples of double-talk still to hold, `quiet` the samples of quiet (R254), `age` the samples since a shadow started and `idle`
those of them that SHADOW_MAX counts, `faded` those of a cross-fade. `erleMs` are P_y and P_f of the ms that R262 averages. `heard` holds for each ms of
the last node whether the background might adapt and whether double-talk stood, and `fillFar` the far-end level of the dossier (R259). -/
structure Echo where
  starts : List Nat := [0, 12, 24, 36]
  bgStarts : List Nat := [0, 12, 24, 36]
  fg : List Taps := [[], [], [], []]
  bg : List Taps := [[], [], [], []]
  shadow : Option Shadow := none
  fade : Option Shadow := none
  held : Nat := 0
  lastProp : Nat := 0
  tone : EchoTone := .enabled
  toneNext : Option EchoTone := none
  dt : Bool := false
  fill : Bool := false
  span : Nat := 0
  ref : List Int := []
  refEnd : Nat := 0
  refBad : Nat := 0
  refConv : List Int := []
  acc : EchoSums := {}
  inMs : Nat := 0
  ms : List EchoSums := []
  count : Nat := 0
  coh : Bool := false
  copies : Nat := 0
  resets : Nat := 0
  dtLeft : Nat := 0
  quiet : Nat := 0
  age : Nat := 0
  idle : Nat := 0
  faded : Nat := 0
  loc : Locator := {}
  erleMs : List (Nat × Nat) := []
  erle : Nat := 0
  heard : List (Bool × Bool) := []
  fillFar : Option Int := none
  nlp : Nlp := {}
deriving DecidableEq, Repr

/-- The history of one biquad stage (R276): its last two inputs and outputs, and the rounding error fed back. -/
structure Biquad where
  x1 : Int := 0
  x2 : Int := 0
  y1 : Int := 0
  y2 : Int := 0
  err : Int := 0
deriving DecidableEq, Repr

/-- The level detectors of a node (R288): the energy, peak and count of the present sub-block, those of the last sixteen, newest first, and the envelope. -/
structure Detector where
  energy : Nat := 0
  peak : Nat := 0
  count : Nat := 0
  subs : List (Nat × Nat) := []
  env : Nat := 0
deriving DecidableEq, Repr

/-- One RFE node's share of a channel's context (R271, R273, R280 to R290): whether its history is to start from zero (`fresh`), the
samples still to be unsettled, the detector values in 0.01 dBFS (none reads 0x8000), the synchronising reset it owes (target tick), which
swap of its profile it has taken in the current and in the previous epoch, the samples of a fade and those still to weigh, the cluster, profile and
bank of its last node, whether the engine was disabled for it, the STAMP, UNSETTLED and FLAGS of its last block, and the rates of its last node. `conv`, `vconv` and `band` are the histories of
the converters (R269, R272, R225), newest last, `casc` that of the cascade and `casc2` of the outgoing one during a fade, `phase` and `residue` those of the trim. -/
structure RfeDir where
  fresh : Bool := true
  settling : Nat := 0
  rms : Option Int := none
  peak : Option Int := none
  env : Option Int := none
  tick : Nat := 0
  done : Bool := false
  clips : Nat := 0
  syncDue : Option TickAt := none
  swapSeq : Nat := 0
  prevSeq : Nat := 0
  fadeLen : Nat := 0
  fadeLeft : Nat := 0
  used : Option (Nat × Nat × Bool) := none
  bypassed : Bool := false
  stamp : Nat := 0
  unsettled : Nat := 0
  flags : Nat := 0
  rates : Option (Nat × Nat) := none
  conv : List Int := []
  vconv : List Int := []
  band : List Int := []
  casc : List Biquad := []
  casc2 : List Biquad := []
  det : Detector := {}
  phase : Nat := 0
  residue : List Int := []
deriving DecidableEq, Repr

/-- A tone the detector holds on (R303, R307). -/
structure ToneOn where
  cls : ToneClass
  recv : Bool
  value : Nat
  reversals : Nat
  f1 : Nat
  f2 : Nat
  level : Nat
  stamp : Stamp
  revAt : Option Nat := none
deriving DecidableEq, Repr

/-- A component that a bin holds (R303, R304): its nominal frequency in 0.1 Hz, the powers of its last windows, newest first, and its floor; the windows
for which it has been present and then gone, the sums of its powers and frequencies over its last tone of `total` windows, and those of the last window;
its amplitudes of the last 20 ms, its steady amplitude, its onset, and the last instant at half the steady amplitude or above, in ns of media time; and
the greatest share of a window's power, in percent, that it has held since it came. -/
structure ToneTrack where
  nominal : Nat
  powers : List Nat := []
  floor : Nat := 0
  present : Nat := 0
  gone : Nat := 0
  total : Nat := 0
  sumPower : Nat := 0
  sumFreq : Nat := 0
  power : Nat := 0
  freq : Nat := 0
  amps : List Nat := []
  steady : Nat := 0
  onset : Option Nat := none
  last : Nat := 0
  share : Nat := 0
deriving DecidableEq, Repr

/-- How far the tone of a call-progress definition has followed its cadence (R306): whether an ON period runs, the instant in ns at which the present
period began, the periods that have matched one after the other, and the onset of the first matched cycle. -/
structure Cadence where
  def_ : Nat
  on : Bool := false
  from_ : Nat := 0
  steps : Nat := 0
  first : Nat := 0
deriving DecidableEq, Repr

/-- A segment of a SIT (R306): its component, its onset and last instant in ns, its mean frequency and its mean power. -/
structure SitSeg where
  nominal : Nat
  onset : Nat
  last : Nat
  freq : Nat
  power : Nat
deriving DecidableEq, Repr

/-- What the detector holds of one listening point (R297, R303): the last 10 ms of its signal, newest last, the media instant in ns after it, and its
bins; how long both signals of a data call have been quiet, in 0.1 ms (R310); the history of the converter to the detector's rate; and the first instant
heard after a restore (R319). For the classes that are sequences (R306): the cadences of the call-progress definitions, the segments of a SIT, the V.21
bits as runs of marks (true) and spaces with their lengths in samples, newest first, and the amplitudes of 2,100 Hz of the last 250 ms, one per window. -/
structure ToneEar where
  recv : Bool
  conv : List Int := []
  since : Option Nat := none
  win : List Int := []
  winEnd : Nat := 0
  bins : List ToneTrack := []
  quiet : Nat := 0
  cadences : List Cadence := []
  sit : List SitSeg := []
  runs : List (Bool × Nat) := []
  envelope : List Nat := []
deriving DecidableEq, Repr

/-- A tone being played (R316): definition, level of F1, cadence cycles asked for (0 until stopped) and played, whether it has started, and
how much of it has been generated, in 0.1 ms. -/
structure ToneGen where
  def_ : Nat
  level : Nat
  count : Nat
  played : Nat
  started : Bool
  pos : Nat := 0
deriving DecidableEq, Repr

/-- A change of a direction's tone that the next spawn takes (R155, R316, R318). -/
inductive ToneNext where
  | keep | stop | play (g : ToneGen)
deriving DecidableEq, Repr

/-- A received telephone event that the line direction regenerates (R314), or of the partner's that the network direction does (R315): its timestamp,
code, volume and reported duration in RTP units, its E bit, whether it is being played, how much of it has been generated, by how much of the present frame
its due instant lags, in 0.1 ms, and that instant in ns. -/
structure RxEvent where
  ts : Nat
  code : Nat
  volume : Nat
  duration : Nat
  ended : Bool
  playing : Bool
  pos : Nat := 0
  lead : Nat := 0
  at_ : Nat := 0
deriving DecidableEq, Repr

/-- A telephone event being sent (R313): its timestamp, code, volume, duration, end packets still to send, and whether it takes the
place of voice. -/
structure TxEvent where
  ts : Nat
  code : Nat
  volume : Nat
  duration : Nat
  ended : Bool
  endsLeft : Nat
  replaces : Bool
deriving DecidableEq, Repr

/-- A recording stream (R342 to R346); `conv` is the history of its rate converter (R273). -/
structure RecStream where
  content : Nat
  sid : Nat
  order : Nat
  seq : Nat := 0
  staged : Octets := []
  hz : Nat := 0
  startNs : Nat := 0
  nextNs : Option Nat := none
  blocks : Nat := 0
  resumed : Bool := false
  conv : List Int := []
deriving DecidableEq, Repr

/-- What a channel charges each resource in cycles per tick. -/
structure Charge where
  tile : Nat := 0
  ee : Nat := 0
  rfe : Nat := 0
  td : Nat := 0
  sram : Nat := 0
deriving DecidableEq, Repr

/-- What a partner's link node wrote for one input span (R109): its ticks and its block, which carries its epoch (R81). -/
structure Span where
  from_ : Nat
  to_ : Nat
  block : Block
deriving DecidableEq, Repr

/-- What a pull took (R193, R195, R208, R223): the voice and comfort-noise packets, the event packets, the frames due and found, those recovered from
the packet that follows, those missing without comfort noise, whether comfort noise stands at its end, the parts of a sample-based span, in ns of
due time, that no packet covers, whether a run beyond 60 ms has ended, and under CODEC 0 and G.711 the samples of the frame that packets carry. -/
structure Pulled where
  voice : List Pkt := []
  events : List Pkt := []
  need : Nat := 1
  got : Nat := 0
  fec : Nat := 0
  missing : Nat := 0
  noise : Bool := false
  gaps : List (Int × Int) := []
  back : Bool := false
  pcm : List (Option Int) := []
deriving DecidableEq, Repr

/-- An open channel: everything of its context in the home tile's data SRAM (R21, R22) and of its flow record. `live` is the parameter block of its
last spawned instance (R152), `awaits` that its takeover instance has not yet restored it (R452), and `shown` the statistics as its last statistics node left them (R157), where `stats` are those being counted.
Of its signals it keeps the last 10 ms of decoded output (R224), the history of the link's converter (R222), the AGC's gain in 0.001 dB and its measure of
the speech level in 0.01 dBm0 (R226), what the VAD decided of the frame, whether a REPLACE tone mutes a direction, line and network (R317), and whether
DTX has left the last frame unsent. `rxLast` is the timestamp of the received event that began last (R314), `netEvent` an event of the partner's that is
played towards the network (R315), and `txEvents` the events being sent (R313). -/
structure Channel where
  st : ChState
  owner : Nat
  params : Octets
  live : Octets := []
  template : Template
  phase : Nat
  home : Nat
  charge : Charge
  legs : Legs := {}
  pairNext : Option (Option Nat) := none
  active : Option Instance := none
  deferred : Option Instance := none
  migrate : Option Nat := none
  migrateBack : Option Nat := none
  rotateDue : Bool := false
  lastEpoch : Nat := 0
  catSeq : Nat := 0
  stats : Stats := {}
  shown : Stats := {}
  jb : Jb := {}
  pulled : Pulled := {}
  media : Media := {}
  echo : Echo := {}
  rfeIn : RfeDir := {}
  rfeOut : RfeDir := {}
  tonesOn : List ToneOn := []
  ears : List ToneEar := []
  speech : Option Bool := none
  tail : List Int := []
  linkConv : List Int := []
  mute : Bool × Bool := (false, false)
  silent : Bool := true
  restored : Bool := false
  awaits : Bool := false
  genLine : Option ToneGen := none
  genNet : Option ToneGen := none
  lineNext : ToneNext := .keep
  netNext : ToneNext := .keep
  rxEvent : Option RxEvent := none
  rxLast : Option Nat := none
  netEvent : Option RxEvent := none
  txEvents : List TxEvent := []
  recs : List RecStream := []
  vbd : Bool := false
  vbdNext : Option (Bool × Nat) := none
  lineQuiet : Option Nat := none
  resetDec : Bool := false
  resetEnc : Bool := false
  cmr : Option Nat := none
  agc : Int := 0
  agcLevel : Option Int := none
  tsOffset : Nat := 0
  cmrNext : Option Nat := none
  rotSec : Option Nat := none
  frame : Option Octets := none
  noise : Bool := false
  ring : List Span := []
  supplied : Bool := false
deriving DecidableEq, Repr

/-! ### The RFE's profile memory (spec/10) -/

/-- A swap of banks (R284, R285): the delivered-tick count of t0, FADE in ms, whether t0 has come, and the elapsed cycle of t0. -/
structure Swap where
  t0 : Nat
  fade : Nat
  begun : Bool
  since : Nat
deriving DecidableEq, Repr

/-- A cluster's copy of a filter profile (R274 to R285): its record, bank A and bank B as they now stand, and the swap state. -/
structure Profile where
  record : Octets
  bankA : Octets
  bankB : Octets
  active : Bool := false
  swap : Option Swap := none
  latched : Option Nat := none
  fade : Nat := 0
  seq : Nat := 0
  lostA : Bool := false
  lostB : Bool := false
deriving DecidableEq, Repr

/-- A synchronising reset that is pending (R287): target tick and selector. -/
structure SyncReq where
  target : TickAt
  sel : Nat
deriving DecidableEq, Repr

/-- What a cluster's engines hold beside their registers: the filter profiles of the current epoch that have changed since the epoch's bank
was loaded, those of the previous epoch, and the pending synchronising reset. -/
structure ClusterEng where
  profiles : List (Nat × Profile) := []
  prevProfiles : List (Nat × Profile) := []
  sync : Option SyncReq := none
deriving DecidableEq, Repr

/-! ### Sessions and packets (spec/06) -/

/-- A session entry (R161 to R163): the fields of its route record and its two crypto contexts, with the marks that say which direction's key is
installed or lost. Of the packets sent, firmware's RTCP (R174) knows their number and octets, and the timestamp and media stamp in ns of the last; of
those received, the last sender report's NTP middle bits with the instant in ns of its arrival, and what the last report counted as expected and as
received. -/
structure Session where
  chan : Nat := 0
  rotIdx : Nat := 0
  started : Bool := false
  neigh : Nat := 0
  addr : Nat := 0
  suite : Nat := 0
  srtcp : Bool := false
  latch : Bool := false
  checkSrc : Bool := false
  rtcpMux : Bool := false
  ssrcLock : Bool := false
  latched : Bool := false
  rot : Bool := false
  keyLost : Bool := false
  remoteIp : Nat := 0
  remotePort : Nat := 0
  localPort : Nat := 0
  rxSsrc : Word := 0
  ctx : CryptoCtx := {}
  rxSet : Bool := false
  txSet : Bool := false
  lostRx : Bool := false
  lostTx : Bool := false
  fetching : Bool := false
  mirrored : Nat := 0
  lastTs : Option Nat := none
  lastStamp : Nat := 0
  sentPkts : Nat := 0
  sentOcts : Nat := 0
  lsr : Nat := 0
  lsrAt : Option Nat := none
  expPrior : Nat := 0
  recvPrior : Nat := 0
deriving DecidableEq, Repr

/-- A port map entry (R164). -/
structure PortEntry where
  session : Nat
  rtcp : Bool
deriving DecidableEq, Repr

/-- A packet a packetise node has handed to the MPE (R176): its session, the channel's DSCP and TXQ, payload type, timestamp, marker,
payload, and the media stamp of its frame in ns. -/
structure EgPkt where
  session : Option Nat
  dscp : Nat
  txq : Nat
  pt : Nat
  ts : Nat
  marker : Bool
  payload : Octets
  stampNs : Nat
deriving DecidableEq, Repr

/-- What the MPE holds beside its registers (R160 to R170): the session table, the port map, the neighbour table, the next hop (local
address and IP) of each neighbour entry in use, the rotation cache, the packets to be sent, sessions whose channel has closed and that are
owed a BYE, and the packets passed to firmware in a second. -/
structure Mpe where
  sessions : List (Nat × Session) := []
  ports : List (Nat × PortEntry) := []
  neigh : List (Nat × BitVec 48) := []
  hops : List (Nat × (Nat × Nat)) := []
  rot : List (Nat × RotEntry) := []
  egress : List EgPkt := []
  byes : List Nat := []
  puntSec : Nat := 0
  puntCount : Nat := 0
deriving DecidableEq, Repr

/-! ### The Ledger (spec/03) -/

/-- An event held in the reorder buffer (R90): the elapsed cycle at which its wait expires. -/
structure Held where
  ev : LedgerEvent
  due : Nat
deriving DecidableEq, Repr

/-- The Ledger (R88 to R95): the reorder buffer, the entries (index and octets), the key of the last entry, the loss being counted. -/
structure Ledger where
  buf : List Held := []
  entries : List (Nat × Octets) := []
  last : Option LedgerEvent := none
  lostRun : Nat := 0
  export_ : Octets := []
  exportAt : Option Nat := none
  exportStamp : Option Stamp := none
  exportSeq : Nat := 0
  out : List (Nat × Octets) := []
deriving DecidableEq, Repr

/-! ### Faults (spec/18) -/

/-- A block reset that an occurrence's mask has asked for (R492, R493): the source, and the resource of a real occurrence of 0x084 or
0x086 with its cluster. -/
structure BlockDue where
  src : Nat
  res : Option (Nat × Resource)
deriving DecidableEq, Repr

/-- What the fault collector holds beside its registers (R488 to R504): block resets and the chip reset asked for and not yet taken,
occurrence entries written in a second of the stamp by source, sources whose last rise wrote its entry, the fault records (newest first),
the last-gasp record, the storm count with the cycle of the last fault reset, the cycle since when each trap bit is set, the cycle of the
last kick, the half of the pair's heartbeat, and the injections that take effect next. -/
structure Flt where
  due : List BlockDue := []
  chip : Option Nat := none
  second : List (Nat × Nat × Nat) := []
  entered : List Nat := []
  log : List Octets := []
  gasp : Octets := []
  storm : Nat := 0
  lastFaultReset : Option Nat := none
  trapSince : List (Nat × Nat) := []
  kickAt : Option Nat := none
  pairFlip : Bool := false
  forced : List Nat := []
deriving DecidableEq, Repr

/-! ### Network ports (spec/14) -/

/-- A frame in a MAC's transmit queue (R388): queue, octets without FCS, a stamp request's identifier, and one-step insertion. -/
structure TxFrame where
  q : Nat
  octets : Octets
  stampId : Option Nat := none
  insert : Bool := false
deriving DecidableEq, Repr

/-- A frame held in a MAC's receive buffer. -/
structure RxHeld where
  octets : Octets
  len : Nat
  stampNs : Nat
deriving DecidableEq, Repr

/-- What a MAC holds beside its registers (R377 to R393). -/
structure Mac where
  rx : List RxHeld := []
  tx : List TxFrame := []
  pauseUntil : Option Nat := none
  xoffAt : Option Nat := none
  uncorrAt : Option Nat := none
deriving DecidableEq, Repr

/-- What a lane holds beside its registers: the transmit polarity of the next attempt (R371), and when its FEC last failed. -/
structure Lane where
  txInv : Bool := false
  failedAt : Option Nat := none
deriving DecidableEq, Repr

/-! ### TDM highways (spec/12) -/

/-- What a highway holds beside its registers: the elapsed cycle of the loss that stands, frame-sync edges in a row that came on time
(R335, R336), the stamps in ns of the FS edges captured over the 128 ms of the line memory, newest first (R330, R331), and for each slot group's first
slot the end in ns of the last span placed in it (R332). -/
structure Tdm where
  lostAt : Option Nat := none
  fsRun : Nat := 0
  edges : List Nat := []
  ends : List (Nat × Nat) := []
deriving DecidableEq, Repr

/-! ### The archive engine (spec/13) -/

/-- A closed block waiting for the compressor (R344, R362), or, with `remote`, a finished block that a device of the hierarchy sent (R345). -/
structure ArcJob where
  octets : Octets
  content : Nat
  sid : Nat
  seq : Nat
  order : Nat
  stamp : Stamp
  end_ : Bool
  resumed : Bool
  chan : Option Nat
  remote : Bool := false
deriving DecidableEq, Repr

/-- A 64-octet word of a packing FIFO with its valid octets (R357), whether it ends a block, the channel that block records, and whether
it is one of the zeros owed after a MARK_LOST (R355), and whether it fails parity when it is popped (R361). -/
structure FifoWord where
  octets : Octets
  blockEnd : Bool
  chan : Option Nat := none
  zero : Bool := false
  bad : Bool := false
deriving DecidableEq, Repr

/-- A posted host buffer (R352) and the octets written into it. -/
structure SinkBuf where
  addr : Nat
  len : Nat
  used : Nat
deriving DecidableEq, Repr

/-- A sink with its compressor job and output FIFO (R350 to R360). `waiting` are words of the block in compression that the FIFO
withholds, `mark` the words of that block still in the FIFO, and `owed` the zeros due after a MARK_LOST. -/
structure Sink where
  jobs : List ArcJob := []
  job : Option ArcJob := none
  fifo : List FifoWord := []
  waiting : List FifoWord := []
  marked : Nat := 0
  markLost : Bool := false
  bufs : List SinkBuf := []
  heldAt : Option Nat := none
  lastEnd : Option Nat := none
deriving DecidableEq, Repr

/-- The archive engine (R342 to R366). -/
structure Arc where
  sinks : List (Nat × Sink) := []
  remote : List (Nat × Octets) := []
deriving DecidableEq, Repr

/-! ### The hierarchy (spec/16) -/

/-- A device of the hierarchy plan (R430). -/
structure PlanDev where
  hid : Nat
  role : Nat
  serial : BitVec 128
deriving DecidableEq, Repr

/-- The hierarchy plan (R430): its devices, and the manager active at boot. -/
structure Plan where
  devs : List PlanDev
  active : Nat
deriving DecidableEq, Repr, Inhabited

/-- A frame that waits for credit on a lane (R435). -/
structure RonQueued where
  vl : Nat
  type : Nat
  dst : Nat
  aux : Nat
  payload : Octets
deriving DecidableEq, Repr

/-- The keys of a lane (R439): AES-256-GCM key and salt for each direction. -/
structure LinkKeys where
  txKey : Octets
  txSalt : Octets
  rxKey : Octets
  rxSalt : Octets
deriving DecidableEq, Repr

/-- What a Ronong lane holds beside its registers (R435 to R440, R450). `rolls` counts how often SEQ has wrapped on each VL; of a key agreement it holds
this side's ECDH secret, the contents of the HELLO sent and of the partner's, the keys in force and those before the last change of KEY_PHASE, with
the cycle of that change. -/
structure RonLane where
  rolls : List Nat := [0, 0, 0, 0, 0, 0, 0, 0]
  secret : Nat := 0
  mine : Octets := []
  theirs : Octets := []
  keys : Option LinkKeys := none
  oldKeys : Option LinkKeys := none
  phaseAt : Option Nat := none
  sent : List Nat := [0, 0, 0, 0, 0, 0, 0, 0]
  freed : List Nat := [0, 0, 0, 0, 0, 0, 0, 0]
  seen : List Nat := [0, 0, 0, 0, 0, 0, 0, 0]
  limits : List Nat := []
  helloSent : Bool := false
  badRun : Nat := 0
  heardAt : Option Nat := none
  peer : Option HbMsg := none
  lost : Bool := false
  lostAt : Nat := 0
  downAt : Nat := 0
  keyedAt : Nat := 0
  calBad : Bool := false
  queue : List RonQueued := []
deriving DecidableEq, Repr

/-- A frame sent that the receiver is to acknowledge (R433). -/
structure AckWait where
  hid : Nat
  type : Nat
  seq : Nat
deriving DecidableEq, Repr

/-- A dossier as stored (R444), with the spawn tick it names and the time epoch in which it came (R68). -/
structure Stored where
  tepoch : Nat
  spawn : Nat
  octets : Octets
deriving DecidableEq, Repr

/-- The takeover in progress on the reserve, or on CL15 (R449 to R454, R459). -/
structure Takeover where
  hid : Nat
  cluster : Option Nat
  restoring : Bool
  handback : Option TickAt
deriving DecidableEq, Repr

/-- The hierarchy (R429 to R463). Keys of the dossier and catalogue stores are global channel IDs; `activeHid` is the manager last heard
ACTIVE, or named so by the plan; `replay` holds each device's records with the cycle of their arrival; `dedup` the devices whose egress is
deduplicated with the cycle of S, 0 before it has come; `got` the channels whose dossier has come in the present second, of which `gotFull`
tells that it was observed from its start; `staging` a staged section's TYPE and payload with its LAST mark, and `pieces` blocks that are
arriving in parts, by lane; `inherited` tells that this manager became active after another, so that records of channels opened before may not have
reached it; `held` are records of channels whose takeover is not complete (R212). -/
structure Ron where
  plan : Option Plan := none
  planBad : Bool := false
  active : Bool := false
  activeHid : Nat := 0
  hbKickAt : Option Nat := none
  lanes : List (Nat × RonLane) := []
  acks : List AckWait := []
  dossiers : List (Nat × Stored) := []
  catalogue : List (Nat × Octets) := []
  stagedDossiers : List (Nat × Stored) := []
  stagedRecords : List (Nat × Octets) := []
  got : List Nat := []
  gotFull : Bool := false
  takeover : Option Takeover := none
  queued : List Nat := []
  fenced : Bool := false
  inherited : Bool := false
  held : List MediaRec := []
  switchAt : Option Nat := none
  replay : List (Nat × List (Nat × MediaRec)) := []
  covers : List (Nat × Nat) := []
  dedup : List (Nat × Nat) := []
  staging : Option (Nat × Octets × Bool) := none
  pieces : List (Nat × Octets) := []
deriving DecidableEq, Repr

/-! ### The host interface (spec/05, spec/17) -/

/-- A command that has been taken and not completed (R142, R143, R146): what its completion needs, whether it still holds its slot, an
address its result goes to, the lane and AUX of the manager for a command that arrived in a COMMAND frame, and its completion once it
has ended but waits behind an earlier command of the same channel and ring, and whether that completion is to be discarded (R471). -/
structure PendingCmd where
  id : Nat
  ring : Nat
  evr : Nat
  opcode : Nat
  tag : Word
  chan : Option Nat
  field : Nat
  slot : Bool
  addr : Nat := 0
  dmaOk : Bool := true
  aux : Nat := 0
  origin : Option (Nat × Nat) := none
  done : Option Octets := none
  discard : Bool := false
deriving DecidableEq, Repr

/-- What an event ring holds beside its registers (R143, R147, R469). -/
structure EvRing where
  reserved : Nat := 0
  gap : Bool := false
  unsignalled : Nat := 0
  firstAt : Option Nat := none
deriving DecidableEq, Repr

/-- The host interface. -/
structure Pci where
  cmds : List PendingCmd := []
  nextId : Nat := 0
  rings : List (Nat × EvRing) := []
  latchFw : List (Nat × Word) := []
  latchHost : List (Nat × Word) := []
  latchNd : List (Nat × Word) := []
deriving DecidableEq, Repr

/-! ### The Night Desk (spec/17) -/

/-- Where a Night Desk request came from, and to: Ethernet address, VLAN, family, the addresses and the port. -/
structure NdPeer where
  mac : Octets
  vlan : Option Nat
  v6 : Bool
  own : Nat
  ip : Nat
  port : Nat
deriving DecidableEq, Repr

/-- A request in the Night Desk's queue (R477, R482). -/
structure NdReq where
  peer : NdPeer
  opcode : Nat
  auth : Bool
  bootId : Octets
  seq : Nat
  body : Octets
deriving DecidableEq, Repr

/-- The Night Desk (R473 to R482): the settings record and whether both its copies failed; BOOT_ID and the SEQ last accepted; the requests
that wait, the one in service first; `cause` is BOOT.CAUSE as it stood at the last reset (R479); the requests processed in a second; in half duplex the attempts of the frame at the head of the queue, the
cycle at which the deferral or the back-off ends and whether the frame has been counted as deferred; whether a PHY answered; whether a
SELF_TEST is in service, and its record once it has ended. -/
structure Night where
  cause : Nat := 0
  record : Option Octets := none
  recordLost : Bool := false
  bootId : Octets := [0, 0, 0, 0, 0, 0, 0, 0]
  lastSeq : Option Nat := none
  queue : List NdReq := []
  sec : Nat := 0
  count : Nat := 0
  attempts : Nat := 0
  defer : Option Nat := none
  deferred : Bool := false
  backoff : Option Nat := none
  phyFound : Bool := false
  testBody : Option Octets := none
  testing : Bool := false
  mac : Mac := {}
deriving DecidableEq, Repr

/-! ### Power (spec/19) -/

/-- What the power manager holds beside its registers (R515 to R529): domains held in reset after a Night Desk switch-on (R481), domains
that drain with the elapsed cycle at which their wait began, domains that power up with the cycle of their first clock edge, droop firings
by domain since the last tick, whether a droop request waits for the AVS loop, the cycle of the last firing, domains whose clock droop
halves with the cycle of the hold's end, clusters halved for lack of slack, misses in a row of the regulator and of telemetry, sensors that read apart from every other with the cycle since when, the cycle of the AON fast oscillator's
last work while it runs, and the thermal shutdown. -/
structure Pwr where
  held : List Nat := []
  draining : List (Nat × Nat) := []
  waking : List (Nat × Nat) := []
  firings : List (Nat × Nat) := []
  droopReq : Bool := false
  droopAt : Option Nat := none
  halted : List (Nat × Nat) := []
  slackLow : List Nat := []
  avsMiss : Nat := 0
  pmbMiss : Nat := 0
  frozen : Bool := false
  strange : List (Nat × Nat) := []
  fastOsc : Option Nat := none
  shutdown : Bool := false
deriving DecidableEq, Repr

/-! ### Tests (spec/20) -/

/-- A test in progress (R532 to R543). -/
structure Test where
  key : TestKey
  m : TestMeasure
  params : Octets
  start : Stamp
  abandon : Nat
  cmd : Option Nat
  night : Bool
deriving DecidableEq, Repr

/-! ### What leaves the device -/

/-- What a command makes the device send, drive or return. -/
inductive Emission where
  /-- A DMA write of a channel (R470). -/
  | dma (ch : Nat) (addr : Nat) (octets : Octets)
  /-- An MSI-X message (R469). -/
  | msix (vector : Nat)
  /-- An Ethernet frame of MAC e (8 is the Night Desk's): octets before the FCS, and whether the FCS is sent as computed (R381, R392). -/
  | frame (mac : Nat) (octets : Octets) (good : Bool)
  /-- Remote fault, which the Reconciliation Sublayer of MAC e sends at a local fault (R377). -/
  | remoteFault (mac : Nat)
  /-- A packet passed to firmware or to the time base (R166, R174), with the session of an RTCP packet. -/
  | punt (toTime : Bool) (session : Option Nat) (octets : Octets)
  /-- A Ronong frame (R432): lane, VL, TYPE and payload. -/
  | ronong (lane : Nat) (vl : Nat) (type : Nat) (octets : Octets)
  /-- A Night Desk response (R477). -/
  | night (status : Nat) (opcode : Nat) (seq : Nat) (auth : Bool) (body : Octets)
  /-- The value that a register read returns. -/
  | read (by_ : Requester) (addr : Nat) (value : Nat)
  /-- A write or an erase of a flash slot (R58, R480). -/
  | flash (slot : Nat) (off : Nat) (octets : Octets)
  /-- A command sent to the flash (R39, R42, R43): its opcode, and the mode in which it is sent. -/
  | flashCmd (opcode : Nat) (mode : FlashMode)
  | erase (slot : Nat)
  /-- What a TDM-out node places in a highway's slots (R327, R330): the highway, the first slot, the frame boundary in ns at which the span begins, and for
  each frame the octets of the group's slots. -/
  | line (h : Nat) (slot : Nat) (ns : Nat) (frames : List Octets)
  /-- The code that a highway drives in every slot that no leg drives (R332). -/
  | idle (h : Nat) (code : Byte)
  /-- A TDM span sent as the silence code (R333). -/
  | silence (h : Nat) (chan : Nat)
  /-- A level on PPS_OUT (R417), or on the error pair as FLT_P (R498). -/
  | pps (high : Bool)
  | pair (p : Bool)
deriving DecidableEq, Repr

end Sys2Proof.Machine
end

