-- ==== Sys2Proof/Machine/State.lean ====
section
/-! DEFINITION. The machine's state, its faults and refusals, and its state at reset. -/

namespace Sys2Proof.Machine

/-- Why the machine stops. -/
inductive Fault where
  /-- Raised by the ring opcodes (through `takeRing`) when the PARAMS octets of the descriptor that the command brings are not
  48 octets long, so that no descriptor of R141 can have brought them. Safe: no sender can make such a command. -/
  | malformedDescriptor
deriving DecidableEq, Repr

/-- Why the machine has no meaning for a command. -/
inductive Refusal where
  /-- Answered by an arm of `exec` whose meaning has not been written; the string is the row's mnemonic. Safe. -/
  | notModelled (mnemonic : String)
deriving DecidableEq, Repr

/-- Everything of the device but its fuses and its queue of commands. `regs` is the register file of BAR0 (R544): the registers whose
value differs from the reset value of their table, by rising address; every register field the manual gives lies there, and the other
fields hold what the manual gives the units beside their registers. `cycles` counts elapsed cycles of the 500 MHz clock since power was
applied, `gcycle` the GDU cycles in which something met the GDU, and `free` counts the free values drawn. -/
structure Dev where
  regs : List (Nat × Word) := []
  cycles : Nat := 0
  gcycle : Nat := 0
  free : Nat := 0
  boot : Boot := {}
  time : TimeBase := {}
  epochs : Epochs := {}
  gdu : List (Nat × ClusterGdu) := []
  eng : List (Nat × ClusterEng) := []
  consol : Consol := {}
  chans : List (Nat × Channel) := []
  mpe : Mpe := {}
  macs : List (Nat × Mac) := []
  lanes : List (Nat × Lane) := []
  tdm : List (Nat × Tdm) := []
  arc : Arc := {}
  ledger : Ledger := {}
  flt : Flt := {}
  ron : Ron := {}
  pci : Pci := {}
  night : Night := {}
  pwr : Pwr := {}
  tests : List Test := []
  lostSets : List Nat := []
  reloads : List (Nat × Nat) := []
  loads : List (Nat × Nat) := []
  tileMem : List Host.Cell := []
  tileUsed : List Nat := []
  once : List (Nat × Nat) := []
  shorts : List OutPin := []
  outbox : List Emission := []
deriving DecidableEq, Repr

/-- The state of the machine: the device, its fuses, and the commands that wait, first in first out. -/
structure State where
  dev : Dev := {}
  fuses : Fuses := {}
  pending : List Instr := []
deriving DecidableEq, Repr

/-- The device with power applied and PORST_N low: in power-on reset, phase 0 (R34, R36). Every register is at its reset value and every
fuse is as made. -/
def State.reset : State := {}

end Sys2Proof.Machine
end

