-- ==== Sys2Proof/Machine/Ops.lean ====
section
/-! DEFINITION. The named operations on the device: keyed lists, the register file and its map, time, roles, and what is sent out. -/

namespace Sys2Proof.Machine

/-! ### Lists by key, in rising order of the key -/

/-- The value at key `k`. -/
def kvGet {α : Type} (l : List (Nat × α)) (k : Nat) : Option α := (l.find? (fun p => p.1 == k)).map (·.2)

/-- `l` with `v` at key `k`. -/
def kvSet {α : Type} (l : List (Nat × α)) (k : Nat) (v : α) : List (Nat × α) :=
  match l with
  | [] => [(k, v)]
  | (j, w) :: r => if k < j then (k, v) :: (j, w) :: r else if k = j then (k, v) :: r else (j, w) :: kvSet r k v

/-- `l` without key `k`. -/
def kvDel {α : Type} (l : List (Nat × α)) (k : Nat) : List (Nat × α) := l.filter (fun p => p.1 != k)

/-- `l` with the value at `k`, or `d` where there is none, changed by `f`. -/
def kvMod {α : Type} (l : List (Nat × α)) (k : Nat) (d : α) (f : α → α) : List (Nat × α) := kvSet l k (f ((kvGet l k).getD d))

/-- Sparse storage in canonical form: rising addresses, and no entry equal to what an unlisted address reads as (`d`). -/
def sparseSet {α : Type} [BEq α] (d : α) (l : List (Nat × α)) (a : Nat) (v : α) : List (Nat × α) :=
  if v == d then kvDel l a else kvSet l a v

/-! ### The register map (R544, R548) -/

/-- The block, the unit and the offset at a BAR0 address. -/
def locate (a : Nat) : Option (RegBlock × Nat × Nat) :=
  let o := a % 0x10000
  match a / 0x10000 with
  | 0x00 => some (.glb, 0, o)
  | 0x01 => some (.pwr, 0, o)
  | 0x02 => if o < 0x8000 then some (.flt, 0, o) else some (.src, (o - 0x8000) / 0x20, (o - 0x8000) % 0x20)
  | 0x03 => some (.ldg, 0, o)
  | 0x04 => some (.tb, 0, o)
  | 0x05 => some (.gdu, 0, o)
  | 0x06 => some (.boot, 0, o)
  | 0x07 => some (.ctl, 0, o)
  | 0x30 => some (.sec, 0, o)
  | 0x31 => if o < 0x8000 then some (.mac, o / 0x1000, o % 0x1000) else none
  | 0x32 => some (.sds, o / 0x1000, o % 0x1000)
  | 0x33 => if o < 0x8000 then some (.sds, 16 + o / 0x1000, o % 0x1000) else none
  | 0x34 => some (.ron, 0, o)
  | 0x35 => some (.pci, 0, o)
  | 0x36 => if o < 0x800 then some (.tdm, o / 0x100, o % 0x100) else none
  | 0x37 => some (.arc, 0, o)
  | 0x38 => some (.ndk, 0, o)
  | p =>
    if 0x10 ≤ p ∧ p < 0x20 then
      if o < 0x2000 then some (.cl, p - 0x10, o)
      else if o < 0x6000 then some (.tile, 16 * (p - 0x10) + (o - 0x2000) / 0x400, (o - 0x2000) % 0x400)
      else if o < 0x7000 then some (.ee, p - 0x10, o - 0x6000)
      else if o < 0x8000 then some (.rfe, p - 0x10, o - 0x7000)
      else if o < 0x9000 then some (.td, p - 0x10, o - 0x8000)
      else none
    else if 0x20 ≤ p ∧ p < 0x30 then some (.mpe, 0, a - 0x200000)
    else none

/-- How far apart the instances of a row lie: a 64-bit counter takes two words. -/
def RegRow.step (r : RegRow) : Nat := if r.rc64 then max r.stride 8 else r.stride

/-- The row holds offset `o`; for a 64-bit counter, in either word. -/
def RegRow.has (r : RegRow) (o : Nat) : Bool :=
  decide (r.off ≤ o) && decide ((o - r.off) / r.step < r.count) &&
    ((o - r.off) % r.step == 0 || (r.rc64 && (o - r.off) % r.step == 4))

/-- Which word of a 64-bit counter `o` names: true for the high word. -/
def RegRow.isHigh (r : RegRow) (o : Nat) : Bool := r.rc64 && (o - r.off) % r.step == 4

/-- The block sources of the lists that R485 names, with the default mask of each: INT 1, TRAP 2, BLOCK_RESET 4, CHIP_RESET 8, PAIR 16
(R486, R487, R132, R188, R266, R295, R322, R340, R365, R395, R426, R462, R483); none for a number that is not produced. -/
def sourceMask (n : Nat) : Option Nat :=
  if n < 0x40 then
    match n with
    | 0x00 => some 17 | 0x01 => some 1 | 0x02 => some 1 | 0x03 => some 25 | 0x04 => some 1 | 0x08 => some 27 | 0x09 => some 27
    | 0x0A => some 17 | 0x0B => some 1 | 0x0C => some 1 | 0x0D => some 1 | 0x10 => some 1 | 0x11 => some 1 | 0x12 => some 17
    | 0x13 => some 1 | 0x14 => some 0 | 0x15 => some 1 | 0x16 => some 1 | 0x17 => some 17 | 0x18 => some 1 | 0x19 => some 1
    | 0x1A => some 17 | 0x1B => some 1 | 0x1C => some 17 | 0x20 => some 1 | 0x21 => some 17 | 0x22 => some 1 | 0x24 => some 19
    | 0x25 => some 1 | 0x26 => some 1 | 0x28 => some 1 | 0x2A => some 1 | _ => none
  else if n < 0x80 then
    match n with
    | 0x40 => some 3 | 0x41 => some 1 | 0x42 => some 1 | 0x43 => some 1 | 0x44 => some 0 | 0x45 => some 1 | 0x46 => some 1
    | 0x47 => some 1 | 0x48 => some 0 | 0x49 => some 1 | 0x4A => some 0 | 0x4B => some 0 | 0x4C => some 1 | _ => none
  else if n < 0xA0 then
    match n with
    | 0x80 => some 3 | 0x81 => some 0 | 0x82 => some 0 | 0x83 => some 0 | 0x84 => some 5 | 0x85 => some 1 | 0x86 => some 7
    | 0x87 => some 3 | 0x88 => some 1 | 0x89 => some 1 | 0x8A => some 1 | 0x8B => some 0 | 0x8C => some 1 | _ => none
  else if n < 0x100 then
    match n with
    | 0xA0 => some 0 | 0xA1 => some 0 | 0xA2 => some 1 | 0xA3 => some 0 | 0xA4 => some 0 | 0xA5 => some 0 | 0xB0 => some 1
    | 0xB1 => some 0 | 0xB2 => some 1 | 0xB3 => some 1 | 0xC0 => some 25 | 0xC1 => some 0 | 0xC2 => some 27 | 0xC3 => some 25
    | 0xC4 => some 1 | 0xC5 => some 0 | 0xC6 => some 0 | 0xC7 => some 1 | 0xC8 => some 1 | 0xC9 => some 1 | 0xCA => some 1
    | 0xCB => some 1 | 0xCC => some 1 | 0xD0 => some 1 | 0xD1 => some 1 | 0xD2 => some 1 | 0xD3 => some 0 | 0xD4 => some 1
    | _ => none
  else if n < 0x200 then some 1
  else if n < 0x300 then
    match n % 16 with
    | 0 => some 5 | 1 => some 1 | 2 => some 5 | 3 => some 7 | 4 => some 19 | 5 => some 1 | _ => none
  else if n < 0x340 then
    match n with
    | 0x300 => some 1 | 0x301 => some 1 | 0x302 => some 0 | 0x303 => some 0 | 0x304 => some 1 | 0x305 => some 0 | 0x306 => some 0
    | 0x307 => some 0 | 0x308 => some 0 | 0x309 => some 0 | 0x30A => some 1 | 0x30B => some 0 | 0x30C => some 1 | 0x30D => some 7
    | _ => none
  else if n < 0x368 then (if 0x358 ≤ n ∧ n < 0x360 then some 0 else some 1)
  else if n < 0x388 then none
  else if n < 0x398 then some 1
  else if n < 0x3C0 then
    match n with
    | 0x3A0 => some 7 | 0x3A1 => some 1 | 0x3A2 => some 17 | 0x3A3 => some 1 | 0x3A4 => some 19 | 0x3A5 => some 1 | 0x3A7 => some 1
    | 0x3A8 => some 0 | 0x3A9 => some 1 | 0x3AB => some 1 | _ => none
  else if n < 0x3D0 then some 1
  else if n < 0x3D8 then some 0
  else if n = 0x3D8 then some 1
  else if 0x3E0 ≤ n ∧ n < 0x3E7 then some (if n = 0x3E0 then 5 else 1)
  else if n = 0x3E7 then some 0
  else none

/-- The source has a live condition (R486 to R488, and the chapters that say so). -/
def hasLive (n : Nat) : Bool :=
  [0x001, 0x002, 0x004, 0x008, 0x009, 0x00A, 0x00B, 0x017, 0x020, 0x043, 0x044, 0x045, 0x047, 0x0D0, 0x0D1, 0x3A3].contains n ||
    (decide (0x100 ≤ n) && decide (n < 0x200)) || (decide (0x200 ≤ n) && decide (n < 0x300) && decide (n % 16 < 3)) ||
    (decide (0x348 ≤ n) && decide (n < 0x350)) || (decide (0x358 ≤ n) && decide (n < 0x360)) ||
    (decide (0x3C0 ≤ n) && decide (n < 0x3D0))

/-- Default credits of the eight virtual lanes (R435). -/
def defaultCredit : List Nat := [64, 512, 2048, 512, 256, 704, 0, 0]

/-- The eight words of the default power-profile record (R520, R531). -/
def defaultPower : List Nat := [0x08142828, 0x03520226, 0x03E83C1E, 0x003C1E14, 0x00004050, 0, 0, 0]

/-- The reset values that differ from register to register of one row: `CLn.INFO`, the source masks, the power profile, the alias table and
the credits. -/
def resetOf (b : RegBlock) (unit o : Nat) (r : RegRow) : Nat :=
  match b with
  | .cl => if o = 0 then unit else r.reset
  | .src => if o = 0 then (match sourceMask unit with | some m => 0x80000000 + m | none => 0) else r.reset
  | .pwr => if 0x200 ≤ o ∧ o < 0x220 then defaultPower.getD ((o - 0x200) / 4) 0 else r.reset
  | .ron =>
    if 0x40 ≤ o ∧ o < 0x80 then (o - 0x40) / 4
    else if 0x80 ≤ o ∧ o < 0xA0 then defaultCredit.getD ((o - 0x80) / 4) 0
    else r.reset
  | _ => r.reset

/-- A register as its table gives it. -/
structure RegInfo where
  block : RegBlock
  unit : Nat
  off : Nat
  row : RegRow
deriving DecidableEq, Repr

/-- The register at a BAR0 address; none at a reserved address (R544). `MACn.GROUP` exists on E0 and E4 alone (R547). -/
def regInfo (a : Nat) : Option RegInfo :=
  match locate a with
  | none => none
  | some (b, u, o) =>
    if b = .mac ∧ o = 0xC ∧ u ≠ 0 ∧ u ≠ 4 then none
    else ((regRows b).find? (·.has o)).map (fun r => ⟨b, u, o, r⟩)

/-- The value that a register has at reset. -/
def regReset (a : Nat) : Word :=
  match regInfo a with
  | none => 0
  | some i => BitVec.ofNat 32 (resetOf i.block i.unit i.off i.row)

/-- The value a register holds. -/
def Dev.reg (s : Dev) (a : Nat) : Word := (kvGet s.regs a).getD (regReset a)

/-- The register file with `w` in the register at `a`. -/
def regsPut (l : List (Nat × Word)) (a : Nat) (w : Word) : List (Nat × Word) := sparseSet (regReset a) l a w

/-- The device with `w` in the register at `a`. -/
def Dev.setReg (s : Dev) (a : Nat) (w : Word) : Dev := { s with regs := regsPut s.regs a w }

/-- A field of a register. -/
def Dev.rfld (s : Dev) (a lo len : Nat) : Nat := fld (s.reg a) lo len

/-- A bit of a register. -/
def Dev.rbit (s : Dev) (a i : Nat) : Bool := bit (s.reg a) i

/-- The device with a field of a register written. -/
def Dev.setFld (s : Dev) (a lo len v : Nat) : Dev := s.setReg a (putFld (s.reg a) lo len v)

/-- The device with a bit of a register written. -/
def Dev.setBit (s : Dev) (a i : Nat) (b : Bool) : Dev := s.setReg a (putBit (s.reg a) i b)

/-- The device with a whole register written from a number. -/
def Dev.setNat (s : Dev) (a v : Nat) : Dev := s.setReg a (BitVec.ofNat 32 v)

/-- A 32-bit counter up by `n`, saturating at 0xFFFF_FFFF. -/
def Dev.bump (s : Dev) (a : Nat) (n : Nat := 1) : Dev := s.setNat a (sat 32 ((s.reg a).toNat + n))

/-- A 64-bit counter of two words up by `n`, modulo 2⁶⁴. -/
def Dev.bump64 (s : Dev) (a : Nat) (n : Nat := 1) : Dev :=
  let v := ((s.reg a).toNat + 2 ^ 32 * (s.reg (a + 4)).toNat + n) % 2 ^ 64
  (s.setNat a (v % 2 ^ 32)).setNat (a + 4) (v / 2 ^ 32)

/-- A field that keeps the greatest value it has met. -/
def Dev.maxFld (s : Dev) (a lo len v : Nat) : Dev := if s.rfld a lo len < v then s.setFld a lo len v else s

/-- A register taken within limits: smaller values as the least, larger as the greatest. -/
def Dev.within (s : Dev) (a lo len least most : Nat) : Nat := max least (min most (s.rfld a lo len))

/-! ### Power domains (R511, R514) -/

/-- The domain of a block's registers (R15, R511). The Ronong logic lies in both of its domains; its registers go with the domain of the
lane for a lane's own, and otherwise are off when both are off. -/
def regDomains (i : RegInfo) : List Nat :=
  match i.block with
  | .glb | .pwr | .flt | .src | .ndk => [0]
  | .ldg | .gdu => [17]
  | .tb => [26]
  | .boot => [29]
  | .ctl => [25]
  | .cl | .ee | .rfe | .td => [1 + i.unit]
  | .tile => [1 + i.unit / 16]
  | .mpe => [18]
  | .sec => [19]
  | .mac => [if i.unit < 4 then 20 else 21]
  | .sds => [if i.unit < 4 then 20 else if i.unit < 8 then 21 else if i.unit < 16 then 22 else 23]
  | .ron => if i.off < 0x100 then [22, 23] else if (i.off - 0x100) / 0x40 < 8 then [22] else [23]
  | .pci => [24]
  | .tdm => [27]
  | .arc => [28]

/-- The state of a cluster as `GDU.CL_STATE` gives it: 0 OFF, 1 RETENTION, 2 CLOCK_GATED, 3 ACTIVE. -/
def Dev.clState (s : Dev) (n : Nat) : Nat := s.rfld Reg.gduClState (2 * n) 2

/-- Domain `d` is not OFF, and not held in reset after a Night Desk switch-on (R481). -/
def Dev.domainOn (s : Dev) (d : Nat) : Bool := s.rbit Reg.pwrDomainOn d && !s.pwr.held.contains d

/-- The registers of domain `d` are served: it is not off, and, for a cluster, not in RETENTION (R548). -/
def Dev.domainServed (s : Dev) (d : Nat) : Bool :=
  s.domainOn d && (if 1 ≤ d ∧ d ≤ 16 then decide (2 ≤ s.clState (d - 1)) else true)

/-- The register's block answers writes. -/
def Dev.served (s : Dev) (i : RegInfo) : Bool := (regDomains i).any s.domainServed

/-- Bits of a row that keep their value through power-off of the domain (R514). -/
def RegRow.kept (r : RegRow) : Nat := r.rw ||| r.rws ||| r.rwl

/-- The bits of a register that outlive the power of its domain whatever their access: `BOOT.CAUSE` keeps its bits until it is read (R34), the strap
latch and the fuses of `BOOT.STRAP`, `BOOT.LC`, the role in `RON.STATUS` and CL15's spare mark sit in AON (R16), and the boot step and the image in
service go on being what they are (DEDUCED from R36, log entry 57). -/
def alwaysKept (a : Nat) : Nat :=
  if a = Reg.bootCause ∨ a = Reg.bootStrap ∨ a = Reg.bootLc ∨ a = Reg.bootStatus ∨ a = Reg.bootVersion then 0xFFFFFFFF
  else if a = Reg.ronStatus then 3
  else if a = Reg.clInfo 15 then 0x100
  else 0

/-- The registers of domain `d` as it powers up: the RW, RWL and RWS fields as held, every other field at its reset value (R514), but for what AON
keeps of them. -/
def Dev.powerUpRegs (s : Dev) (d : Nat) : Dev :=
  s.regs.foldl (fun s p =>
    match regInfo p.1 with
    | none => s
    | some i =>
      if (regDomains i).contains d ∧ ¬ (regDomains i).any (fun e => e != d && s.domainOn e) then
        let k := i.row.kept ||| alwaysKept p.1
        s.setNat p.1 ((p.2.toNat &&& k) ||| ((regReset p.1).toNat &&& (0xFFFFFFFF ^^^ k)))
      else s) s

/-! ### Time -/

/-- A nanosecond of the scale in units of 2⁻³² ns. -/
def nsUnit : Nat := 2 ^ 32

/-- Nanoseconds per second. -/
def nsPerSec : Nat := 1000000000

/-- The time of the scale, in ns. -/
def Dev.nowNs (s : Dev) : Nat := s.time.t / nsUnit

/-- A stamp from ns of the scale. -/
def stampOf (ns tepoch : Nat) : Stamp := ⟨ns / nsPerSec, ns % nsPerSec, tepoch⟩

/-- The stamp of the present instant (R86). -/
def Dev.now (s : Dev) : Stamp := stampOf s.nowNs s.time.tepoch

/-- A stamp as ns of its scale. -/
def stampNs (t : Stamp) : Nat := t.sec * nsPerSec + t.ns

/-- Elapsed cycles of 500 MHz in `us` µs. -/
def usCycles (us : Nat) : Nat := 500 * us

/-- The slew share of a cycle: 2 ns × SLEW_MAX × 10⁻⁶ (R410). -/
def Dev.slewShare (s : Dev) : Nat := 2 ^ 33 * max 1 (min 100 (s.rfld Reg.tbSlewMax 0 8)) / 1000000

/-- What `n` cycles take of the remaining slew (R410). -/
def Dev.slewTaken (s : Dev) (n : Nat) : Int :=
  let a : Int := (min s.time.slewLeft.natAbs (n * s.slewShare) : Nat)
  if s.time.slewLeft < 0 then -a else a

/-- The time base after `n` cycles (R399, R410). -/
def Dev.timeAfter (s : Dev) (n : Nat) : TimeBase :=
  if s.time.running then
    { s.time with t := ((s.time.t : Int) + (n * s.time.incr : Nat) + s.slewTaken n).toNat, slewLeft := s.time.slewLeft - s.slewTaken n }
  else s.time

/-- `n` cycles pass. -/
def Dev.elapse (s : Dev) (n : Nat) : Dev := { s with cycles := s.cycles + n, time := s.timeAfter n }

/-- The cycles in which the scale advances by at least `d` (R399, R410). -/
def Dev.cyclesFor (s : Dev) (d : Nat) : Nat :=
  let share : Int := if s.time.slewLeft < 0 then -(s.slewShare : Int) else s.slewShare
  let k := s.time.slewLeft.natAbs / s.slewShare
  let fast := ((s.time.incr : Int) + share).toNat
  if d ≤ k * fast then (d + fast - 1) / fast
  else max (if s.time.slewLeft = 0 then 0 else k + 1) ((((d : Int) - s.time.slewLeft).toNat + s.time.incr - 1) / s.time.incr)

/-- Cycles pass until elapsed cycle `c`, where it lies ahead. -/
def Dev.elapseTo (s : Dev) (c : Nat) : Dev := s.elapse (c - s.cycles)

/-- Cycles pass until the scale reaches `t` (units of 2⁻³² ns), where it lies ahead and the scale moves: the first cycle in which it does. -/
def Dev.elapseToTime (s : Dev) (t : Nat) : Dev :=
  if s.time.running ∧ s.time.t < t then s.elapse (s.cyclesFor (t - s.time.t)) else s

/-- The AON fast oscillator runs, and has work now (R516). -/
def fastOscRun (s : Dev) : Dev := { s with pwr := { s.pwr with fastOsc := some s.cycles } }

/-! ### Roles and phase -/

/-- `BOOT.STATUS.PHASE` (R36). -/
def Dev.phase (s : Dev) : Nat := s.rfld Reg.bootStatus 0 4

/-- The device with the boot phase set. -/
def Dev.setPhase (s : Dev) (p : Nat) : Dev := s.setFld Reg.bootStatus 0 4 p

/-- The strapped role: 0 standalone, 1 manager, 2 worker, 3 reserve (R8, R30). -/
def Dev.role (s : Dev) : Nat := s.boot.straps.role.val

/-- The strapped HID. -/
def Dev.hid (s : Dev) : Nat := s.boot.straps.hid.val

/-- The device is standalone. -/
def Dev.standalone (s : Dev) : Bool := s.role == 0

/-- The device is the active manager (R430). -/
def Dev.activeManager (s : Dev) : Bool := s.role == 1 && s.ron.active

/-- The device is standalone or the active manager. -/
def Dev.leads (s : Dev) : Bool := s.standalone || s.activeManager

/-- Spare-cluster mode (R33, R130). -/
def Dev.spare (s : Dev) : Bool := s.rbit Reg.gduCfg 1

/-- The life-cycle state that the fuses give: a step with either fuse blown counts as reached (R59, R62). -/
def Fuses.state (f : Fuses) : Nat :=
  if f.retdA || f.retdB then 3 else if f.deplA || f.deplB then 2 else if f.provA || f.provB then 1 else 0

/-- The life-cycle state as the device read it at its last reset. -/
def Dev.lc (s : Dev) : Nat := s.rfld Reg.bootLc 0 2

/-- The global ID of local channel `chan` of HID `owner` (R7). -/
def globalId (owner chan : Nat) : Nat := owner % 16 * 0x10000 + chan % 0x10000

/-! ### The hierarchy plan (R430) -/

/-- The devices of the hierarchy plan other than this one (R430). -/
def planOthers (s : Dev) : List PlanDev :=
  match s.ron.plan with
  | none => []
  | some p => p.devs.filter (fun d => d.hid != s.hid)

/-- The managers of the plan other than this device. -/
def planManagers (s : Dev) : List Nat := ((planOthers s).filter (fun d => d.role == 1)).map (·.hid)

/-! ### What leaves the device, and free values -/

/-- The device with an emission sent. -/
def Dev.emit (s : Dev) (e : Emission) : Dev := { s with outbox := e :: s.outbox }

/-- A free word, and the device with the count of free values advanced. -/
def Dev.drawWord (s : Dev) : Word × Dev := (Config.freeWord s.free, { s with free := s.free + 1 })

/-- A free number below `n` (below 1 for zero), and the device with the count of free values advanced. -/
def Dev.drawBelow (s : Dev) (n : Nat) : Nat × Dev := (Config.freeNat s.free % max n 1, { s with free := s.free + 1 })

/-- `n` free octets, and the device with the count of free values advanced. -/
def Dev.drawOctets (s : Dev) (n : Nat) : Octets × Dev := (padTo n (Config.freeOctets s.free), { s with free := s.free + 1 })

/-- A source that is recorded at most once in a period: true, with the period noted, when `period` is not the one last noted for `key`. -/
def Dev.oncePer (s : Dev) (key period : Nat) : Bool × Dev :=
  if kvGet s.once key = some period then (false, s) else (true, { s with once := kvSet s.once key period })

/-! ### Channels and clusters -/

/-- The open channel of a local ID. -/
def Dev.chan? (s : Dev) (c : Nat) : Option Channel := kvGet s.chans c

/-- The device with a channel's record written. -/
def Dev.setChan (s : Dev) (c : Nat) (k : Channel) : Dev := { s with chans := kvSet s.chans c k }

/-- The device with an open channel's record changed. -/
def Dev.modChan (s : Dev) (c : Nat) (f : Channel → Channel) : Dev :=
  match s.chan? c with
  | none => s
  | some k => s.setChan c (f k)

/-- What the GDU holds of cluster `n`. -/
def Dev.cg (s : Dev) (n : Nat) : ClusterGdu := (kvGet s.gdu n).getD {}

/-- The device with the GDU's record of cluster `n` written. -/
def Dev.setCg (s : Dev) (n : Nat) (g : ClusterGdu) : Dev := { s with gdu := kvSet s.gdu n g }

/-- What cluster `n`'s engines hold. -/
def Dev.ce (s : Dev) (n : Nat) : ClusterEng := (kvGet s.eng n).getD {}

/-- The device with the engines' record of cluster `n` written. -/
def Dev.setCe (s : Dev) (n : Nat) (g : ClusterEng) : Dev := { s with eng := kvSet s.eng n g }

/-- MAC `e` beside its registers. -/
def Dev.mac (s : Dev) (e : Nat) : Mac := (kvGet s.macs e).getD {}

/-- The device with MAC `e` written. -/
def Dev.setMac (s : Dev) (e : Nat) (m : Mac) : Dev := { s with macs := kvSet s.macs e m }

/-- Lane `m` beside its registers. -/
def Dev.lane (s : Dev) (m : Nat) : Lane := (kvGet s.lanes m).getD {}

/-- The device with lane `m` written. -/
def Dev.setLane (s : Dev) (m : Nat) (l : Lane) : Dev := { s with lanes := kvSet s.lanes m l }

/-- Sink `k` beside its registers. -/
def Dev.sink (s : Dev) (k : Nat) : Sink := (kvGet s.arc.sinks k).getD {}

/-- The device with sink `k` written. -/
def Dev.setSink (s : Dev) (k : Nat) (x : Sink) : Dev := { s with arc := { s.arc with sinks := kvSet s.arc.sinks k x } }

/-- Ronong lane L(8 + k) beside its registers. -/
def Dev.rl (s : Dev) (k : Nat) : RonLane := (kvGet s.ron.lanes k).getD {}

/-- The device with Ronong lane L(8 + k) written. -/
def Dev.setRl (s : Dev) (k : Nat) (l : RonLane) : Dev := { s with ron := { s.ron with lanes := kvSet s.ron.lanes k l } }

/-- Event ring `r` beside its registers. -/
def Dev.er (s : Dev) (r : Nat) : EvRing := (kvGet s.pci.rings r).getD {}

/-- The device with event ring `r` written. -/
def Dev.setEr (s : Dev) (r : Nat) (x : EvRing) : Dev := { s with pci := { s.pci with rings := kvSet s.pci.rings r x } }

/-- A field of an open channel's parameter block, `n` octets at `off` (R137). -/
def Channel.par (k : Channel) (off n : Nat) : Nat := le k.params off n

/-- A field of the parameter block of the channel's last spawned instance: a change by MODIFY acts from the first instance after it (R152). -/
def Channel.now (k : Channel) (off n : Nat) : Nat := le k.live off n

/-- The frame in ticks of a frame code (R70). -/
def frameTicks (code : Nat) : Nat := [1, 2, 4, 8, 12, 16, 24].getD code 0

/-- A tick in ns. -/
def tickNs : Nat := 2500000

/-- A tick in cycles of 500 MHz. -/
def tickCycles : Nat := 1250000

/-- `n` in order from zero. -/
def upTo (n : Nat) : List Nat := List.range n

/-- `a` in its place in a list in the order `le`, before what it equals. -/
def sortInsert {α : Type} (le : α → α → Bool) (a : α) : List α → List α
  | [] => [a]
  | b :: r => if le a b then a :: b :: r else b :: sortInsert le a r

/-- A list in the order `le`; what is equal keeps its order. -/
def sorted {α : Type} (le : α → α → Bool) (l : List α) : List α := l.foldr (sortInsert le) []

/-- The least value in a list, or `d` for the empty list. -/
def leastOr (d : Nat) : List Nat → Nat
  | [] => d
  | a :: r => r.foldl min a

/-- The greatest value in a list, zero for the empty list. -/
def greatest (l : List Nat) : Nat := l.foldl max 0

end Sys2Proof.Machine
end

