-- ==== Sys2Proof/Machine/Signal.lean ====
section
/-! DEFINITION. Arithmetic on samples and powers: rounding, decibels, the companding laws, the rate converters and biquads of the RFE (R268, R272,
R273, R276), its level detectors (R288), and the header of a media block (R271). -/

namespace Sys2Proof.Machine

/-! ### Numbers -/

/-- A quotient in the engines' arithmetic: exact where it comes out, else the whole number below or above it, which the manual does not fix. -/
def quot (a b : Int) : Int := if a % b = 0 then a / b else a / b + ((Config.roundsUp a b).toNat : Int)

/-- The largest value that a check passes, searched from `base` in steps of falling powers of two. -/
def searchUp (ok : Int → Bool) (base : Int) (bits : Nat) : Int :=
  (List.range bits).reverse.foldl (fun v b => if ok (v + 2 ^ b) then v + 2 ^ b else v) base

/-- 10 log₁₀(num / den) is at least x / 100. -/
def dbGe (num den : Nat) (x : Int) : Bool :=
  if 0 ≤ x then decide (den ^ 1000 * 10 ^ x.toNat ≤ num ^ 1000) else decide (den ^ 1000 ≤ num ^ 1000 * 10 ^ (-x).toNat)

/-- 10 log₁₀(num / den) in 0.01 dB, rounded down, from −300 dB to 355 dB. -/
def dbOf (num den : Nat) : Int := searchUp (dbGe num den) (-30000) 16

/-- The ratio of 10^(v / 20) in 2⁻¹⁶, rounded down. -/
def dbRatio (v : Nat) : Nat := (searchUp (fun x => decide (x.toNat ^ 20 ≤ 10 ^ v * 2 ^ 320)) 0 48).toNat

/-- Full scale of a sample (R268). -/
def fullScale : Nat := 8388607

/-- The energy of samples. -/
def energy (xs : List Int) : Nat := (xs.map (fun x => x.natAbs ^ 2)).sum

/-- The greatest magnitude of samples. -/
def peakOf (xs : List Int) : Nat := xs.foldl (fun m x => max m x.natAbs) 0

/-- `n` samples whose energy is `e` have a level of at least x / 100 dBFS (R288). -/
def levelGe (e n : Nat) (x : Int) : Bool := dbGe (2 * e) (n * fullScale ^ 2) x

/-- What 0 dBm0 lies below full scale, in 0.01 dB, for a line leg (R268): 3.17 dB under µ-law, else 3.14 dB. -/
def dbm0 (line : Option Nat) : Int := match line with | some l => if nfld l 16 2 = 1 then 317 else 314 | none => 314

/-- A list of samples of just `n`, zeros in place of those that are wanting. -/
def fit (n : Nat) (xs : List Int) : List Int := xs.take n ++ List.replicate (n - xs.length) 0

/-- A sample limited to full scale. -/
def limit (x : Int) : Int := max (-(fullScale : Int)) (min fullScale x)

/-- Samples over a number of ticks. -/
def tickSamples (ticks hz : Nat) : Nat := ticks * hz / 400

/-! ### The line's codes (R268, R327) -/

/-- The magnitude of an A-law code in 1/4,032 of the largest, from its seven bits in the order of value (G.711). -/
def alawLevel (m : Nat) : Nat := if m / 16 = 0 then 2 * (m % 16) + 1 else (2 * (m % 16) + 33) * 2 ^ (m / 16 - 1)

/-- The magnitude of a µ-law code in 1/8,031 of the largest (G.711). -/
def mulawLevel (m : Nat) : Nat := (2 * (m % 16) + 33) * 2 ^ (m / 16) - 33

/-- A number in units of the greatest against full scale, to the nearest. -/
def scaled (v most : Int) : Int := (2 * v * fullScale + most) / (2 * most)

/-- The sample of a code under a FORMAT (R153, R268): 0 A-law, 1 µ-law, else 16-bit linear. -/
def expand (format code : Nat) : Int :=
  match format with
  | 0 => let c := code ^^^ 0xD5; let v := scaled (alawLevel (c % 128)) 4032; if c / 128 % 2 = 0 then v else -v
  | 1 => let c := 255 - code % 256; let v := scaled (mulawLevel (c % 128)) 8031; if c / 128 % 2 = 0 then v else -v
  | _ => limit (scaled (signed 16 code) 32767)

/-- The silence code of a FORMAT (R333). -/
def silenceCode (format : Nat) : Nat := match format with | 0 => 0xD5 | 1 => 0xFF | _ => 0

/-- A sample rounded to its upper 16 bits, and limited (R343). -/
def upper16 (x : Int) : Nat := satInt 16 ((x + 128) / 256)

/-- The code of a sample under a FORMAT. -/
def compress (format : Nat) (x : Int) : Nat :=
  match format with
  | 0 => if x = 0 then 0xD5 else Config.companded false x % 256
  | 1 => if x = 0 then 0xFF else Config.companded true x % 256
  | _ => satInt 16 (quot (x * 32767) fullScale)

/-- Samples as 16-bit octets, in either order. -/
def octets16 (big : Bool) (xs : List Int) : Octets := xs.flatMap (fun x => if big then toBe 2 (upper16 x) else toLe 2 (upper16 x))

/-! ### Rate conversion (R272, R273) -/

/-- The rate at which a converter's polyphase filter works: the least common multiple of the two. -/
def commonRate (fin fout : Nat) : Nat := fin * fout / Nat.gcd fin fout

/-- Input samples that a converter's history holds: the filter's length, 24 samples of the lower rate. -/
def converterHistory (fin fout : Nat) : Nat := if fin = fout then 0 else 24 * fin / min fin fout

/-- The first `n` output samples of a converter, and its history after the input: a linear-phase filter of 24 / min(f_in, f_out) seconds, whose
delay is half its length (R272). -/
def convert (fin fout n : Nat) (hist xs : List Int) : List Int × List Int :=
  if fin = fout then (fit n xs, [])
  else
    let h := converterHistory fin fout
    let ext := List.replicate (h - hist.length) 0 ++ hist ++ xs
    let (a, b) := (commonRate fin fout / fout, commonRate fin fout / fin)
    let len := h * b
    let tap (j : Nat) : Int := Config.converterTap fin fout (min j (len - j))
    let one (m : Nat) : Int :=
      let acc := (List.range (h + 1)).foldl (fun (acc : Int) t =>
        let newest := m * a / b
        let j := m * a - newest * b + t * b
        let x := ext.getD (h + newest - t) 0
        if x = 0 ∨ len < j then acc else acc + tap j * x) 0
      limit (quot acc (2 ^ 29))
    ((List.range n).map one, ext.drop (ext.length - h))

/-- The fractional trim (R273): `n` samples read at (1 + trim) times the nominal rate through a 48-bit phase accumulator, the phase and the residue after
them. The residue is at most one codec frame plus 64 samples. -/
def trimmed (n : Nat) (trim : Int) (phase : Nat) (residue xs : List Int) : List Int × Nat × List Int :=
  if trim = 0 ∧ phase = 0 ∧ residue.isEmpty then (fit n xs, 0, xs.drop n)
  else
    let ext := residue ++ xs
    let step : Nat := (((1000000000 + trim) * 2 ^ 48) / 1000000000).toNat
    let one (i : Nat) : Int :=
      let p := phase + i * step
      let (k, f) := (p / 2 ^ 48, p % 2 ^ 48)
      if f = 0 then ext.getD k 0 else limit (Config.interpolated f (ext.getD k 0) (ext.getD (k + 1) 0))
    let last := phase + n * step
    ((List.range n).map one, last % 2 ^ 48, (ext.drop (last / 2 ^ 48)).take (n + 64))

/-! ### Biquads and gain (R275, R276) -/

/-- Coefficient `j` of stage `i` of a bank, in 2⁻²⁹: b0, b1, b2, a1, a2. -/
def bankCoef (bank : Octets) (i j : Nat) : Int := signed 32 (le bank (24 + 20 * i + 4 * j) 4)

/-- A sample limited to full scale, and whether it was beyond it. -/
def clip (y : Int) : Int × Nat := (limit y, (limit y != y).toNat)

/-- One stage on one sample: the output, whether it saturated, and the history after it. The 56-bit accumulator takes the last rounding error. -/
def biquad (bank : Octets) (i : Nat) (q : Biquad) (x : Int) : Int × Nat × Biquad :=
  let c := bankCoef bank i
  let sum := c 0 * x + c 1 * q.x1 + c 2 * q.x2 - c 3 * q.y1 - c 4 * q.y2 + q.err
  let acc := if sum < -2 ^ 55 ∨ 2 ^ 55 ≤ sum then Config.accumulated sum else sum
  let y := (acc + 2 ^ 28) / 2 ^ 29
  let (z, n) := clip y
  (z, n, { x1 := x, x2 := q.x1, y1 := z, y2 := q.y1, err := acc - y * 2 ^ 29 })

/-- A bank's cascade on one sample, over its stages' histories. -/
def cascadeOne (bank : Octets) (x : Int) (qs : List Biquad) : Int × Nat × List Biquad :=
  (List.range (oct bank 0)).foldl (fun (a : Int × Nat × List Biquad) i =>
    let (y, n, q) := biquad bank i (qs.getD i {}) a.1
    (y, a.2.1 + n, a.2.2 ++ [q])) (x, 0, [])

/-- A bank's cascade on samples: each output with how often it saturated, and the history after the last. -/
def cascade (bank : Octets) (xs : List Int) (qs : List Biquad) : List (Int × Nat) × List Biquad :=
  xs.foldl (fun (a : List (Int × Nat) × List Biquad) x =>
    let (y, n, qs) := cascadeOne bank x a.2
    (a.1 ++ [(y, n)], qs)) ([], qs)

/-- GAIN in 0.01 dB on samples that carry their saturations. -/
def gain (g : Int) (xs : List (Int × Nat)) : List (Int × Nat) :=
  if g = 0 then xs else xs.map (fun x => let r := clip (if x.1 = 0 then 0 else Config.gained (10 * g) x.1); (r.1, x.2 + r.2))

/-- Two signals weighted linearly from the first to the second; `done` of `len` samples have passed (R248, R284). -/
def crossFade (len done : Nat) (old new : List Int) : List Int :=
  (old.zip new).zipIdx.map (fun p => if len ≤ done + p.2 then p.1.2 else quot (p.1.1 * ((len - (done + p.2) : Nat) : Int) + p.1.2 * ((done + p.2 : Nat) : Int)) len)

/-! ### Level detectors (R288) -/

/-- A detector value in 0.01 dBFS: none below −150.00 dBFS; within the tolerance of R289. -/
def levelOf (e n : Nat) : Option Int :=
  let num := 2 * e
  let den := n * fullScale ^ 2
  let v := dbOf num den
  let r : Nat := if -6000 ≤ v then 2 else 10
  let x := v + 1 - r + ((Config.detectorSlack num den % (2 * r) : Nat) : Int)
  if e = 0 ∨ x < -15000 then none else some x

/-- One settled sample at a detector: its sub-block of `sub` samples closes with the last of them. -/
def detectOne (hz sub attack release : Nat) (d : Detector) (x : Int) : Detector :=
  let m := x.natAbs
  let d := { d with energy := d.energy + m ^ 2, peak := max d.peak m, count := d.count + 1,
                    env := if m = d.env then m else Config.followed (if d.env < m then attack else 10 * release) hz d.env m }
  if d.count < sub then d else { d with energy := 0, peak := 0, count := 0, subs := ((d.energy, d.peak) :: d.subs).take 16 }

/-- The three values of a detector whose sub-blocks hold `sub` samples: RMS, peak and envelope. -/
def detectorValues (sub : Nat) (d : Detector) : Option Int × Option Int × Option Int :=
  (levelOf ((d.subs.map (·.1)).sum) (sub * d.subs.length), levelOf (2 * greatest (d.subs.map (·.2)) ^ 2) 4, levelOf (2 * d.env ^ 2) 4)

/-! ### Blocks (R271) -/

/-- The samples of a block, a frame of zeros where there are none (R136). -/
def Block.first (b : Block) (n : Nat) : List Int := fit n b.samples

/-- The code of a rate (R137). -/
def rateCode (hz : Nat) : Nat := match hz with | 8000 => 0 | 16000 => 1 | 32000 => 2 | _ => 3

/-- FLAGS of a block. -/
def Block.flags (b : Block) : Nat := b.clipped.toNat + 2 * b.fading.toNat + 4 * b.changed.toNat + 8 * rateCode b.hz

/-- The header of a block. -/
def blockHeader (b : Block) : Octets :=
  toLe 4 (b.stamp % 1000000000) ++ toLe 6 (b.stamp / 1000000000) ++ toLe 2 b.samples.length ++ toLe 2 b.unsettled ++
    [BitVec.ofNat 8 b.flags, BitVec.ofNat 8 b.epoch, BitVec.ofNat 8 b.tepoch] ++ zeros 7

/-- The media instant of sample `i` of a block. -/
def Block.at_ (b : Block) (i : Nat) : Nat := b.stamp + i * 1000000000 / max 1 b.hz

/-- A number of samples in ns at a rate, signed: the distance between two instants in samples, to the nearest. -/
def samplesBetween (hz : Nat) (a b : Int) : Int := ((b - a) * hz * 2 + 1000000000) / 2000000000

end Sys2Proof.Machine
end

