-- ==== Sys2Proof/Machine/Crypto.lean ====
section
/-! DEFINITION. The algorithms that the manual names by their standards: SHA-1, SHA-256, SHA-384 and HMAC, AES with its counter mode and GCM,
and ECDSA and ECDH on P-384 (R51, R60, R171, R439, R440, R478). PRESUMED, log entry 53: the manual names them and takes their definitions from
FIPS 180-4, FIPS 197, SP 800-38D, RFC 2104 and FIPS 186. -/

namespace Sys2Proof.Machine

/-! ### Numbers and octets -/

/-- `x` rotated right by `n` in `w` bits. -/
def rotr (w n x : Nat) : Nat := (x >>> n) ||| (x <<< (w - n)) % 2 ^ w

/-- The number that `n` octets at `off` spell, most significant first, for a string that may be shorter. -/
def beAt (o : Octets) (off n : Nat) : Nat := beNat (padTo n (octs o off n))

/-- The exclusive-or of two strings, as long as the first. -/
def xorOcts (a b : Octets) : Octets := (a.zip (padTo a.length b)).map (fun p => p.1 ^^^ p.2)

/-- A message with the padding of the SHA family: a one bit, zeros, and its length in bits in `lenOcts` octets. -/
def shaPad (block lenOcts : Nat) (o : Octets) : Octets :=
  let z := (2 * block - 1 - lenOcts - o.length % block) % block
  o ++ [0x80] ++ zeros z ++ toBe lenOcts (8 * o.length)

/-! ### SHA-256 and SHA-384 -/

/-- The parameters of a SHA-2 hash: word width, block size and length octets, initial words, round constants, and the shifts of Σ0, Σ1, σ0, σ1. -/
structure Sha2 where
  w : Nat
  block : Nat
  lenOcts : Nat
  init : List Nat
  k : List Nat
  big0 : Nat × Nat × Nat
  big1 : Nat × Nat × Nat
  small0 : Nat × Nat × Nat
  small1 : Nat × Nat × Nat

/-- Round constants of SHA-256. -/
def sha256K : List Nat :=
  [0x428A2F98, 0x71374491, 0xB5C0FBCF, 0xE9B5DBA5, 0x3956C25B, 0x59F111F1, 0x923F82A4, 0xAB1C5ED5] ++
  [0xD807AA98, 0x12835B01, 0x243185BE, 0x550C7DC3, 0x72BE5D74, 0x80DEB1FE, 0x9BDC06A7, 0xC19BF174] ++
  [0xE49B69C1, 0xEFBE4786, 0x0FC19DC6, 0x240CA1CC, 0x2DE92C6F, 0x4A7484AA, 0x5CB0A9DC, 0x76F988DA] ++
  [0x983E5152, 0xA831C66D, 0xB00327C8, 0xBF597FC7, 0xC6E00BF3, 0xD5A79147, 0x06CA6351, 0x14292967] ++
  [0x27B70A85, 0x2E1B2138, 0x4D2C6DFC, 0x53380D13, 0x650A7354, 0x766A0ABB, 0x81C2C92E, 0x92722C85] ++
  [0xA2BFE8A1, 0xA81A664B, 0xC24B8B70, 0xC76C51A3, 0xD192E819, 0xD6990624, 0xF40E3585, 0x106AA070] ++
  [0x19A4C116, 0x1E376C08, 0x2748774C, 0x34B0BCB5, 0x391C0CB3, 0x4ED8AA4A, 0x5B9CCA4F, 0x682E6FF3] ++
  [0x748F82EE, 0x78A5636F, 0x84C87814, 0x8CC70208, 0x90BEFFFA, 0xA4506CEB, 0xBEF9A3F7, 0xC67178F2]

/-- Round constants of SHA-384. -/
def sha384K : List Nat :=
  [0x428A2F98D728AE22, 0x7137449123EF65CD, 0xB5C0FBCFEC4D3B2F, 0xE9B5DBA58189DBBC, 0x3956C25BF348B538] ++
  [0x59F111F1B605D019, 0x923F82A4AF194F9B, 0xAB1C5ED5DA6D8118, 0xD807AA98A3030242, 0x12835B0145706FBE] ++
  [0x243185BE4EE4B28C, 0x550C7DC3D5FFB4E2, 0x72BE5D74F27B896F, 0x80DEB1FE3B1696B1, 0x9BDC06A725C71235] ++
  [0xC19BF174CF692694, 0xE49B69C19EF14AD2, 0xEFBE4786384F25E3, 0x0FC19DC68B8CD5B5, 0x240CA1CC77AC9C65] ++
  [0x2DE92C6F592B0275, 0x4A7484AA6EA6E483, 0x5CB0A9DCBD41FBD4, 0x76F988DA831153B5, 0x983E5152EE66DFAB] ++
  [0xA831C66D2DB43210, 0xB00327C898FB213F, 0xBF597FC7BEEF0EE4, 0xC6E00BF33DA88FC2, 0xD5A79147930AA725] ++
  [0x06CA6351E003826F, 0x142929670A0E6E70, 0x27B70A8546D22FFC, 0x2E1B21385C26C926, 0x4D2C6DFC5AC42AED] ++
  [0x53380D139D95B3DF, 0x650A73548BAF63DE, 0x766A0ABB3C77B2A8, 0x81C2C92E47EDAEE6, 0x92722C851482353B] ++
  [0xA2BFE8A14CF10364, 0xA81A664BBC423001, 0xC24B8B70D0F89791, 0xC76C51A30654BE30, 0xD192E819D6EF5218] ++
  [0xD69906245565A910, 0xF40E35855771202A, 0x106AA07032BBD1B8, 0x19A4C116B8D2D0C8, 0x1E376C085141AB53] ++
  [0x2748774CDF8EEB99, 0x34B0BCB5E19B48A8, 0x391C0CB3C5C95A63, 0x4ED8AA4AE3418ACB, 0x5B9CCA4F7763E373] ++
  [0x682E6FF3D6B2B8A3, 0x748F82EE5DEFB2FC, 0x78A5636F43172F60, 0x84C87814A1F0AB72, 0x8CC702081A6439EC] ++
  [0x90BEFFFA23631E28, 0xA4506CEBDE82BDE9, 0xBEF9A3F7B2C67915, 0xC67178F2E372532B, 0xCA273ECEEA26619C] ++
  [0xD186B8C721C0C207, 0xEADA7DD6CDE0EB1E, 0xF57D4F7FEE6ED178, 0x06F067AA72176FBA, 0x0A637DC5A2C898A6] ++
  [0x113F9804BEF90DAE, 0x1B710B35131C471B, 0x28DB77F523047D84, 0x32CAAB7B40C72493, 0x3C9EBE0A15C9BEBC] ++
  [0x431D67C49C100D4C, 0x4CC5D4BECB3E42B6, 0x597F299CFC657E2A, 0x5FCB6FAB3AD6FAEC, 0x6C44198C4A475817]

/-- SHA-256. -/
def sha256P : Sha2 :=
  { w := 32, block := 64, lenOcts := 8, k := sha256K, big0 := (2, 13, 22), big1 := (6, 11, 25), small0 := (7, 18, 3), small1 := (17, 19, 10),
    init := [0x6A09E667, 0xBB67AE85, 0x3C6EF372, 0xA54FF53A, 0x510E527F, 0x9B05688C, 0x1F83D9AB, 0x5BE0CD19] }

/-- SHA-384. -/
def sha384P : Sha2 :=
  { w := 64, block := 128, lenOcts := 16, k := sha384K, big0 := (28, 34, 39), big1 := (14, 18, 41), small0 := (1, 8, 7), small1 := (19, 61, 6),
    init := [0xCBBB9D5DC1059ED8, 0x629A292A367CD507, 0x9159015A3070DD17, 0x152FECD8F70E5939, 0x67332667FFC00B31, 0x8EB44A8768581511, 0xDB0C2E0D64F98FA7, 0x47B5481DBEFA4FA4] }

/-- Σ: three rotations. -/
def Sha2.big (p : Sha2) (r : Nat × Nat × Nat) (x : Nat) : Nat := rotr p.w r.1 x ^^^ rotr p.w r.2.1 x ^^^ rotr p.w r.2.2 x

/-- σ: two rotations and a shift. -/
def Sha2.small (p : Sha2) (r : Nat × Nat × Nat) (x : Nat) : Nat := rotr p.w r.1 x ^^^ rotr p.w r.2.1 x ^^^ (x >>> r.2.2)

/-- The message schedule of a block, newest word first. -/
def Sha2.schedule (p : Sha2) (b : Octets) : List Nat :=
  let m := (List.range 16).map (fun i => beAt b (i * (p.w / 8)) (p.w / 8))
  (List.range (p.k.length - 16)).foldl (fun l _ =>
    (p.small p.small1 (l.getD 1 0) + l.getD 6 0 + p.small p.small0 (l.getD 14 0) + l.getD 15 0) % 2 ^ p.w :: l) m.reverse

/-- One round on the eight working words. -/
def Sha2.round (p : Sha2) (v : List Nat) (kw : Nat × Nat) : List Nat :=
  match v with
  | [a, b, c, d, e, f, g, h] =>
    let t := h + p.big p.big1 e + ((e &&& f) ^^^ ((e ^^^ (2 ^ p.w - 1)) &&& g)) + kw.1 + kw.2
    let u := p.big p.big0 a + ((a &&& b) ^^^ (a &&& c) ^^^ (b &&& c))
    [(t + u) % 2 ^ p.w, a, b, c, (d + t) % 2 ^ p.w, e, f, g]
  | _ => v

/-- The chaining words after a block. -/
def Sha2.compress (p : Sha2) (h : List Nat) (b : Octets) : List Nat :=
  (h.zip ((p.k.zip (p.schedule b).reverse).foldl (p.round) h)).map (fun x => (x.1 + x.2) % 2 ^ p.w)

/-- The hash cut to `n` octets. -/
def Sha2.hash (p : Sha2) (n : Nat) (o : Octets) : Octets :=
  let m := shaPad p.block p.lenOcts o
  let h := (List.range (m.length / p.block)).foldl (fun h i => p.compress h (octs m (i * p.block) p.block)) p.init
  ((h.map (toBe (p.w / 8))).flatten).take n

/-- SHA-256: 32 octets. -/
def sha256 (o : Octets) : Octets := sha256P.hash 32 o

/-- SHA-384: 48 octets. -/
def sha384 (o : Octets) : Octets := sha384P.hash 48 o

/-! ### SHA-1 and HMAC -/

/-- The function of round `t` of SHA-1, and its constant. -/
def sha1F (t b c d : Nat) : Nat × Nat :=
  if t < 20 then ((b &&& c) ||| ((b ^^^ 0xFFFFFFFF) &&& d), 0x5A827999)
  else if t < 40 then (b ^^^ c ^^^ d, 0x6ED9EBA1)
  else if t < 60 then ((b &&& c) ||| (b &&& d) ||| (c &&& d), 0x8F1BBCDC)
  else (b ^^^ c ^^^ d, 0xCA62C1D6)

/-- The chaining words of SHA-1 after a block. -/
def sha1Compress (h : List Nat) (b : Octets) : List Nat :=
  let m := (List.range 16).map (fun i => beAt b (4 * i) 4)
  let ws := ((List.range 64).foldl (fun l _ => rotr 32 31 (l.getD 2 0 ^^^ l.getD 7 0 ^^^ l.getD 13 0 ^^^ l.getD 15 0) :: l) m.reverse).reverse
  let v := ws.zipIdx.foldl (fun v p => match v with
    | [a, b, c, d, e] =>
      let f := sha1F p.2 b c d
      [(rotr 32 27 a + f.1 + e + f.2 + p.1) % 2 ^ 32, a, rotr 32 2 b, c, d]
    | _ => v) h
  (h.zip v).map (fun x => (x.1 + x.2) % 2 ^ 32)

/-- SHA-1: 20 octets. -/
def sha1 (o : Octets) : Octets :=
  let m := shaPad 64 8 o
  let h := (List.range (m.length / 64)).foldl (fun h i => sha1Compress h (octs m (64 * i) 64)) [0x67452301, 0xEFCDAB89, 0x98BADCFE, 0x10325476, 0xC3D2E1F0]
  (h.map (toBe 4)).flatten

/-- HMAC over a hash with blocks of `block` octets. -/
def hmac (block : Nat) (hash : Octets → Octets) (key m : Octets) : Octets :=
  let k := padTo block (if block < key.length then hash key else key)
  hash (k.map (· ^^^ 0x5C) ++ hash (k.map (· ^^^ 0x36) ++ m))

/-- HMAC-SHA1. -/
def hmacSha1 (key m : Octets) : Octets := hmac 64 sha1 key m

/-- HKDF over SHA-384 without a salt (RFC 5869), up to 96 octets. -/
def hkdf384 (secret info : Octets) (n : Nat) : Octets :=
  let prk := hmac 128 sha384 (zeros 48) secret
  let t := hmac 128 sha384 prk (info ++ [1])
  (t ++ hmac 128 sha384 prk (t ++ info ++ [2])).take n

/-- HMAC-SHA-256. -/
def hmacSha256 (key m : Octets) : Octets := hmac 64 sha256 key m

/-! ### AES -/

/-- The S-box. -/
def aesSbox : List Byte :=
  [0x63, 0x7C, 0x77, 0x7B, 0xF2, 0x6B, 0x6F, 0xC5, 0x30, 0x01, 0x67, 0x2B, 0xFE, 0xD7, 0xAB, 0x76] ++
  [0xCA, 0x82, 0xC9, 0x7D, 0xFA, 0x59, 0x47, 0xF0, 0xAD, 0xD4, 0xA2, 0xAF, 0x9C, 0xA4, 0x72, 0xC0] ++
  [0xB7, 0xFD, 0x93, 0x26, 0x36, 0x3F, 0xF7, 0xCC, 0x34, 0xA5, 0xE5, 0xF1, 0x71, 0xD8, 0x31, 0x15] ++
  [0x04, 0xC7, 0x23, 0xC3, 0x18, 0x96, 0x05, 0x9A, 0x07, 0x12, 0x80, 0xE2, 0xEB, 0x27, 0xB2, 0x75] ++
  [0x09, 0x83, 0x2C, 0x1A, 0x1B, 0x6E, 0x5A, 0xA0, 0x52, 0x3B, 0xD6, 0xB3, 0x29, 0xE3, 0x2F, 0x84] ++
  [0x53, 0xD1, 0x00, 0xED, 0x20, 0xFC, 0xB1, 0x5B, 0x6A, 0xCB, 0xBE, 0x39, 0x4A, 0x4C, 0x58, 0xCF] ++
  [0xD0, 0xEF, 0xAA, 0xFB, 0x43, 0x4D, 0x33, 0x85, 0x45, 0xF9, 0x02, 0x7F, 0x50, 0x3C, 0x9F, 0xA8] ++
  [0x51, 0xA3, 0x40, 0x8F, 0x92, 0x9D, 0x38, 0xF5, 0xBC, 0xB6, 0xDA, 0x21, 0x10, 0xFF, 0xF3, 0xD2] ++
  [0xCD, 0x0C, 0x13, 0xEC, 0x5F, 0x97, 0x44, 0x17, 0xC4, 0xA7, 0x7E, 0x3D, 0x64, 0x5D, 0x19, 0x73] ++
  [0x60, 0x81, 0x4F, 0xDC, 0x22, 0x2A, 0x90, 0x88, 0x46, 0xEE, 0xB8, 0x14, 0xDE, 0x5E, 0x0B, 0xDB] ++
  [0xE0, 0x32, 0x3A, 0x0A, 0x49, 0x06, 0x24, 0x5C, 0xC2, 0xD3, 0xAC, 0x62, 0x91, 0x95, 0xE4, 0x79] ++
  [0xE7, 0xC8, 0x37, 0x6D, 0x8D, 0xD5, 0x4E, 0xA9, 0x6C, 0x56, 0xF4, 0xEA, 0x65, 0x7A, 0xAE, 0x08] ++
  [0xBA, 0x78, 0x25, 0x2E, 0x1C, 0xA6, 0xB4, 0xC6, 0xE8, 0xDD, 0x74, 0x1F, 0x4B, 0xBD, 0x8B, 0x8A] ++
  [0x70, 0x3E, 0xB5, 0x66, 0x48, 0x03, 0xF6, 0x0E, 0x61, 0x35, 0x57, 0xB9, 0x86, 0xC1, 0x1D, 0x9E] ++
  [0xE1, 0xF8, 0x98, 0x11, 0x69, 0xD9, 0x8E, 0x94, 0x9B, 0x1E, 0x87, 0xE9, 0xCE, 0x55, 0x28, 0xDF] ++
  [0x8C, 0xA1, 0x89, 0x0D, 0xBF, 0xE6, 0x42, 0x68, 0x41, 0x99, 0x2D, 0x0F, 0xB0, 0x54, 0xBB, 0x16]

/-- The S-box at an octet. -/
def subByte (b : Byte) : Byte := aesSbox.getD b.toNat 0

/-- Multiplication by x in the field of AES. -/
def xtime (b : Byte) : Byte := (b <<< 1) ^^^ (if b.msb then 0x1B else 0)

/-- The round keys of a key of 16 or 32 octets, 16 octets each: its words in fours, the newest word first while they are made. -/
def aesKeys (key : Octets) : List Octets :=
  let nk := key.length / 4
  let words := (List.range nk).map (fun i => octs key (4 * i) 4)
  let n := 4 * (nk + 7)
  let l := (List.range (n - nk)).foldl (fun (acc : List Octets × Byte) j =>
    let i := j + nk
    let t := acc.1.headD []
    let base := acc.1.getD (nk - 1) []
    if i % nk = 0 then
      let r := (t.drop 1 ++ t.take 1).map subByte
      (xorOcts base (xorOcts r [acc.2]) :: acc.1, xtime acc.2)
    else if nk = 8 ∧ i % nk = 4 then (xorOcts base (t.map subByte) :: acc.1, acc.2)
    else (xorOcts base t :: acc.1, acc.2)) (words.reverse, 1)
  let ws := l.1.reverse
  (List.range (nk + 7)).map (fun r => ((ws.drop (4 * r)).take 4).flatten)

/-- The rows shifted: the octet at row r, column c comes from column c + r. -/
def shiftRows (s : Octets) : Octets := (List.range 16).map (fun i => s.getD ((i + 4 * (i % 4)) % 16) 0)

/-- One column mixed. -/
def mixColumn (s : Octets) : Octets :=
  match s with
  | [a, b, c, d] =>
    let t := a ^^^ b ^^^ c ^^^ d
    [a ^^^ t ^^^ xtime (a ^^^ b), b ^^^ t ^^^ xtime (b ^^^ c), c ^^^ t ^^^ xtime (c ^^^ d), d ^^^ t ^^^ xtime (d ^^^ a)]
  | _ => s

/-- The columns mixed. -/
def mixColumns (s : Octets) : Octets := ((List.range 4).map (fun c => mixColumn (octs s (4 * c) 4))).flatten

/-- AES encryption of one block of 16 octets under its round keys. -/
def aesBlock (keys : List Octets) (b : Octets) : Octets :=
  match keys with
  | [] => b
  | k :: r =>
    let mid := r.dropLast.foldl (fun s k => xorOcts (mixColumns (shiftRows (s.map subByte))) k) (xorOcts (padTo 16 b) k)
    xorOcts (shiftRows (mid.map subByte)) (r.getLastD [])

/-- `n` octets of the key stream of the counter mode from the 128-bit counter `iv`; the low 32 bits count in GCM, all of them otherwise. -/
def ctrStream (key : Octets) (iv : Nat) (low32 : Bool) (n : Nat) : Octets :=
  let keys := aesKeys key
  let blk (i : Nat) : Nat := if low32 then iv / 2 ^ 32 * 2 ^ 32 + (iv + i) % 2 ^ 32 else (iv + i) % 2 ^ 128
  (((List.range ((n + 15) / 16)).map (fun i => aesBlock keys (toBe 16 (blk i)))).flatten).take n

/-- A string enciphered or deciphered in counter mode. -/
def aesCtr (key : Octets) (iv : Nat) (o : Octets) : Octets := xorOcts o (ctrStream key iv false o.length)

/-! ### GCM -/

/-- The product of two blocks in the field of GCM, as 128-bit numbers whose top bit is the first. -/
def gcmMul (x y : Nat) : Nat :=
  ((List.range 128).foldl (fun (a : Nat × Nat) i =>
    (if x.testBit (127 - i) then a.1 ^^^ a.2 else a.1, if a.2 % 2 = 1 then (a.2 / 2) ^^^ (0xE1 <<< 120) else a.2 / 2)) (0, y)).1

/-- GHASH of a string padded to whole blocks, from `z`. -/
def ghash (h z : Nat) (o : Octets) : Nat :=
  (List.range ((o.length + 15) / 16)).foldl (fun z i => gcmMul (z ^^^ beAt o (16 * i) 16) h) z

/-- The tag of GCM over a ciphertext and its additional data, for a 12-octet IV. -/
def gcmTag (key iv aad ct : Octets) : Octets :=
  let h := beNat (aesBlock (aesKeys key) (zeros 16))
  let s := ghash h (ghash h (ghash h 0 aad) ct) (toBe 8 (8 * aad.length) ++ toBe 8 (8 * ct.length))
  xorOcts (toBe 16 s) (ctrStream key (beNat iv * 2 ^ 32 + 1) true 16)

/-- A string enciphered or deciphered under GCM, for a 12-octet IV. -/
def gcmCrypt (key iv o : Octets) : Octets := xorOcts o (ctrStream key (beNat iv * 2 ^ 32 + 2) true o.length)

/-! ### P-384 -/

/-- The prime of P-384. -/
def p384P : Nat := 2 ^ 384 - 2 ^ 128 - 2 ^ 96 + 2 ^ 32 - 1

/-- The order of its base point. -/
def p384N : Nat := 0xFFFFFFFFFFFFFFFFFFFFFFFFFFFFFFFFFFFFFFFFFFFFFFFFC7634D81F4372DDF581A0DB248B0A77AECEC196ACCC52973

/-- The coefficient b of the curve y² = x³ − 3x + b. -/
def p384B : Nat := 0xB3312FA7E23EE7E4988E056BE3F82D19181D9C6EFE8141120314088F5013875AC656398D8A2ED19D2A85C8EDD3EC2AEF

/-- A point in Jacobian coordinates; Z zero is the point at infinity. -/
structure EcPoint where
  x : Nat
  y : Nat
  z : Nat
deriving DecidableEq, Repr

/-- The base point. -/
def p384G : EcPoint :=
  ⟨0xAA87CA22BE8B05378EB1C71EF320AD746E1D3B628BA79B9859F741E082542A385502F25DBF55296C3A545E3872760AB7,
   0x3617DE4A96262C6F5D9E98BF9292DC29F8F41DBD289A147CE9DA3113B5F0B8C00A60B1CE1D7E819D7A431D7C90EA0E5F, 1⟩

/-- a − b modulo m. -/
def subMod (m a b : Nat) : Nat := (a + m - b % m) % m

/-- A power modulo m, the exponent's `n` low bits from the top. -/
def powMod (m a e : Nat) : Nat → Nat
  | 0 => 1
  | n + 1 => let r := powMod m a (e / 2) n
             if e % 2 = 1 then r * r % m * a % m else r * r % m

/-- The inverse modulo a prime of 384 bits. -/
def invMod (m a : Nat) : Nat := powMod m (a % m) (m - 2) 384

/-- A point doubled. -/
def ecDouble (p : EcPoint) : EcPoint :=
  let m := p384P
  let zz := p.z * p.z % m
  let s := 4 * p.x * (p.y * p.y % m) % m
  let t := 3 * (subMod m p.x zz) * (p.x + zz) % m
  let x := subMod m (t * t) (2 * s)
  let y2 := p.y * p.y % m
  ⟨x, subMod m (t * subMod m s x) (8 * (y2 * y2 % m)), 2 * p.y * p.z % m⟩

/-- The sum of two points. -/
def ecAdd (p q : EcPoint) : EcPoint :=
  if p.z = 0 then q
  else if q.z = 0 then p
  else
    let m := p384P
    let z1 := p.z * p.z % m
    let z2 := q.z * q.z % m
    let u1 := p.x * z2 % m
    let u2 := q.x * z1 % m
    let s1 := p.y * (z2 * q.z % m) % m
    let s2 := q.y * (z1 * p.z % m) % m
    let h := subMod m u2 u1
    let r := subMod m s2 s1
    if h = 0 then (if r = 0 then ecDouble p else ⟨1, 1, 0⟩)
    else
      let h2 := h * h % m
      let h3 := h2 * h % m
      let x := subMod m (subMod m (r * r) h3) (2 * u1 * h2)
      ⟨x, subMod m (r * subMod m (u1 * h2) x) (s1 * h3), h * (p.z * q.z % m) % m⟩

/-- A point times the low `n` bits of `k`. -/
def ecMul (k : Nat) (p : EcPoint) : Nat → EcPoint
  | 0 => ⟨1, 1, 0⟩
  | n + 1 => let r := ecDouble (ecMul (k / 2) p n)
             if k % 2 = 1 then ecAdd r p else r

/-- The affine coordinates of a point that is not at infinity. -/
def ecAffine (p : EcPoint) : Nat × Nat :=
  let m := p384P
  let i := invMod m p.z
  let i2 := i * i % m
  (p.x * i2 % m, p.y * (i2 * i % m) % m)

/-- A public key of 97 octets in uncompressed form, where it is a point of the curve. -/
def ecPublic (o : Octets) : Option EcPoint :=
  let x := beAt o 1 48
  let y := beAt o 49 48
  if o.length = 97 ∧ oct o 0 = 4 ∧ x < p384P ∧ y < p384P ∧ y * y % p384P = (x * x * x + p384B + 3 * p384P * p384P - 3 * x) % p384P then some ⟨x, y, 1⟩
  else none

/-- A point as a public key of 97 octets. -/
def ecOctets (p : EcPoint) : Octets := [4] ++ toBe 48 (ecAffine p).1 ++ toBe 48 (ecAffine p).2

/-- A private key as a number from 1 below the order of P-384 (DESIGN CHOICE, log entry 56: how octets drawn give it). -/
def keyScalar (o : Octets) : Nat := beNat o % (p384N - 1) + 1

/-- An ECDSA P-384 signature verifies under a public key of 97 octets over a digest of 48. -/
def ecdsaVerify (key digest : Octets) (r s : Nat) : Bool :=
  match ecPublic key with
  | none => false
  | some q =>
    if r = 0 ∨ p384N ≤ r ∨ s = 0 ∨ p384N ≤ s then false
    else
      let w := invMod p384N s
      let x := ecAdd (ecMul (beNat digest * w % p384N) p384G 384) (ecMul (r * w % p384N) q 384)
      x.z != 0 && (ecAffine x).1 % p384N == r

/-- An ECDSA P-384 signature by private key `d` with secret number `k`, r and s of 48 octets each. -/
def ecdsaSign (d k : Nat) (digest : Octets) : Octets :=
  let r := (ecAffine (ecMul k p384G 384)).1 % p384N
  toBe 48 r ++ toBe 48 (invMod p384N k * (beNat digest + r * d) % p384N)

/-- The shared secret of ECDH P-384: the x coordinate of the partner's key times `d`, 48 octets; none for a key off the curve. -/
def ecdh (d : Nat) (key : Octets) : Option Octets := (ecPublic key).map (fun q => toBe 48 (ecAffine (ecMul d q 384)).1)

end Sys2Proof.Machine
end

