-- ==== Sys2Proof/Machine/Events.lean ====
section
/-! DEFINITION. What happens is told: MSI-X, the event rings (R143, R146, R147, R466 to R469), the fault collector's record of an
occurrence (R488 to R504), and the Ledger (R86 to R95, R362). -/

namespace Sys2Proof.Machine

/-! ### MSI-X (R469) -/

/-- Vector `v` is signalled: a message, or a pending bit while its table entry is masked. -/
def msix (v : Nat) (s : Dev) : Dev :=
  if ¬ s.domainOn 24 then s
  else if s.rbit (Reg.pciMsixTable (4 * v + 3)) 0 then s.setBit (Reg.pciMsixPba (v / 32)) (v % 32) true
  else s.emit (.msix v)

/-! ### Event rings -/

/-- The entries of a ring: 2 to the SIZE of its CTRL, taken within 4 to 12 (R466). -/
def ringSize (ctrl : Word) : Nat := 2 ^ max 4 (min 12 (fld ctrl 1 4))

/-- Slots of event ring `r` that are free and not reserved (R143, R467). -/
def erFree (s : Dev) (r : Nat) : Nat :=
  let n := ringSize (s.reg (Reg.pciErCtrl r))
  (s.rfld (Reg.pciErHead r) 0 16 + 2 * n - 1 - s.rfld (Reg.pciErTail r) 0 16) % n - (s.er r).reserved

/-- Event ring `r` is enabled. -/
def erOn (s : Dev) (r : Nat) : Bool := s.domainOn 24 && s.rbit (Reg.pciErCtrl r) 0

/-- The coalescing of R469: a record has been written to ring `r`. -/
def coalesce (r : Nat) (s : Dev) : Dev :=
  let c := s.rfld (Reg.pciErCtrl r) 8 8
  let us := s.rfld (Reg.pciErCtrl r) 16 16
  let x := s.er r
  if x.unsignalled + 1 ≥ c then msix r (s.setEr r { x with unsignalled := 0, firstAt := none })
  else s.setEr r { x with unsignalled := x.unsignalled + 1,
                          firstAt := if x.unsignalled = 0 then some (s.cycles + usCycles us) else x.firstAt }

/-- A 32-octet record is written to event ring `r`: its FLAGS octet gets PHASE, the write index moves on, and PHASE inverts at the wrap. -/
def erWrite (r : Nat) (rec32 : Octets) (s : Dev) : Dev :=
  let ctrl := s.reg (Reg.pciErCtrl r)
  let t := s.rfld (Reg.pciErTail r) 0 16
  let ph := s.rbit (Reg.pciErStatus r) 1
  let base := (s.reg (Reg.pciErBaseLo r)).toNat + 2 ^ 32 * (s.reg (Reg.pciErBaseHi r)).toNat
  let o := putOcts rec32 1 [BitVec.ofNat 8 (oct rec32 1 / 2 * 2 + ph.toNat)]
  let s := s.emit (.dma (5 + r) (base + 32 * t) o)
  let t' := (t + 1) % ringSize ctrl
  let s := s.setFld (Reg.pciErTail r) 0 16 t'
  let s := if t' = 0 then s.setBit (Reg.pciErStatus r) 1 (!ph) else s
  coalesce r s

/-! ### Stamps and entries -/

/-- Time epoch `a` is older than `b`, a distance of 128 included (R75, R89). -/
def tepochOlder (a b : Nat) : Bool := 0 < (b + 256 - a % 256) % 256 && (b + 256 - a % 256) % 256 ≤ 128

/-- Tick `a` is earlier than tick `b` (R68): the time epochs decide first. -/
def TickAt.before (a b : TickAt) : Bool :=
  if a.tepoch % 256 = b.tepoch % 256 then decide (a.tick < b.tick) else tepochOlder a.tepoch b.tepoch

/-- The last delivered tick, as R68 orders it. -/
def Dev.tickAt (s : Dev) : TickAt := ⟨s.time.lastTepoch, s.time.lastTick.getD 0⟩

/-- A tick number that a command or a frame names. It is taken as one of the device's present time epoch: no command, no frame and no register
carries another (DESIGN CHOICE, log entry 59). -/
def Dev.target (s : Dev) (tick : Nat) : TickAt := ⟨s.time.tepoch, tick⟩

/-- The number of the current tick on the present scale: that of the last delivered tick, or, where that was delivered before a backward step, of
the last boundary that the scale has passed. -/
def Dev.tickNow (s : Dev) : Nat :=
  if s.time.lastTepoch = s.time.tepoch then s.time.lastTick.getD 0 else s.nowNs / tickNs

/-- The last delivered tick is at or after `t`; none has been delivered before the first. -/
def Dev.reached (s : Dev) (t : TickAt) : Bool := s.time.lastTick.isSome && !s.tickAt.before t

/-- The key of `a` is lower than that of `b` (R89). -/
def keyLower (a b : LedgerEvent) : Bool :=
  if a.stamp.tepoch % 256 ≠ b.stamp.tepoch % 256 then tepochOlder a.stamp.tepoch b.stamp.tepoch
  else if stampNs a.stamp ≠ stampNs b.stamp then decide (stampNs a.stamp < stampNs b.stamp)
  else decide (a.src < b.src)

/-- The channel field of R88. -/
def chanField (c : Option Nat) : Nat :=
  match c with
  | some g => 2 ^ 31 + g % 2 ^ 20
  | none => 0

/-- A Ledger entry (R88) with further flags. -/
def entryOctets (e : LedgerEvent) (flags : Nat) : Octets :=
  toLe 4 e.stamp.ns ++ toLe 6 e.stamp.sec ++ toLe 2 e.src ++ toLe 2 e.code ++
    toLe 2 (((e.flags ||| flags) &&& 0xFF00) + e.stamp.tepoch % 256) ++ toLe 4 (chanField e.chan) ++ padTo 12 e.data

/-- The FORCED flag of R88. -/
def flagForced : Nat := 0x2000

/-- The REMOTE flag of R88. -/
def flagRemote : Nat := 0x1000

/-- An event of this device's block source `src`, stamped now. -/
def eventOf (s : Dev) (src code : Nat) (chan : Option Nat) (data : Octets) : LedgerEvent :=
  ⟨s.now, s.hid * 0x1000 + src, code, 0, chan, data⟩

/-! ### An occurrence (R488 to R492, R504) -/

/-- The reaction mask in force of a source: `FLT.SRC[s].CTRL` bits 4:0. -/
def maskOf (s : Dev) (src : Nat) : Nat := s.rfld (Reg.srcCtrl src) 0 5

/-- `FLT.SRC[s]`'s STICKY bit follows REAL or FORCED. -/
def stickyUpdate (src : Nat) (s : Dev) : Dev :=
  s.setBit (Reg.fltSticky (src / 32)) (src % 32) (s.rbit (Reg.srcStatus src) 1 || s.rbit (Reg.srcStatus src) 2)

/-- LIVE of a source is set or cleared, with its bitmap and the count of live sources. -/
def setLive (src : Nat) (b : Bool) (s : Dev) : Dev :=
  let was := s.rbit (Reg.srcStatus src) 0
  let n := s.rfld Reg.fltStatus 16 10
  let s := (s.setBit (Reg.srcStatus src) 0 b).setBit (Reg.fltLive (src / 32)) (src % 32) b
  if was = b then s else s.setFld Reg.fltStatus 16 10 (if b then n + 1 else n - 1)

/-- A source's stamp triple at `a` (R510). -/
def putStamp (a : Nat) (t : Stamp) (s : Dev) : Dev :=
  ((s.setNat a t.ns).setNat (a + 4) (t.sec % 2 ^ 32)).setNat (a + 8) (t.sec / 2 ^ 32 % 0x10000 + t.tepoch % 256 * 0x10000)

/-- COUNT, FIRST, LAST, REAL and FORCED at an occurrence (R489). -/
def statusOcc (src : Nat) (real forced : Bool) (t : Stamp) (s : Dev) : Dev :=
  let st := Reg.srcStatus src
  let n := s.rfld st 8 8
  let s := if n = 0 then putStamp (Reg.srcFirstNs src) t s else s
  let s := putStamp (Reg.srcLastNs src) t (s.setFld st 8 8 (sat 8 (n + 1)))
  let s := if real then s.setBit st 1 true else s
  let s := if forced then s.setBit st 2 true else s
  stickyUpdate src s

/-- Octets 8 to 11 of FAULT_SET and FAULT_CLEAR (R490). -/
def occTail (src : Nat) (s : Dev) (real forced : Bool) : Octets :=
  [BitVec.ofNat 8 (s.rfld (Reg.srcStatus src) 8 8), BitVec.ofNat 8 (real.toNat + 2 * forced.toNat), BitVec.ofNat 8 (maskOf s src), 0]

/-- The 16 entries per source and second of the stamp (R490): true when one more may be written, with it counted. -/
def entryAllowed (src sec : Nat) (s : Dev) : Bool × Dev :=
  match kvGet s.flt.second src with
  | some (q, n) =>
    if q = sec then
      (decide (n < 16), if n < 16 then { s with flt := { s.flt with second := kvSet s.flt.second src (sec, n + 1) } } else s)
    else (true, { s with flt := { s.flt with second := kvSet s.flt.second src (sec, 1) } })
  | none => (true, { s with flt := { s.flt with second := kvSet s.flt.second src (sec, 1) } })

/-- A fault record is written, in Ledger entry form (R504). -/
def faultRecord (e : LedgerEvent) (s : Dev) : Dev :=
  { s.setNat Reg.fltLogWr (((s.reg Reg.fltLogWr).toNat + 1) % 2 ^ 32) with
      flt := { s.flt with log := (entryOctets e 0 :: s.flt.log).take 256 } }

/-- The pair's pins take the level of FLT_P, from phase 1 on and while they are not released (R498, R501). -/
def pairDrive (p : Bool) (s : Dev) : Dev := if s.phase = 0 ∨ s.rbit Reg.fltStatus 2 then s else s.emit (.pair p)

/-- The error pair latches fault (R499). -/
def pairLatch (s : Dev) : Dev := pairDrive false (s.setBit Reg.fltStatus 0 true)

/-- The reactions of an occurrence (R492), block reset and chip reset being left to be taken at the command's end. -/
def react (src mask : Nat) (res : Option (Nat × Resource)) (s : Dev) : Dev :=
  let s :=
    if mask.testBit 0 then
      let was := s.rbit (Reg.fltIntPend (src / 32)) (src % 32)
      let s := s.setBit (Reg.fltIntPend (src / 32)) (src % 32) true
      if ¬ was ∧ s.rbit Reg.fltCfg 0 then msix 4 s else s
    else s
  let s :=
    if mask.testBit 1 then
      let was := s.rbit (Reg.fltTrapPend (src / 32)) (src % 32)
      let s := s.setBit (Reg.fltTrapPend (src / 32)) (src % 32) true
      if was ∨ ¬ s.domainOn 25 then s else { s with flt := { s.flt with trapSince := kvSet s.flt.trapSince src s.cycles } }
    else s
  let s := if mask.testBit 4 then pairLatch s else s
  let s := if mask.testBit 2 then { s with flt := { s.flt with due := s.flt.due ++ [⟨src, res⟩] } } else s
  if mask.testBit 3 then
    { s with flt := { s.flt with chip := some (match s.flt.chip with | none => src | some c => min c src) } }
  else s

/-- An occurrence of `src` with its event passed on by `push`: status and entry, fault record, then the reactions (R492). A source that is
not produced records nothing (R485). -/
def occurWith (push : LedgerEvent → Dev → Dev) (src : Nat) (o : OccData) (real forced : Bool) (t : Stamp)
    (res : Option (Nat × Resource)) (s : Dev) : Dev :=
  if (sourceMask src).isNone then s
  else
    let mask := maskOf s src
    let s := statusOcc src real forced t (fastOscRun s)
    let data := match o.code with | none => padTo 8 o.data ++ occTail src s real forced | some _ => padTo 12 o.data
    let e : LedgerEvent := ⟨t, s.hid * 0x1000 + src, o.code.getD 1, if forced then flagForced else 0, o.chan, data⟩
    let (ok, s) := entryAllowed src t.sec s
    let s := { s with flt := { s.flt with entered := if ok then src :: s.flt.entered.filter (· != src) else s.flt.entered.filter (· != src) } }
    let s := if ok then push e s else s.bump Reg.fltSuppressed
    let s := if mask ≠ 0 then faultRecord e s else s
    react src mask res s

/-! ### The Ledger -/

/-- The occupancy of the reorder buffer shows in `LDG.STATUS` and `LDG.REORDER_MAX`. -/
def ledgerCount (s : Dev) : Dev :=
  (s.setFld Reg.ldgStatus 0 11 s.ledger.buf.length).maxFld Reg.ldgReorderMax 0 11 s.ledger.buf.length

/-- The index in a list of the event with the lowest key; on equal keys the one that came first (R89). -/
def lowestIdx (l : List Held) : Nat :=
  match l with
  | [] => 0
  | h :: r => ((r.zipIdx 1).foldl (fun (b : Held × Nat) p => if keyLower p.1.ev b.1.ev then p else b) (h, 0)).2

/-- BLOCK_SIZE in octets (R366). -/
def blockSize (s : Dev) : Nat :=
  let k := s.rfld Reg.arcCfg 8 7
  1024 * (if 4 ≤ k ∧ k ≤ 64 then k else 4)

/-- DEPTH of a packing FIFO. -/
def fifoDepth (s : Dev) (f : Nat) : Nat := s.rfld (Reg.arcFifoCfg f) 0 10

/-- Words of 64 octets that `n` octets take (R357). -/
def wordsOf (n : Nat) : Nat := (n + 63) / 64

/-- The words that F1 holds: the closed export blocks not yet read, and the open one. -/
def f1Words (s : Dev) : Nat :=
  ((s.sink 1).jobs.map (fun j => wordsOf j.octets.length)).sum + wordsOf s.ledger.export_.length

/-- `ARC.FIFO[f].STATUS` of F1. -/
def f1Status (s : Dev) : Dev :=
  let w := f1Words s
  let asm := decide (s.ledger.export_.length % 64 ≠ 0)
  (s.setFld (Reg.arcFifoStatus 1) 0 10 (w - asm.toNat)).setBit (Reg.arcFifoStatus 1) 10 asm

/-- The open export block is closed and handed to the compressor (R362). -/
def exportClose (end_ : Bool) (s : Dev) : Dev :=
  match s.ledger.exportStamp with
  | none => s
  | some t =>
    let j : ArcJob := { octets := s.ledger.export_, content := 3, sid := s.rfld Reg.arcLdgStream 0 16, seq := s.ledger.exportSeq,
                        order := 0, stamp := t, end_ := end_, resumed := false, chan := none }
    let k := s.sink 1
    let s := s.setSink 1 { k with jobs := k.jobs ++ [j] }
    f1Status { s with ledger := { s.ledger with export_ := [], exportAt := none, exportStamp := none,
                                                exportSeq := (s.ledger.exportSeq + 1) % 2 ^ 32 } }

/-- An entry the Ledger has written is passed to F1 (R362, R364), or counted as lost; `lost` records source 0x3E6. -/
def exportEntry (lost : Dev → Dev) (t : Stamp) (o : Octets) (s : Dev) : Dev :=
  if ¬ s.rbit Reg.arcLdgCtrl 0 then s
  else if ¬ s.domainOn 28 then s
  else if ¬ s.rbit Reg.arcCfg 0 then s.bump Reg.arcLdgLost
  else if f1Words s ≥ fifoDepth s 1 ∧ s.ledger.export_.length % 64 = 0 then
    let s := if s.ledger.export_.isEmpty then s else exportClose true s
    lost (s.bump Reg.arcLdgLost)
  else
    let new := s.ledger.exportStamp.isNone
    let ms := max 1 (s.rfld Reg.arcLdgFlush 0 16)
    let s := { s with ledger := { s.ledger with
      export_ := s.ledger.export_ ++ o,
      exportStamp := if new then some t else s.ledger.exportStamp,
      exportAt := if new then some (s.cycles + usCycles (1000 * ms)) else s.ledger.exportAt } }
    f1Status (if s.ledger.export_.length ≥ blockSize s then exportClose false s else s)

/-- The Ledger stores an entry at the tail (R92, R94). A worker and the reserve owe it to both managers; a manager owes the other one the
entries of its own device, so that both keep the same merged Ledger (R95; DEDUCED, log entry 61). -/
def ledgerStore (o : Octets) (s : Dev) : Dev :=
  let n := (s.reg Reg.ldgWrCount).toNat
  let remote := nfld (le o 14 2) 12 1 == 1
  let copies := if 2 ≤ s.role ∨ (s.role = 1 ∧ ¬ remote) then (planManagers s).map (fun h => (h, o)) else []
  { s.setNat Reg.ldgWrCount ((n + 1) % 2 ^ 32) with
      ledger := { s.ledger with entries := kvSet s.ledger.entries (n % 65536) o, out := s.ledger.out ++ copies } }

/-- The Ledger has no room: FULL = 1 with 65,536 entries unread (R92). -/
def ledgerFull (s : Dev) : Bool :=
  s.rbit Reg.ldgCtrl 1 && decide (((s.reg Reg.ldgWrCount).toNat + 2 ^ 32 - (s.reg Reg.ldgRdCount).toNat) % 2 ^ 32 = 65536)

/-- An entry is lost (R92, R95). -/
def ledgerLose (s : Dev) : Dev :=
  { s.bump Reg.ldgLost with ledger := { s.ledger with lostRun := sat 32 (s.ledger.lostRun + 1) } }

/-- The Ledger writes one entry, or loses it (R91, R92). True when it stands after an entry that sorts later. -/
def ledgerPut (lost : Dev → Dev) (e : LedgerEvent) (s : Dev) : Bool × Dev :=
  if ¬ s.rbit Reg.ldgCtrl 0 ∨ ledgerFull s then (false, ledgerLose s)
  else
    let ooo := match s.ledger.last with | some l => keyLower e l | none => false
    let gap := decide (0 < s.ledger.lostRun)
    let o := entryOctets e (ooo.toNat * 0x8000 + gap.toNat * 0x4000)
    let s := ledgerStore o s
    let s := { s with ledger := { s.ledger with last := some e } }
    let s := exportEntry lost e.stamp o s
    (ooo, if ooo then s.bump Reg.ldgOoo else s)

/-- The wait of an event in the reorder buffer, in cycles of 2 ns (R90). The rule gives the wait in ns
and counts it in cycles: an odd ns is dropped (DESIGN CHOICE, log entry 60). -/
def reorderWait (s : Dev) (t : Stamp) : Nat :=
  if tepochOlder t.tepoch s.time.tepoch then 0
  else
    let us := max 1 (if s.role = 1 then s.rfld Reg.ldgCtrl 16 12 else s.rfld Reg.ldgCtrl 8 8)
    (stampNs t + 1000 * us - s.nowNs) / 2

/-- The buffer's lowest-keyed event is taken out and written by `write` (R90). -/
def bufEvict (write : LedgerEvent → Dev → Dev) (s : Dev) : Dev :=
  let i := lowestIdx s.ledger.buf
  match s.ledger.buf[i]? with
  | none => s
  | some h => write h.ev { s with ledger := { s.ledger with buf := s.ledger.buf.eraseIdx i } }

/-- Room is made in the reorder buffer: while it holds 1,024 events, its lowest-keyed one is written. An event that is written may call forth an
entry of the Ledger's own, which takes the place again; those come once per tick or second, so three rounds suffice, and what follows them
writes entries alone. -/
def bufRoom (write : LedgerEvent → Dev → Dev) (s : Dev) : Dev :=
  let once (write : LedgerEvent → Dev → Dev) (s : Dev) : Dev := if s.ledger.buf.length < 1024 then s else bufEvict write s
  once (fun e s => (ledgerPut id e s).2) (once write (once write (once write s)))

/-- An event stands in the reorder buffer (R90). -/
def bufAppend (e : LedgerEvent) (s : Dev) : Dev :=
  ledgerCount { s with ledger := { s.ledger with buf := s.ledger.buf ++ [⟨e, s.cycles + reorderWait s e.stamp⟩] } }

/-- An event reaches the Ledger, whose evictions write with `write`: before the Ledger starts, the BOOT block holds it (R37); with FAB off it is
lost; else it stands in the reorder buffer, in which room is made first (R90). -/
def bufTake (write : LedgerEvent → Dev → Dev) (e : LedgerEvent) (s : Dev) : Dev :=
  if ¬ s.boot.ledgerOn then { s with boot := { s.boot with held := s.boot.held ++ [e] } }
  else if ¬ s.domainOn 17 then s
  else bufAppend e (bufRoom write s)

/-- An event's record goes to event ring `r` (R146, R147); without a free unreserved slot it is dropped. `push` takes what that records. -/
def postWith (push : LedgerEvent → Dev → Dev) (r : Nat) (e : LedgerEvent) (s : Dev) : Dev :=
  if ¬ erOn s r ∨ erFree s r = 0 then
    let s := s.setEr r { s.er r with gap := true }
    let (first, s) := s.oncePer 0x0C5 s.time.ticks
    if first then occurWith push 0x0C5 {} true false s.now none s else s
  else
    let gap := (s.er r).gap
    let o : Octets := [2, BitVec.ofNat 8 (2 * gap.toNat + 4 * (nfld e.flags 13 1))] ++ toLe 2 e.code ++ toLe 4 e.stamp.ns ++
      toLe 6 e.stamp.sec ++ toLe 2 e.src ++ toLe 4 (chanField e.chan) ++ padTo 12 e.data
    erWrite r o (s.setEr r { s.er r with gap := false })

/-- The codes that their chapters mark as channel events (R188, and the event tables of spec/07 to spec/13). -/
def channelCode (code : Nat) : Bool :=
  code == 0x0100 || (decide (0x0200 ≤ code) && decide (code ≤ 0x0206)) || (decide (0x0300 ≤ code) && decide (code ≤ 0x0303)) ||
    (decide (0x0400 ≤ code) && decide (code ≤ 0x0406)) || code == 0x0500 || code == 0x0501 || code == 0x0508 ||
    (decide (0x0600 ≤ code) && decide (code ≤ 0x0605)) || code == 0x0700 || code == 0x0701

/-- The EVENTS octet (R137) of a global channel: that of a channel processed here, and else that of its catalogue record (R442), which a manager
keeps of the channels of other devices. -/
def eventsOf (s : Dev) (g : Nat) : Option Nat :=
  match (s.chan? (g % 0x10000)).filter (fun k => k.owner == g / 0x10000) with
  | some k => some (k.par 13 1)
  | none => (kvGet s.ron.catalogue g).map (fun r => oct r 29)

/-- The event ring of R147 for an event, if it goes to one. An entry merged from another device's Ledger is an event of this device's Ledger. -/
def eventRing (s : Dev) (e : LedgerEvent) : Option Nat :=
  let src := e.src % 0x1000
  if src = 0x08C ∨ src = 0x0A5 then some 0
  else if ¬ channelCode e.code then none
  else (e.chan.bind (eventsOf s)).bind (fun v => if v.testBit 7 then none else some (v % 4))

/-- The Ledger takes an event whose turn has come: its ring record, its entry, and the entries of R91 and R92 that follow from it, which `push`
takes. -/
def writeWith (push : LedgerEvent → Dev → Dev) (e : LedgerEvent) (s : Dev) : Dev :=
  let inner (src : Nat) (o : OccData) (s : Dev) : Dev := occurWith push src o true false s.now none s
  let s := match eventRing s e with | none => s | some r => postWith push r e s
  let run := s.ledger.lostRun
  let lost (s : Dev) : Dev :=
    let (first, s) := s.oncePer 0x3E6 s.now.sec
    if first then inner 0x3E6 {} s else s
  let before := (s.reg Reg.ldgWrCount).toNat
  let (ooo, s) := ledgerPut lost e s
  let s :=
    if 0 < run ∧ (s.reg Reg.ldgWrCount).toNat ≠ before then
      let put (e : LedgerEvent) (s : Dev) : Dev := (ledgerPut lost e s).2
      occurWith put 0x0B0 { data := toLe 4 run } true false s.now none { s with ledger := { s.ledger with lostRun := 0 } }
    else s
  if ooo then
    let (first, s) := s.oncePer 0x0B1 s.time.ticks
    if first then inner 0x0B1 {} s else s
  else s

/-- An event reaches the Ledger (R90). An event that makes room for it may record sources 0x0C5, 0x3E6 and 0x0B1, which reach the Ledger in their
turn: `n` bounds how often that can nest, and each of the three comes at most once in a command. -/
def pushNested : Nat → LedgerEvent → Dev → Dev
  | 0, e, s => bufTake (fun e s => (ledgerPut id e s).2) e s
  | n + 1, e, s => bufTake (writeWith (pushNested n)) e s

/-- An event reaches the Ledger (R90): it waits in the reorder buffer, and with the buffer full the lowest-keyed event is written at once. -/
def pushEvent (e : LedgerEvent) (s : Dev) : Dev := pushNested 3 e s

/-- The Ledger writes an event whose turn has come. -/
def ledgerWrite (e : LedgerEvent) (s : Dev) : Dev := writeWith pushEvent e s

/-- An event's record goes to event ring `r` (R146, R147). -/
def postEvent (r : Nat) (e : LedgerEvent) (s : Dev) : Dev := postWith pushEvent r e s

/-- An occurrence of an event ring or of the Ledger itself. -/
def occurInner (src : Nat) (o : OccData) (s : Dev) : Dev := occurWith pushEvent src o true false s.now none s

/-! ### The operations that every block calls -/

/-- A Ledger entry that is no occurrence (R488): code, channel and data, stamped now. -/
def note (src code : Nat) (chan : Option Nat) (data : Octets) (s : Dev) : Dev := pushEvent (eventOf s src code chan data) s

/-- A Ledger entry that is no occurrence, stamped `t`: a media event carries the corrected media time of its sample (R86, R279). -/
def noteAt (t : Stamp) (src code : Nat) (chan : Option Nat) (data : Octets) (s : Dev) : Dev :=
  pushEvent { eventOf s src code chan data with stamp := t } s

/-- A real occurrence, stamped `t`. A rise of a live condition that is already present is none (R488). -/
def occurAt (src : Nat) (o : OccData) (t : Stamp) (s : Dev) : Dev :=
  if hasLive src then
    if s.rbit (Reg.srcStatus src) 0 then s else occurWith pushEvent src o true false t none (if (sourceMask src).isSome then setLive src true s else s)
  else occurWith pushEvent src o true false t none s

/-- A real occurrence, stamped now. -/
def occur (src : Nat) (o : OccData) (s : Dev) : Dev := occurAt src o s.now s

/-- A real occurrence with a code of its own. -/
def occurCode (src code : Nat) (chan : Option Nat) (data : Octets) (s : Dev) : Dev := occur src { code := some code, data := data, chan := chan } s

/-- A real occurrence at a resource of a cluster: sources 0x084 and 0x086 (R493). -/
def occurRes (src : Nat) (o : OccData) (cluster : Nat) (r : Resource) (s : Dev) : Dev :=
  occurWith pushEvent src o true false s.now (some (cluster, r)) s

/-- An injected occurrence (R502). -/
def inject (src : Nat) (s : Dev) : Dev := occurWith pushEvent src {} false true s.now none s

/-- The end of a live condition (R490): FAULT_CLEAR where its rise wrote an entry, with a fault record where the mask holds a reaction. -/
def faultEnd (src : Nat) (data : Octets) (s : Dev) : Dev :=
  if ¬ s.rbit (Reg.srcStatus src) 0 then s
  else
    let s := setLive src false s
    let st := s.reg (Reg.srcStatus src)
    if ¬ s.flt.entered.contains src then s
    else
      let e := eventOf s src 2 none (padTo 8 data ++ occTail src s (bit st 1) (bit st 2))
      let s := { s with flt := { s.flt with entered := s.flt.entered.filter (· != src) } }
      let s := pushEvent e s
      if maskOf s src ≠ 0 then faultRecord e s else s

/-- A live condition follows `present`. -/
def follow (src : Nat) (present : Bool) (o : OccData) (s : Dev) : Dev := if present then occur src o s else faultEnd src o.data s

/-- The injections written before this command take effect (R502): in the cycle after their FORCE writes. -/
def takeInjections (s : Dev) : Dev :=
  s.flt.forced.foldl (fun s src => inject src s) { s with flt := { s.flt with forced := [] } }

end Sys2Proof.Machine
end

