-- ==== Sys2Proof/Machine/RonSend.lean ====
section
/-! DEFINITION. Sending on the Ronong link: frames, credits and the way to a device (R432, R433, R435). -/

namespace Sys2Proof.Machine

/-- STATE of Ronong lane L(8 + k) (R436): 0 OFF, 1 CALIB, 2 TRAIN, 3 HELLO, 4 UP, 5 DOWN. -/
def ronState (s : Dev) (k : Nat) : Nat := if s.domainOn (22 + k / 8) then s.rfld (Reg.ronLaneStatus k) 0 3 else 0

/-- The partner's HID on lane L(8 + k). -/
def ronPartner (s : Dev) (k : Nat) : Nat := s.rfld (Reg.ronLaneStatus k) 8 4

/-- The cells of a frame of `n` octets. -/
def cellsOf (n : Nat) : Nat := (n + 63) / 64

/-- A frame's header (R432) before its payload; `flags` are ENC and KEY_PHASE. -/
def ronHeader (s : Dev) (flags vl type dst len seq aux : Nat) : Octets :=
  [BitVec.ofNat 8 (vl * 32 + type % 32), BitVec.ofNat 8 flags] ++ toBe 2 len ++ [BitVec.ofNat 8 (s.hid * 16 + dst % 16), 0, 0, 0] ++
    toBe 4 (seq % 2 ^ 32) ++ toBe 4 aux

/-- What a lane carries (R430): no media and no dossier while its partner's heartbeats name another plan. -/
def planFits (s : Dev) (k vl : Nat) : Bool := !(vl == 2 || vl == 3) || (match (s.rl k).peer with | some m => m.digestOk | none => true)

/-- What this device may send on lane `k` (R430, R451): a fenced device only heartbeats and Ledger entries, and no media or dossier goes to
a partner with another plan. -/
def ronMay (s : Dev) (k vl type : Nat) : Bool :=
  (!s.ron.fenced || vl == 4 || (vl == 1 && type == 1)) && planFits s k vl

/-- The keys under which lane `k` enciphers: in UP, once they are agreed (R440). -/
def ronKeys (s : Dev) (k : Nat) : Option LinkKeys := if ronState s k = 4 ∧ s.rbit (Reg.ronLaneStatus k) 3 then (s.rl k).keys else none

/-- The IV of a frame (R440): the salt XOR the VL in bits 95:93 and the extended SEQ in bits 63:0. -/
def ronIv (salt : Octets) (vl index : Nat) : Octets := xorOcts (padTo 12 salt) (toBe 12 (vl * 2 ^ 93 + index % 2 ^ 64))

/-- A frame as it stands on the line: header, payload and CRC-32C; under keys the payload is enciphered, with its tag behind it (R440). -/
def ronFrame (s : Dev) (k vl type dst aux index : Nat) (payload : Octets) : Octets :=
  let crc (o : Octets) : Octets := o ++ toBe 4 (crc32c o)
  match ronKeys s k with
  | none => crc (ronHeader s 0 vl type dst (20 + payload.length) index aux ++ payload)
  | some x =>
    let h := ronHeader s (1 + 2 * (s.rbit (Reg.ronLaneStatus k) 4).toNat) vl type dst (36 + payload.length) index aux
    let iv := ronIv x.txSalt vl index
    let ct := gcmCrypt x.txKey iv payload
    crc (h ++ ct ++ gcmTag x.txKey iv h ct)

/-- The credit limit of VL `vl` on lane `k`: `RON.CREDIT[v]`, whose changes reach a lane only while it is not UP (R435). -/
def creditOf (s : Dev) (k vl : Nat) : Nat :=
  let now := s.rfld (Reg.ronCredit vl) 0 13
  if ronState s k = 4 then (s.rl k).limits.getD vl now else now

/-- A frame of VL `vl` starts on lane `k` now, where its credit allows it (R435). -/
def ronStart (k vl type dst aux : Nat) (payload : Octets) (s : Dev) : Option Dev :=
  let l := s.rl k
  let c := cellsOf (payload.length + if (ronKeys s k).isSome then 36 else 20)
  let sent := l.sent.getD vl 0
  if (sent + c + 2 ^ 32 - l.freed.getD vl 0) % 2 ^ 32 ≤ creditOf s k vl then
    let roll := l.rolls.getD vl 0
    let o := ronFrame s k vl type dst aux (roll * 2 ^ 32 + sent) payload
    let s := s.setRl k { l with sent := l.sent.set vl ((sent + c) % 2 ^ 32), rolls := l.rolls.set vl (roll + (sent + c) / 2 ^ 32) }
    some ((s.bump64 (Reg.ronLaneTxFrames k)).emit (.ronong k vl type o))
  else none

/-- The most octets of payload that a frame carries, the tag of an enciphered one allowed for (R432, R440). -/
def ronMost : Nat := 2012

/-- A frame for device `dst` is sent on lane `k`: at once, or queued behind the frames of its VL that wait for credit. What no frame can carry is
not sent. -/
def ronPut (k vl type dst aux : Nat) (payload : Octets) (s : Dev) : Dev :=
  if ¬ ronMay s k vl type ∨ ronMost < payload.length then s
  else
    let l := s.rl k
    let wait (s : Dev) : Dev := s.setRl k { l with queue := l.queue ++ [⟨vl, type, dst, aux, payload⟩] }
    if l.queue.any (fun q => q.vl == vl) then wait s
    else match ronStart k vl type dst aux payload s with
      | some s => s
      | none => wait s

/-- A frame for the partner of lane `k` is sent. -/
def ronSend (k vl type aux : Nat) (payload : Octets) (s : Dev) : Dev := ronPut k vl type (ronPartner s k) aux payload s

/-- Frames that wait on lane `k` start in strict priority of their VL, VL0 first, in order within a VL, while credit allows (R433, R435). -/
def ronDrain (k : Nat) (s : Dev) : Dev :=
  (upTo 8).foldl (fun s vl =>
    let q := (s.rl k).queue.filter (fun x => x.vl == vl)
    (q.foldl (fun (p : Bool × Dev) x =>
      if ¬ p.1 then p
      else match ronStart k x.vl x.type x.dst x.aux x.payload p.2 with
        | none => (false, p.2)
        | some s =>
          let l := s.rl k
          (true, s.setRl k { l with queue := l.queue.erase x })) (true, s)).2) s

/-- The lane whose partner is device `h`, when UP. -/
def directLane (s : Dev) (h : Nat) : Option Nat := (upTo 16).find? (fun k => ronState s k == 4 && ronPartner s k == h)

/-- The lane that leads to device `h`: its own, or the way of a detour (R448), from the active manager over the standby, and from a device to
the active manager over the standby. -/
def laneTo (s : Dev) (h : Nat) : Option Nat :=
  match directLane s h with
  | some k => some k
  | none =>
    if s.activeManager then
      if s.rbit (Reg.ronAlias h) 8 then (planManagers s).findSome? (directLane s) else none
    else if 2 ≤ s.role ∧ h = s.ron.activeHid then (planManagers s).findSome? (directLane s)
    else none

/-- The device that processes HID `h`'s channels: `RON.ALIAS[h].TARGET`; none while the alias is LOST (R144, R449). -/
def processor (s : Dev) (h : Nat) : Option Nat := if s.rbit (Reg.ronAlias h) 9 then none else some (s.rfld (Reg.ronAlias h) 0 4)

/-- A frame is sent to device `h`; nothing goes where no lane to it is UP. -/
def ronSendTo (h vl type aux : Nat) (payload : Octets) (s : Dev) : Dev :=
  match laneTo s h with
  | none => s
  | some k => ronPut k vl type h aux payload s

/-- The Ledger entries that wait for manager `h` leave, up to 62 to a frame, while its lane is UP and has credit for them (R95, R433, R435); they
are kept here until then. -/
def ledgerTo (h : Nat) : Nat → Dev → Dev
  | 0, s => s
  | n + 1, s =>
    let mine := s.ledger.out.filter (fun p => p.1 == h)
    let l := mine.take 62
    match if l.isEmpty then none else (directLane s h).bind (fun k => ronStart k 4 1 h l.length (l.map (·.2)).flatten s) with
    | none => s
    | some t => ledgerTo h n { t with ledger := { t.ledger with out := mine.drop 62 ++ s.ledger.out.filter (fun p => p.1 != h) } }

/-- A worker's or the reserve's Ledger entries go to both managers as their lanes allow (R95). -/
def ledgerSend (s : Dev) : Dev := (planManagers s).foldl (fun s h => ledgerTo h s.ledger.out.length s) s

end Sys2Proof.Machine
end

