-- ==== Sys2Proof/Machine/Rings.lean ====
section
/-! DEFINITION. The command rings: taking a descriptor (R142 to R144, R148, R150, R466 to R468) and completing it (R145, R146). -/

namespace Sys2Proof.Machine

/-- The statuses of R145. -/
inductive Status where
  | ok | badOpcode | badParam | noChannel | inUse | admission | busy | noTemplate | notRole | legConflict | pairRule | dmaError
  | refused | cancelled | notRunning | noId | unreachable
deriving DecidableEq, Repr

/-- A status as its number. -/
def Status.code : Status → Nat
  | .ok => 0 | .badOpcode => 1 | .badParam => 2 | .noChannel => 3 | .inUse => 4 | .admission => 5 | .busy => 6 | .noTemplate => 7
  | .notRole => 8 | .legConflict => 9 | .pairRule => 10 | .dmaError => 11 | .refused => 12 | .cancelled => 13 | .notRunning => 14
  | .noId => 15 | .unreachable => 16

/-- The completion record of R146. -/
def completionOctets (c : PendingCmd) (field : Nat) (st : Status) (result : Octets) : Octets :=
  [1, 0, BitVec.ofNat 8 c.opcode, BitVec.ofNat 8 c.ring] ++ toLe 2 st.code ++ [0, 0] ++ toLe 4 c.tag.toNat ++
    toLe 4 (field % 2 ^ 20) ++ padTo 16 result

/-- A completion leaves: to the slot its command reserved, or to the manager that forwarded the command (R143, R144). Without a slot, or
on a disabled ring, it is dropped under the rule of R147 (R468). -/
def postCompletion (c : PendingCmd) (o : Octets) (s : Dev) : Dev :=
  match c.origin with
  | some (k, aux) => ronSend k 1 4 aux o s
  | none =>
    if c.discard then s
    else if c.slot ∧ erOn s c.evr then erWrite c.evr o (s.setEr c.evr { s.er c.evr with reserved := (s.er c.evr).reserved - 1 })
    else if s.domainOn 24 then
      let s := s.setEr c.evr { s.er c.evr with gap := true, reserved := (s.er c.evr).reserved - c.slot.toNat }
      let (first, s) := s.oncePer 0x0C5 s.time.ticks
      if first then occurInner 0x0C5 {} s else s
    else s

/-- An earlier command of the same ring and channel has not ended (R142). -/
def blockedBy (l : List PendingCmd) (c : PendingCmd) : Bool :=
  c.origin.isNone && c.chan.isSome &&
    l.any (fun b => b.origin.isNone && b.ring == c.ring && b.chan == c.chan && decide (b.id < c.id) && b.done.isNone)

/-- Completions that wait for no earlier command leave, in the order of their commands. -/
def flushDone (s : Dev) : Dev :=
  let out := s.pci.cmds.filter (fun c => c.done.isSome && !blockedBy s.pci.cmds c)
  let s := { s with pci := { s.pci with cmds := s.pci.cmds.filter (fun c => !(c.done.isSome && !blockedBy s.pci.cmds c)) } }
  out.foldl (fun s c => postCompletion c (c.done.getD []) s) s

/-- The pending command with a number: the one taken last. -/
def findCmd (s : Dev) (id : Nat) : Option PendingCmd := s.pci.cmds.reverse.find? (fun c => c.id == id)

/-- A pending command changed. -/
def modCmd (id : Nat) (f : PendingCmd → PendingCmd) (s : Dev) : Dev :=
  { s with pci := { s.pci with cmds := s.pci.cmds.map (fun c => if c.id == id then f c else c) } }

/-- A command completes, with the CHANNEL field that its completion returns. -/
def completeAs (id field : Nat) (st : Status) (result : Octets) (s : Dev) : Dev :=
  flushDone (modCmd id (fun c => { c with done := some (completionOctets c field st result) }) s)

/-- A command completes. -/
def complete (id : Nat) (st : Status) (result : Octets) (s : Dev) : Dev :=
  match findCmd s id with
  | none => s
  | some c => completeAs id c.field st result s

/-- A command completes with a status alone. -/
def completeWith (id : Nat) (st : Status) (s : Dev) : Dev := complete id st [] s

/-- The pending commands of an opcode on a channel (global ID), in order. -/
def cmdsOn (s : Dev) (op g : Nat) : List PendingCmd := s.pci.cmds.filter (fun c => c.opcode == op && c.chan == some g && c.done.isNone)

/-- Opcodes that name a channel (R148). -/
def channelOp (op : Nat) : Bool := (decide (1 ≤ op) && decide (op ≤ 11)) || op == 0x12

/-- The opcodes that phases 9 and 10 accept (R150). -/
def lateOp (phase op : Nat) : Bool :=
  if phase = 9 then [0x14, 0x15, 0x17, 0x18, 0x19].contains op else if phase = 10 then [0x15, 0x19].contains op else true

/-- The descriptor's 64 octets (R141). -/
def descOctets (op : Nat) (d : Desc) : Octets :=
  [BitVec.ofNat 8 op, d.flags, d.evr, d.rsvd] ++ toLe 4 d.tag.toNat ++ toLe 4 d.channel.toNat ++ toLe 4 d.aux.toNat ++ d.params

/-- The command's channel field: the HID and the local ID it names. -/
def descHid (d : Desc) : Nat := fld d.channel 16 4

/-- A body's reach: what the shared part of a command's start decides (R144, R148, R150). -/
inductive Route where
  | here
  | forward (lane : Nat)
  | refuse (st : Status)
deriving DecidableEq, Repr

/-- Where a command goes: the tests of the device, its phase, its role and the CHANNEL field, in the order of R137. -/
def route (op : Nat) (d : Desc) (fromManager : Bool) (s : Dev) : Route :=
  if s.phase ≠ 8 ∧ ¬ ((s.phase = 9 ∨ s.phase = 10) ∧ lateOp s.phase op) then .refuse .notRunning
  else if op = 0 ∨ 0x1C ≤ op then .refuse .badOpcode
  else if channelOp op then
    if ¬ fromManager ∧ ¬ s.leads then .refuse .notRole
    else if fld d.channel 20 11 ≠ 0 ∨ (bit d.channel 31 ∧ op ≠ 1) then .refuse .badParam
    else if fromManager then .here
    else if descHid d = s.hid then .here
    else if s.standalone then .refuse .badParam
    else match processor s (descHid d) with
      | none => .refuse .unreachable
      | some h =>
        if h = s.hid then .here
        else match laneTo s h with
          | none => .refuse .unreachable
          | some k => .forward k
  else if d.channel ≠ 0 then .refuse .badParam
  else .here

/-- A command that stands in the list of pending commands. -/
def addCmd (c : PendingCmd) (s : Dev) : Dev :=
  { s with pci := { s.pci with cmds := s.pci.cmds ++ [c], nextId := s.pci.nextId + 1 } }

/-- The descriptor's reserved bits are zero (R141). -/
def descClean (d : Desc) : Bool := d.flags.toNat / 4 == 0 && d.evr.toNat / 4 == 0 && d.rsvd == 0

/-- The global ID a descriptor names. -/
def descGid (d : Desc) : Nat := fld d.channel 0 20

/-- The PHASE that command ring `r` expects (R467). -/
def crPhase (s : Dev) (r : Nat) : Bool := s.rbit (Reg.pciCrStatus r) 1

/-- Command ring `r` has a descriptor that may be taken now: the ring runs and is not empty, firmware or the boot sequencer serves the
rings, and a FENCE finds no earlier command of the ring pending (R142, R150, R466 to R468). -/
def ringReady (r : Nat) (d : Desc) (s : Dev) : Bool :=
  s.domainOn 24 && s.rbit (Reg.pciCrCtrl r) 0 && !s.rbit (Reg.pciCrStatus r) 0 &&
    s.rfld (Reg.pciCrHead r) 0 16 != s.rfld (Reg.pciCrTail r) 0 16 && decide (8 ≤ s.phase) && decide (s.phase ≤ 10) && (s.phase != 8 || s.domainOn 25) &&
    !(d.flags.toNat.testBit 1 && s.pci.cmds.any (fun c => c.origin.isNone && c.ring == r))

/-- The ring's head moves on, and its PHASE inverts at the wrap. -/
def crAdvance (r : Nat) (s : Dev) : Dev :=
  let h := (s.rfld (Reg.pciCrHead r) 0 16 + 1) % ringSize (s.reg (Reg.pciCrCtrl r))
  let s := s.setFld (Reg.pciCrHead r) 0 16 h
  if h = 0 then s.setBit (Reg.pciCrStatus r) 1 (!crPhase s r) else s

/-- Firmware takes the descriptor at the head of ring `r` (R142 to R144, R467): with a wrong PHASE the ring stops; without a free slot on
the event ring nothing is taken; else a slot is reserved, and the command is refused, forwarded or run by `body`. `pre` is what this
device must test of a command before it forwards it. -/
def takeRing (r op : Nat) (d : Desc) (pre : Dev → Option (Status × Octets)) (body : Nat → Dev → Dev) (s : Dev) : Dev :=
  if ¬ ringReady r d s then s
  else if d.flags.toNat.testBit 0 ≠ crPhase s r then occur 0x0CA {} (s.setBit (Reg.pciCrStatus r) 0 true)
  else
    let evr := d.evr.toNat % 4
    if erFree s evr = 0 then s
    else
      let id := s.pci.nextId
      let c : PendingCmd := { id := id, ring := r, evr := evr, opcode := op, tag := d.tag, slot := true,
                              chan := if channelOp op then some (descGid d) else none, field := (descGid d), aux := d.aux.toNat }
      let s := addCmd c (crAdvance r (s.setEr evr { s.er evr with reserved := (s.er evr).reserved + 1 }))
      match route op d false s with
      | .refuse st => completeWith id st s
      | .forward k =>
        match pre s with
        | some (st, o) => complete id st o s
        | none => ronPut k 1 3 ((processor s (descHid d)).getD 0) (r * 2 ^ 30 + id % 2 ^ 30) (descOctets op d) s
      | .here => body id s

/-- A command that arrived in a COMMAND frame on lane `k` runs here (R144). -/
def takeFrame (k op : Nat) (d : Desc) (aux : Nat) (body : Nat → Dev → Dev) (s : Dev) : Dev :=
  let id := s.pci.nextId
  let c : PendingCmd := { id := id, ring := aux / 2 ^ 30 % 4, evr := d.evr.toNat % 4, opcode := op, tag := d.tag, slot := false,
                          chan := if channelOp op then some (descGid d) else none, field := (descGid d), aux := d.aux.toNat,
                          origin := some (k, aux) }
  let s := addCmd c s
  match route op d true s with
  | .refuse st => completeWith id st s
  | .forward _ => completeWith id .unreachable s
  | .here => body id s

/-- A command ring is disabled or enabled, or takes new settings, by a write of its CTRL (R468). -/
def crCtrlWrite (r : Nat) (v : Word) (s : Dev) : Dev :=
  let a := Reg.pciCrCtrl r
  let was := s.rbit a 0
  let v := BitVec.ofNat 32 (v.toNat % 32)
  let en := bit v 0
  if was ∧ fld v 1 4 ≠ s.rfld a 1 4 then s
  else
    let s := s.setReg a v
    if en ∧ ¬ was then
      ((s.setNat (Reg.pciCrHead r) 0).setNat (Reg.pciCrTail r) 0).setNat (Reg.pciCrStatus r) 2
    else s

/-- An event ring is disabled: every reserved slot is discarded (R468). -/
def erDrop (r : Nat) (s : Dev) : Dev :=
  let s := s.setEr r { s.er r with reserved := 0, unsignalled := 0, firstAt := none }
  { s with pci := { s.pci with cmds := s.pci.cmds.map (fun c => if c.evr == r then { c with slot := false } else c) } }

/-- An event ring takes a write of its CTRL (R468). -/
def erCtrlWrite (r : Nat) (v : Word) (s : Dev) : Dev :=
  let a := Reg.pciErCtrl r
  let was := s.rbit a 0
  let v := BitVec.ofNat 32 (v.toNat &&& 0xFFFFFF1F)
  let en := bit v 0
  if was ∧ v.toNat / 2 ≠ (s.reg a).toNat / 2 then s
  else
    let s := s.setReg a v
    if en ∧ ¬ was then
      let s := erDrop r s
      ((s.setNat (Reg.pciErHead r) 0).setNat (Reg.pciErTail r) 0).setNat (Reg.pciErStatus r) 2
    else if was ∧ ¬ en then erDrop r s
    else s

/-- The tail doorbell of command ring `r` (R465, R466): indices wrap at the ring's size. -/
def tailDoorbell (r : Nat) (v : Word) (s : Dev) : Dev :=
  if s.domainOn 24 ∧ s.rbit (Reg.pciCrCtrl r) 0 then s.setNat (Reg.pciCrTail r) (fld v 0 16 % ringSize (s.reg (Reg.pciCrCtrl r))) else s

/-- The head doorbell of event ring `r` (R465, R467). -/
def headDoorbell (r : Nat) (v : Word) (s : Dev) : Dev :=
  if s.domainOn 24 ∧ s.rbit (Reg.pciErCtrl r) 0 then s.setNat (Reg.pciErHead r) (fld v 0 16 % ringSize (s.reg (Reg.pciErCtrl r))) else s

/-- COAL_US after the first record not yet signalled, the ring's vector fires (R469). -/
def coalesceTimer (r : Nat) (s : Dev) : Dev :=
  match (s.er r).firstAt with
  | none => s
  | some t => msix r ((s.elapseTo t).setEr r { s.er r with unsignalled := 0, firstAt := none })

end Sys2Proof.Machine
end

