-- ==== Sys2Proof/Machine/Admission.lean ====
section
/-! DEFINITION. Admission control: charges, loads, placement and phase (R100, R101, R123 to R125, R217 to R220, R228, R445, R520). -/

namespace Sys2Proof.Machine

/-! ### The power profile in force (R520, R531) -/

/-- Octets of the power-profile record in force, as `PWR.PROFILE` shows it. -/
def profByte (s : Dev) (off : Nat) : Nat := s.rfld (Reg.pwrProfile (off / 4)) (8 * (off % 4)) 8

/-- A 16-bit field of the power-profile record in force. -/
def profWord (s : Dev) (off : Nat) : Nat := s.rfld (Reg.pwrProfile (off / 4)) (8 * (off % 4)) 16

/-- A field of a record within its range, its default otherwise, and the nearer end where the default lies outside. -/
def profTake (v lo hi dflt : Nat) : Nat := if v ≠ 0 ∧ lo ≤ v ∧ v ≤ hi then v else max lo (min hi dflt)

/-- The record of R520 with every field taken as the table lays down, in offset order. -/
def profNormal (r : Octets) : Octets :=
  let clFreq := profTake (oct r 0) 10 48 40
  let avsMin := profTake (le r 4 2) 550 850 550
  let slackLow := profTake (oct r 8) 5 200 30
  let consolLow := profTake (oct r 13) 5 80 30
  [BitVec.ofNat 8 clFreq, BitVec.ofNat 8 (profTake (oct r 1) 10 100 40), BitVec.ofNat 8 (profTake (oct r 2) 5 100 20),
   BitVec.ofNat 8 (profTake (oct r 3) 2 64 8)] ++ toLe 2 avsMin ++ toLe 2 (profTake (le r 6 2) avsMin 850 850) ++
  [BitVec.ofNat 8 slackLow, BitVec.ofNat 8 (profTake (oct r 9) (slackLow + 10) 250 60)] ++
  toLe 2 (profTake (le r 10 2) 800 1000 1000) ++
  [BitVec.ofNat 8 (profTake (oct r 12) 10 clFreq 20), BitVec.ofNat 8 consolLow] ++ toLe 2 (profTake (le r 14 2) 1 3600 60) ++
  [BitVec.ofNat 8 (profTake (oct r 16) (consolLow + 10) 100 80), BitVec.ofNat 8 (profTake (oct r 17) 1 255 64)] ++ zeros 14

/-- CL_FREQ of the profile in force. -/
def profClFreq (s : Dev) : Nat := profByte s 0

/-- A cluster's clock in 25 MHz, before halving (R519): its register, or CL_FREQ where the cluster has not run. -/
def clFreqOf (s : Dev) (n : Nat) : Nat :=
  let f := s.rfld (Reg.pwrClClk n) 0 6
  if f = 0 then profClFreq s else f

/-- A resource's capacity in cycles per tick (R101): 2,500,000 at 1.0 GHz. -/
def capCycles (s : Dev) (n : Nat) : Nat := clFreqOf s n * 62500

/-- A tile's SRAM capacity in octets (R220). -/
def capSram : Nat := 2288 * 1024

/-- `GDU.CFG.ADM_LIMIT` as taken, in percent. -/
def admLimit (s : Dev) : Nat := s.within Reg.gduCfg 8 8 50 100

/-! ### Charges -/

/-- The fixed cost of a node kind at a rate (R100, R218). -/
def fixedCost (kind rate : Nat) : Nat :=
  let wn (w n : Nat) : Nat := if rate = 0 then n else w
  let scaled (w n : Nat) : Nat := if rate = 0 then n else w * rate
  match kind with
  | 0x01 => 50 | 0x02 => 50 | 0x03 => 300
  | 0x06 => wn 400 250 | 0x07 => wn 300 150 | 0x08 => wn 721 361 | 0x09 => wn 1800 900 | 0x0A => wn 500 250
  | 0x0B => scaled 600 300 | 0x0C => scaled 400 200 | 0x0D => scaled 300 150 | 0x10 => scaled 300 150 | 0x11 => scaled 200 100
  | 0x12 => 100 | 0x13 => 20 | _ => 0

/-- Decode and encode costs of a codec at a rate (R217). -/
def codecCost (codec rate : Nat) : Nat × Nat :=
  match codec with
  | 1 => (100, 100) | 2 => (100, 100) | 3 => (1500, 2700) | 4 => (900, 1300) | 5 => (1900, 4600) | 6 => (2400, 7200)
  | 7 => (3300, 9700) | 8 => (8200, 21500) | 9 => if rate ≤ 1 then (5600, 14000) else (8200, 21800) | _ => (0, 0)

/-- Codec state in KiB (R217). -/
def codecState (codec : Nat) : Nat :=
  match codec with
  | 1 => 1 | 2 => 1 | 3 => 4 | 4 => 2 | 5 => 2 | 6 => 4 | 7 => 4 | 8 => 20 | 9 => 8 | _ => 0

/-- A node's cost: the cost model's own where it carries one, else the tables' (R101). -/
def nodeCost (model : Octets) (kind codec rate : Nat) : Nat :=
  match if model.isEmpty then none else Config.modelCost model kind codec rate with
  | some c => c
  | none => if kind = 4 then (codecCost codec rate).1 else if kind = 0xE then (codecCost codec rate).2 else fixedCost kind rate

/-- The function of a node kind is off (R139). -/
def functionOff (funcEn kind : Nat) : Bool :=
  match kind with
  | 0x08 => !funcEn.testBit 0
  | 0x09 => !(funcEn.testBit 0 && funcEn.testBit 1)
  | 0x0A => !funcEn.testBit 2
  | 0x0C => !funcEn.testBit 3
  | 0x0D => !funcEn.testBit 4
  | _ => false

/-- The template holds a node of a kind. -/
def Template.holds (t : Template) (kind : Nat) : Bool := t.nodes.any (fun n => n.kind == kind)

/-- The template's TRANSCODE flag. -/
def Template.transcode (t : Template) : Bool := t.flags.testBit 0

/-- A channel-state size in octets (R219). -/
def sramCharge (t : Template) (funcEn codec rate : Nat) : Nat :=
  let base := if rate = 0 then 2 else 4
  let ec := if funcEn.testBit 0 ∧ t.holds 8 then (if rate = 0 then 4 else 8) else 0
  let ring := if t.transcode then [2, 4, 8, 12].getD rate 12 else 0
  1024 * (base + ec + codecState codec + ring)

/-- A channel's charge under a cost model, from its template and parameter block (R123, R140). -/
def chargeOf (model : Octets) (t : Template) (params : Octets) : Charge :=
  let codec := oct params 3
  let rate := oct params 2
  let funcEn := le params 6 2
  let c := t.nodes.foldl (fun (c : Charge) n =>
    if functionOff funcEn n.kind then c
    else
      let w := nodeCost model n.kind codec rate
      match n.kind with
      | 0x01 | 0x02 | 0x06 | 0x07 => { c with rfe := c.rfe + w }
      | 0x08 => { c with ee := c.ee + w }
      | 0x0A => { c with td := c.td + w }
      | 0x0F | 0x14 => c
      | _ => { c with tile := c.tile + w }) {}
  { c with sram := sramCharge t funcEn codec rate }

/-- The stored size of a channel's dossier in octets (R444). -/
def dossierStored (params : Octets) : Nat :=
  if ¬ (le params 6 2).testBit 0 then 64 else if oct params 2 = 0 then 544 else 1024

/-- What a tile may hold of dossiers, and what each channel adds to its stored size (R445); none where no dossiers are kept. -/
def dossierLimit (s : Dev) : Option (Nat × Nat) :=
  if s.spare then some (152 * 1024, 0)
  else match s.ron.plan with
    | none => none
    | some p => if s.role ≠ 0 ∧ p.devs.any (fun d => d.role == 3) then some (160 * 1024, 80) else none

/-- The parameter block of the two channels of a MIRROR test, from the test's PARAMS (R535, R539). -/
def testBlock (p : Octets) : Octets :=
  [BitVec.ofNat 8 (oct p 2)] ++ octs p 3 5 ++ toLe 2 0x000F ++ [64, 0, 0xFF, 0xFF, 0, 0x80, 0, 0] ++ toLe 2 400 ++ zeros 30

/-- The two test channels of each MIRROR test that runs on a tile `t` with `here t` (R535). -/
def testChannels (s : Dev) (here : Nat → Bool) : List Channel :=
  (s.tests.filter (fun x => x.key.kind == 3 && here x.key.unit)).flatMap (fun x =>
    match kvGet s.epochs.cur.templates (oct x.params 2) with
    | none => []
    | some t =>
      let k : Channel := { st := .running, owner := s.hid, params := testBlock x.params, template := t, phase := 0, home := x.key.unit,
                           charge := chargeOf s.epochs.cur.cost t (testBlock x.params) }
      [k, k])

/-- The open channels that charge tile `t`: those homed there, and those whose migration there is pending (R127). -/
def openOnTile (s : Dev) (t : Nat) : List Channel :=
  (s.chans.map (·.2)).filter (fun k => k.home == t || k.migrate == some t || k.migrateBack == some t)

/-- The channels that charge tile `t`: open ones, and test channels. -/
def onTile (s : Dev) (t : Nat) : List Channel := openOnTile s t ++ testChannels s (· == t)

/-- The channels that charge cluster `n`. -/
def onCluster (s : Dev) (n : Nat) : List Channel :=
  (s.chans.map (·.2)).filter (fun k =>
    k.home / 16 == n || (k.migrate.map (· / 16)) == some n || (k.migrateBack.map (· / 16)) == some n) ++ testChannels s (fun t => t / 16 == n)

/-- The sum of a part of the charges of channels. -/
def sumCharge (l : List Channel) (f : Charge → Nat) : Nat := (l.map (fun k => f k.charge)).sum

/-- A share of a capacity. -/
structure Share where
  num : Nat
  den : Nat
deriving DecidableEq, Repr

/-- The lesser share comes first. -/
def Share.lt (a b : Share) : Bool := decide (a.num * b.den < b.num * a.den)

/-- The greater of two shares. -/
def Share.max (a b : Share) : Share := if a.lt b then b else a

/-- A share in hundredths of a percent. -/
def Share.hundredths (a : Share) : Nat := a.num * 10000 / Nat.max a.den 1

/-- A share is at or below `pct` percent. -/
def Share.within (a : Share) (pct : Nat) : Bool := decide (a.num * 100 ≤ pct * a.den)

/-- A tile's load with an added charge (R124). -/
def tileLoad (s : Dev) (t : Nat) (c : Charge) : Share :=
  let l := onTile s t
  (Share.mk (sumCharge l (·.tile) + c.tile) (capCycles s (t / 16))).max ⟨sumCharge l (·.sram) + c.sram, capSram⟩

/-- The greatest load of a cluster's three engines with an added charge. -/
def engineLoad (s : Dev) (n : Nat) (c : Charge) : Share :=
  let l := onCluster s n
  let cap := capCycles s n
  ((Share.mk (sumCharge l (·.ee) + c.ee) cap).max ⟨sumCharge l (·.rfe) + c.rfe, cap⟩).max ⟨sumCharge l (·.td) + c.td, cap⟩

/-- A cluster's load (R124). -/
def clusterLoad (s : Dev) (n : Nat) : Share :=
  (upTo 16).foldl (fun m j => m.max (tileLoad s (16 * n + j) {})) (engineLoad s n {})

/-- The dossiers of tile `t`'s channels, with one more channel, stay within the tile's limit (R445). -/
def dossierFits (s : Dev) (t : Nat) (params : Octets) (counted : Bool) : Bool :=
  match dossierLimit s with
  | none => true
  | some (lim, extra) =>
    let old := ((openOnTile s t).map (fun k => dossierStored k.params + extra)).sum
    decide (old + (if counted then 0 else dossierStored params + extra) ≤ lim)

/-- Tile `t` and its cluster's engines stay within the admission limit with an added charge (R123, R445). -/
def admits (s : Dev) (t : Nat) (c : Charge) (params : Octets) : Bool :=
  (tileLoad s t c).within (admLimit s) && (engineLoad s (t / 16) c).within (admLimit s) && dossierFits s t params false

/-- A refused admission: counted, and source 0x08B recorded (R123). -/
def admissionRefused (g : Nat) (s : Dev) : Dev :=
  occur 0x08B { data := [0, 0, 0, 0, 0xFF], chan := some g } (s.bump Reg.gduAdmRefuse)

/-! ### Kernel sets (R227, R228) -/

/-- The image's sections that firmware holds. -/
def sectionOf (s : Dev) (ty : Nat) : Octets := (kvGet s.boot.sections ty).getD []

/-- The kernel sets of the library in the kernel reserve, in order. -/
def kernelSets (s : Dev) : List (List Nat) := s.boot.ksets

/-- A set holds what a codec needs; a channel of CODEC 0 needs no codec kernels. -/
def setServes (set : List Nat) (codec : Nat) : Bool := codec == 0 || set.contains codec

/-- The first set of the library that serves a codec and is not lost. -/
def firstSet (s : Dev) (codec : Nat) : Option Nat :=
  ((kernelSets s).zipIdx.find? (fun p => setServes p.1 codec && !s.lostSets.contains p.2)).map (·.2)

/-- The register block number of tile `t`'s STATE. -/
def tileState (s : Dev) (t : Nat) : Nat := s.rfld (Reg.tileState t) 0 2

/-- The kernel set a tile holds: none in a cluster that is OFF (R513). -/
def tileSet (s : Dev) (t : Nat) : Option Nat := if s.clState (t / 16) ≠ 0 ∧ s.rbit (Reg.tileState t) 31 then some (s.rfld (Reg.tileState t) 8 5) else none

/-- The tile needs no load for the codec: the set it holds serves it. -/
def tileHas (s : Dev) (t codec : Nat) : Bool :=
  match tileSet s t with
  | none => false
  | some k => match (kernelSets s)[k]? with | some set => setServes set codec | none => false

/-- The set that a tile is to hold: the one that firmware is to load into it, else the one it holds. -/
def tileDue (s : Dev) (t : Nat) : Option Nat := match kvGet s.loads t with | some k => some k | none => tileSet s t

/-- The set that a tile is to hold serves a codec. -/
def tileWillServe (s : Dev) (t codec : Nat) : Bool :=
  match (tileDue s t).bind (fun k => (kernelSets s)[k]?) with | some set => setServes set codec | none => false

/-- The tile can take a channel of a codec (R228, R230, R232); placement skips a tile under a TILE test (R543). -/
def tileCan (s : Dev) (t codec : Nat) : Bool :=
  tileState s t == 0 && !s.tests.any (fun x => x.key.kind == 2 && x.key.unit == t) && !s.rbit (Reg.tileCtrl t) 0 &&
    (tileWillServe s t codec || ((onTile s t).isEmpty && (firstSet s codec).isSome) ||
      (codec == 0 && (tileDue s t).isNone && (firstSet s 0).isSome))

/-- A channel of a codec is placed on tile `t`: firmware is to load the first set that serves it, unless the tile's set will (R228). -/
def needSet (t codec : Nat) (s : Dev) : Dev :=
  if tileWillServe s t codec then s
  else match firstSet s codec with
    | none => s
    | some k => { s with loads := kvSet s.loads t k }

/-! ### Placement (R124, R125, R130) -/

/-- Cluster `n` is open to admission: not fenced, not failed, and not the dossier store. -/
def clusterOpen (s : Dev) (n : Nat) : Bool :=
  !s.rbit Reg.gduClFence n && !s.rbit Reg.pwrDomainFail (1 + n) && !(s.spare && n == 15)

/-- The most loaded of the tiles of cluster `n` that can take the charge. -/
def placeInCluster (s : Dev) (n : Nat) (c : Charge) (params : Octets) : Option Nat :=
  let fits := ((upTo 16).map (fun j => 16 * n + j)).filter (fun t => tileCan s t (oct params 3) && admits s t c params)
  match fits with
  | [] => none
  | t :: r => some (r.foldl (fun b t => if (tileLoad s b {}).lt (tileLoad s t {}) then t else b) t)

/-- Where a channel goes: the most loaded cluster that can take it, among clusters that are not OFF; else the lowest-numbered OFF cluster
that can take it once woken. The flag says that the cluster must wake from OFF. -/
def place (s : Dev) (c : Charge) (params : Octets) : Option (Nat × Bool) :=
  let ns := (upTo 16).filter (fun n => clusterOpen s n && decide (0 < s.clState n) && (placeInCluster s n c params).isSome)
  match ns with
  | n :: r =>
    let b := r.foldl (fun b n => if (clusterLoad s b).lt (clusterLoad s n) then n else b) n
    (placeInCluster s b c params).map (fun t => (t, false))
  | [] =>
    ((upTo 16).find? (fun n => clusterOpen s n && s.clState n == 0 && (placeInCluster s n c params).isSome)).bind
      (fun n => (placeInCluster s n c params).map (fun t => (t, true)))

/-- The charges that fall on a resource at cadence number `x` (R125). -/
def fallsAt (l : List Channel) (f : Charge → Nat) (x : Nat) : Nat :=
  (l.map (fun k =>
    let fr := frameTicks (k.par 1 1 % 8)
    if fr ≠ 0 ∧ x % fr = k.phase then f k.charge * fr else 0)).sum

/-- The largest share that any resource of tile `t`'s cluster meets at any cadence number, with the new channel at phase `ph` on tile `t`. -/
def phasePeak (s : Dev) (t fr ph : Nat) (c : Charge) : Nat :=
  let n := t / 16
  let cl := onCluster s n
  let new (f : Charge → Nat) (x : Nat) : Nat := if x % fr = ph then f c * fr else 0
  greatest ((upTo 48).map (fun x =>
    greatest ([fallsAt cl (·.ee) x + new (·.ee) x, fallsAt cl (·.rfe) x + new (·.rfe) x, fallsAt cl (·.td) x + new (·.td) x] ++
      (upTo 16).map (fun j => fallsAt (onTile s (16 * n + j)) (·.tile) x + (if 16 * n + j = t then new (·.tile) x else 0)))))

/-- The phase of a new channel (R125): zero for a TRANSCODE template, else the lowest phase with the smallest peak. -/
def choosePhase (s : Dev) (t fr : Nat) (tr : Bool) (c : Charge) : Nat :=
  if tr ∨ fr = 0 then 0
  else ((upTo fr).foldl (fun (b : Nat × Nat) p =>
    let v := phasePeak s t fr p c
    if v < b.2 then (p, v) else b) (0, phasePeak s t fr 0 c)).1

/-! ### What the registers show of the charges (R133, R232, R267, R296, R323) -/

/-- The echo search span in ms. -/
def ecTailMs (o : Octets) : Nat := 4 * (if oct o 8 = 0 then 64 else oct o 8)

/-- `EE.CORR_LOAD` in hundredths of a percent (R239, R267): the locator of a channel whose span exceeds 48 ms takes each of its lags once a decimated sample, at
16 a cycle. One product a lag is what makes R239's 3.3 % of a full cluster (DEDUCED, log entry 81). -/
def corrLoad (s : Dev) (n : Nat) : Nat :=
  let spans := (onCluster s n).map (fun k =>
    let span := ecTailMs k.params
    if (k.par 6 2).testBit 0 ∧ k.template.holds 8 ∧ 48 < span then span else 0)
  sat 14 (spans.sum * 5 * 10000 / (32 * max 1 (capCycles s n)))

/-- `CH_COUNT`, `SRAM_USED`, `CYC_USED` of each tile, CHARGE of each engine, and `GDU.CL_LOAD` of cluster `n` follow the channels. -/
def refreshLoads (n : Nat) (s : Dev) : Dev :=
  let s := (upTo 16).foldl (fun s j =>
    let t := 16 * n + j
    let l := onTile s t
    ((s.setFld (Reg.tileChCount t) 0 11 (sat 11 (l.filter (fun k => k.home == t)).length)).setFld (Reg.tileSramUsed t) 0 13 ((sumCharge l (·.sram) + 1023) / 1024)).setFld
      (Reg.tileCycUsed t) 0 22 (sat 22 (sumCharge l (·.tile)))) s
  let l := onCluster s n
  let s := s.setFld (Reg.eeCharge n) 0 22 (sat 22 (sumCharge l (·.ee)))
  let s := s.setFld (Reg.rfeCharge n) 0 22 (sat 22 (sumCharge l (·.rfe)))
  let s := s.setFld (Reg.tdCharge n) 0 22 (sat 22 (sumCharge l (·.td)))
  let s := s.setFld (Reg.eeCorrLoad n) 0 14 (corrLoad s n)
  s.setFld (Reg.gduClLoad n) 0 14 (sat 14 (clusterLoad s n).hundredths)

end Sys2Proof.Machine
end

