-- ==== Sys2Proof/Machine/Channels.lean ====
section
/-! DEFINITION. What ends with a channel: its recording streams, its statistics block, its catalogue record, and the close (R115, R120,
R121, R134, R156, R157, R346, R442). -/

namespace Sys2Proof.Machine

/-! ### Recording streams -/

/-- The sample rate of a RATE code in Hz (R137). -/
def rateHz (rate : Nat) : Nat := [8000, 16000, 32000, 48000].getD rate 48000

/-- Cells of 64 octets that a stream reserves in the staging pool: BLOCK_SIZE plus 60 ms of samples (R342). -/
def recCells (s : Dev) (rate : Nat) : Nat := wordsOf (blockSize s + 2 * (rateHz rate * 60 / 1000))

/-- The rates in bit/s of all open recording streams (R363). -/
def recBits (s : Dev) : Nat := (s.chans.map (fun p => p.2.recs.length * 16 * rateHz (p.2.par 2 1))).sum

/-- `ARC.REC_LOAD` and `ARC.REC_POOL_FREE` follow the open streams. -/
def refreshRec (s : Dev) : Dev :=
  let used := (s.chans.map (fun p => p.2.recs.length * recCells s (p.2.par 2 1))).sum
  (s.setFld Reg.arcRecLoad 0 16 (sat 16 ((recBits s + 999999) / 1000000))).setFld Reg.arcRecPoolFree 0 21
    (s.rfld Reg.arcRecPool 0 21 - used)

/-- A REC_GAP event of source 0x3E7 (R365). -/
def recGap (c content samples cause : Nat) (owner : Nat) (s : Dev) : Dev :=
  occurCode 0x3E7 0x0700 (some (globalId owner c))
    (toLe 4 c ++ [BitVec.ofNat 8 content] ++ toLe 4 samples ++ [BitVec.ofNat 8 cause]) (s.bump Reg.arcGaps)

/-- A block for sink `k` is discarded under R355: counted, and source 0x3E1 recorded. -/
def blockLost (s : Dev) : Dev := occur 0x3E1 {} (s.bump Reg.arcExhausted)

/-- A stream's open block is closed and handed to the compressor (R344); the stream as it goes on. While the recording sink of this device
is exhausted, the block is discarded at once (R355). -/
def recCloseBlock (c : Nat) (end_ : Bool) (r : RecStream) (s : Dev) : RecStream × Dev :=
  if r.staged.isEmpty then (r, s)
  else
    let j : ArcJob := { octets := r.staged, content := r.content, sid := r.sid, seq := r.seq, order := r.order,
                        stamp := stampOf r.startNs s.time.tepoch, end_ := end_, resumed := r.resumed, chan := some c }
    let k := s.sink 0
    let owner := ((s.chan? c).map (·.owner)).getD 0
    ({ r with staged := [], seq := (r.seq + 1) % 2 ^ 32, blocks := r.blocks + 1, resumed := false },
     if s.leads ∧ s.rbit (Reg.arcSinkStatus 0) 1 then recGap c r.content (r.staged.length / 2) 1 owner (blockLost s)
     else (s.setSink 0 { k with jobs := k.jobs ++ [j] }).setBit Reg.arcStatus 0 false)

/-- Every open block of a channel is closed as an END block (R346). -/
def recCloseAll (c : Nat) (s : Dev) : Dev :=
  match s.chan? c with
  | none => s
  | some k =>
    let (rs, s) := k.recs.foldl (fun (p : List RecStream × Dev) r =>
      let (r, s) := recCloseBlock c true r p.2
      (p.1 ++ [r], s)) ([], s)
    s.modChan c (fun k => { k with recs := rs })

/-- A block of a channel is still on its way to the sink. -/
def recInFlight (c : Nat) (s : Dev) : Bool :=
  let k := s.sink 0
  k.jobs.any (fun j => j.chan == some c) || (match k.job with | some j => j.chan == some c | none => false) ||
    k.fifo.any (fun w => w.chan == some c)

/-- RECORD_STOP completes when the last block of the channel has left or been discarded (R346): REC_END for each stream. -/
def recFinish (c : Nat) (s : Dev) : Dev :=
  match s.chan? c with
  | none => s
  | some k =>
    let g := globalId k.owner c
    match (cmdsOn s 0x0B g) with
    | [] => s
    | cmd :: _ =>
      if recInFlight c s then s
      else
        let n := (k.recs.map (·.blocks)).sum
        let s := k.recs.foldl (fun s r =>
          occurCode 0x3E7 0x0701 (some g) (toLe 4 c ++ [BitVec.ofNat 8 r.content] ++ toLe 4 r.blocks) s) s
        complete cmd.id .ok (toLe 4 n) (refreshRec (s.modChan c (fun k => { k with recs := [] })))

/-! ### Statistics (R157) -/

/-- A level in 0.01 dBm0 from a detector value in 0.01 dBFS (R290): 3.14 dB more, or 3.17 dB on a µ-law line; 0x8000 for none. -/
def levelField (k : Channel) (v : Option Int) : Nat :=
  match v with
  | none => 0x8000
  | some x =>
    let mu := match k.legs.line with | some d => nfld d 16 2 == 1 | none => false
    satInt 16 (x + (if mu then 317 else 314))

/-- The echo delay (R262): the lag of the largest foreground tap, the lowest of equals, in 0.125 ms; 0xFFFF when every tap is zero. -/
def echoDelay (k : Channel) : Nat :=
  let perMs := if k.par 2 1 = 0 then 8 else 16
  let taps := (upTo 4).flatMap (fun w => ((k.echo.fg.getD w []).zipIdx).map (fun p => (p.1.toInt.natAbs, k.echo.starts.getD w 0 * perMs + p.2)))
  let best := taps.foldl (fun (b : Nat × Nat) t => if b.1 < t.1 ∨ (b.1 = t.1 ∧ t.2 < b.2) then t else b) (0, 0xFFFF * perMs)
  if best.1 = 0 then 0xFFFF else best.2 * 8 / perMs

/-- The 128-octet statistics block: the counters as the last statistics node left them. -/
def statsBlock (s : Dev) (c : Nat) (k : Channel) : Octets :=
  let t := k.shown
  let drops := if s.leads then (t.authFail, t.replay) else Config.srtpDrops (globalId k.owner c) t.snapTick
  let c (n : Nat) : Octets := toLe 4 (sat 32 n)
  toLe 8 t.openTick ++ toLe 8 t.snapTick ++ c t.spawned ++ c t.late ++ c t.aborted ++ c t.skipped ++ c t.sent ++ c t.received ++
    toLe 8 t.octSent ++ toLe 8 t.octRecv ++ c t.lost ++ c t.latePkts ++ c t.dup ++ c t.reordered ++ c t.concealed ++ c drops.1 ++
    c drops.2 ++ c t.toneEvents ++ c t.repairs ++ c t.codecResets ++ c t.migrations ++ toLe 2 (sat 16 k.echo.erle) ++
    toLe 2 (sat 16 (echoDelay k)) ++ toLe 2 (levelField k k.rfeIn.rms) ++ toLe 2 (levelField k k.rfeOut.rms) ++
    toLe 2 (sat 16 (k.jb.jitter / 100000)) ++ toLe 2 (sat 16 (k.jb.d / 100000)) ++ zeros 16

/-- The counters of a channel set to zero (STATS with CLEAR): the tick numbers stay. -/
def clearStats (k : Channel) : Channel :=
  let zero (t : Stats) : Stats := { openTick := t.openTick, snapTick := t.snapTick }
  { k with stats := zero k.stats, shown := zero k.shown }

/-! ### The catalogue (R442) -/

/-- A channel state's number (R134). -/
def ChState.num : ChState → Nat
  | .opening => 1 | .opened => 2 | .running => 3 | .closing => 4

/-- A partner's ID that names no channel: the partner has closed (R121). -/
def noPartner : Nat := 65536

/-- A catalogue record, with the state given (0 FREE). -/
def catalogueRecord (s : Dev) (c : Nat) (k : Channel) (state : Nat) : Octets :=
  let g := globalId k.owner c
  let opt (o : Option Nat) : Nat := o.getD 0xFFFFFFFF
  let partner := match k.legs.partner with | some p => if p = noPartner then 0 else 2 ^ 31 + globalId k.owner p | none => 0
  toLe 4 (g + 2 ^ 20 * k.home) ++ toLe 4 (opt k.legs.line) ++ toLe 4 (opt k.legs.session) ++ toLe 4 partner ++ padTo 48 k.params ++
    [BitVec.ofNat 8 k.phase, BitVec.ofNat 8 ((tileSet s k.home).getD 0), BitVec.ofNat 8 state, 0] ++ toLe 4 k.catSeq ++ zeros 8

/-- The reserve's HID in the plan. -/
def reserveHid (s : Dev) : Option Nat := (s.ron.plan.bind (fun p => p.devs.find? (fun d => d.role == 3))).map (·.hid)

/-- Where this device sends dossiers and catalogue records (R443): a worker to the active manager, which a manager passes to the reserve. -/
def dossierDest (s : Dev) : Option Nat :=
  if s.role = 1 then reserveHid s
  else if 2 ≤ s.role then some s.ron.activeHid
  else none

/-- A CATALOGUE frame is sent for a channel whose command has completed (R442); CAT_SEQ rises. -/
def catalogueSend (c state : Nat) (s : Dev) : Dev :=
  match s.chan? c with
  | none => s
  | some k =>
    let k := { k with catSeq := (k.catSeq + 1) % 2 ^ 32 }
    let s := s.setChan c k
    match dossierDest s with
    | none => s
    | some h => ronSendTo h 3 2 0 (catalogueRecord s c k state) s

/-- A CATALOGUE frame with the channel's present state. -/
def catalogueNow (c : Nat) (s : Dev) : Dev :=
  match s.chan? c with
  | none => s
  | some k => catalogueSend c k.st.num s

/-! ### The packet store (R170) -/

/-- Cells that firmware takes for the second copy of its code and read-only data (R506). -/
def fwCells (s : Dev) : Nat := if s.rbit Reg.ctlStatus 0 then 32768 else 0

/-- `MPE.PS_FREE`: the cells that no channel's packets take and that are reserved neither for firmware nor for the replay store nor for
staging (R344, R506). -/
def refreshPs (s : Dev) : Dev :=
  let used := (s.chans.map (fun p => (p.2.jb.pkts.map (·.cells)).sum)).sum + s.rfld Reg.mpePsReplay 0 21 + s.rfld Reg.arcRecPool 0 21 + fwCells s
  s.setFld Reg.mpePsFree 0 21 (2 ^ 20 - used)

/-! ### The end of a close -/

/-- What crosses a pair to a channel ends with its pair leg (R315; DEDUCED, log entry 81): the events that it sends or plays towards the network. -/
def pairQuiet (k : Channel) : Channel := { k with netEvent := none, txEvents := k.txEvents.map (fun e => { e with ended := true }) }

/-- Steps 4 and 5 of R120: the statistics block when asked for, the END blocks of recordings, the context wiped, the charge released, the
ID FREE, and the completions in the order of R156. The partner of a pair finds no span in its handoff ring from now on (R121), and one that was to
be joined stays without a pair leg. -/
def closeEnd (c : Nat) (s : Dev) : Dev :=
  match s.chan? c with
  | none => s
  | some k =>
    let g := globalId k.owner c
    let s := recCloseAll c s
    let cmd := (cmdsOn s 5 g).head?
    let s := match cmd with
      | some m => if m.addr ≠ 0 then s.emit (.dma 9 m.addr (statsBlock s c k)) else s
      | none => s
    let s := [1, 3, 7, 8, 0xA, 0xB, 0x12].foldl (fun s op => (cmdsOn s op g).foldl (fun s m => completeWith m.id .cancelled s) s) s
    let s := catalogueSend c 0 s
    let ticks := (s.time.lastTick.getD 0) - k.stats.openTick
    let s := { s with chans := kvDel s.chans c, mpe := { s.mpe with byes := s.mpe.byes ++ k.legs.session.toList } }
    let s := match k.legs.partner with
      | none => s
      | some p => s.modChan p (fun q => { pairQuiet q with legs := { q.legs with partner := q.legs.partner.map (fun _ => noPartner) }, ring := [] })
    let s := match k.pairNext with
      | some (some p) => s.modChan p (fun q => if q.pairNext = some (some c) then { q with pairNext := none } else q)
      | _ => s
    let s := refreshPs (refreshRec (refreshLoads (k.home / 16) s))
    match cmd with
    | none => s
    | some m =>
      if m.addr ≠ 0 ∧ ¬ m.dmaOk then completeWith m.id .dmaError s
      else complete m.id .ok (toLe 4 (sat 32 k.shown.sent) ++ toLe 4 (sat 32 k.shown.received) ++ toLe 4 (sat 32 k.shown.concealed) ++
        toLe 4 (sat 32 ticks)) s

end Sys2Proof.Machine
end

