-- ==== Sys2Proof/Machine/Gdu.lean ====
section
/-! DEFINITION. The Graph Dispatch Unit: nodes, ready lists, dispatch, retirement, aborts, closes and cluster states (R100 to R122, R131). -/

namespace Sys2Proof.Machine

/-! ### Nodes of an instance -/

/-- Number of the migrate node (R127). -/
def migrateNode : Nat := 32

/-- A node's place in the instance's list of states. -/
def Instance.slot (i : Instance) (j : Nat) : Nat := if j = migrateNode then i.template.nodes.length else j

/-- The node number at a place of the list of states. -/
def Instance.number (i : Instance) (p : Nat) : Nat := if p < i.template.nodes.length then p else migrateNode

/-- The state of a node. -/
def Instance.node (i : Instance) (j : Nat) : NState := i.nodes.getD (i.slot j) .done

/-- The instance with a node's state written. -/
def Instance.setNode (i : Instance) (j : Nat) (n : NState) : Instance := { i with nodes := i.nodes.set (i.slot j) n }

/-- The kind of a node: 0x14 for the migrate node. -/
def Instance.kind (i : Instance) (j : Nat) : Nat := if j = migrateNode then 0x14 else (i.template.nodes[j]?.map (·.kind)).getD 0

/-- The default class of a node kind (R100). -/
def defaultClass (kind : Nat) : Nat :=
  match kind with
  | 0x01 => 0 | 0x02 => 0 | 0x0F => 0 | 0x10 => 0 | 0x0B => 2 | 0x11 => 2 | 0x14 => 2 | 0x12 => 3 | 0x13 => 3 | _ => 1

/-- The class of a node (R98). -/
def Instance.cls (i : Instance) (j : Nat) : Nat :=
  match i.template.nodes[j]? with
  | some n => if j ≠ migrateNode ∧ n.cls < 4 then n.cls else defaultClass (i.kind j)
  | none => defaultClass (i.kind j)

/-- The resource of a node kind for a channel homed on tile `home` (R100). -/
def kindResource (kind home : Nat) : Resource :=
  match kind with
  | 0x01 | 0x02 | 0x06 | 0x07 => .rfe
  | 0x08 => .ee
  | 0x0A => .td
  | 0x0F => .mpe
  | 0x14 => .fab
  | _ => .tile ⟨home % 16, Nat.mod_lt _ (by decide)⟩

/-- A terminal state (R105). -/
def NState.terminal : NState → Bool
  | .done | .bypassed | .cancelled | .failed => true
  | _ => false

/-- A state that lets successors become READY. -/
def NState.retired : NState → Bool
  | .done | .bypassed => true
  | _ => false

/-- A node is due to be BYPASSED in an instance: OPTIONAL with its function off, ROTATED in an unmarked instance, a leg absent, no tone
playing, no recording, no codec, voice-band data, or an evacuation (R98, R136, R138, R139, R225, R229). -/
def Instance.bypass (i : Instance) (j : Nat) : Bool :=
  if j = migrateNode then false
  else match i.template.nodes[j]? with
    | none => true
    | some n =>
      let funcEn := le i.params 6 2
      i.evacuate ||
      (n.flags.testBit 0 && functionOff funcEn n.kind) || (n.flags.testBit 1 && !i.rotated) ||
      (match n.kind with
       | 0x01 | 0x02 => i.legs.line.isNone
       | 0x03 | 0x0F => i.legs.session.isNone
       | 0x10 => i.legs.partner.isNone
       | 0x04 | 0x0E => oct i.params 3 == 0
       | 0x09 | 0x0C | 0x0D => i.vbd
       | 0x0A => oct i.params 9 == 0xFF
       | 0x0B => !(i.toneLine || i.toneNet)
       | 0x11 => !i.recording
       | _ => false)

/-- The frame of an instance in ticks. -/
def Instance.frame (i : Instance) : Nat := frameTicks (oct i.params 1 % 8)

/-- The frame of a channel in ticks. -/
def Channel.frame_ (k : Channel) : Nat := frameTicks (k.par 1 1 % 8)

/-- A node reads the handoff ring (R109). -/
def Instance.reads (i : Instance) (j : Nat) : Bool :=
  i.legs.partner.isSome && ((i.template.nodes[j]?.map (fun n => n.arg0.testBit 0)).getD false)

/-- The pair's lag L in ticks for a reader of frame `fr` and a sender of frame `fs` (R109). -/
def pairLag (fr fs : Nat) : Nat := fs - fr

/-- No link node of the sender's unretired instances whose spans overlap the reader's span is still to end (R109). Spans are counted in
delivered ticks. -/
def linksDone (s : Dev) (i : Instance) : Bool :=
  match i.legs.partner.bind s.chan? with
  | none => true
  | some q =>
    let fr := i.frame
    let fs := q.frame_
    let l := pairLag fr fs
    let lo : Int := i.tickNo - (fr + l : Nat)
    let hi : Int := i.tickNo - (l : Nat)
    ([q.active, q.deferred].filterMap id).all (fun x =>
      let xlo : Int := x.tickNo - (fs : Nat)
      let xhi : Int := x.tickNo
      !(decide (xlo < hi) && decide (lo < xhi)) ||
        (upTo x.nodes.length).all (fun p => x.kind (x.number p) != 0x10 || (x.nodes.getD p .done).terminal))

/-- The dossier node that a takeover instance runs first, in restore mode (R452). -/
def Instance.restoreNode (i : Instance) : Option Nat :=
  if i.restore then (upTo i.template.nodes.length).find? (fun j => i.kind j == 0x13) else none

/-- The pull of an instance that ends was to run and did not (R209). -/
def Instance.pullMissed (i : Instance) : Bool :=
  (upTo i.template.nodes.length).any (fun j => i.kind j == 0x03 && i.node j != .done && !i.bypass j)

/-- The states of an instance's nodes after one look at their predecessors, in node order, with the number newly CANCELLED (R106, R109,
R127). While a takeover instance restores, only its dossier node goes on (R452). -/
def advanceNodes (s : Dev) (i : Instance) : Instance × Nat :=
  let first : Option Nat := match i.restoreNode with
    | some j => if (i.node j).retired then none else some j
    | none => none
  match first with
  | some j => (if i.node j = .waiting then i.setNode j .ready else i, 0)
  | none =>
  (upTo i.nodes.length).foldl (fun (acc : Instance × Nat) p =>
    let i := acc.1
    let j := i.number p
    match i.nodes.getD p .done with
    | .waiting =>
      let preds := (upTo p).filter (fun q => j == migrateNode || ((i.template.nodes[j]?.map (fun n => n.pred.testBit q)).getD false))
      let sts := preds.map (fun q => i.nodes.getD q .done)
      if sts.any (fun x => x == .cancelled || x == .failed) then ({ i with nodes := i.nodes.set p .cancelled }, acc.2 + 1)
      else if sts.all NState.retired then
        if i.reads j && !linksDone s i then acc
        else if i.bypass j then ({ i with nodes := i.nodes.set p .bypassed }, acc.2)
        else ({ i with nodes := i.nodes.set p .ready }, acc.2)
      else acc
    | _ => acc) (i, 0)

/-! ### Ready lists (R107, R110, R113) -/

/-- The cluster that holds a channel's listed nodes: its home cluster. -/
def Channel.cluster (k : Channel) : Nat := k.home / 16

/-- A flow has a node listed, held or in service (R107). -/
def flowBusy (g : ClusterGdu) (c : Nat) : Bool :=
  g.ready.any (fun e => e.chan == c) || g.held.any (fun e => e.chan == c) || g.service.any (fun e => e.chan == c)

/-- The cluster is asked to wake (R131): from CLOCK_GATED, RETENTION or OFF. -/
def wakeRequest (n : Nat) (s : Dev) : Dev :=
  if s.clState n = 3 ∨ (s.cg n).waking.isSome ∨ s.rbit Reg.pwrDomainFail (1 + n) then s
  else fastOscRun (s.setCg n { s.cg n with waking := some s.cycles })

/-- An ACTIVE cluster whose lists are empty, with no node in service, is clock-gated (R131). -/
def gateIfIdle (n : Nat) (s : Dev) : Dev :=
  let g := s.cg n
  if s.clState n = 3 ∧ g.ready.isEmpty ∧ g.held.isEmpty ∧ g.service.isEmpty then s.setFld Reg.gduClState (2 * n) 2 2 else s

/-- The highest list occupancy of a cluster, with its class (R133). -/
def noteListMax (n cls len : Nat) (s : Dev) : Dev :=
  if s.rfld (Reg.gduClListMax n) 0 13 < len then (s.setFld (Reg.gduClListMax n) 0 13 len).setFld (Reg.gduClListMax n) 13 2 cls else s

/-- Entries that a class list of a cluster may hold (R110). -/
def listSize : Nat := 4096

/-- Data octets of a GDU source (R132). -/
def gduData (spawn node : Nat) : Octets := toLe 4 (spawn % 2 ^ 32) ++ [BitVec.ofNat 8 node, 0, 0, 0]

/-- A READY node is listed, or held when its class list is full (R113). -/
def listEntry (n : Nat) (e : ListEntry) (spawn g : Nat) (s : Dev) : Dev :=
  let cg := s.cg n
  let len := (cg.ready.filter (fun x => x.cls == e.cls)).length
  let s :=
    if len < listSize then noteListMax n e.cls (len + 1) (s.setCg n { cg with ready := cg.ready ++ [e] })
    else
      let s := (s.setCg n { cg with held := cg.held ++ [e] }).bump Reg.gduOverflow
      let (first, s) := s.oncePer 0x085 s.time.ticks
      if first then occur 0x085 { data := gduData spawn e.node, chan := some g } s else s
  wakeRequest n s

/-- Held nodes take the entries that have come free in their class, in the order in which they became READY (R113). -/
def promoteHeld (n : Nat) (s : Dev) : Dev :=
  (s.cg n).held.foldl (fun s e =>
    let cg := s.cg n
    let len := (cg.ready.filter (fun x => x.cls == e.cls)).length
    if len < listSize then
      noteListMax n e.cls (len + 1) (s.setCg n { cg with ready := cg.ready ++ [{ e with cycle := s.gcycle }], held := cg.held.erase e })
    else s) s

/-- A flow's entries leave the lists of its cluster. -/
def unlist (n c : Nat) (s : Dev) : Dev :=
  let g := s.cg n
  promoteHeld n (s.setCg n { g with ready := g.ready.filter (fun e => e.chan != c), held := g.held.filter (fun e => e.chan != c) })

/-- The READY node of an instance that the GDU lists next: lowest class, then lowest number (R107). -/
def nextReady (i : Instance) : Option Nat :=
  (upTo i.nodes.length).foldl (fun (b : Option Nat) p =>
    let j := i.number p
    if i.nodes.getD p .done ≠ .ready then b
    else match b with
      | none => some j
      | some x => if i.cls j < i.cls x then some j else some x) none

/-- The flow's next node is listed when none is listed or in service (R107). -/
def listNext (c : Nat) (s : Dev) : Dev :=
  match s.chan? c with
  | none => s
  | some k =>
    match k.active with
    | none => s
    | some i =>
      let n := k.cluster
      if flowBusy (s.cg n) c then s
      else match nextReady i with
        | none => s
        | some j =>
          listEntry n { chan := c, node := j, cls := i.cls j, res := kindResource (i.kind j) k.home, cycle := s.gcycle }
            i.spawnTick (globalId k.owner c) s

/-! ### Deadlines and retirement (R71, R72, R119) -/

/-- SLACK in cycles (R85). -/
def slackCycles (s : Dev) : Nat := usCycles (min 2500 (s.rfld Reg.gduSlack 0 12))

/-- The elapsed cycle of an instance's deadline (R71). -/
def deadline (s : Dev) (i : Instance) : Nat := i.spawnAt + i.frame * tickCycles + slackCycles s

/-- The elapsed cycle of an instance's abort time (R72). -/
def abortTime (s : Dev) (i : Instance) : Nat := i.spawnAt + 2 * i.frame * tickCycles + slackCycles s

/-- `GDU.STATUS.DRAINED` with spawning disabled: no instance remains (R122). -/
def drained (s : Dev) : Dev :=
  s.setBit Reg.gduStatus 0 (!s.rbit Reg.gduCfg 0 && s.chans.all (fun p => p.2.active.isNone && p.2.deferred.isNone))

/-- Channels with a node in service anywhere. -/
def inService (s : Dev) (c : Nat) : Bool := s.gdu.any (fun p => p.2.service.any (fun v => v.chan == c))

/-- `GDU.CL_MARGIN` of a cluster follows the margins of the last second (R119); with none it reads its reset value (DEDUCED, log entry 62). -/
def showMargin (n : Nat) (s : Dev) : Dev :=
  let cg := s.cg n
  if cg.margins.isEmpty then s
  else
    let ms := cg.margins.filter (fun p => decide (s.cycles < p.1 + usCycles 1000000))
    let least := match ms with
      | [] => 0x7FFF
      | q :: r => satInt 16 (r.foldl (fun (b : Int) p => if p.2 < b then p.2 else b) q.2)
    (s.setCg n { cg with margins := ms }).setFld (Reg.gduClMargin n) 0 16 least

/-- A retired instance's margin (R119), and source 0x088 once per tick and cluster below MARGIN_WARN. -/
def noteMargin (n : Nat) (i : Instance) (g : Nat) (s : Dev) : Dev :=
  let m : Int := ((deadline s i : Int) - s.cycles) / 500
  let cg := s.cg n
  let s := showMargin n (s.setCg n { cg with margins := (s.cycles, m) :: cg.margins })
  if m < s.rfld Reg.gduMarginWarn 0 12 then
    let (first, s) := s.oncePer (0x08800 + n) s.time.ticks
    if first then
      occur 0x088 { data := toLe 4 (i.spawnTick % 2 ^ 32) ++ [0xFF, BitVec.ofNat 8 n] ++ toLe 2 (satInt 16 m), chan := some g } s
    else s
  else s

/-- An instance whose last node is terminal ends: RETIRED with its margin, or ABORTED (R103, R106, R116, R119, R120). -/
def endInstance (c : Nat) (k : Channel) (i : Instance) (s : Dev) : Dev :=
  let g := globalId k.owner c
  let bad := i.aborting || i.nodes.any (fun x => x == .cancelled || x == .failed)
  let s := s.modChan c (fun k => { k with active := none, awaits := k.awaits && !i.restore })
  let s :=
    if i.closing then s
    else if bad then
      let s := (s.bump Reg.gduAbort).modChan c (fun k => { k with
        stats := { k.stats with aborted := k.stats.aborted + 1 }, jb := { k.jb with missed := k.jb.missed + i.pullMissed.toNat } })
      occur 0x082 { data := gduData i.spawnTick 0xFF, chan := some g } s
    else noteMargin k.cluster i g (s.bump64 Reg.gduRetire)
  drained s

/-- A DEFERRED instance becomes ACTIVE in the cycle in which its predecessor retires (R104). -/
def activateDeferred (c : Nat) (s : Dev) : Dev :=
  s.modChan c (fun k => match k.active, k.deferred with
    | none, some d => { k with active := some { d with state := .active }, deferred := none, media := {}, speech := none }
    | _, _ => k)

/-- The flow of channel `c` goes on, as far as it goes in this cycle: nodes become READY, BYPASSED or CANCELLED, the next node is listed, an
instance that is done ends and a DEFERRED one becomes ACTIVE, and a partner that reads this flow's handoff ring goes on too. -/
def progress : Nat → Nat → Dev → Dev
  | 0, _, s => s
  | fuel + 1, c, s =>
    match s.chan? c with
    | none => s
    | some k =>
      match k.active with
      | none =>
        if k.st = .closing then (if inService s c then s else closeEnd c s)
        else if k.deferred.isSome then progress fuel c (activateDeferred c s)
        else s
      | some i =>
        let (i', n) := advanceNodes s i
        let s := if n = 0 then s else s.bump64 Reg.gduCancel n
        let s := s.modChan c (fun k => { k with active := some i' })
        let s :=
          if i'.nodes.all NState.terminal then
            let s := endInstance c k i' s
            let s := gateIfIdle k.cluster s
            progress fuel c s
          else listNext c s
        match k.legs.partner with
        | none => s
        | some p => if i'.nodes = i.nodes ∧ ¬ i'.nodes.all NState.terminal then s else progress fuel p s

/-- The flow goes on, and its partner's, whose reading node may have waited for what has just ended here (R109; the depth bounds how often two
flows of a pair can set each other going in one cycle). -/
def flowOn (c : Nat) (s : Dev) : Dev :=
  let partner := (s.chan? c).bind (·.legs.partner)
  let s := progress 8 c s
  match partner with
  | none => s
  | some p => progress 8 p s

/-- Cancels the nodes of the ACTIVE instance that are not in service (R116, R120): those WAITING or READY. -/
def cancelUndispatched (c : Nat) (s : Dev) : Dev :=
  match s.chan? c with
  | none => s
  | some k =>
    match k.active with
    | none => s
    | some i =>
      let n := (i.nodes.filter (fun x => x == .waiting || x == .ready)).length
      let i := { i with nodes := i.nodes.map (fun x => if x == .waiting || x == .ready then .cancelled else x) }
      let s := unlist k.cluster c (s.modChan c (fun k => { k with active := some i }))
      if n = 0 then s else s.bump64 Reg.gduCancel n

/-- The ACTIVE instance of a channel is aborted (R116). -/
def abortActive (c : Nat) (s : Dev) : Dev :=
  let s := s.modChan c (fun k => { k with active := k.active.map (fun i => { i with aborting := true }) })
  flowOn c (cancelUndispatched c s)

/-- A close begins (R120 steps 1 to 3): no further spawn, the DEFERRED instance SKIPPED without a count, undispatched nodes cancelled. A CONNECT that
waits for this channel's migration ends without it (R154). -/
def closeBegin (c : Nat) (s : Dev) : Dev :=
  let target := (s.chan? c).bind (·.migrate)
  let s := s.modChan c (fun k => { k with
    st := .closing, deferred := none, migrate := none, migrateBack := none,
    active := k.active.map (fun i => { i with closing := true }) })
  let s := match target with | some t => refreshLoads (t / 16) s | none => s
  let s := (s.pci.cmds.filter (fun m => m.opcode == 3 && m.addr == c + 1 && m.done.isNone)).foldl (fun s m => completeWith m.id .pairRule s) s
  let s := cancelUndispatched c s
  match s.chan? c with
  | none => s
  | some k => if k.active.isNone ∧ ¬ inService s c then closeEnd c (drained s) else flowOn c s

/-- A close on error (R115): source 0x08C, then the close of R120. -/
def closeOnError (c : Nat) (s : Dev) : Dev :=
  match s.chan? c with
  | none => s
  | some k =>
    if k.st = .closing then s
    else
      let spawn := (k.active.map (·.spawnTick)).getD 0
      let s := occur 0x08C { data := gduData spawn 0xFF, chan := some (globalId k.owner c) } s
      closeBegin c s

/-! ### Service -/

/-- The node that a resource of a cluster has in service for a channel. -/
def findService (g : ClusterGdu) (r : Resource) (c : Nat) : Option Service := g.service.find? (fun v => v.res == r && v.chan == c)

/-- A node leaves service. -/
def endService (n : Nat) (v : Service) (s : Dev) : Dev :=
  let g := s.cg n
  s.setCg n { g with service := g.service.erase v }

/-- A node's state is written in the ACTIVE instance of its channel. -/
def setNodeState (c j : Nat) (x : NState) (s : Dev) : Dev :=
  s.modChan c (fun k => { k with active := k.active.map (fun i => i.setNode j x) })

/-- A node in service is FAILED and its instance aborted (R117, R229). -/
def failService (n : Nat) (v : Service) (s : Dev) : Dev :=
  let s := setNodeState v.chan v.node .failed (endService n v s)
  match s.chan? v.chan with
  | none => s
  | some k => if k.st = .closing then gateIfIdle n (flowOn v.chan s) else gateIfIdle n (abortActive v.chan s)

/-- Every node in service on a resource is FAILED (R117): for the MPE, of every cluster. -/
def failResource (n : Nat) (r : Resource) (s : Dev) : Dev :=
  let ns := if r = .mpe then upTo 16 else [n]
  ns.foldl (fun s m => ((s.cg m).service.filter (fun v => v.res == r)).foldl (fun s v => failService m v s) s) s

/-- The target cluster of a listed migrate node: its fabric unit serves it (R100). -/
def fabTarget (s : Dev) (c : Nat) : Option Nat := ((s.chan? c).bind (·.active)).bind (fun i => i.migrate.map (· / 16))

/-- A resource may start a node of channel `c`: it is idle; the MPE while it holds fewer than 256; a tile while IN_SERVICE (R101, R110,
R117, R229). -/
def resourceFree (s : Dev) (n : Nat) (r : Resource) (c : Nat) : Bool :=
  match r with
  | .mpe => s.domainOn 18 && decide ((s.gdu.map (fun p => (p.2.service.filter (fun v => v.res == .mpe)).length)).sum < 256)
  | .fab => (match fabTarget s c with | some m => decide (0 < s.clState m) | none => true) && s.gdu.all (fun p => p.2.service.all (fun v => v.res != .fab || fabTarget s v.chan != fabTarget s c))
  | .tile t => tileState s (16 * n + t.val) == 0 && (kvGet s.loads (16 * n + t.val)).isNone && (s.cg n).service.all (fun v => v.res != r)
  | _ => (s.cg n).service.all (fun v => v.res != r)

/-- Where a resource's count since class P3 is kept: with its cluster, and for the MPE, which all clusters share, under number 16. -/
def p3Home (n : Nat) (r : Resource) : Nat := if r = .mpe then 16 else n

/-- A resource's count of dispatches since it last served class P3 (R111). -/
def sinceP3 (s : Dev) (n : Nat) (r : Resource) : Nat := (((s.cg (p3Home n r)).sinceP3.find? (fun p => p.1 == r)).map (·.2)).getD 0

/-- The count after a dispatch of a class. -/
def noteP3 (n : Nat) (r : Resource) (cls : Nat) (s : Dev) : Dev :=
  let v := if cls = 3 then 0 else min (sinceP3 s n r + 1) 31
  let g := s.cg (p3Home n r)
  s.setCg (p3Home n r) { g with sinceP3 := (r, v) :: g.sinceP3.filter (fun p => p.1 != r) }

/-- The entry that resource `r` of cluster `n` takes in this cycle (R111, R112). -/
def pickEntry (s : Dev) (n : Nat) (r : Resource) : Option ListEntry :=
  let d := (s.cg n).ready.filter (fun e => e.res == r && decide (e.cycle < s.gcycle) && resourceFree s n r e.chan)
  let old (l : List ListEntry) : Option ListEntry :=
    l.foldl (fun (b : Option ListEntry) e => match b with | none => some e | some x => if e.cycle < x.cycle then some e else some x) none
  let p3 := d.filter (fun e => e.cls == 3)
  if sinceP3 s n r = 31 ∧ ¬ p3.isEmpty then old p3
  else match (upTo 4).find? (fun c => d.any (fun e => e.cls == c)) with
    | none => none
    | some c => old (d.filter (fun e => e.cls == c))

/-- What the parity of the two copies shows at a read (R115); true when the record can be used. -/
def recordParity (c : Nat) (p : RecPar) (s : Dev) : Bool × Dev :=
  match p with
  | .ok => (true, s)
  | .oneBad => (true, s.bump Reg.gduDualRepair)
  | .listLost | .instanceLost =>
    let g := (s.chan? c).map (fun k => globalId k.owner c)
    let spawn := (((s.chan? c).bind (·.active)).map (·.spawnTick)).getD 0
    (false, abortActive c (occur 0x080 { data := gduData spawn 0xFF, chan := g } s))
  | .flowLost =>
    let g := (s.chan? c).map (fun k => globalId k.owner c)
    (false, closeOnError c (occur 0x080 { data := gduData 0 0xFF, chan := g } s))

/-- A pull node is dispatched: it takes the packet chain as it stands now, and a packet whose frame was due in its span comes late from now on
(R194). -/
def pullPicture (c node : Nat) (s : Dev) : Dev :=
  s.modChan c (fun k => match k.active with
    | some i => if i.kind node = 3 then { k with jb := { k.jb with cut := some k.jb.stored, pulledTo := some (i.spawnTick * tickNs) } } else k
    | none => k)

/-- The engine of a listed node is enabled, so that a node taken now runs (R257, R293, R321); of the RFE's nodes EN concerns RFE in and RFE out. -/
def engineOn (s : Dev) (n : Nat) (e : ListEntry) : Bool :=
  match e.res with
  | .rfe => s.rbit (Reg.rfeCfg n) 0 &&
      (match (s.chan? e.chan).bind (·.active) with | some i => i.kind e.node == 6 || i.kind e.node == 7 | none => false)
  | .ee => s.rbit (Reg.eeCfg n) 0
  | .td => s.rbit (Reg.tdCfg n) 0
  | _ => true

/-- One GDU cycle in which an idle resource takes a node (R112). -/
def nodeDispatch (n : Nat) (r : Resource) (par : RecPar) (s : Dev) : Dev :=
  let s := { s with gcycle := s.gcycle + 1 }
  if s.clState n ≠ 3 then s
  else match pickEntry s n r with
    | none => s
    | some e =>
      let (ok, s) := recordParity e.chan par s
      if ¬ ok then s
      else
        let g := s.cg n
        let s := s.setCg n { g with ready := g.ready.erase e, service := g.service ++ [⟨r, e.chan, e.node, s.cycles, engineOn s n e⟩] }
        promoteHeld n (pullPicture e.chan e.node (setNodeState e.chan e.node .inService (noteP3 n r e.cls s)))

/-- A node has finished on its resource: DONE, and the flow goes on (R106, R107). -/
def nodeDone (n : Nat) (v : Service) (s : Dev) : Dev :=
  gateIfIdle n (flowOn v.chan (setNodeState v.chan v.node .done (endService n v s)))

/-! ### Late, abort and watchdog commands -/

/-- The instance a deadline command names. -/
def Channel.inst (k : Channel) (deferred : Bool) : Option Instance := if deferred then k.deferred else k.active

/-- An instance passes its deadline unretired (R72). -/
def instanceLate (c : Nat) (deferred : Bool) (s : Dev) : Dev :=
  match (s.chan? c).bind (fun k => (k.inst deferred).map (fun i => (k, i))) with
  | none => s
  | some (k, i) =>
    if i.late ∨ i.closing then s
    else
      let s := s.elapseTo (deadline s i)
      let i := { i with late := true }
      let s := s.modChan c (fun k => { k with
        active := if deferred then k.active else some i, deferred := if deferred then some i else k.deferred,
        stats := { k.stats with late := k.stats.late + 1 } })
      occur 0x081 { data := gduData i.spawnTick 0xFF, chan := some (globalId k.owner c) } (s.bump Reg.gduLate)

/-- An instance reaches its abort time (R72, R116). -/
def instanceAbort (c : Nat) (deferred : Bool) (s : Dev) : Dev :=
  let s := { s with gcycle := s.gcycle + 1 }
  match (s.chan? c).bind (fun k => (k.inst deferred).map (fun i => (k, i))) with
  | none => s
  | some (k, i) =>
    if i.aborting ∨ i.closing then s
    else
      let s := s.elapseTo (abortTime s i)
      if deferred then
        let s := s.modChan c (fun k => { k with
          deferred := none, stats := { k.stats with aborted := k.stats.aborted + 1 },
          jb := { k.jb with missed := k.jb.missed + i.pullMissed.toNat } })
        let s := (s.bump64 Reg.gduCancel i.nodes.length).bump Reg.gduAbort
        drained (occur 0x082 { data := gduData i.spawnTick 0xFF, chan := some (globalId k.owner c) } s)
      else abortActive c s

/-- The node watchdog (R117): the node FAILED, its instance aborted, source 0x084 with its resource. -/
def nodeWatchdog (n : Nat) (r : Resource) (c : Nat) (s : Dev) : Dev :=
  let s := { s with gcycle := s.gcycle + 1 }
  match findService (s.cg n) r c with
  | none => s
  | some v =>
    let us := s.within Reg.gduNodeWdog 0 14 10 10000
    let s := (s.elapseTo (v.since + usCycles us + 1)).bump Reg.gduWdog
    let spawn := (((s.chan? c).bind (·.active)).map (·.spawnTick)).getD 0
    let g := (s.chan? c).map (fun k => globalId k.owner c)
    let s := failService n v s
    occurRes 0x084 { data := gduData spawn v.node, chan := g } n r s

/-! ### Cluster states (R131, R494, R513) -/

/-- The tile that holds the stored dossier of a global channel ID (R444, R459): on the reserve the tile of its catalogue record. -/
def storeTile (s : Dev) (g : Nat) : Nat :=
  if s.spare then 240 + (((s.chan? (g % 65536)).map (·.home)).getD 0) % 16
  else match kvGet s.ron.catalogue g with | some r => nfld (le r 0 4) 20 8 | none => 0

/-- A cluster's logic and SRAM lose power: its engines hold no profiles, its reloads end, the dossiers it stores are gone, and its tile memory
is zero when it powers up. -/
def clusterContentsLost (n : Nat) (s : Dev) : Dev :=
  let s := { s with eng := kvDel s.eng n, tileMem := s.tileMem.filter (fun p => p.1 / 0x800000 / 16 != n), tileUsed := s.tileUsed.filter (fun t => t / 16 != n),
                    reloads := s.reloads.filter (fun p => p.1 / 16 != n), loads := s.loads.filter (fun p => p.1 / 16 != n),
                    ron := if s.spare || s.role == 3 then
                        { s.ron with dossiers := s.ron.dossiers.filter (fun p => storeTile s p.1 / 16 != n),
                                     catalogue := s.ron.catalogue.filter (fun p => storeTile s p.1 / 16 != n) }
                      else s.ron }
  s.setCg n { s.cg n with ready := [], held := [], service := [], waking := none }

/-- Cluster `n` goes OFF. -/
def clusterOff (n : Nat) (s : Dev) : Dev :=
  let s := s.setFld Reg.gduClState (2 * n) 2 0
  let s := s.setBit Reg.pwrDomainOn (1 + n) false
  s.setFld (Reg.pwrClClk n) 0 10 0 |> clusterContentsLost n

/-- The cycles within which no spawn of cluster `n`'s channels falls: from now to the next tick at which one of them spawns, or none when
no running channel is homed there. -/
def nextSpawnIn (s : Dev) (n : Nat) : Option Nat :=
  let now := s.time.ticks
  let due := s.time.nextTickAt
  let cad := (s.time.lastTick.getD 0 + 48 - s.time.cadence % 48) % 48
  let ks := (s.chans.map (·.2)).filter (fun k => k.cluster == n && k.st == .running && k.frame_ != 0)
  let ds := ks.map (fun k => ((upTo 48).find? (fun d => (cad + 1 + d) % k.frame_ == k.phase)).getD 0)
  match ds with
  | [] => none
  | d :: r => some ((if now = 0 then 0 else ((due - s.time.t) / nsUnit) / 2) + (r.foldl min d) * tickCycles)

/-- A CLOCK_GATED cluster whose next spawn lies beyond RET_MIN enters RETENTION (R131). -/
def clusterRetention (n : Nat) (s : Dev) : Dev :=
  let far : Bool := match nextSpawnIn s n with
    | none => true
    | some d => decide (usCycles (s.rfld Reg.gduRetMin 0 12) < d)
  if s.clState n = 2 ∧ (s.cg n).waking.isNone ∧ far then s.setFld Reg.gduClState (2 * n) 2 1 else s

/-- RET_LEAD before its next spawn, a RETENTION cluster is asked to wake (R131). -/
def clusterRetLeadWake (n : Nat) (s : Dev) : Dev :=
  if s.clState n = 1 then
    let s := match nextSpawnIn s n with
      | none => s
      | some d => s.elapse (d - usCycles (max 3 (s.rfld Reg.gduRetLead 0 8)))
    wakeRequest n s
  else s

/-- A wake not completed within 10 µs (R131); none after a power fault of the cluster (R529). -/
def clusterWakeTimeout (n : Nat) (s : Dev) : Dev :=
  match (s.cg n).waking with
  | none => s
  | some t =>
    if s.rbit Reg.pwrDomainFail (1 + n) then s
    else occur 0x087 { data := gduData 0 0xFF } (s.elapseTo (t + usCycles 10))

end Sys2Proof.Machine
end

