-- ==== Sys2Proof/Machine/Templates.lean ====
section
/-! DEFINITION. Graph templates as they are loaded (R96 to R99). -/

namespace Sys2Proof.Machine

/-- A node entry (R98). -/
def parseNode (o : Octets) : TNode := ⟨oct o 0, oct o 1, oct o 2, le o 4 4, le o 8 2, le o 12 2, le o 14 2⟩

/-- The node entries of a template. -/
def parseNodes (o : Octets) (n : Nat) : List TNode := (upTo n).map (fun i => parseNode (octs o (32 + 16 * i) 16))

/-- A template's octets with the CRC field taken as zero. -/
def templateCrcInput (o : Octets) : Octets := putOcts o 28 (zeros 4)

/-- A template ID that can be read from the octets; 0xFF when it cannot (R99). -/
def templateId (o : Octets) : Nat := if 3 ≤ o.length then oct o 2 else 0xFF

/-- A reserved octet or bit of a template is not zero (R99 code 11). -/
def templateReserved (o : Octets) (n : Nat) : Bool :=
  !(allZero (octs o 6 2) && allZero (octs o 24 4) && oct o 5 / 2 == 0 &&
    (upTo n).all (fun i => let b := 32 + 16 * i; oct o (b + 3) == 0 && allZero (octs o (b + 10) 2) && oct o (b + 2) / 4 == 0))

/-- The checks of R99 in their order, for octets that hold one template from offset 0; `seen` are the IDs already met in one section. The
code of the first check that fails, or the template. -/
def checkTemplate (o : Octets) (exact : Bool) (seen : List Nat) : Nat × Option Template :=
  if o.length < 2 ∨ le o 0 2 ≠ 0x4754 then (1, none)
  else if o.length < 32 then (10, none)
  else
    let n := oct o 3
    if n = 0 ∨ 32 < n then (4, none)
    else
      let len := 32 + 16 * n
      if o.length < len ∨ (exact ∧ o.length ≠ len) then (10, none)
      else
        let t := o.take len
        let nodes := parseNodes t n
        if crc32c (templateCrcInput t) ≠ le t 28 4 then (2, none)
        else if 63 < oct t 2 ∨ seen.contains (oct t 2) then (3, none)
        else if oct t 4 = 0 ∨ 128 ≤ oct t 4 then (5, none)
        else if nodes.any (fun x => x.kind == 0 || decide (0x15 ≤ x.kind)) then (6, none)
        else if nodes.any (fun x => decide (4 ≤ x.cls) && x.cls != 0xFF) then (7, none)
        else if nodes.zipIdx.any (fun p => decide (2 ^ p.2 ≤ p.1.pred)) then (8, none)
        else if templateReserved t n then (11, none)
        else (0, some ⟨oct t 2, oct t 4, oct t 5, nodes⟩)

/-- Source 0x08A of a refused template (R99): ID, code, and origin 0 image, 1 TEMPLATE_LOAD, 2 staged section. -/
def templateRefused (o : Octets) (code origin : Nat) (s : Dev) : Dev :=
  occur 0x08A { data := [BitVec.ofNat 8 (templateId o), BitVec.ofNat 8 code, BitVec.ofNat 8 origin] } s

/-- The templates of a section one after another: each accepted one in turn, and the code and octets of each refused one. A refusal whose
end cannot be found ends the section. An ID is taken by an accepted template alone: whether one that was refused itself counts as the first of its ID
the rule does not say (DESIGN CHOICE, log entry 62). -/
def sectionTemplates : Nat → Octets → List Nat → List Template × List (Nat × Octets)
  | 0, _, _ => ([], [])
  | fuel + 1, o, seen =>
    if o.isEmpty then ([], [])
    else
      let (code, t) := checkTemplate o false seen
      let n := oct o 3
      let len := 32 + 16 * n
      match t with
      | some t =>
        let r := sectionTemplates fuel (o.drop len) (t.id :: seen)
        (t :: r.1, r.2)
      | none =>
        if code = 1 ∨ code = 10 ∨ code = 4 then ([], [(code, o)])
        else
          let r := sectionTemplates fuel (o.drop len) seen
          (r.1, (code, o) :: r.2)

/-- Templates that a section may hold at most: its limit of 2 MiB over the least template of 48 octets. -/
def sectionFuel : Nat := 43691

/-- The image's templates load into the epoch-0 bank (R96); a refused one leaves its ID empty (R99). -/
def loadImageTemplates (o : Octets) (s : Dev) : Dev :=
  let r := sectionTemplates sectionFuel o []
  let s := r.2.foldl (fun s p => templateRefused p.2 p.1 0 s) s
  let cur := r.1.foldl (fun (b : Bank) t => { b with templates := kvSet b.templates t.id t }) s.epochs.cur
  { s with epochs := { s.epochs with cur := cur } }

end Sys2Proof.Machine
end

