-- ==== Sys2Proof/Machine/Rfe.lean ====
section
/-! DEFINITION. The Resample and Filter Engine: profiles, bank operations, swaps, synchronising resets, and what an RFE node leaves in the
channel's context (R268 to R296). -/

namespace Sys2Proof.Machine

/-! ### Profiles (R274, R275) -/

/-- A profile as a record gives it: bank A active. -/
def profileOf (o : Octets) : Profile := { record := o, bankA := octs o 48 184, bankB := octs o 232 184 }

/-- The records of a coefficient-profile section that load, by index, and the indices of those refused (R274). -/
def sectionProfiles (o : Octets) : List (Nat × Octets) × List Nat :=
  (upTo (o.length / 512)).foldl (fun (acc : List (Nat × Octets) × List Nat) i =>
    let r := octs o (512 * i) 512
    let x := oct r 2
    if le r 0 2 = 0x5046 ∧ x ≤ 63 ∧ (kvGet acc.1 x).isNone ∧ crc32c (octs r 0 508) = le r 508 4 then (kvSet acc.1 x r, acc.2)
    else (acc.1, acc.2 ++ [x])) ([], [])

/-- The source of cluster `n`'s RFE. -/
def rfeSource (n : Nat) : Nat := 0x201 + 16 * n

/-- PROFILE_REFUSED for refused records, by every cluster's RFE that is not off. -/
def profilesRefused (l : List Nat) (s : Dev) : Dev :=
  l.foldl (fun s x => (upTo 16).foldl (fun s n =>
    if s.domainOn (1 + n) then note (rfeSource n) 0x0507 none [0, 0, 0, 0, BitVec.ofNat 8 x] s else s) s) s

/-- The current epoch's copy of profile `p` in cluster `n`. -/
def rfeProfile (s : Dev) (n p : Nat) : Option Profile :=
  match kvGet (s.ce n).profiles p with
  | some x => some x
  | none => (kvGet s.epochs.cur.profiles p).map profileOf

/-- The previous epoch's copy, while its bank is held. -/
def rfePrevProfile (s : Dev) (n p : Nat) : Option Profile :=
  match s.epochs.prev with
  | none => rfeProfile s n p
  | some b => match kvGet (s.ce n).prevProfiles p with
    | some x => some x
    | none => (kvGet b.profiles p).map profileOf

/-- `RFE.BANK_STATE[p]` follows the profile. -/
def bankStateOf (x : Profile) : Nat :=
  x.active.toNat + 2 * x.swap.isSome.toNat + 4 * x.latched.isSome.toNat + 8 * (x.fade % 128) + 2 ^ 16 * (x.seq % 2 ^ 16)

/-- The device with the current epoch's copy of profile `p` in cluster `n` written. -/
def setRfeProfile (n p : Nat) (x : Profile) (s : Dev) : Dev :=
  (s.setCe n { s.ce n with profiles := kvSet (s.ce n).profiles p x }).setNat (Reg.rfeBankState n p) (bankStateOf x)

/-- The copy of profile `p` in cluster `n` under the current epoch, or under the one before. -/
def profileIn (s : Dev) (n p : Nat) (cur : Bool) : Option Profile := if cur then rfeProfile s n p else rfePrevProfile s n p

/-- The device with that copy written; `RFE.BANK_STATE` shows the current epoch's. -/
def setProfileIn (n p : Nat) (cur : Bool) (x : Profile) (s : Dev) : Dev :=
  if cur then setRfeProfile n p x s else s.setCe n { s.ce n with prevProfiles := kvSet (s.ce n).prevProfiles p x }

/-- A bank of a profile: true is B. -/
def Profile.bank (x : Profile) (b : Bool) : Octets := if b then x.bankB else x.bankA

/-- A bank of a profile has lost both copies (R291). -/
def Profile.lost (x : Profile) (b : Bool) : Bool := if b then x.lostB else x.lostA

/-- The profile with a bank written. -/
def Profile.setBank (x : Profile) (b : Bool) (o : Octets) : Profile :=
  if b then { x with bankB := o, lostB := false } else { x with bankA := o, lostA := false }

/-- The live condition of source 0x201 + 16n ends when no bank is lost (R295). -/
def bankLive (n : Nat) (s : Dev) : Dev :=
  if ((s.ce n).profiles ++ (s.ce n).prevProfiles).any (fun p => p.2.lostA || p.2.lostB) then s else faultEnd (rfeSource n) [] s

/-! ### Bank operations (R283) -/

/-- A used stage of a bank is unstable: abs(a2) ≥ 1 or abs(a1) ≥ 1 + a2. -/
def unstable (o : Octets) : Bool :=
  (upTo (min 8 (oct o 0))).any (fun i =>
    let a1 := signed 32 (le o (24 + 20 * i + 12) 4)
    let a2 := signed 32 (le o (24 + 20 * i + 16) 4)
    let one : Int := 2 ^ 29
    decide (one ≤ a2.natAbs) || decide (one + a2 ≤ a1.natAbs))

/-- The 184 octets of `RFE.BANK_WIN`. -/
def bankWin (s : Dev) (n : Nat) : Octets := ((upTo 46).map (fun i => toLe 4 (s.reg (Reg.rfeBankWin n i)).toNat)).flatten

/-- The last operation's status shows in `RFE.BANK_CMD`. -/
def bankStatus (n st : Nat) (s : Dev) : Dev := s.setNat (Reg.rfeBankCmd n) st

/-- COMMIT. -/
def bankCommit (n p : Nat) (b : Bool) (s : Dev) : Dev :=
  match rfeProfile s n p with
  | none => bankStatus n 4 s
  | some x =>
    if x.swap.isSome then bankStatus n (if b = x.active then 3 else 2) s
    else if b = x.active then bankStatus n 3 s
    else
      let o := bankWin s n
      if 8 < oct o 0 then bankStatus n 5 s
      else if unstable o then bankStatus n 6 s
      else bankStatus n 0 (bankLive n (setRfeProfile n p (x.setBank b o) s))

/-- READ. -/
def bankRead (n p : Nat) (b : Bool) (s : Dev) : Dev :=
  match rfeProfile s n p with
  | none => bankStatus n 4 s
  | some x => bankStatus n 0 ((upTo 46).foldl (fun s i => s.setNat (Reg.rfeBankWin n i) (le (x.bank b) (4 * i) 4)) s)

/-- SETTLE. -/
def bankSettle (n p : Nat) (b : Bool) (s : Dev) : Dev :=
  match rfeProfile s n p with
  | none => bankStatus n 4 s
  | some x =>
    let o := putOcts (x.bank b) 2 (toLe 2 (s.rfld (Reg.rfeBankWin n 0) 0 16))
    bankStatus n 0 (setRfeProfile n p (if b then { x with bankB := o } else { x with bankA := o }) s)

/-- A swap is asked for: from now on the profile is swapping, and `RFE.BANK_STATE` shows the incoming bank (R284, R285). -/
def swapAsk (n p fade : Nat) (x : Profile) (s : Dev) : Dev :=
  setRfeProfile n p { x with active := !x.active, fade := fade,
                             swap := some { t0 := s.time.ticks + 1, fade := fade, begun := false, since := 0 } } s

/-- SWAP. -/
def bankSwap (n p fade : Nat) (s : Dev) : Dev :=
  if 64 < fade then bankStatus n 5 s
  else match rfeProfile s n p with
    | none => bankStatus n 4 s
    | some x =>
      match x.swap, x.latched with
      | none, _ => bankStatus n 0 (swapAsk n p fade x s)
      | some _, none => bankStatus n 1 (setRfeProfile n p { x with latched := some fade } s)
      | some _, some _ => bankStatus n 7 s

/-- A swap starts at t0: counted, and SWAP_START recorded. -/
def swapStart (n p : Nat) (cur : Bool) (x : Profile) (fade : Nat) (s : Dev) : Dev :=
  let s := setProfileIn n p cur { x with seq := (x.seq + 1) % 2 ^ 16,
                                          swap := some { t0 := s.time.ticks, fade := fade, begun := true, since := s.cycles } } s
  note (rfeSource n) 0x0503 none
    ([0, 0, 0, 0, BitVec.ofNat 8 p, BitVec.ofNat 8 x.active.toNat, BitVec.ofNat 8 fade, 0] ++ toLe 4 (s.time.lastTick.getD 0)) s

/-- At a tick, the swaps whose t0 it is start, in the copies of both epochs (R282). -/
def swapTick (n : Nat) (s : Dev) : Dev :=
  [true, false].foldl (fun s cur =>
    (if cur then (s.ce n).profiles else (s.ce n).prevProfiles).foldl (fun s q =>
      match q.2.swap with
      | some w => if ¬ w.begun ∧ w.t0 ≤ s.time.ticks then swapStart n q.1 cur q.2 w.fade s else s
      | none => s) s) s

/-- The profile that a node of a direction uses: its index in the parameter block. -/
def dirProfile (params : Octets) (out : Bool) : Nat := oct params (if out then 11 else 10)

/-- A node of an epoch's profile `p` is in service on cluster `n`'s RFE. -/
def profileBusy (s : Dev) (n p : Nat) (cur : Bool) : Bool :=
  (s.cg n).service.any (fun v => v.res == .rfe &&
    (match (s.chan? v.chan).bind (·.active) with
     | none => false
     | some i => let kd := i.kind v.node
                 decide (i.epoch = s.epochs.cur.epoch) == cur &&
                   ((kd == 6 && dirProfile i.params false == p) || (kd == 7 && dirProfile i.params true == p))))

/-- Channels homed in cluster `n`. -/
def homedIn (s : Dev) (n : Nat) : List (Nat × Channel) := s.chans.filter (fun p => p.2.home / 16 == n)

/-- Ticks of a fade: ceil(FADE / 2.5 ms). -/
def fadeTicks (fade : Nat) : Nat := (2 * fade + 4) / 5

/-- The swap of a copy of profile `p` that may end now (R285). -/
def swapOver (s : Dev) (n p : Nat) (cur : Bool) : Option Profile :=
  (profileIn s n p cur).filter (fun x =>
    match x.swap with
    | none => false
    | some w => w.begun && decide (w.t0 + 50 + fadeTicks w.fade ≤ s.time.ticks) && !profileBusy s n p cur)

/-- A direction of a channel has run the profile and has not taken its last swap. -/
def RfeDir.behind (d : RfeDir) (n p seq : Nat) (cur : Bool) : Bool :=
  (match d.used with | some (m, q, _) => m == n && q == p | none => false) && (if cur then d.swapSeq else d.prevSeq) != seq

/-- The swap of a copy ends at H: SWAP_END, and a latched swap starts with t0 = H. -/
def swapEndIn (n p : Nat) (cur : Bool) (s : Dev) : Dev :=
  match swapOver s n p cur with
  | none => s
  | some x =>
    let late := ((homedIn s n).filter (fun q =>
      (dirProfile q.2.params false == p && q.2.rfeIn.behind n p x.seq cur) ||
      (dirProfile q.2.params true == p && q.2.rfeOut.behind n p x.seq cur))).length
    let x := { x with swap := none }
    let s := (setProfileIn n p cur x s).bump (Reg.rfeSwaps n)
    let s := note (rfeSource n) 0x0504 none [0, 0, 0, 0, BitVec.ofNat 8 p, BitVec.ofNat 8 (sat 8 late)] s
    match x.latched with
    | none => s
    | some f => swapStart n p cur { x with latched := none, active := !x.active, fade := f } f s

/-- SWAP_END: the current epoch's swap, else that of the epoch before, which goes on for its items (R282). -/
def swapEnd (n p : Nat) (s : Dev) : Dev := swapEndIn n p (swapOver s n p true).isSome s

/-! ### Synchronising reset (R287) -/

/-- GO of `RFE.SYNC_CMD`. -/
def syncGo (n : Nat) (s : Dev) : Dev :=
  let target := (s.reg (Reg.rfeSyncLo n)).toNat + 2 ^ 32 * s.rfld (Reg.rfeSyncHi n) 0 24
  let sel := s.rfld (Reg.rfeSyncHi n) 24 8
  let status (c : Nat) (s : Dev) : Dev := s.setFld (Reg.rfeSyncCmd n) 0 2 c
  if target < s.tickNow + 2 then status 1 s
  else if (s.ce n).sync.isSome then status 2 s
  else if 64 ≤ sel ∧ sel ≤ 0xFD then status 3 s
  else status 0 ((s.setCe n { s.ce n with sync := some ⟨s.target target, sel⟩ }).setBit (Reg.rfeSyncCmd n) 2 true)

/-- A channel is named by a selector. -/
def syncNames (k : Channel) (sel : Nat) : Bool :=
  sel == 0xFF || (sel == 0xFE && dirProfile k.params false == 0xFF && dirProfile k.params true == 0xFF) ||
    (decide (sel < 64) && (dirProfile k.params false == sel || dirProfile k.params true == sel))

/-- At the target tick the channels named owe a reset, and SYNC_APPLIED is recorded. -/
def syncTick (n : Nat) (s : Dev) : Dev :=
  match (s.ce n).sync with
  | none => s
  | some r =>
    if ¬ s.reached r.target then s
    else
      let s := s.setCe n { s.ce n with sync := none }
      let s := s.setBit (Reg.rfeSyncCmd n) 2 false
      let s := (homedIn s n).foldl (fun s q =>
        if syncNames q.2 r.sel then
          s.modChan q.1 (fun k => { k with rfeIn := { k.rfeIn with syncDue := some r.target },
                                           rfeOut := { k.rfeOut with syncDue := some r.target } })
        else s) s
      note (rfeSource n) 0x0505 none ([0, 0, 0, 0, BitVec.ofNat 8 r.sel, 0, 0, 0] ++ toLe 4 (r.target.tick % 2 ^ 32)) s

/-! ### Levels (R290) -/

/-- A detector value as its register shows it. -/
def lvlReg (v : Option Int) : Nat := match v with | none => 0x8000 | some x => satInt 16 x

/-- A write of `RFE.LVL_SEL`. -/
def lvlSel (n : Nat) (v : Word) (s : Dev) : Dev :=
  let c := fld v 0 16
  let out := bit v 16
  let w := v.toNat % 2 ^ 17
  match s.chan? c with
  | none => s.setNat (Reg.rfeLvlSel n) w
  | some k =>
    if k.home / 16 ≠ n then s.setNat (Reg.rfeLvlSel n) w
    else
      let d := if out then k.rfeOut else k.rfeIn
      let s := s.setNat (Reg.rfeLvlSel n) (w + 2 ^ 31)
      let s := s.setNat (Reg.rfeLvlRms n) (lvlReg d.rms)
      let s := s.setNat (Reg.rfeLvlPeak n) (lvlReg d.peak)
      let s := s.setNat (Reg.rfeLvlEnv n) (lvlReg d.env)
      s.setNat (Reg.rfeLvlTick n) (d.tick % 2 ^ 32)

/-! ### A node (R268 to R281, R288, R291 to R293) -/

/-- The line rate in Hz of an instance: 16 kHz for FORMAT 3, else 8 kHz (R153, R268). -/
def lineHz (l : Legs) : Nat := match l.line with | some d => if nfld d 16 2 = 3 then 16000 else 8000 | none => 8000

/-- The converter's delay in ns and its settle count at `fout` (R272). -/
def converter (fin fout : Nat) : Nat × Nat := if fin = fout then (0, 0) else (12000000000 / min fin fout, 24 * fout / min fin fout)

/-- A count of samples over a frame. -/
def frameSamples (fr hz : Nat) : Nat := tickSamples fr hz

/-- The rate in Hz of the codec side of a node: RATE, or 8 kHz in passthrough (R225). -/
def sideHz (i : Instance) : Nat := if i.vbd then 8000 else rateHz (oct i.params 2)

/-- The canceller's rate (R234), at which the Tone Detector works too (R297). -/
def bandHz (params : Octets) : Nat := if oct params 2 = 0 then 8000 else 16000

/-- A swap as a node that started at cycle `since` meets it (R284): the bank that runs, the swaps to have taken, and the fade with which the last of them
is taken. -/
def swapView (x : Profile) (since : Nat) : Bool × Nat × Option Nat :=
  match x.swap with
  | none => (x.active, x.seq, none)
  | some w =>
    if w.begun ∧ w.since ≤ since then (x.active, x.seq, some w.fade)
    else (!x.active, if w.begun then (x.seq + 2 ^ 16 - 1) % 2 ^ 16 else x.seq, none)

/-- What a node finds of its profile (R274, R284 to R286): whether the copy is the current epoch's, the profile with its index, the bank that runs, the
swaps taken after the node, whether it takes one and with which fade, and whether the profile or bank is another than its last node's. -/
structure RfeView where
  cur : Bool
  pi : Nat
  prof : Option Profile
  act : Bool
  seq : Nat
  takes : Bool
  fade : Option Nat
  changed : Bool

/-- A node of a direction that starts its history, or whose profile or cluster is new to it, takes the swaps of the profile as they stand (DEDUCED, log
entry 81). -/
def rfeView (s : Dev) (n : Nat) (i : Instance) (out : Bool) (since : Nat) (d : RfeDir) : RfeView :=
  let cur := decide (i.epoch = s.epochs.cur.epoch)
  let pi := dirProfile i.params out
  let prof := if pi = 0xFF then none else profileIn s n pi cur
  let seq := if cur then d.swapSeq else d.prevSeq
  let (act, upTo_, fade) := match prof with | some x => swapView x since | none => (false, seq, none)
  let same : Bool := !d.fresh && (match d.used with | some (m, p, _) => m == n && p == pi | none => false)
  let takes := same && upTo_ != seq
  let other : Bool := match d.used with | some (_, p, b) => p != pi || b != act | none => false
  { cur := cur, pi := pi, prof := prof, act := act, seq := upTo_, takes := takes, fade := fade, changed := !d.fresh && !takes && other }

/-- The bank that a node runs: none where both its copies are lost (R291), which runs as STAGES 0. -/
def RfeView.bank (v : RfeView) (b : Bool) : Option Octets := v.prof.bind (fun x => if x.lost b then none else some (x.bank b))

/-- The group delays of a node in ns (R277): its converter at the line, its converter at the codec's side, and its cascade. -/
def nodeDelays (i : Instance) (out : Bool) (v : RfeView) (on : Bool) : Nat × Nat × Int :=
  let hz := rateHz (oct i.params 2)
  let (side, line) := (sideHz i, lineHz i.legs)
  let gd : Int := match v.bank v.act with | some o => if on then signed 32 (le o 4 4) else 0 | none => 0
  let fs := match v.prof with | some x => rateHz (oct x.record 3 % 4) | none => 1
  let (dc, dv) := if out then ((converter hz line).1, (converter side hz).1) else ((converter line hz).1, (converter hz side).1)
  (dc, dv, (gd * 1000000000 * 2 + fs * 65536) / (fs * 65536 * 2))

/-- The instant in ns at which an instance's output begins to leave (R71, R330). -/
def dueNs (s : Dev) (i : Instance) : Nat := i.spawnTick * tickNs + i.frame * tickNs + 1000 * min 2500 (s.rfld Reg.gduSlack 0 12)

/-- The instant in ns at which the first sample handed to the RFE-out node leaves the pins, of an instance with a line leg (R278, R298). -/
def outStart (s : Dev) (k : Channel) (i : Instance) : Nat :=
  if ¬ k.media.farBand.samples.isEmpty then k.media.farBand.stamp + (converter (sideHz i) (bandHz i.params)).1
  else
    let n := k.home / 16
    let z := nodeDelays i true (rfeView s n i true s.cycles k.rfeOut) (s.rbit (Reg.rfeCfg n) 0)
    ((dueNs s i : Int) + z.1 + z.2.1 + z.2.2).toNat

/-- What the signal path of a node runs with: its profile, the bank that runs and the bank that fades out, with the fade's samples. -/
structure RfeSetup where
  prof : Option Profile
  bank : Option Octets
  old : Option Octets
  fadeLen : Nat

/-- The cascade of a node (R275, R276): that of the bank that runs; in a fade, weighted with that of the outgoing bank (R284). -/
def rfeCascade (x : RfeSetup) (d : RfeDir) (xs : List Int) : List (Int × Nat) × RfeDir :=
  match x.bank with
  | none => (xs.map (fun v => (v, 0)), d)
  | some bank =>
    let (ys, q) := cascade bank xs d.casc
    match x.old, d.fadeLeft with
    | some old, n + 1 =>
      let (zs, p) := cascade old xs d.casc2
      let done := x.fadeLen - (n + 1)
      ((crossFade x.fadeLen done (zs.map (·.1)) (ys.map (·.1))).zip ((ys.zip zs).map (fun p => p.1.2 + p.2.2)),
        { d with casc := q, casc2 := if n + 1 ≤ xs.length then [] else p })
    | _, _ => (ys, { d with casc := q, casc2 := [] })

/-- The level detectors over the settled samples of a node, with the settings of its profile (R288). -/
def rfeLevels (x : RfeSetup) (hz skip : Nat) (d : RfeDir) (xs : List Int) : RfeDir :=
  let set (off lo hi dflt : Nat) : Nat := match x.prof with
    | some p => let v := le p.record off 2; if lo ≤ v ∧ v ≤ hi then v else dflt
    | none => dflt
  let sub := (set 4 1 1000 100 * hz + 15999) / 16000
  let det := (xs.drop skip).foldl (detectOne hz sub (set 6 1 1000 10) (set 8 1 5000 100)) d.det
  let v := detectorValues sub det
  let hold (old new : Option Int) : Option Int := if xs.length ≤ skip then old else new
  { d with det := det, rms := hold d.rms v.1, peak := hold d.peak v.2.1, env := hold d.env v.2.2 }

/-- What a node makes of its input (R268, R269): its output, the copy in the canceller's band, and the samples at RATE with their saturations. -/
structure RfeMade where
  out : List Int
  band : List Int
  mid : List (Int × Nat)
  dir : RfeDir

/-- The signal path of a node in the order of R268; `uns` of its output samples are unsettled. -/
def rfeSignal (x : RfeSetup) (i : Instance) (out : Bool) (trim : Int) (uns : Nat) (d : RfeDir) (input : List Int) : RfeMade :=
  let hz := rateHz (oct i.params 2)
  let side := sideHz i
  let line := lineHz i.legs
  let ech := bandHz i.params
  let n (r : Nat) : Nat := frameSamples i.frame r
  let g := signed 16 (le i.params (if out then 22 else 20) 2)
  let skip := (uns * hz + (if out then line else side) - 1) / (if out then line else side)
  if out then
    let (band, bh) := convert side ech (n ech) d.band input
    let (a, vh) := convert side hz (n hz) d.vconv input
    let b := gain g (a.map (fun v => (v, 0)))
    let d := rfeLevels x hz skip { d with band := bh, vconv := vh } (b.map (·.1))
    let (c, d) := rfeCascade x d (b.map (·.1))
    let mid := c.zip (b.map (·.2)) |>.map (fun p => (p.1.1, p.1.2 + p.2))
    let (e, ph, res) := trimmed (n hz) trim d.phase d.residue (mid.map (·.1))
    let (o, ch) := convert hz line (n line) d.conv e
    ⟨o, band, mid, { d with phase := ph, residue := res, conv := ch }⟩
  else
    let (a, ch) := convert line hz (n hz) d.conv input
    let (b, d) := rfeCascade x { d with conv := ch } a
    let mid := gain g b
    let d := rfeLevels x hz skip d (mid.map (·.1))
    let (o, vh) := convert hz side (n side) d.vconv (mid.map (·.1))
    let (band, bh) := convert side ech (n ech) d.band o
    ⟨o, band, mid, { d with vconv := vh, band := bh }⟩

/-- The far-end reference takes the samples that leave the pins from `start` on (R233): what stands between two blocks is zero, and a block that
overlaps takes the place of the samples it names. -/
def refTake (hz start : Nat) (xs : List Int) (e : Echo) : Echo :=
  let gap := samplesBetween hz e.refEnd start
  let old := if e.ref.isEmpty ∨ 10000 < gap then [] else List.replicate gap.toNat 0 ++ e.ref.drop (-gap).toNat
  { e with ref := (xs.reverse ++ old).take (hz * 656 / 1000), refEnd := start + xs.length * 1000000000 / hz, refBad := e.refBad - xs.length }

/-- The instant with a stamp in ns. -/
def stampAt (ns tepoch : Nat) : Stamp := ⟨ns / nsPerSec, ns % nsPerSec, tepoch⟩

/-- Both copies of the bank that a node reads fail (R291): it is lost, BANK_REPAIR is recorded with cause 1 and the source raised. A copy that fails alone
is rewritten from the other and counted. -/
def bankRead2 (n : Nat) (v : RfeView) (copies : Nat) (s : Dev) : Dev :=
  match v.prof with
  | none => s
  | some x =>
    if copies = 0 ∨ x.lost v.act then s
    else
      let data (cause : Byte) : Octets := [0, 0, 0, 0, BitVec.ofNat 8 v.pi, BitVec.ofNat 8 v.act.toNat, cause]
      if copies = 1 then note (rfeSource n) 0x0506 none (data 0) (s.bump (Reg.rfeBankRepair n))
      else
        let s := note (rfeSource n) 0x0506 none (data 1) s
        let s := setProfileIn n v.pi v.cur (if v.act then { x with lostB := true } else { x with lostA := true }) s
        occur (rfeSource n) {} (s.bump (Reg.rfeIntParity n))

/-- What the RFE makes of one RFE-in or RFE-out node of channel `c` on cluster `n`, whose node started at cycle `since` with the engine enabled or not
(`on`). -/
def rfeNode (n c : Nat) (out : Bool) (since : Nat) (on : Bool) (o : RfeOut) (s : Dev) : Dev :=
  match (s.chan? c).bind (fun k => k.active.map (fun i => (k, i))) with
  | none => s
  | some (k, i) =>
    let g := globalId k.owner c
    let chanOct := toLe 4 c
    let hz := rateHz (oct i.params 2)
    let side := sideHz i
    let line := lineHz i.legs
    let outHz := if out then line else side
    let ech := bandHz i.params
    -- a change of the node's rates starts its history from zero (R280)
    let d : RfeDir := if out then k.rfeOut else k.rfeIn
    let d : RfeDir := { d with fresh := d.fresh || (match d.rates with | some r => r != (side, line) | none => false) }
    let s := bankRead2 n (rfeView s n i out since d) o.bankCopies s
    let v := rfeView s n i out since d
    -- history and settling (R280, R281)
    let sync : Bool := match d.syncDue with | some t => !(⟨i.tepoch, i.spawnTick⟩ : TickAt).before t | none => false
    let reset := sync || o.histParity
    let zero : Bool := d.fresh || reset || (v.takes && v.fade == some 0)
    let fades : Option Nat := if v.takes then v.fade.map (fun f => f * hz / 1000) else none
    let fadeLen := fades.getD d.fadeLen
    let fadeLeft := match fades with | some f => f | none => if v.changed then 0 else d.fadeLeft
    let settle := match v.bank v.act with | some b => if on then le b 2 2 else 0 | none => 0
    let share := (settle * outHz + hz - 1) / hz
    let settling (fin fout : Nat) : Nat := (converter fin fout).2
    let total := share + (if out then settling hz line + settling side hz else settling line hz + settling hz side)
    let left := if zero then total else if d.bypassed && on then share else d.settling
    let uns := min left (frameSamples i.frame outHz)
    -- stamps (R277, R278)
    let (dc, dv, dg) := nodeDelays i out v on
    let lineAt : Int := if k.media.lineIn.samples.isEmpty then (i.spawnTick * tickNs : Nat) - (i.frame * tickNs : Nat) else k.media.lineIn.stamp
    let start : Int := if out then (dueNs s i : Nat) else lineAt - dc - dv - dg
    let bandStart : Int := (if out then start + dc + dv + dg else start) - (converter side ech).1
    -- the signal
    let setup : RfeSetup := ⟨v.prof, if on then v.bank v.act else none, if on then v.bank (!v.act) else none, fadeLen⟩
    let d0 : RfeDir := { d with
      fadeLen := fadeLen, fadeLeft := fadeLeft, conv := if zero then [] else d.conv, vconv := if zero then [] else d.vconv,
      band := if zero then [] else d.band, casc := if zero ∨ (d.bypassed ∧ on) then [] else d.casc,
      casc2 := if zero then [] else if fades.isSome then d.casc else d.casc2,
      det := if reset then {} else d.det, phase := if zero then 0 else d.phase, residue := if zero then [] else d.residue,
      rms := if reset then none else d.rms, peak := if reset then none else d.peak, env := if reset then none else d.env }
    let trim : Int := max (-200000) (min 200000 k.jb.drift)
    let input := (if out then k.media.far else k.media.lineIn).first (frameSamples i.frame (if out then side else line))
    let m := rfeSignal setup i out trim uns d0 input
    let clips := (m.mid.map (·.2)).sum
    let late := v.takes && v.fade.isNone
    let block : Block := { stamp := start.toNat, tepoch := i.tepoch, hz := outHz, samples := m.out, unsettled := uns, clipped := decide (0 < clips),
                           fading := late || decide (0 < fadeLeft), changed := v.changed, epoch := i.epoch }
    let band : Block := { block with stamp := bandStart.toNat, hz := ech, samples := m.band }
    let d' : RfeDir := { m.dir with
      fresh := false, settling := left - uns, tick := i.spawnTick, done := true, clips := d.clips + clips, syncDue := if sync then none else d.syncDue,
      swapSeq := if v.cur then v.seq else d.swapSeq, prevSeq := if v.cur then d.prevSeq else v.seq, used := some (n, v.pi, v.act),
      fadeLeft := fadeLeft - min fadeLeft (frameSamples i.frame hz), bypassed := !on, stamp := start.toNat, unsettled := uns,
      flags := block.flags, rates := some (side, line) }
    let put (d : RfeDir) (s : Dev) : Dev := s.modChan c (fun k => if out then { k with rfeOut := d } else { k with rfeIn := d })
    let s := (put d' (s.bump64 (Reg.rfeNodes n))).modChan c (fun k =>
      if out then { k with media := { k.media with lineOut := block, farBand := band },
                           echo := if (k.par 6 2).testBit 0 then refTake ech band.stamp m.band k.echo else k.echo }
      else { k with media := { k.media with near := block, nearBand := band, up := block } })
    let s := if on then s else s.bump (Reg.rfePassNodes n)
    -- a parity error is a synchronising reset of the node (R292), and counts as one (DEDUCED, log entry 81)
    let s := if reset then s.bump (Reg.rfeSyncs n) else s
    let s :=
      if o.histParity then
        let s := (s.bump (Reg.rfeHistRepair n)).modChan c (fun k => { k with stats := { k.stats with repairs := k.stats.repairs + 1 } })
        note (rfeSource n) 0x0501 (some g) (chanOct ++ [BitVec.ofNat 8 out.toNat]) (s.bump (Reg.tileDmemPar k.home))
      else s
    let s :=
      if 0 < clips then
        let (first, s) := (s.bump (Reg.rfeClips n) clips).oncePer (0x0500 * 2 ^ 32 + g) s.now.sec
        if first then
          -- stamped with the corrected media time of the sample (R86, R279), which saturates at RATE
          let base : Int := if out then start + dc else start + dv
          let at_ := stampAt (base.toNat + ((m.mid.findIdx? (fun p => p.2 != 0)).getD 0) * 1000000000 / hz) i.tepoch
          let s := noteAt at_ (rfeSource n) 0x0500 (some g) (chanOct ++ [BitVec.ofNat 8 out.toNat] ++ toLe 4 (sat 32 d'.clips)) s
          put { d' with clips := 0 } s
        else s
      else s
    if out ∧ 200000 < k.jb.drift.natAbs then
      let (first, s) := (s.bump (Reg.rfeTrimClamp n)).oncePer (0x0508 * 2 ^ 32 + g) (s.now.sec / 60)
      if first then note (rfeSource n) 0x0508 (some g) (chanOct ++ toLe 4 (satInt 32 k.jb.drift)) s else s
    else s

/-- Nodes of an engine of cluster `n` are in service. -/
def engineBusy (s : Dev) (n : Nat) (r : Resource) : Bool := (s.cg n).service.any (fun v => v.res == r)

/-- PASS of an engine (R257, R293, R321): disabled, and no node that it took while it was enabled remains in service. -/
def enginePass (s : Dev) (n : Nat) (r : Resource) (en : Bool) : Bool := !en && (s.cg n).service.all (fun v => v.res != r || !v.on)

/-- `RFE.STATUS`: PASS and NODE. -/
def rfeStatus (n : Nat) (s : Dev) : Dev :=
  (s.setBit (Reg.rfeStatus n) 0 (enginePass s n .rfe (s.rbit (Reg.rfeCfg n) 0))).setBit (Reg.rfeStatus n) 1 (engineBusy s n .rfe)

/-- A write of `RFE.CFG.EN` (R293). -/
def rfeEnWrite (n : Nat) (en : Bool) (s : Dev) : Dev := rfeStatus n (s.setBit (Reg.rfeCfg n) 0 en)

/-! ### Changes of profile -/

/-- The RFEs at an epoch switch (R282, R286): the new epoch's profiles start with bank A active and no swap, and lost banks are replaced.
Called with the new bank current. -/
def rfeEpochSwitch (s : Dev) : Dev :=
  (upTo 16).foldl (fun s n =>
    let old := (s.ce n).profiles
    let s := (homedIn s n).foldl (fun s q => s.modChan q.1 (fun k => { k with
      rfeIn := { k.rfeIn with prevSeq := k.rfeIn.swapSeq, swapSeq := 0 }, rfeOut := { k.rfeOut with prevSeq := k.rfeOut.swapSeq, swapSeq := 0 } })) s
    if old.isEmpty ∧ (s.ce n).prevProfiles.isEmpty then s
    else
      let s := s.setCe n { s.ce n with profiles := [], prevProfiles := old }
      let s := old.foldl (fun s q => s.setNat (Reg.rfeBankState n q.1) 0) s
      bankLive n s) s

end Sys2Proof.Machine
end

