-- ==== Sys2Proof/Machine/Epochs.lean ====
section
/-! DEFINITION. Epochs: staging, the schedule, the switch, the release and their reports (R74 to R85, R96, R99). -/

namespace Sys2Proof.Machine

/-- `GDU.EPOCH_STATE` (R85): 0 IDLE, 1 STAGING, 2 ANNOUNCED, 3 SWITCHED, 4 INCOMPLETE, 5 STAGED. -/
def epochState (s : Dev) : Nat := s.rfld Reg.gduEpochState 0 3

/-- `GDU.EPOCH_STATE` written. -/
def setEpochState (v : Nat) (s : Dev) : Dev := s.setFld Reg.gduEpochState 0 3 v

/-- The epochs of the device written. -/
def Dev.withEpochs (s : Dev) (e : Epochs) : Dev := { s with epochs := e }

/-- `GDU.EPOCH_PENDING`: the HIDs of the plan that have not reported, on the device that accepted the schedule. -/
def epochPending (s : Dev) : Dev :=
  let e := s.epochs
  let own := if e.master ∧ s.role = 1 ∧ (e.prev.isSome ∨ e.sched.isSome) then 2 ^ s.hid else 0
  let bits := (upTo 16).foldl (fun n h => if e.switchWait.contains h ∨ e.releaseWait.contains h then n ||| 2 ^ h else n) own
  s.setNat Reg.gduEpochPending bits

/-! ### Loads of the epoch-scoped settings -/

/-- A cluster's clock in 25 MHz is written, with THROTTLED where it lies below CL_FREQ (R519, R527, R531). -/
def setClFreq (n f : Nat) (s : Dev) : Dev := (s.setFld (Reg.pwrClClk n) 0 6 f).setBit (Reg.pwrClClk n) 9 (decide (f < profClFreq s))

/-- Source 0x020 is live while any cluster is throttled (R527). -/
def throttleLive (s : Dev) : Dev := follow 0x020 ((upTo 16).any (fun n => s.rbit (Reg.pwrClClk n) 9)) {} s

/-- The power profile of a section comes into force (R520): the eight words of `PWR.PROFILE`. A cluster that runs takes the new CL_FREQ, or
keeps a lower throttled frequency (R529). -/
def powerProfile (o : Octets) (s : Dev) : Dev :=
  let r := profNormal o
  let old := profClFreq s
  let s := (upTo 8).foldl (fun s i => s.setNat (Reg.pwrProfile i) (le r (4 * i) 4)) s
  let new := profClFreq s
  throttleLive ((upTo 16).foldl (fun s n =>
    let f := s.rfld (Reg.pwrClClk n) 0 6
    if f = 0 then s else setClFreq n (if f < old then min f new else new) s) s)

/-- The number of a decompression refusal (R351). -/
def FolioFail.num : FolioFail → Nat
  | .magic => 1 | .header => 2 | .sequence => 3 | .code => 4 | .length => 5 | .crc => 6

/-- A decompression job ends (R351, R365, R366). -/
def decodeJob (f : Option FolioFail) (s : Dev) : Dev :=
  let s := if s.domainOn 28 then s.setFld Reg.arcDecStatus 0 4 ((f.map FolioFail.num).getD 0) else s
  match f with
  | none => s
  | some _ => occur 0x3E2 {} (if s.domainOn 28 then s.bump Reg.arcDecErr else s)

/-! ### Staging (R78, R96) -/

/-- The limit of a staged section in octets, and the size of its entries where they are of one size (R48). -/
def sectionLimit (ty : Nat) : Option (Nat × Nat) :=
  match ty with
  | 2 => some (2 * 2 ^ 20, 1) | 4 => some (16 * 2 ^ 20, 1) | 5 => some (8 * 2 ^ 20, 512) | 10 => some (64 * 2 ^ 10, 1)
  | 11 => some (64 * 2 ^ 10, 1) | _ => none

/-- What a step of staging answers: its success, or R78's code with the octet that follows it. -/
inductive StageEnd where
  | done
  | refused (code : Nat) (more : Nat)
  | dma
deriving DecidableEq, Repr

/-- BEGIN. -/
def stageBegin (s : Dev) : StageEnd × Dev :=
  if epochState s ≠ 0 then (.refused 1 0, s)
  else
    let e := s.epochs
    (.done, setEpochState 1 (s.withEpochs { e with next := some { e.cur with epoch := (e.cur.epoch + 1) % 256 } }))

/-- SECTION: the Folio blocks of a TYPE as read, decompressed as an image's are (R49). -/
def stageSection (ty : Nat) (p : Option Octets) (s : Dev) : StageEnd × Dev :=
  match s.epochs.next with
  | none => (.refused 1 0, s)
  | some b =>
    if epochState s ≠ 1 then (.refused 1 0, s)
    else match sectionLimit ty with
      | none => (.refused 2 0, s)
      | some (lim, entry) =>
        match p with
        | none => (.dma, s)
        | some blocks =>
          match folioDecode ty blocks with
          | .error f => (.refused 2 0, decodeJob (some f) s)
          | .ok o =>
          let s := decodeJob none s
          if lim < o.length ∨ o.length % entry ≠ 0 then (.refused 2 0, s)
          else
            let put (b : Bank) (s : Dev) : Dev := s.withEpochs { s.epochs with next := some b }
            match ty with
            | 2 =>
              let r := sectionTemplates sectionFuel o []
              match r.2 with
              | [] => (.done, put { b with templates := r.1.foldl (fun l t => kvSet l t.id t) b.templates } s)
              | (code, _) :: _ => (.refused 3 code, r.2.foldl (fun s q => templateRefused q.2 q.1 2 s) s)
            | 4 => (.done, put { b with codecTables := o } s)
            | 5 =>
              let r := sectionProfiles o
              (.done, put { b with profiles := r.1 } (profilesRefused r.2 s))
            | 10 => (.done, put { b with cost := o } s)
            | _ => (.done, put { b with power := o } s)

/-- END: every template and profile of the free bank was checked as it was staged. -/
def stageEnd (s : Dev) : StageEnd × Dev :=
  if epochState s ≠ 1 ∨ s.epochs.next.isNone then (.refused 1 0, s) else (.done, setEpochState 5 s)

/-- ABORT. -/
def stageAbort (s : Dev) : StageEnd × Dev :=
  if epochState s ≠ 1 ∧ epochState s ≠ 5 then (.refused 1 0, s)
  else (.done, setEpochState 0 (s.withEpochs { s.epochs with next := none }))

/-- The octets of a command descriptor that the master forwards to the devices of the plan: with no address of host memory. -/
def stageOthers (ring id : Nat) (op : Nat) (d : Desc) (s : Dev) : Dev :=
  (planOthers s).foldl (fun s x => ronSendTo x.hid 1 3 (ring * 2 ^ 30 + id % 2 ^ 30) (descOctets op d) s) s

/-- A step's completion (R78): on the active manager, when every device of the plan has completed it. -/
def stageComplete (id : Nat) (r : StageEnd × Dev) : Dev :=
  match r with
  | (.dma, s) => completeWith id .dmaError (occur 0x0CB {} s)
  | (.refused c m, s) => complete id .refused [BitVec.ofNat 8 c, BitVec.ofNat 8 m] s
  | (.done, s) => if s.epochs.stageWait.isEmpty then complete id .ok [BitVec.ofNat 8 (epochState s)] s else s

/-- EPOCH_STAGE: a step named by AUX, run by `act`. `forwarded` tells that the active manager sent it. -/
def epochStage (r : Nat) (step : Nat) (d : Desc) (act : Dev → StageEnd × Dev) (used : Nat) (id : Nat) (s : Dev) : Dev :=
  let forwarded : Bool := match findCmd s id with | some c => c.origin.isSome | none => false
  if ¬ forwarded ∧ ¬ s.leads then completeWith id .notRole s
  else if ¬ descClean d ∨ d.aux.toNat ≠ step ∨ ¬ d.zeroFrom used 47 then completeWith id .badParam s
  else
    let out := act s
    match out.1 with
    | .done =>
      if ¬ forwarded ∧ s.activeManager then
        let s := out.2.withEpochs { out.2.epochs with stageWait := (planOthers s).map (·.hid) }
        stageComplete id (.done, stageOthers r id 0x1B d s)
      else stageComplete id out
    | _ => stageComplete id out

/-- A staged payload in pieces of the Ronong bulk lane (R432, R433): AUX bit 30 marks staging, and bit 31 the last piece. -/
def stagePieces (h ty : Nat) : Nat → Octets → Dev → Dev
  | 0, _, s => s
  | n + 1, o, s =>
    let last := decide (o.length ≤ ronMost)
    let s := ronSendTo h 5 1 ((if last then 2 ^ 31 else 0) + 2 ^ 30 + ty) (o.take ronMost) s
    if last then s else stagePieces h ty n (o.drop ronMost) s

/-- A SECTION payload of the active manager, the Folio blocks as read, goes to every device of the plan as FOLIO frames with STAGE set (R78, R433). -/
def stagePayload (ty : Nat) (o : Octets) (s : Dev) : Dev :=
  if s.activeManager then (planOthers s).foldl (fun s x => stagePieces x.hid ty (o.length / ronMost + 1) o s) s else s

/-- SECTION on a ring: where the step succeeds on the active manager, the payload goes to the other devices. -/
def stageSectionSend (ty : Nat) (p : Option Octets) (s : Dev) : StageEnd × Dev :=
  match stageSection ty p s with
  | (.done, s) => (.done, stagePayload ty (p.getD []) s)
  | r => r

/-- TEMPLATE_LOAD (R96, R99, R150). -/
def templateLoad (d : Desc) (payload : Option Octets) (id : Nat) (s : Dev) : Dev :=
  if ¬ descClean d ∨ d.aux ≠ 0 ∨ ¬ d.zeroFrom 10 47 then completeWith id .badParam s
  else match payload with
    | none => completeWith id .dmaError (occur 0x0CB {} s)
    | some o =>
      let refuse (code : Nat) (s : Dev) : Dev := complete id .refused [BitVec.ofNat 8 code] (templateRefused o code 1 s)
      match s.epochs.next with
      | none => refuse 9 s
      | some b =>
        if epochState s ≠ 1 then refuse 9 s
        else match checkTemplate o true [] with
          | (0, some t) =>
            complete id .ok [0] (s.withEpochs { s.epochs with next := some { b with templates := kvSet b.templates t.id t } })
          | (code, _) => refuse code s

/-! ### The schedule (R77) -/

/-- A codec tables section lacks the table of a codec that the section in force holds, or gives it state of another size (R77). -/
def codecLacks (cur staged : Octets) (codec : Nat) : Bool :=
  cur != staged && Config.codecHeld cur codec &&
    (!Config.codecHeld staged codec || Config.codecState staged codec != Config.codecState cur codec)

/-- The staged bank lacks, or changes the channel-state size of, a template, codec table or filter profile that an open channel uses. -/
def stagedInUse (s : Dev) (b : Bank) : Bool :=
  s.chans.any (fun p =>
    let k := p.2
    let ty := match kvGet b.templates (k.par 0 1) with
      | none => true
      | some t => sramCharge t (k.par 6 2) (k.par 3 1) (k.par 2 1) != sramCharge k.template (k.par 6 2) (k.par 3 1) (k.par 2 1)
    let lacks (x : Nat) : Bool := x != 0xFF && (match kvGet b.profiles x with
      | none => true
      | some r => oct r 3 % 4 != k.par 2 1)
    ty || codecLacks s.epochs.cur.codecTables b.codecTables (k.par 3 1) || lacks (k.par 10 1) || lacks (k.par 11 1))

/-- An announcement goes to a device of the plan (R79); its acknowledgement is awaited. -/
def epochSend (h : Nat) (m : EpochMsg) (s : Dev) : Dev :=
  match laneTo s h with
  | none => s
  | some k =>
    let seq := (s.rl k).sent.getD 1 0
    let s := { s with ron := { s.ron with acks := s.ron.acks ++ [⟨h, 5, seq⟩] } }
    ronPut k 1 5 h 0 (Config.epochPayload m) s

/-- A schedule is tried: its status, and the device with the change announced where it is OK (R77, R79). The target lies in the device's present
time epoch (DESIGN CHOICE, log entry 59). -/
def epochTry (epoch tick : Nat) (s : Dev) : Nat × Dev :=
  let refuse (c : Nat) : Nat × Dev := (c, occur 0x0A4 {} s)
  let e := s.epochs
  if ¬ s.leads then refuse 5
  else match e.next with
    | none => refuse 2
    | some b =>
      if epochState s ≠ 5 then refuse 2
      else if epoch ≠ (e.cur.epoch + 1) % 256 then refuse 3
      else if tick < s.tickNow + 2 then refuse 1
      else if stagedInUse s b then refuse 4
      else
        let hs := if s.role = 1 then (planOthers s).map (·.hid) else []
        let s := s.withEpochs { e with next := some b, sched := some { epoch := epoch, tick := tick, tepoch := s.time.tepoch }, master := true,
                                       from_ := none, releaseTick := none, target := tick, ackWait := hs, switchWait := hs, releaseWait := hs }
        (0, epochPending (hs.foldl (fun s h => epochSend h (.announce epoch tick) s) (setEpochState 2 s)))

/-- EPOCH_SCHEDULE (R77, R150). -/
def epochSchedule (d : Desc) (id : Nat) (s : Dev) : Dev :=
  if ¬ descClean d ∨ d.aux ≠ 0 ∨ ¬ d.zeroFrom 8 47 then completeWith id .badParam s
  else
    let (st, s) := epochTry (d.arg 7 1) (d.arg 0 7) s
    complete id (if st = 0 then .ok else .refused) [BitVec.ofNat 8 st] s

/-- GO of `GDU.EPOCH_CMD`. -/
def epochGo (s : Dev) : Dev :=
  let tick := (s.reg Reg.gduEpochSchedLo).toNat + 2 ^ 32 * s.rfld Reg.gduEpochSchedHi 0 24
  let (st, s) := epochTry (s.rfld Reg.gduEpochSchedHi 24 8) tick s
  s.setNat Reg.gduEpochCmd st

/-! ### Switch, release and completion (R80, R83 to R85) -/

/-- The last delivered tick is at or after a schedule's target (R68, R80). -/
def tickReached (s : Dev) (q : Schedule) : Bool := s.reached ⟨q.tepoch, q.tick⟩

/-- `GDU.EPOCH_CUR`. -/
def epochCur (s : Dev) : Dev :=
  let e := s.epochs
  let prev := match e.prev with | some b => b.epoch | none => s.rfld Reg.gduEpochCur 8 8
  s.setNat Reg.gduEpochCur (e.cur.epoch + 256 * prev + 2 ^ 16 * e.prev.isSome.toNat)

/-- A report goes to the device that announced the change (R85). -/
def epochReport (m : EpochMsg) (s : Dev) : Dev :=
  match s.epochs.from_ with
  | none => s
  | some h => ronSendTo h 1 5 0 (Config.epochPayload m) s

/-- The change is complete when every device has reported both its switch and its release (R85). -/
def epochDone (s : Dev) : Dev :=
  let e := s.epochs
  if e.master ∧ e.releaseTick.isSome ∧ e.switchWait.isEmpty ∧ e.releaseWait.isEmpty then
    let data := [BitVec.ofNat 8 e.cur.epoch, BitVec.ofNat 8 (s.rfld Reg.gduEpochCur 8 8), 0, 0] ++ toLe 4 (e.target % 2 ^ 32) ++
      toLe 4 (s.time.lastTick.getD 0 % 2 ^ 32)
    let s := setEpochState 0 (s.withEpochs { e with master := false, ackWait := [], releaseTick := none })
    occurCode 0x0A5 0x0A00 none data s
  else s

/-- The device switches at a tick (R80): the staged bank becomes current and the current one the previous. A device that learned of the
change after its target, by the announcement or by an item of the new epoch, records a late apply (R83). The rule names the octets of source
0x0A0 and not their layout: they hold bits 31:0 of the target and then of the applied tick number, little-endian (DESIGN CHOICE, log entry 60). -/
def epochSwitch (s : Dev) : Dev :=
  match s.epochs.sched, s.epochs.next with
  | some q, some b =>
    if ¬ (tickReached s q ∨ q.item) then s
    else
      let e := s.epochs
      let s := s.withEpochs { e with cur := { b with epoch := q.epoch }, prev := some e.cur, next := none, sched := none, target := q.tick }
      let s := rfeEpochSwitch (powerProfile b.power (epochCur (setEpochState 3 s)))
      let s := (upTo 16).foldl (fun s n => refreshLoads n s) s
      let applied := s.time.lastTick.getD 0
      let s :=
        if q.late then
          occur 0x0A0 { data := toLe 4 (q.tick % 2 ^ 32) ++ toLe 4 (applied % 2 ^ 32) } (s.bump Reg.gduEpochLate)
        else s
      epochPending (epochReport (.switched applied q.late) s)
  | _, _ => s

/-- No instance of the previous epoch remains unretired, and no item of it is held (R84). -/
def prevDrained (s : Dev) (e : Nat) : Bool :=
  s.epochs.items.all (fun r => r.epoch != some e) && s.chans.all (fun p => p.2.ring.all (fun x => x.block.epoch != e)) &&
    s.chans.all (fun p => ([p.2.active, p.2.deferred].filterMap id).all (fun i => i.epoch != e))

/-- The device releases its previous bank (R84, R85). -/
def epochRelease (s : Dev) : Dev :=
  match s.epochs.prev with
  | none => s
  | some b =>
    if ¬ prevDrained s b.epoch then s
    else
      let s := s.withEpochs { s.epochs with prev := none, releaseTick := some s.time.ticks }
      let s := (upTo 16).foldl (fun s n => if (s.ce n).prevProfiles.isEmpty then s else bankLive n (s.setCe n { s.ce n with prevProfiles := [] })) s
      let s := epochPending (epochCur s)
      if s.epochs.master then epochDone s else epochReport .released (setEpochState 0 s)

/-- Eight ticks after its own release, the device that accepted the schedule finds a device that has not reported (R85). -/
def epochIncomplete (s : Dev) : Dev :=
  let e := s.epochs
  match e.releaseTick with
  | none => s
  | some t =>
    if e.master ∧ epochState s = 3 ∧ t + 8 ≤ s.time.ticks ∧ ¬ (e.switchWait.isEmpty ∧ e.releaseWait.isEmpty) then
      occur 0x0A2 {} (setEpochState 4 s)
    else s

/-- At each tick the announcement is sent again to every device that has not acknowledged it (R79, R85). -/
def epochResend (s : Dev) : Dev :=
  let e := s.epochs
  if e.master then e.ackWait.foldl (fun s h => epochSend h (.announce ((e.sched.map (·.epoch)).getD e.cur.epoch) e.target) s) s else s

/-- A unit receives an item (R82): what `act` makes of it, under the current epoch or under the previous one; held for the next tick, where it is of
the epoch announced; or discarded. A payload received from the network carries no epoch (R81). -/
def itemTake (r : MediaRec) (act : Dev → Dev) (s : Dev) : Dev :=
  match r.epoch with
  | none => act s
  | some x =>
    let e := s.epochs
    let stale (src : Nat) (s : Dev) : Dev := occur src {} (s.bump Reg.gduEpochStale)
    if x = e.cur.epoch then act s
    else if x = (e.cur.epoch + 255) % 256 then (if (e.prev.map (·.epoch)) = some x then act s else act (s.bump Reg.gduEpochPromoted))
    else if x = (e.cur.epoch + 1) % 256 then
      match e.sched with
      | some q =>
        if q.epoch = x then
          s.withEpochs { e with items := e.items ++ [r], sched := some { q with item := true, late := q.late || tickReached s q } }
        else stale 0x0A1 s
      | none => stale 0x0A3 s
    else stale 0x0A1 s

/-- An EPOCH frame from device `h` (R79, R83, R85). An announced target lies in this device's time epoch at its receipt (DESIGN CHOICE, log entry
59). -/
def epochFrame (h : Nat) (m : EpochMsg) (s : Dev) : Dev :=
  let e := s.epochs
  match m with
  | .announce ep tick =>
    if e.sched.isSome ∨ e.cur.epoch = ep then s
    else match e.next with
      | none => s
      | some _ =>
        let q : Schedule := { epoch := ep, tick := tick, tepoch := s.time.tepoch }
        let q := { q with late := tickReached s q }
        setEpochState 2 (s.withEpochs { e with sched := some q, master := false, from_ := some h, releaseTick := none, target := tick })
  | .switched _ _ =>
    if e.master then epochDone (epochPending (s.withEpochs { e with switchWait := e.switchWait.filter (· != h) })) else s
  | .released =>
    if e.master then
      epochDone (epochPending (s.withEpochs { e with switchWait := e.switchWait.filter (· != h), releaseWait := e.releaseWait.filter (· != h) }))
    else s

/-- An ACK of an EPOCH frame by device `h`. -/
def epochAcked (h : Nat) (s : Dev) : Dev := s.withEpochs { s.epochs with ackWait := s.epochs.ackWait.filter (· != h) }

/-- A device's completion of a staging step reaches the active manager (R78). -/
def stageAnswer (id h : Nat) (ok : Bool) (code : Nat) (s : Dev) : Dev :=
  let e := s.epochs
  if ¬ e.stageWait.contains h then s
  else if ok then
    let s := s.withEpochs { e with stageWait := e.stageWait.filter (· != h) }
    if s.epochs.stageWait.isEmpty then complete id .ok [BitVec.ofNat 8 (epochState s)] s else s
  else complete id .refused [4, BitVec.ofNat 8 h, BitVec.ofNat 8 code] (s.withEpochs { e with stageWait := [] })

end Sys2Proof.Machine
end

