-- ==== Sys2Proof/Machine/ToneDefs.lean ====
section
/-! DEFINITION. The tone-definitions section: programs and definitions (R299 to R302). -/

namespace Sys2Proof.Machine

/-- The octets of the tone-definitions section. -/
def toneSection (s : Dev) : Octets := sectionOf s 6

/-- The section passes R299. -/
def toneSectionOk (o : Octets) : Bool :=
  le o 0 2 == 0x5444 && le o 2 2 == 1 && decide (1 ≤ oct o 4) && decide (oct o 4 ≤ 64) && decide (le o 6 2 ≤ 256) &&
    o.length == 16 + 64 * oct o 4 + 48 * le o 6 2

/-- The record of definition `i`, if the section holds one. -/
def defRecord (o : Octets) (i : Nat) : Option Octets :=
  if i < le o 6 2 then some (octs o (16 + 64 * oct o 4 + 48 * i) 48) else none

/-- A frequency of 50 Hz up to, but not including, 8 kHz. -/
def toneFreq (v : Nat) : Bool := decide (500 ≤ v) && decide (v ≤ 79999)

/-- A level of −60 to +3 dBm0. -/
def toneLevel (v : Nat) : Bool := let x := signed 16 v; decide (-6000 ≤ x) && decide (x ≤ 300)

/-- A record keeps the ranges of the fields that its KIND uses (R302). -/
def defRanges (r : Octets) : Bool :=
  let kind := oct r 0
  let steps := oct r 11
  let f2 := le r 4 2
  let l2 := le r 8 2
  toneLevel (le r 6 2) && decide (oct r 10 ≤ 1) && decide (1 ≤ steps) && decide (steps ≤ 4) &&
    (upTo steps).all (fun i => let on := le r (12 + 4 * i) 2; decide (1 ≤ on) && decide (on ≤ 30000)) &&
    (if kind = 3 then decide (oct r 1 ≤ 15) && toneLevel l2
     else
      oct r 1 == 0 && toneFreq (le r 2 2) && decide (1 ≤ oct r 28) && decide (oct r 28 ≤ 8) && decide (1 ≤ oct r 29) &&
        decide (oct r 29 ≤ 50) && decide (5 ≤ oct r 30) && decide (oct r 30 ≤ 50) &&
        (if kind = 1 then (f2 == 0 || toneFreq f2) && toneLevel l2
         else decide (10 ≤ f2) && decide (f2 ≤ 1000) && decide (1 ≤ l2) && decide (l2 ≤ 1000)))

/-- A record of KIND 1 to 3 that breaks its ranges: left absent with DEF_REFUSED. -/
def defRefused (r : Octets) : Bool := decide (1 ≤ oct r 0) && decide (oct r 0 ≤ 3) && !defRanges r

/-- A definition that is present. -/
def toneDef (o : Octets) (i : Nat) : Option Octets :=
  match defRecord o i with
  | none => none
  | some r => if 1 ≤ oct r 0 ∧ oct r 0 ≤ 3 ∧ defRanges r then some r else none

/-- The tone frequencies of a definition in 0.1 Hz, by R301 and R302: F1, and F2 of a KIND 1 definition where it is not 0. -/
def defFreqs (r : Octets) : List Nat :=
  if oct r 0 = 3 then [] else if oct r 0 = 1 ∧ le r 4 2 ≠ 0 then [le r 2 2, le r 4 2] else [le r 2 2]

/-- The record of program `p`. -/
def progRecord (o : Octets) (p : Nat) : Option Octets := if p < oct o 4 then some (octs o (16 + 64 * p) 64) else none

/-- The call-progress definitions that a program names. -/
def progCp (r : Octets) : List Nat := (upTo (oct r 11)).map (fun i => oct r (12 + i))

/-- The bins that a class mask takes. -/
def classBins (m : Nat) : Nat :=
  8 * (m.testBit 0).toNat + 6 * (m.testBit 1).toNat + 6 * (m.testBit 2).toNat + 6 * (m.testBit 3).toNat + 5 * (m.testBit 4).toNat +
    2 * (m.testBit 5).toNat + (m.testBit 6 || m.testBit 7).toNat + (m.testBit 8).toNat

/-- The distinct tone frequencies of a program's call-progress definitions. -/
def progFreqs (o r : Octets) : List Nat :=
  (((progCp r).filterMap (toneDef o)).map defFreqs).flatten.foldl (fun l f => if l.contains f then l else f :: l) []

/-- A program record that R301 accepts. -/
def progOk (o r : Octets) : Bool :=
  let cp := progCp r
  let n := (progFreqs o r).length
  let send := classBins (le r 0 2) + (if (oct r 28).testBit 0 then n else 0)
  let recv := classBins (le r 2 2) + (if (oct r 28).testBit 1 then n else 0)
  decide (le r 0 2 < 512) && decide (le r 2 2 < 512) && (le r 4 2 &&& 0xFE1F) == 0 && decide (oct r 6 < 8) && decide (oct r 11 ≤ 16) &&
    decide (oct r 28 < 4) && allZero (octs r 31 33) &&
    cp.all (fun i => match toneDef o i with | some d => oct d 0 == 1 || oct d 0 == 2 | none => false) &&
    decide (send ≤ 32) && decide (recv ≤ 32) && send == oct r 29 && recv == oct r 30

/-- A program that is present. -/
def toneProg (o : Octets) (p : Nat) : Option Octets :=
  match progRecord o p with
  | none => none
  | some r => if progOk o r then some r else none

/-- The programs of a section that are refused, and the definitions. -/
def toneRefusals (o : Octets) : List Nat × List Nat :=
  ((upTo (oct o 4)).filter (fun p => (toneProg o p).isNone),
   (upTo (le o 6 2)).filter (fun i => match defRecord o i with | some r => defRefused r | none => false))

/-- Half the detector's rate in 0.1 Hz (R297). -/
def detectorHalf (rate : Nat) : Nat := if rate = 0 then 40000 else 80000

/-- A channel of a RATE may name the program (R299, R302). -/
def progServes (o : Octets) (p rate : Nat) : Bool :=
  match toneProg o p with
  | none => false
  | some r => (progFreqs o r).all (fun f => decide (f < detectorHalf rate))

/-- A field of a program with its default (R300). -/
def progField (r : Octets) (off lo hi dflt : Nat) : Nat := let v := oct r off; if lo ≤ v ∧ v ≤ hi then v else dflt

end Sys2Proof.Machine
end

