-- ==== Sys2Proof/Machine/Params.lean ====
section
/-! DEFINITION. The channel parameter block: its fields and its checks (R137 to R140, R214, R215, R274, R299, R302). -/

namespace Sys2Proof.Machine

/-- The frame codes of a codec (R214). -/
def codecFrames (codec : Nat) : List Nat :=
  match codec with
  | 5 => [2, 3, 4, 5, 6] | 6 => [3, 5, 6] | 7 => [3, 5, 6] | 8 => [3, 5, 6] | 9 => [0, 1, 2, 3, 5, 6] | _ => [0, 1, 2, 3, 4, 5, 6]

/-- The codec frame in ticks; 0 for a sample-based codec, whose frame is a sample (R214). -/
def codecFrameTicks (codec fr : Nat) : Nat :=
  match codec with
  | 5 => 4 | 6 => 8 | 7 => 8 | 8 => 8 | 9 => fr | _ => 0

/-- The RTP clock rate of a codec in Hz (R214). -/
def rtpClock (codec rate : Nat) : Nat :=
  match codec with
  | 0 => rateHz rate | 7 => 16000 | 8 => 16000 | 9 => 48000 | _ => 8000

/-- The RATEs that a codec allows (R138). -/
def codecRate (codec rate : Nat) : Bool :=
  match codec with
  | 0 => true | 9 => true | 3 => rate == 1 | 7 => rate == 1 | 8 => rate == 1 || rate == 2
  | 1 => rate == 0 | 2 => rate == 0 | 4 => rate == 0 | 5 => rate == 0 | 6 => rate == 0 | _ => false

/-- The silence of a codec is comfort noise of RFC 3389 (R214). -/
def rfc3389 (codec : Nat) : Bool := decide (codec ≤ 4)

/-- The DTX bit of CODEC_MODE (R215). -/
def dtxOf (codec mode : Nat) : Bool :=
  match codec with
  | 4 => mode.testBit 3 | 6 => mode.testBit 4 | 7 => mode.testBit 5 | 8 => mode.testBit 6 | 9 => mode.testBit 10 | _ => mode.testBit 0

/-- CODEC_MODE is one that R215 lists. -/
def modeOk (codec mode rate funcEn : Nat) : Bool :=
  (match codec with
   | 0 => decide (mode < 2) | 1 => decide (mode < 2) | 2 => decide (mode < 2) | 3 => decide (mode < 2)
   | 4 => decide (mode < 16) | 5 => decide (mode < 2) | 6 => decide (mode < 64)
   | 7 => decide (mode < 128) && decide (mode % 16 ≤ 8)
   | 8 => decide (mode < 256) &&
       (if mode.testBit 4 then decide (mode % 16 ≤ 8) && rate == 1
        else decide (mode % 16 ≤ 11) && !(rate == 2 && [0, 1, 11].contains (mode % 16)))
   | 9 => decide (mode < 2048) && (mode % 256 == 0 || decide (6 ≤ mode % 256))
   | _ => false) &&
    !(rfc3389 codec && dtxOf codec mode && !funcEn.testBit 4)

/-- A signed 16-bit field lies within limits. -/
def signedIn (v : Nat) (lo hi : Int) : Bool := let x := signed 16 v; decide (lo ≤ x) && decide (x ≤ hi)

/-- A filter profile that a block may name (R274). -/
def profileOk (s : Dev) (p rate : Nat) : Bool :=
  p == 0xFF || (match kvGet s.epochs.cur.profiles p with | some r => oct r 3 % 4 == rate | none => false)

/-- Every field of a block is in range, for a template (R137 stage 4). -/
def paramsOk (s : Dev) (t : Template) (o : Octets) : Bool :=
  let frame := oct o 1
  let rate := oct o 2
  let codec := oct o 3
  let mode := le o 4 2
  let funcEn := le o 6 2
  let jbMin := le o 14 2
  let jbMax := if le o 16 2 = 0 then 400 else le o 16 2
  decide (frame < 7) && t.frameMask.testBit frame && decide (rate ≤ 3) && decide (codec ≤ 9) && codecRate codec rate &&
    (codecFrames codec).contains frame && modeOk codec mode rate funcEn && decide (funcEn < 32) &&
    t.nodes.all (fun n => !(functionOff funcEn n.kind && !n.flags.testBit 0)) &&
    decide (oct o 8 ≤ 64) && (oct o 9 == 0xFF || progServes (toneSection s) (oct o 9) rate) &&
    profileOk s (oct o 10) rate && profileOk s (oct o 11) rate && decide (oct o 12 ≤ 2) && (oct o 13 &&& 0x7C) == 0 &&
    decide (jbMin ≤ 400) && decide (jbMin ≤ jbMax) && decide (jbMax ≤ 400) && decide (le o 18 2 ≤ 400) &&
    signedIn (le o 20 2) (-2400) 2400 && signedIn (le o 22 2) (-2400) 2400 &&
    (le o 24 2 == 0 || signedIn (le o 24 2) (-3000) (-600)) && decide (oct o 26 < 64) && decide (oct o 27 ≤ 6) &&
    decide (oct o 28 < 128) && allZero (octs o 30 2) && allZero (octs o 36 12)

/-- The template that a block names: none where its ID is empty, or where it does not hold exactly one statistics node (R140). -/
def templateFor (s : Dev) (o : Octets) : Option Template :=
  match kvGet s.epochs.cur.templates (oct o 0) with
  | none => none
  | some t => if (t.nodes.filter (fun n => n.kind == 0x12)).length = 1 then some t else none

/-! ### Fields with their defaults (R137) -/

/-- JB_MAX in ms. -/
def jbMaxMs (o : Octets) : Nat := if le o 16 2 = 0 then 400 else le o 16 2

/-- The transmit queue. -/
def txqOf (o : Octets) : Nat := if oct o 27 = 0 then 5 else oct o 27

/-! ### Masks of MODIFY (R148, R152) -/

/-- Fields of two octets: a mask covers both octets or neither. -/
def pairFields : List Nat := [4, 6, 14, 16, 18, 20, 22, 24]

/-- A mask that MODIFY accepts. -/
def maskOk (m : Nat) : Bool :=
  !m.testBit 30 && m % 16 == 0 && pairFields.all (fun i => m.testBit i == m.testBit (i + 1))

/-- The block with the octets that a mask covers taken from `new`. -/
def mergeParams (m : Nat) (old new : Octets) : Octets :=
  (upTo 48).map (fun i =>
    let take := if i < 30 then m.testBit i else decide (32 ≤ i) && decide (i < 36) && m.testBit 31
    BitVec.ofNat 8 (oct (if take then new else old) i))

end Sys2Proof.Machine
end

