-- ==== Sys2Proof/Machine/Move.lean ====
section
/-! DEFINITION. Opens that wait, kernel-set loads, migration and night consolidation (R124, R127 to R130, R228). -/

namespace Sys2Proof.Machine

/-! ### Opens that wait -/

/-- The result of an OPEN (R148). -/
def openResult (c : Nat) (k : Channel) : Octets :=
  let g := k.charge
  toLe 4 (globalId k.owner c) ++ [BitVec.ofNat 8 k.home, BitVec.ofNat 8 k.phase, 0, 0] ++ toLe 4 g.tile ++ toLe 4 g.sram

/-- An OPENING channel whose cluster is awake becomes OPEN, or RUNNING where it has legs (R134), and an OPEN completes once the tile holds a set that
serves the channel (R124, R228). -/
def finishOpen (c : Nat) (s : Dev) : Dev :=
  match s.chan? c with
  | none => s
  | some k =>
    let wakes := decide (k.st = .opening) && s.clState (k.home / 16) != 0
    let legs := k.legs.line.isSome || k.legs.session.isSome || k.pairNext.isSome
    let k := if wakes then { k with st := if legs then .running else .opened } else k
    let s := if wakes then s.setChan c k else s
    let g := globalId k.owner c
    let ms := cmdsOn s 1 g
    let s :=
      if ms.isEmpty ∨ k.st = .opening ∨ ¬ ((kvGet s.loads k.home).isNone ∧ tileHas s k.home (k.par 3 1)) then s
      else ms.foldl (fun s m => completeAs m.id g .ok (openResult c k) s) s
    if wakes ∨ ¬ ms.isEmpty then catalogueNow c s else s

/-- The OPENING channels of a cluster are looked at. -/
def finishOpens (n : Nat) (s : Dev) : Dev := (homedIn s n).foldl (fun s q => finishOpen q.1 s) s

/-- A tile of an awake cluster takes the set that firmware is to load into it. -/
def loadDue (t : Nat) (s : Dev) : Dev :=
  match kvGet s.loads t with
  | none => s
  | some set =>
    if s.clState (t / 16) = 0 then s
    else
      let s := { s with loads := kvDel s.loads t }
      note (0x100 + t) 0x0307 none [0, 0, 0, 0, BitVec.ofNat 8 set] ((s.setFld (Reg.tileState t) 8 5 set).setBit (Reg.tileState t) 31 true)

/-- KSET_LOAD (R228): a tile of an awake cluster loads the set that a channel placed on it needs, and the opens that waited complete. -/
def ksetLoad (t : Nat) (s : Dev) : Dev := if s.clState (t / 16) = 0 then s else finishOpens (t / 16) (loadDue t s)

/-! ### Migration (R127, R128) -/

/-- A migration into tile `t` is admitted: its cluster is open, and the tile can take the charge and the codec (R122, R123). -/
def migrateAdmits (s : Dev) (t : Nat) (k : Channel) : Bool :=
  clusterOpen s (t / 16) && tileCan s t (k.par 3 1) && admits s t k.charge k.params

/-- A channel's migration to tile `t` becomes pending: the target is charged, and holds the set it needs; a target in a cluster that is OFF has
it woken first (R131). DEDUCED (log 14). -/
def migrateStart (c t : Nat) (s : Dev) : Dev :=
  match s.chan? c with
  | none => s
  | some k =>
    let s := if s.clState (t / 16) = 0 then wakeRequest (t / 16) s else s
    let s := loadDue t (needSet t (k.par 3 1) s)
    refreshLoads (t / 16) (s.setChan c { k with migrate := some t })

/-- A channel's home moves to tile `t`, and the old charge is released. -/
def moveHome (c t : Nat) (s : Dev) : Dev :=
  match s.chan? c with
  | none => s
  | some k =>
    let n := k.home / 16
    let m := t / 16
    let k := { k with home := t, migrate := none, stats := { k.stats with migrations := k.stats.migrations + 1 } }
    refreshLoads n (refreshLoads m ((s.setChan c k).bump Reg.gduMigrate))

/-- A channel can take a pair leg with a partner (R28, R125, R154), when both are in one cluster. -/
def pairRule (k q : Channel) : Bool :=
  let a := k.frame_
  let b := q.frame_
  k.template.transcode && q.template.transcode && a != 0 && b != 0 && (a % b == 0 || b % a == 0)

/-- The pairs of a cluster, one entry for each two channels that a pair leg joins or is to join (R221). -/
def pairsIn (s : Dev) (n : Nat) : Nat :=
  ((homedIn s n).filter (fun p =>
    (match p.2.legs.partner with | some q => q != noPartner | none => false) || (match p.2.pairNext with | some (some _) => true | _ => false))).length / 2

/-- The pair leg is joined: it appears at the first tick at which both channels spawn (R154). -/
def pairJoin (c p : Nat) (s : Dev) : Dev :=
  let run (k : Channel) : Channel := { k with st := if k.st = .opened then .running else k.st }
  let s := s.modChan c (fun k => run { k with pairNext := some (some p) })
  s.modChan p (fun k => run { k with pairNext := some (some c) })

/-- Channels still stand as a pair CONNECT needs them, and their cluster's pair table has room. -/
def pairStands (s : Dev) (c p : Nat) : Bool :=
  match s.chan? c, s.chan? p with
  | some k, some q =>
    (k.st == .opened || k.st == .running) && (q.st == .opened || q.st == .running) && k.home / 16 == q.home / 16 && pairRule k q &&
      k.legs.line.isNone && q.legs.line.isNone &&
      decide (pairsIn s (k.home / 16) < 1024)
  | _, _ => false

/-- The pair CONNECTs that wait for channel `p`'s migration end with it. A waiting command keeps its partner as `addr` = p + 1. -/
def pairWaiters (p : Nat) (ok : Bool) (s : Dev) : Dev :=
  (s.pci.cmds.filter (fun m => m.opcode == 3 && m.addr == p + 1 && m.done.isNone)).foldl (fun s m =>
    let c := m.field % 0x10000
    if ok ∧ pairStands s c p then
      let home := ((s.chan? c).map (·.home)).getD 0
      catalogueNow c (complete m.id .ok [BitVec.ofNat 8 home] (pairJoin c p s))
    else completeWith m.id .pairRule s) s

/-- A migration of channel `c` has ended well: the commands that wait for it complete, and a channel whose partner failed goes back. -/
def migrateOk (c : Nat) (s : Dev) : Dev :=
  match s.chan? c with
  | none => s
  | some k =>
    match k.migrate with
    | none => s
    | some t =>
      let s := moveHome c t s
      let s := (cmdsOn s 0x12 (globalId k.owner c)).foldl (fun s m => complete m.id .ok [BitVec.ofNat 8 t] s) s
      let s := pairWaiters c true s
      let s := match k.migrateBack with
        | none => s
        | some old =>
          match k.legs.partner.bind s.chan? with
          | none => s.modChan c (fun k => { k with migrateBack := none })
          | some q =>
            if q.migrate.isSome then s
            else if q.migrateBack.isSome then
              -- both have moved
              let s := s.modChan c (fun k => { k with migrateBack := none })
              (k.legs.partner.map (fun p => s.modChan p (fun q => { q with migrateBack := none }))).getD s
            else migrateStart c old (s.modChan c (fun k => { k with migrateBack := none }))
      refreshLoads (k.home / 16) (catalogueNow c s)

/-- A migration fails on parity: the channel stays, the target charge is released, source 0x089 and `GDU.MIGRATE_FAIL` (R127); a partner that
has moved goes back (R128). -/
def migrateFail (c spawn : Nat) (s : Dev) : Dev :=
  match s.chan? c with
  | none => s
  | some k =>
    let g := globalId k.owner c
    let s := (s.modChan c (fun k => { k with migrate := none, migrateBack := none })).bump Reg.gduMigrateFail
    let s := refreshLoads ((k.migrate.getD k.home) / 16) s
    let s := occur 0x089 { data := gduData spawn migrateNode, chan := some g } s
    let s := (cmdsOn s 0x12 g).foldl (fun s m => complete m.id .refused [] s) s
    let s := pairWaiters c false s
    match k.migrateBack, k.legs.partner with
    | some _, some p =>
      match s.chan? p with
      | none => s
      | some q =>
        match q.migrate, q.migrateBack with
        | none, some old => migrateStart p old (s.modChan p (fun q => { q with migrateBack := none }))
        | _, _ => s
    | _, _ => s

/-- A channel's migration becomes pending; on a channel that is OPEN, which spawns no instance to carry the node, firmware makes it at once, as R157
lets it serve STATS (DEDUCED, log entry 62). -/
def migrateNow (c t : Nat) (s : Dev) : Dev :=
  match s.chan? c with
  | none => s
  | some k => if k.home = t then s else if k.st = .opened then migrateOk c (migrateStart c t s) else migrateStart c t s

/-- The partner that a channel's pair leg joins it to. -/
def partnerOf (s : Dev) (k : Channel) : Option (Nat × Channel) := k.legs.partner.bind (fun p => (s.chan? p).map (fun q => (p, q)))

/-- A channel's migration to tile `t`, with its partner where it has one (R127, R128). The partner's tile in the target's cluster is the most loaded
one that can take it. -/
def migrateGo (c t : Nat) (s : Dev) : Option Dev :=
  match s.chan? c with
  | none => none
  | some k =>
      match partnerOf s k with
      | none => some (migrateNow c t s)
      | some (p, q) =>
        let s1 := migrateStart c t s
        match placeInCluster s1 (t / 16) q.charge q.params with
        | none => none
        | some u =>
          let s1 := s1.modChan c (fun k => { k with migrateBack := some k.home })
          some (migrateStart p u (s1.modChan p (fun q => { q with migrateBack := some q.home })))

/-- MIGRATE of a channel to tile `t`, where admission there takes it. -/
def migrateTo (c t : Nat) (s : Dev) : Option Dev :=
  match s.chan? c with
  | none => none
  | some k => if migrateAdmits s t k then migrateGo c t s else none

/-! ### Night consolidation (R129) -/

/-- Clusters that are not OFF and that admission may use. -/
def awakeClusters (s : Dev) : List Nat := (upTo 16).filter (fun n => decide (0 < s.clState n) && !(s.spare && n == 15))

/-- A share lies below `pct` percent of the admission limit. -/
def belowOfLimit (s : Dev) (x : Share) (pct : Nat) : Bool := decide (x.num * 10000 < pct * admLimit s * x.den)

/-- A share lies at or below `pct` percent of the admission limit. -/
def atMostOfLimit (s : Dev) (x : Share) (pct : Nat) : Bool := decide (x.num * 10000 ≤ pct * admLimit s * x.den)

/-- Every awake cluster's highest charge lies below CONSOL_LOW percent of the limit. -/
def consolLow (s : Dev) : Bool := (awakeClusters s).all (fun n => belowOfLimit s (clusterLoad s n) (profByte s 13))

/-- The clusters that consolidation may fill, most loaded first, with the tile for a channel in each. -/
def consolTarget (s : Dev) (from_ : Nat) (k : Channel) : Option Nat :=
  let ns := (awakeClusters s).filter (fun n => n != from_ && clusterOpen s n)
  let ok (n : Nat) : Option Nat :=
    match placeInCluster s n k.charge k.params with
    | none => none
    | some t =>
      let c := k.charge
      let pct := profByte s 16
      if atMostOfLimit s (tileLoad s t c) pct ∧ atMostOfLimit s (engineLoad s n c) pct ∧ atMostOfLimit s (clusterLoad s n) pct then some t else none
  let best := ns.foldl (fun (b : Option (Nat × Nat)) n =>
    match ok n with
    | none => b
    | some t => match b with
      | none => some (n, t)
      | some (m, _) => if (clusterLoad s m).lt (clusterLoad s n) then some (n, t) else b) none
  best.map (·.2)

/-- A run of consolidation ends: the fence is lifted, and a CONSOLIDATE that started it completes with the clusters emptied. -/
def consolEnd (s : Dev) : Dev :=
  match s.consol.cluster with
  | none => s
  | some n =>
    let s := s.setBit Reg.gduClFence n false
    let done := s.consol.emptied
    let s := { s with consol := { s.consol with cluster := none, lowSince := none } }
    (s.pci.cmds.filter (fun m => m.opcode == 0x13 && m.done.isNone)).foldl (fun s m => complete m.id .ok [BitVec.ofNat 8 (sat 8 done)] s) s

/-- One tick's work of consolidation: at most MIGR_RATE channels migrate out of the cluster, and the emptied cluster goes OFF. -/
def consolStep (s : Dev) : Dev :=
  match s.consol.cluster with
  | none => s
  | some n =>
    let ks := homedIn s n
    if ks.isEmpty then
      consolEnd (clusterOff n { s with consol := { s.consol with emptied := s.consol.emptied + 1 } })
    else
      let rate := profByte s 17
      let out := ks.foldl (fun (acc : Nat × Dev) p =>
        match acc.2.chan? p.1 with
          | none => acc
          | some k =>
            let two := 1 + (partnerOf acc.2 k).isSome.toNat
            if rate < acc.1 + two ∨ k.migrate.isSome ∨ (k.st ≠ .opened ∧ k.st ≠ .running) ∨ k.home / 16 ≠ n then acc
            else match consolTarget acc.2 n k with
              | none => acc
              | some t => match migrateTo p.1 t acc.2 with
                | none => acc
                | some s => (acc.1 + two, s)) (0, s)
      let s := out.2
      if out.1 = 0 ∧ (homedIn s n).all (fun p => p.2.migrate.isNone) then consolEnd s else s

/-- Consolidation starts: the least loaded cluster is fenced and emptied into others. With fewer than two awake clusters nothing starts. -/
def consolStart (s : Dev) : Dev :=
  let ns := (awakeClusters s).filter (clusterOpen s)
  match s.consol.cluster, ns with
  | none, n :: m :: r =>
    let b := (m :: r).foldl (fun b x => if (clusterLoad s x).lt (clusterLoad s b) then x else b) n
    consolStep ({ s with consol := { s.consol with cluster := some b, emptied := 0 } }.setBit Reg.gduClFence b true)
  | _, _ => s

/-- At a tick: the time since every charge has stayed low, and the tick's migrations. -/
def consolTick (s : Dev) : Dev :=
  let low := consolLow s
  let s := { s with consol := { s.consol with lowSince := if low then (match s.consol.lowSince with | some t => some t | none => some s.cycles) else none } }
  consolStep s

/-- CONSOLIDATION_START: the charges have stayed low for CONSOL_HOLD seconds. -/
def consolHeld (s : Dev) : Dev :=
  match s.consol.lowSince with
  | none => s
  | some t => if consolLow s then consolStart (s.elapseTo (t + usCycles (1000000 * profWord s 14))) else s

end Sys2Proof.Machine
end

