-- ==== Sys2Proof/Machine/Commands.lean ====
section
/-! DEFINITION. The channel commands of the rings: OPEN, MODIFY, CONNECT, DISCONNECT, CLOSE, QUERY, STATS, TONE_PLAY, TONE_STOP,
RECORD_START, RECORD_STOP, MIGRATE, CONSOLIDATE, LEDGER_READ, NOP and EVENT_TEST (R148 to R157, R316, R342, R346). -/

namespace Sys2Proof.Machine

/-- A channel command meets its channel (R156): the status where it may not run, by the channel's state; `served` are the commands that a
pending migration does not stop. -/
def chanState (d : Desc) (served : Bool) (s : Dev) : Option Status :=
  match s.chan? (fld d.channel 0 16) with
  | none => some .noChannel
  | some k =>
    if k.owner ≠ descHid d then some .noChannel
    else match k.st with
      | .closing => some .busy
      | _ => if k.migrate.isSome ∧ ¬ served then some .busy else none

/-- A channel command runs on its channel: first the channel's state, then the descriptor's fields, then `act`. -/
def onChannel (d : Desc) (id : Nat) (served ok : Bool) (act : Nat → Channel → Dev → Dev) (s : Dev) : Dev :=
  match chanState d served s with
  | some st => completeWith id st s
  | none =>
    let c := fld d.channel 0 16
    match s.chan? c with
    | none => s
    | some k => if descClean d ∧ ok then act c k s else completeWith id .badParam s

/-! ### OPEN and MODIFY -/

/-- The lowest FREE local ID. -/
def lowestFree (s : Dev) : Option Nat :=
  let n := s.chans.length
  (upTo (min 65536 (n + 1))).find? (fun c => (s.chan? c).isNone)

/-- A channel that OPEN makes on tile `t`. -/
def newChannel (s : Dev) (owner : Nat) (params : Octets) (t : Template) (home : Nat) : Channel :=
  let ch := chargeOf s.epochs.cur.cost t params
  { st := if s.clState (home / 16) = 0 then .opening else .opened, owner := owner, params := params, template := t, phase := choosePhase s home (frameTicks (oct params 1 % 8)) t.transcode ch,
    home := home, charge := ch,
    stats := { openTick := s.time.lastTick.getD 0 }, shown := { openTick := s.time.lastTick.getD 0, snapTick := s.time.lastTick.getD 0 }, live := params }

/-- OPEN (R151): template, fields, admission, placement and phase. -/
def openChannel (c owner : Nat) (params : Octets) (s : Dev) : Status × Dev :=
  if 63 < oct params 0 then (.badParam, s)
  else match templateFor s params with
    | none => (.noTemplate, s)
    | some t =>
      if ¬ paramsOk s t params then (.badParam, s)
      else match (if (firstSet s (oct params 3)).isSome then place s (chargeOf s.epochs.cur.cost t params) params else none) with
        | none => (.admission, admissionRefused (globalId owner c) s)
        | some (home, wake) =>
          let (w, s) := s.drawWord
          let s := needSet home (oct params 3) s
          let s := s.setChan c { newChannel s owner params t home with tsOffset := w.toNat }
          let s := refreshLoads (home / 16) s
          (.ok, finishOpen c (if wake then wakeRequest (home / 16) s else s))

/-- OPEN on a ring. -/
def openCmd (d : Desc) (id : Nat) (s : Dev) : Dev :=
  let any := bit d.channel 31
  let c? := if any then lowestFree s else some (fld d.channel 0 16)
  match c? with
  | none => completeWith id .noId s
  | some c =>
    if (s.chan? c).isSome then completeWith id .inUse s
    else if ¬ descClean d ∨ d.aux ≠ 0 then
      -- the template stage comes before the fields
      completeWith id (if oct d.params 0 ≤ 63 ∧ (templateFor s d.params).isNone then .noTemplate else .badParam) s
    else
      let g := globalId (descHid d) c
      let s := modCmd id (fun m => { m with chan := some g, field := g }) s
      let (st, s) := openChannel c (descHid d) d.params s
      if st = .ok then s else completeWith id st s

/-- A channel's charge with another block fits where it is homed (R123, R152). -/
def modifyAdmits (s : Dev) (c : Nat) (k : Channel) (params : Octets) : Bool :=
  let s' := s.setChan c { k with params := params, charge := chargeOf s.epochs.cur.cost k.template params }
  (tileLoad s' k.home {}).within (admLimit s) && (engineLoad s' (k.home / 16) {}).within (admLimit s) && dossierFits s' k.home params true

/-- MODIFY (R152). -/
def modifyCmd (d : Desc) (id : Nat) (s : Dev) : Dev :=
  onChannel d id false true (fun c k s =>
    let m := d.aux.toNat
    let p := mergeParams m k.params d.params
    let spare := allZero (octs d.params 30 2) && allZero (octs d.params 36 12)
    if ¬ maskOk m ∨ ¬ spare ∨ ¬ paramsOk s k.template p then completeWith id .badParam s
    else if ¬ modifyAdmits s c k p then completeWith id .admission (admissionRefused (globalId k.owner c) s)
    else
      let s := s.setChan c { k with params := p, charge := chargeOf s.epochs.cur.cost k.template p }
      catalogueNow c (completeWith id .ok (refreshRec (refreshLoads (k.home / 16) s)))) s

/-! ### Legs -/

/-- The slots of a highway at its RATE (R325). -/
def highwaySlots (s : Dev) (h : Nat) : Nat := 32 * 2 ^ min 5 (s.rfld (Reg.tdmCfg h) 0 3)

/-- Slots of a group by FORMAT (R153). -/
def groupSlots (fmt : Nat) : Nat := [1, 1, 2, 4].getD fmt 4

/-- The fields of a line descriptor (R153). -/
def lineHighway (l : Nat) : Nat := l % 8
/-- FIRST_SLOT. -/
def lineFirst (l : Nat) : Nat := nfld l 4 10
/-- FORMAT. -/
def lineFormat (l : Nat) : Nat := nfld l 16 2

/-- A line descriptor that a CONNECT may name: reserved bits zero, FIRST_SLOT aligned, the highway enabled and the group inside its slots
(R153, R334). -/
def lineOk (s : Dev) (l : Nat) : Bool :=
  let h := lineHighway l
  let n := groupSlots (lineFormat l)
  nfld l 3 1 == 0 && nfld l 14 2 == 0 && decide (l < 2 ^ 18) && lineFirst l % n == 0 && s.domainOn 27 && s.rbit (Reg.tdmCfg h) 31 &&
    decide (lineFirst l + n ≤ highwaySlots s h)

/-- Two line descriptors share a slot. -/
def linesOverlap (a b : Nat) : Bool :=
  lineHighway a == lineHighway b && decide (lineFirst a < lineFirst b + groupSlots (lineFormat b)) &&
    decide (lineFirst b < lineFirst a + groupSlots (lineFormat a))

/-- A pair leg stands on a channel, or is to appear on it (R135, R154); that of a partner that has closed is no obstacle to another (R121). -/
def hasPair (k : Channel) : Bool :=
  (match k.pairNext with | some (some _) => true | _ => false) || (match k.legs.partner with | some p => p != noPartner | none => false)

/-- The first leg makes a channel RUNNING (R134). -/
def nowRunning (k : Channel) : Channel := { k with st := if k.st = .opened then .running else k.st }

/-- A line leg is connected (R153, R334): the status, and the device. -/
def connectLine (c l : Nat) (s : Dev) : Status × Dev :=
  match s.chan? c with
  | none => (.noChannel, s)
  | some k =>
    if ¬ lineOk s l then (.badParam, s)
    else if k.legs.line.isSome ∨ hasPair k ∨ k.legs.partner.isSome ∨ s.chans.any (fun p => match p.2.legs.line with | some m => linesOverlap l m | none => false) then
      (.legConflict, s)
    else
      (.ok, s.setChan c { nowRunning k with legs := { k.legs with line := some l }, supplied := false,
                                            rfeIn := { k.rfeIn with fresh := true }, rfeOut := { k.rfeOut with fresh := true } })

/-- Sessions that the table holds (R161). -/
def sessionCount : Nat := 491520

/-- The session may be joined by channel `g`: VALID, and its CHANNEL names it (R182). -/
def sessionNames (s : Dev) (i g : Nat) : Bool := match kvGet s.mpe.sessions i with | some x => x.chan == g | none => false

/-- A packet leg is connected (R182). On a worker the active manager, which holds the session table, has made R182's test. -/
def connectPacket (c i : Nat) (s : Dev) : Status × Dev :=
  match s.chan? c with
  | none => (.noChannel, s)
  | some k =>
    if sessionCount ≤ i then (.badParam, s)
    else if k.legs.session.isSome ∨ (s.leads ∧ ¬ sessionNames s i (globalId k.owner c)) then (.legConflict, s)
    else (.ok, s.setChan c { nowRunning k with legs := { k.legs with session := some i } })

/-- The result of a CONNECT: the home tile. -/
def homeResult (s : Dev) (c : Nat) : Octets := [BitVec.ofNat 8 (((s.chan? c).map (·.home)).getD 0)]

/-- A leg command ends. -/
def legEnd (id c : Nat) (r : Status × Dev) : Dev :=
  if r.1 = .ok then catalogueNow c (complete id .ok (homeResult r.2 c) r.2) else completeWith id r.1 r.2

/-- CONNECT with LEG 0. -/
def connectLineCmd (d : Desc) (id : Nat) (s : Dev) : Dev :=
  onChannel d id false (d.aux == 0 && d.arg 0 4 == 0 && d.zeroFrom 8 47) (fun c _ s => legEnd id c (connectLine c (d.arg 4 4) s)) s

/-- CONNECT with LEG 1. -/
def connectPacketCmd (d : Desc) (id : Nat) (s : Dev) : Dev :=
  onChannel d id false (d.aux == 0 && d.arg 0 4 == 1 && d.zeroFrom 8 47) (fun c _ s => legEnd id c (connectPacket c (d.arg 4 4) s)) s

/-- What the active manager tests before it forwards a CONNECT with LEG 1 (R182). -/
def connectPacketPre (d : Desc) (s : Dev) : Option (Status × Octets) :=
  if d.arg 4 4 < sessionCount ∧ ¬ sessionNames s (d.arg 4 4) (descGid d) then some (.legConflict, []) else none

/-- CONNECT with LEG 2 (R154). -/
def connectPairCmd (d : Desc) (id : Nat) (s : Dev) : Dev :=
  onChannel d id false (d.aux == 0 && d.arg 0 4 == 2 && decide (d.arg 4 4 < 2 ^ 20) && decide (oct d.params 8 ≤ 1) && d.zeroFrom 9 47) (fun c k s =>
    let g := d.arg 4 4
    let p := g % 0x10000
    match s.chan? p with
    | none => completeWith id .pairRule s
    | some q =>
      if g / 0x10000 ≠ q.owner ∨ p = c then completeWith id .pairRule s
      else if q.st = .closing ∨ q.migrate.isSome then completeWith id .busy s
      else if q.st = .opening ∨ k.st = .opening then completeWith id .pairRule s
      else if k.legs.line.isSome ∨ q.legs.line.isSome ∨ hasPair k ∨ hasPair q then completeWith id .legConflict s
      else if ¬ pairRule k q then completeWith id .pairRule s
      else if k.home / 16 = q.home / 16 then
        if pairStands s c p then legEnd id c (.ok, catalogueNow p (pairJoin c p s)) else completeWith id .pairRule s
      else if oct d.params 8 = 0 then completeWith id .pairRule s
      else match (if clusterOpen s (k.home / 16) then placeInCluster s (k.home / 16) q.charge q.params else none) with
        | none => completeWith id .admission (admissionRefused (globalId q.owner p) s)
        | some t => migrateNow p t (modCmd id (fun m => { m with addr := p + 1 }) s)) s

/-- DISCONNECT with LEG 0 or 1 (R153): the leg goes at the next spawn. -/
def disconnectCmd (leg : Nat) (d : Desc) (id : Nat) (s : Dev) : Dev :=
  onChannel d id false (d.aux == 0 && oct d.params 0 == leg && d.zeroFrom 1 47) (fun c k s =>
    let has := if leg = 0 then k.legs.line.isSome else k.legs.session.isSome
    if ¬ has then completeWith id .badParam s
    else
      let l := if leg = 0 then { k.legs with line := none } else { k.legs with session := none }
      catalogueNow c (completeWith id .ok (s.setChan c { k with legs := l }))) s

/-- DISCONNECT with LEG 2 (R154). -/
def disconnectPairCmd (d : Desc) (id : Nat) (s : Dev) : Dev :=
  onChannel d id false (d.aux == 0 && oct d.params 0 == 2 && d.zeroFrom 1 47) (fun c k s =>
    let other := match k.pairNext with | some (some p) => some p | _ => k.legs.partner
    match other, k.pairNext with
    | none, _ => completeWith id .badParam s
    | some _, some none => completeWith id .badParam s
    | some p, _ =>
      let s := s.modChan c (fun k => { k with pairNext := some none })
      let s := if p = noPartner then s else s.modChan p (fun q => { q with pairNext := some none })
      catalogueNow c (completeWith id .ok s)) s

/-! ### CLOSE, QUERY and STATS -/

/-- CLOSE (R120, R156). -/
def closeCmd (d : Desc) (dmaOk : Bool) (id : Nat) (s : Dev) : Dev :=
  let c := fld d.channel 0 16
  match s.chan? c with
  | none => completeWith id .noChannel s
  | some k =>
    if k.owner ≠ descHid d then completeWith id .noChannel s
    else if k.st = .closing then completeWith id .busy s
    else if ¬ descClean d ∨ d.aux ≠ 0 ∨ ¬ d.zeroFrom 8 47 then completeWith id .badParam s
    else if k.st = .opening then
      let s := (cmdsOn s 1 (globalId k.owner c)).foldl (fun s m => completeWith m.id .cancelled s) s
      let s := refreshLoads (k.home / 16) { s with chans := kvDel s.chans c }
      complete id .ok (zeros 16) s
    else
      closeBegin c (modCmd id (fun m => { m with addr := d.arg 0 8, dmaOk := dmaOk }) s)

/-- The partner that QUERY shows (R149, R154). -/
def shownPartner (k : Channel) : Option Nat :=
  match k.pairNext with
  | some x => x
  | none => k.legs.partner.bind (fun p => if p = noPartner then none else some p)

/-- The result of a QUERY (R148). -/
def queryResult (k : Channel) : Octets :=
  let opt (o : Option Nat) : Nat := o.getD 0xFFFFFFFF
  let partner := match shownPartner k with | some p => 2 ^ 31 + globalId k.owner p | none => 0
  [BitVec.ofNat 8 k.st.num, BitVec.ofNat 8 k.home, BitVec.ofNat 8 (k.par 1 1), BitVec.ofNat 8 k.phase] ++ toLe 4 (opt k.legs.line) ++
    toLe 4 (opt k.legs.session) ++ toLe 4 partner

/-- An ALIGNED channel with no sender report yet (R204). -/
def alignPending (k : Channel) : Bool := k.now 12 1 == 2 && k.jb.srAt.isNone

/-- The query block of R149. -/
def queryBlock (k : Channel) : Octets :=
  padTo 48 k.params ++ [BitVec.ofNat 8 ((alignPending k).toNat + 2 * k.vbd.toNat + 4 * k.migrate.isSome.toNat), BitVec.ofNat 8 k.lastEpoch] ++ zeros 14

/-- QUERY (R149). -/
def queryCmd (d : Desc) (dmaOk : Bool) (id : Nat) (s : Dev) : Dev :=
  let c := fld d.channel 0 16
  match s.chan? c with
  | none => completeWith id .noChannel s
  | some k =>
    if k.owner ≠ descHid d then completeWith id .noChannel s
    else if k.st = .closing then completeWith id .busy s
    else if ¬ descClean d ∨ d.aux ≠ 0 ∨ ¬ d.zeroFrom 8 47 then completeWith id .badParam s
    else if d.arg 0 8 = 0 then complete id .ok (queryResult k) s
    else
      let s := s.emit (.dma 9 (d.arg 0 8) (queryBlock k))
      if dmaOk then complete id .ok (queryResult k) s else completeWith id .dmaError s

/-- A STATS command is served (R157): the block is written, the counters zeroed when CLEAR asked, and the command completes. -/
def statsServe (c snap : Nat) (m : PendingCmd) (dmaOk : Bool) (s : Dev) : Dev :=
  match s.chan? c with
  | none => s
  | some k =>
    let k := { k with shown := { k.shown with snapTick := snap } }
    let s := s.emit (.dma 9 m.addr (statsBlock s c k))
    let s := s.setChan c (if m.aux = 1 then clearStats k else k)
    if dmaOk then complete m.id .ok (toLe 8 snap) s else completeWith m.id .dmaError s

/-- STATS: at once on a channel in OPEN, and in OPENING, which spawns no instance either; else the channel's next statistics node serves it. -/
def statsCmd (d : Desc) (dmaOk : Bool) (id : Nat) (s : Dev) : Dev :=
  onChannel d id true (d.aux == 0 && decide (oct d.params 8 ≤ 1) && d.zeroFrom 9 47) (fun c k s =>
    let s := modCmd id (fun m => { m with addr := d.arg 0 8, aux := oct d.params 8, dmaOk := dmaOk }) s
    if k.st = .opened ∨ k.st = .opening then
      match findCmd s id with
      | none => s
      | some m => statsServe c (s.time.lastTick.getD 0) m dmaOk s
    else s) s

/-! ### Tones and recording -/

/-- The level that a TONE_PLAY gives F1 (R316): the definition's levels at 0x8000, else the stronger component at the level given. -/
def playLevel (r : Octets) (v : Nat) : Int :=
  let l1 := signed 16 (le r 6 2)
  let l2 := signed 16 (le r 8 2)
  if v = 0x8000 then l1
  else if oct r 0 = 2 ∨ le r 4 2 = 0 ∧ oct r 0 = 1 then signed 16 v
  else if l2 ≤ l1 then signed 16 v else signed 16 v - (l2 - l1)

/-- TONE_PLAY (R316). -/
def tonePlayCmd (d : Desc) (id : Nat) (s : Dev) : Dev :=
  onChannel d id false (d.aux == 0 && decide (oct d.params 0 < 3) && d.zeroFrom 6 47) (fun c k s =>
    let dir := oct d.params 0
    let i := oct d.params 1
    match toneDef (toneSection s) i with
    | none => completeWith id .badParam s
    | some r =>
      let lv := d.arg 4 2
      if ¬ (lv = 0x8000 ∨ toneLevel lv) ∨ (defFreqs r).any (fun f => decide (5 * rateHz (k.par 2 1) ≤ f)) then completeWith id .badParam s
      else
        let g : ToneGen := { def_ := i, level := (playLevel r lv % 65536).toNat, count := d.arg 2 2, played := 0, started := false }
        let k := if dir = 1 then k else { k with lineNext := .play g }
        let k := if dir = 0 then k else { k with netNext := .play g }
        completeWith id .ok (s.setChan c k)) s

/-- TONE_STOP (R316). -/
def toneStopCmd (d : Desc) (id : Nat) (s : Dev) : Dev :=
  onChannel d id false (d.aux == 0 && decide (oct d.params 0 < 3) && d.zeroFrom 1 47) (fun c k s =>
    let dir := oct d.params 0
    let k := if dir = 1 then k else { k with lineNext := .stop }
    let k := if dir = 0 then k else { k with netNext := .stop }
    completeWith id .ok (s.setChan c k)) s

/-- What the active manager tests before it forwards a RECORD_START (R345): its own recording sink. -/
def recordStartPre (s : Dev) : Option (Status × Octets) :=
  if s.domainOn 28 ∧ s.rbit (Reg.arcSinkCtrl 0) 0 then none else some (.refused, [2])

/-- RECORD_START (R342). -/
def recordStartCmd (d : Desc) (id : Nat) (s : Dev) : Dev :=
  let dirs := oct d.params 0
  let order := oct d.params 4
  onChannel d id false (d.aux == 0 && dirs != 0 && decide (dirs < 4) && (decide (order ≤ 2) || order == 0xFF) && oct d.params 1 == 0 && d.zeroFrom 5 47)
    (fun c k s =>
    if ¬ k.recs.isEmpty then completeWith id .legConflict s
    else
      let refuse (code : Nat) : Dev := complete id .refused [BitVec.ofNat 8 code] s
      let rate := k.par 2 1
      let n := (dirs.testBit 0).toNat + (dirs.testBit 1).toNat
      let mbit (b : Nat) : Nat := (b + 999999) / 1000000
      if ¬ k.template.holds 0x11 then refuse 1
      else if s.leads ∧ (recordStartPre s).isSome then refuse 2
      else if min 8000 (s.rfld Reg.arcRecLimit 0 16) < mbit (recBits s + n * 16 * rateHz rate) then refuse 3
      else if s.rfld Reg.arcRecPoolFree 0 21 < n * recCells s rate then complete id .refused [4] (s.bump Reg.arcPoolRefuse)
      else
        let one (content : Nat) : RecStream := { content := content, sid := d.arg 2 2, order := order }
        let rs := (if dirs.testBit 0 then [one 1] else []) ++ (if dirs.testBit 1 then [one 2] else [])
        catalogueNow c (completeWith id .ok (refreshRec (s.setChan c { k with recs := rs })))) s

/-- RECORD_STOP (R346): every open block is closed as an END block; the command completes when the last has left or been discarded. -/
def recordStopCmd (d : Desc) (id : Nat) (s : Dev) : Dev :=
  onChannel d id false (d.aux == 0 && d.zeroFrom 0 47) (fun c k s =>
    if k.recs.isEmpty then complete id .ok (toLe 4 0) s else recFinish c (recCloseAll c s)) s

/-! ### MIGRATE and CONSOLIDATE -/

/-- MIGRATE (R127). -/
def migrateCmd (d : Desc) (id : Nat) (s : Dev) : Dev :=
  onChannel d id false (d.aux == 0 && d.zeroFrom 1 47) (fun c k s =>
    let t := oct d.params 0
    if t = k.home then complete id .ok [BitVec.ofNat 8 t] s
    else match migrateTo c t s with
      | none => completeWith id .admission (admissionRefused (globalId k.owner c) s)
      | some s => s) s

/-- CONSOLIDATE with NOW (R129, R148). -/
def consolidateNowCmd (d : Desc) (id : Nat) (s : Dev) : Dev :=
  if ¬ descClean d ∨ d.aux ≠ 0 ∨ oct d.params 0 ≠ 1 ∨ ¬ d.zeroFrom 1 47 then completeWith id .badParam s
  else
    let s := consolStart s
    if s.consol.cluster.isSome then s
    else match findCmd s id with
      | none => s
      | some m => if m.done.isSome then s else complete id .ok [BitVec.ofNat 8 (sat 8 s.consol.emptied)] s

/-- CONSOLIDATE with STOP. -/
def consolidateStopCmd (d : Desc) (id : Nat) (s : Dev) : Dev :=
  if ¬ descClean d ∨ d.aux ≠ 0 ∨ oct d.params 0 ≠ 2 ∨ ¬ d.zeroFrom 1 47 then completeWith id .badParam s
  else
    let n := s.consol.emptied
    let s := consolEnd s
    match findCmd s id with
    | none => s
    | some m => if m.done.isSome then s else complete id .ok [BitVec.ofNat 8 (sat 8 n)] s

/-! ### LEDGER_READ, NOP and EVENT_TEST -/

/-- Entries that the Ledger still holds, in order from entry `i`: at most `n`, and only while they are valid (R94). -/
def ledgerRange (s : Dev) (i n : Nat) : List Octets :=
  let w := (s.reg Reg.ldgWrCount).toNat
  let have_ := (w + 2 ^ 32 - i) % 2 ^ 32
  if have_ = 0 ∨ 65536 < have_ then []
  else (upTo (min n have_)).map (fun j => (kvGet s.ledger.entries ((i + j) % 65536)).getD (zeros 32))

/-- LEDGER_READ (R148). An entry that fails parity reads as 0xFF octets and records source 0x0B2 (R92). -/
def ledgerReadCmd (d : Desc) (dmaOk : Bool) (bad : List Nat) (id : Nat) (s : Dev) : Dev :=
  let n := d.arg 12 4
  if ¬ descClean d ∨ d.aux ≠ 0 ∨ n = 0 ∨ 65536 < n ∨ ¬ d.zeroFrom 16 47 then completeWith id .badParam s
  else
    let i := d.arg 8 4
    let es := (ledgerRange s i n).zipIdx.map (fun p => if bad.contains ((i + p.2) % 2 ^ 32) then List.replicate 32 0xFF else p.1)
    let s := if (upTo es.length).any (fun j => bad.contains ((i + j) % 2 ^ 32)) then occur 0x0B2 {} s else s
    let s := if es.isEmpty then s else s.emit (.dma 9 (d.arg 0 8) es.flatten)
    if dmaOk ∨ es.isEmpty then complete id .ok (toLe 4 es.length ++ toLe 4 (s.reg Reg.ldgWrCount).toNat) s else completeWith id .dmaError s

/-- NOP. -/
def nopCmd (d : Desc) (id : Nat) (s : Dev) : Dev :=
  completeWith id (if descClean d ∧ d.aux = 0 ∧ d.zeroFrom 0 47 then .ok else .badParam) s

/-- EVENT_TEST (R148): after the completion, one event of source 0x0C6 with the data given, on the ring named by EVR. -/
def eventTestCmd (d : Desc) (id : Nat) (s : Dev) : Dev :=
  if ¬ descClean d ∨ d.aux ≠ 0 ∨ ¬ d.zeroFrom 12 47 then completeWith id .badParam s
  else
    let s := completeWith id .ok s
    let data := octs d.params 0 12
    let s := postEvent (d.evr.toNat % 4) (eventOf s 0x0C6 1 none data) s
    occur 0x0C6 { data := data.take 8 } s

end Sys2Proof.Machine
end

