-- ==== Sys2Proof/Machine/Jitter.lean ====
section
/-! DEFINITION. The jitter buffer: how a packet is classed and stored, how the pull node chooses its frames, and the playout clocks (R191 to
R213). -/

namespace Sys2Proof.Machine

/-! ### The playout record (R199) -/

/-- The octets of the network and PTP settings. -/
def netSection (s : Dev) : Octets := sectionOf s 8

/-- A field of the playout record: its default where it is zero or out of range. -/
def playField (s : Dev) (off n lo hi dflt : Nat) : Nat :=
  let v := le (netSection s) off n
  if lo ≤ v ∧ v ≤ hi then v else dflt

/-- PCTL in 0.1 %. -/
def playPctl (s : Dev) : Nat := playField s 0 2 900 999 995
/-- MARGIN in ns. -/
def playMargin (s : Dev) : Nat := 100000 * playField s 2 2 1 500 20
/-- WINDOW in seconds. -/
def playWindow (s : Dev) : Nat := playField s 4 1 2 60 10
/-- SHRINK_HOLD in cycles. -/
def playShrink (s : Dev) : Nat := usCycles (100000 * playField s 5 1 1 100 20)
/-- TALK_MAX in cycles. -/
def playTalk (s : Dev) : Nat := usCycles (1000000 * playField s 6 1 1 60 10)
/-- DRIFT_WIN in seconds. -/
def playDriftWin (s : Dev) : Nat := playField s 7 1 4 60 16
/-- DRIFT_DEAD in 10⁻⁹. -/
def playDead (s : Dev) : Nat := 10 * playField s 8 2 1 1000 100
/-- ALIGN_STEP in ns. -/
def playStep (s : Dev) : Nat := 1000 * playField s 10 2 1 10000 125
/-- VBD_DEPTH in ns. -/
def playVbd (s : Dev) : Nat := 1000000 * playField s 12 2 20 400 40

/-! ### Clocks and due instants (R192, R193, R202) -/

/-- A channel's RTP clock rate now: G.711's during passthrough (R214, R225). -/
def clockOf (k : Channel) : Nat := if k.vbd then 8000 else rtpClock (k.now 3 1) (k.now 2 1)

/-- ts_ns of R192 for a difference of timestamps, rounded down. -/
def tsNs (c : Nat) (drift : Int) (n : Int) : Int := n * 1000000000 * 1000000000 / (c * (1000000000 + drift))

/-- A packet's relative transit r. -/
def transitOf (k : Channel) (ts stamp : Nat) : Int :=
  (stamp : Int) - tsNs (clockOf k) k.jb.drift ((ts : Int) - (k.jb.t0.getD ts : Nat))

/-- The capture instant of a timestamp under a mapping. -/
def captureNs (m : AlignMap) (ts : Nat) : Int :=
  (m.ntp : Int) + ((ts : Int) - signedNear ts m.ts) * m.ns / m.units
where
  /-- The mapping's timestamp extended to lie nearest to `ts`. -/
  signedNear (ts base : Nat) : Int := (ts : Int) - signed 32 (ts % 2 ^ 32 + 2 ^ 32 - base % 2 ^ 32)

/-- Frame ns of a channel. -/
def frameNs (k : Channel) : Nat := k.frame_ * tickNs

/-- SLACK in ns. -/
def slackNs (s : Dev) : Nat := 1000 * min 2500 (s.rfld Reg.gduSlack 0 12)

/-- The rate of the output grid in Hz (R202). -/
def outGrid (k : Channel) : Nat := if k.legs.line.isSome then lineHz k.legs else rateHz (k.now 2 1)

/-- The output instant of a timestamp in ALIGNED mode: the nearest instant of the output grid to capture plus JB_TARGET, less what a small move of the
mapping still holds back (R204). -/
def alignedOut (k : Channel) (m : AlignMap) (ts : Nat) : Int :=
  let f := outGrid k
  let t := captureNs m ts + (1000000 * k.now 18 2 : Nat)
  let n := (2 * t * f + 1000000000) / 2000000000 + k.jb.slew
  n * 1000000000 / f

/-- The due instant of a timestamp: that of R193, or, in ALIGNED mode with a mapping, the instant by which its output span is pulled. -/
def dueOf (s : Dev) (k : Channel) (ts : Nat) : Int :=
  let plain := k.jb.bs + tsNs (clockOf k) k.jb.drift ((ts : Int) - (k.jb.t0.getD ts : Nat)) + k.jb.d
  match k.jb.mapping with
  | some m => if k.now 12 1 = 2 ∧ ¬ k.vbd then alignedOut k m ts - (2 * frameNs k + slackNs s : Nat) else plain
  | none => plain

/-- A timestamp of 32 bits extended next to the last one of the stream. -/
def extendTs (last : Option Nat) (ts : Nat) : Nat :=
  match last with
  | none => 2 ^ 40 + ts % 2 ^ 32
  | some l => ((l : Int) + signed 32 (ts % 2 ^ 32 + 2 ^ 32 - l % 2 ^ 32)).toNat

/-! ### The events of the pull node (R213) -/

/-- An event of a playout, under the home tile's source. -/
def tileEvent (c code : Nat) (data : Octets) (s : Dev) : Dev :=
  match s.chan? c with
  | none => s
  | some k => note (0x100 + k.home) code (some (globalId k.owner c)) (toLe 4 c ++ data) s

/-- A channel's jitter buffer changed. -/
def modJb (c : Nat) (f : Jb → Jb) (s : Dev) : Dev := s.modChan c (fun k => { k with jb := f k.jb })

/-- A channel's statistics changed. -/
def modStats (c : Nat) (f : Stats → Stats) (s : Dev) : Dev := s.modChan c (fun k => { k with stats := f k.stats })

/-! ### Arrival (R206, R207) -/

/-- What the algorithm of RFC 3550 appendix A.1 says of a packet: taken, rejected, or taken with the sequence restarted. -/
inductive SeqEnd where
  | ok | reject | restart
deriving DecidableEq, Repr

/-- A sequence that starts at `q`. -/
def seqInit (q : Nat) : SeqState := { started := true, maxSeq := q, baseSeq := q, badSeq := 0x10001, probation := 0, uniq := 0 }

/-- One packet through the algorithm. A packet under probation is taken: the channel's first packet starts its stream (R197; DEDUCED, log entry 65). -/
def seqUpdate (x : SeqState) (q : Nat) : SeqEnd × SeqState :=
  let x := if x.started then x else { seqInit q with maxSeq := (q + 65535) % 65536, probation := 2 }
  let delta := (q + 65536 - x.maxSeq) % 65536
  if 0 < x.probation then
    if delta = 1 then
      if x.probation = 1 then (.ok, seqInit q)
      else (.ok, { x with probation := x.probation - 1, maxSeq := q })
    else (.ok, { x with probation := 1, maxSeq := q })
  else if delta < 3000 then (.ok, { x with cycles := if q < x.maxSeq then x.cycles + 65536 else x.cycles, maxSeq := q })
  else if delta ≤ 65536 - 100 then
    if q = x.badSeq then (.restart, seqInit q) else (.reject, { x with badSeq := (q + 1) % 65536 })
  else (.ok, x)

/-- The extended number of `q` beside the state after it. -/
def seqExtend (x : SeqState) (q : Nat) : Nat := if x.maxSeq < q then (if x.cycles = 0 then q else x.cycles + q - 65536) else x.cycles + q

/-- The stream resynchronises (R211): the stored packets go uncounted, and the next packet is the first of R197, with D kept. -/
def resync (c cause old new : Nat) (s : Dev) : Dev :=
  let s := modJb c (fun j => { j with pkts := [], t0 := none, secmin := [], hist := [], measured := 0, fresh := [], played := [], ahead := 0,
                                      pulledTo := none, lastTs := none, transit := none, run := 0, slew := 0, voiceTs := none,
                                      mapping := if cause = 2 then none else j.mapping, mappingNext := if cause = 2 then none else j.mappingNext,
                                      srs := if cause = 2 then [] else j.srs, srAt := if cause = 2 then none else j.srAt }) s
  tileEvent c 0x0200 (toLe 4 old ++ toLe 4 (new % 2 ^ 30 + cause * 2 ^ 30)) (refreshPs (s.modChan c (fun k => { k with rxLast := none })))

/-- A stored packet's cells: a 16-octet descriptor and the payload. -/
def cellsFor (n : Nat) : Nat := (16 + n + 63) / 64

/-- The initial depth of a stream in ns (R197, R204). -/
def firstDepth (k : Channel) : Nat :=
  let ms := if k.now 12 1 = 0 then max (k.now 14 2) (min 40 (jbMaxMs k.live)) else k.now 18 2
  1000000 * ms

/-- The stream of a channel has a new SSRC (R168, R211): it resynchronises, and its sequence starts afresh. -/
def newStream (c seq : Nat) (s : Dev) : Dev :=
  match s.chan? c with
  | none => s
  | some k => resync c 2 (k.jb.seq.cycles + k.jb.seq.maxSeq) seq (modJb c (fun j => { j with seq := {} }) s)

/-- The packets lost by a sequence state (R207): the extended span received less the unique packets, at least zero. -/
def lostBy (q : SeqState) : Nat := q.cycles + q.maxSeq + 1 - q.baseSeq - q.uniq

/-- The class of an arriving packet (R206). -/
inductive Arrival where
  | duplicate | late | ahead | kept (reordered : Bool)
deriving DecidableEq, Repr

/-- The row of R206 that a packet with extended number `ext` and timestamp `xts` falls in. -/
def arrivalOf (s : Dev) (k : Channel) (cls ext xts : Nat) : Arrival :=
  let j := k.jb
  let due := dueOf s k xts
  let top : Int := ((s.time.lastTick.getD 0) * tickNs : Nat)
  let old : Bool := match j.played with | [] => false | p :: r => decide (ext + 64 < r.foldl max p)
  let passed : Bool := match j.pulledTo with | some t => decide (due < t) | none => false
  if j.pkts.any (fun p => p.seq == ext || (p.ts == xts && p.cls == cls)) || j.played.contains ext then .duplicate
  else if passed ∨ old ∨ due + 1000000000 < top then .late
  else if top + (1000000 * jbMaxMs k.live + 1000000000 : Nat) < due then .ahead
  else .kept (decide (ext < j.seq.cycles + j.seq.maxSeq))

/-- A packet that the algorithm of RFC 3550 accepts: the first of a stream starts it (R197), and the interarrival jitter follows (R207). -/
def streamTake (s : Dev) (k : Channel) (ts stamp : Nat) : Channel × Nat :=
  let j := k.jb
  let xts := extendTs j.lastTs ts
  let j := if j.t0.isNone then { j with t0 := some xts, bs := stamp, d := if j.d = 0 then firstDepth k else j.d, spurtAt := s.cycles } else j
  let tr := transitOf { k with jb := j } xts stamp
  let jit := match j.transit with
    | none => j.jitter
    | some t => ((j.jitter : Int) + ((((tr - t).natAbs : Int) - j.jitter) / 16)).toNat
  ({ k with jb := { j with lastTs := some xts, jitter := jit, transit := some tr } }, xts)

/-- An accepted packet reaches the channel's jitter buffer: under the quota and the free cells of R170 it is counted, classed by R206, and stored or
discarded. A packet that the algorithm of RFC 3550 rejects is in no row and goes uncounted. -/
def packetArrive (c ts seq : Nat) (marker : Bool) (cls : Nat) (payload : Octets) (stamp : Nat) (s : Dev) : Dev :=
  match s.chan? c with
  | none => s
  | some k =>
    let n := cellsFor payload.length
    if max 16 (s.rfld Reg.mpePsChMax 0 16) < (k.jb.pkts.map (·.cells)).sum + n then s.bump64 Reg.mpeDropPsQuota
    else if s.rfld Reg.mpePsFree 0 21 < n then occur 0x304 {} (s.bump64 Reg.mpeDropPsFull)
    else
      let s := s.bump64 Reg.mpeRxPackets
      let (e, sq) := seqUpdate k.jb.seq seq
      let s := modJb c (fun j => { j with seq := sq }) s
      if e = .reject then s
      else
        let s := modStats c (fun t => { t with received := t.received + 1, octRecv := t.octRecv + payload.length }) s
        let s := if e = .restart then resync c 0 (k.jb.seq.cycles + k.jb.seq.maxSeq) seq s else s
        match s.chan? c with
        | none => s
        | some k =>
          let (k, xts) := streamTake s k ts stamp
          let ext := seqExtend k.jb.seq seq
          let a := arrivalOf s k cls ext xts
          let j := { k.jb with ahead := if a = .ahead then k.jb.ahead + 1 else 0, lateSeen := k.jb.lateSeen || (a == .late && cls == 0),
                               seq := if a = .duplicate then k.jb.seq else { k.jb.seq with uniq := k.jb.seq.uniq + 1 } }
          let put (j : Jb) (f : Stats → Stats) (s : Dev) : Dev :=
            modStats c (fun t => f { t with lost := lostBy j.seq }) (s.setChan c { k with jb := j })
          match a with
          | .duplicate => put j (fun t => { t with dup := t.dup + 1 }) s
          | .late => put j (fun t => { t with latePkts := t.latePkts + 1 }) s
          | .ahead =>
            let s := put j (fun t => { t with latePkts := t.latePkts + 1 }) s
            if 3 ≤ j.ahead then resync c 1 (k.jb.seq.cycles + k.jb.seq.maxSeq) ext s else s
          | .kept re =>
            let p : Pkt := { ts := xts, seq := ext, marker := marker, cls := cls, payload := payload, stampNs := stamp, cells := n, vbd := k.vbd,
                             no := j.stored }
            let before := j.pkts.takeWhile (fun q => decide (q.ts ≤ xts))
            refreshPs (put { j with pkts := before ++ p :: j.pkts.drop before.length, fresh := j.fresh ++ [(xts, stamp)], stored := j.stored + 1 }
              (fun t => { t with reordered := t.reordered + re.toNat }) s)

/-! ### Payloads (R195, R214) -/

/-- Table of contents entries of an AMR or AMR-WB payload, octet-aligned: until one without its F bit. -/
def tocOctets : Nat → Octets → List Nat
  | 0, _ => []
  | _ + 1, [] => []
  | f + 1, b :: r => b.toNat :: (if b.toNat.testBit 7 then tocOctets f r else [])

/-- The bit at place `i` of octets, the highest bit first. -/
def bitAt (o : Octets) (i : Nat) : Bool := (oct o (i / 8)).testBit (7 - i % 8)

/-- Table of contents entries, bandwidth-efficient: 6 bits each from bit 4, shifted into the octet form. -/
def tocBits : Nat → Octets → Nat → List Nat
  | 0, _, _ => []
  | f + 1, o, i =>
    if o.length * 8 < i + 6 then []
    else
      let v := (upTo 6).foldl (fun n j => 2 * n + (bitAt o (i + j)).toNat) 0
      4 * v :: (if bitAt o i then tocBits f o (i + 6) else [])

/-- The table of contents of an AMR or AMR-WB payload. -/
def amrToc (octet : Bool) (o : Octets) : List Nat := if octet then tocOctets 32 (o.drop 1) else tocBits 32 o 4

/-- A codec mode request in an AMR or AMR-WB payload. -/
def amrCmr (o : Octets) : Nat := oct o 0 / 16

/-- The frame length of an Opus packet in 2.5 ms, by its configuration number (RFC 6716). -/
def opusFrame (cfg : Nat) : Nat :=
  if cfg < 12 then [4, 8, 16, 24].getD (cfg % 4) 8 else if cfg < 16 then [4, 8].getD (cfg % 2) 8 else [1, 2, 4, 8].getD (cfg % 4) 8

/-- The last frame of a payload is a SID, by its frame types. -/
def sidLast (sid : Nat) (types : List Nat) : Bool := types.getLast? == some sid

/-- RTP units that a voice payload covers, and whether its last frame is a comfort-noise or SID description. -/
def payloadUnits (k : Channel) (vbd : Bool) (o : Octets) : Nat × Bool :=
  let codec := if vbd then 1 else k.now 3 1
  let mode := k.now 4 2
  let n := o.length
  match codec with
  | 0 => (n / 2, false)
  | 1 => (n, false)
  | 2 => (n, false)
  | 3 => (n, false)
  | 4 => (n * 8 / (2 + mode % 4), false)
  | 5 => (80 * (n / 10 + (n % 10 / 2)), decide (n % 10 = 2))
  | 6 => let t := amrToc (mode.testBit 3) o; (160 * t.length, sidLast 8 (t.map (· / 8 % 16)))
  | 7 => let t := amrToc (mode.testBit 4) o; (320 * t.length, sidLast 9 (t.map (· / 8 % 16)))
  | 8 =>
    if mode.testBit 5 then (320, n == 6)
    else
      let o := if (oct o 0).testBit 7 then o.drop 1 else o
      let t := (upTo 32).foldl (fun (a : List Nat × Bool) i => if a.2 then (a.1 ++ [oct o i], (oct o i).testBit 6) else a) ([], true)
      (320 * t.1.length, sidLast 12 (t.1.map (· % 64)))
  | _ =>
    let b := oct o 0
    let frames := match b % 4 with | 0 => 1 | 1 => 2 | 2 => 2 | _ => oct o 1 % 64
    (120 * opusFrame (b / 8) * frames, decide (n ≤ 2))

/-- A G.711 codec: µ-law or A-law. -/
def isG711 (codec : Nat) : Bool := codec == 1 || codec == 2

/-- The FORMAT (R153) of the codes that a voice stream carries, where its codec is G.711 or none, or under passthrough (R214, R225): 0 A-law, 1 µ-law,
2 linear. -/
def lawOf (k : Channel) (vbd : Bool) : Option Nat :=
  let codec := k.now 3 1
  if isG711 codec then some (codec - 1)
  else if vbd then some (match k.legs.line with | some l => if nfld l 16 2 = 1 then 1 else 0 | none => 0)
  else if codec = 0 then some 2
  else none

/-- Sample `u` of a payload under such a FORMAT; linear samples are in network order (RFC 3551). -/
def codeSample (law : Nat) (o : Octets) (u : Nat) : Int := expand law (if law = 2 then be o (2 * u) 2 else oct o u)

/-- The frame of R207 in RTP units: the codec frame, or the channel frame of a sample-based codec. -/
def frameUnits (k : Channel) : Nat :=
  let c := clockOf k
  let f := if k.vbd then 0 else codecFrameTicks (k.now 3 1) k.frame_
  (if f = 0 then k.frame_ else f) * c / 400

/-- The channel frame in RTP units. -/
def chanUnits (k : Channel) : Nat := k.frame_ * clockOf k / 400

/-! ### The depth loop (R200) -/

/-- The present mode: FIXED during passthrough, and in ALIGNED mode without a mapping (R198, R204). -/
def modeNow (k : Channel) : Nat := if k.vbd then 1 else if k.now 12 1 = 2 ∧ k.jb.mapping.isNone then 1 else k.now 12 1

/-- The packets stored since the last pull enter the minima and the histogram. -/
def measure (k : Channel) (window : Nat) (j : Jb) : Jb :=
  let j' := j.fresh.foldl (fun (j : Jb) p =>
    let r := transitOf { k with jb := j } p.1 p.2
    let sec := p.2 / nsPerSec
    let m := match kvGet j.secmin sec with | some x => min x r | none => r
    let mins := (kvSet j.secmin sec m).filter (fun q => decide (sec < q.1 + 60))
    let base := (mins.filter (fun q => decide (sec < q.1 + window))).foldl (fun b q => min b q.2) r
    let bin := min 400 ((r - base) / 1000000).toNat
    { j with secmin := mins, hist := kvMod j.hist bin 0 (· + 1), measured := j.measured + 1 }) j
  { j' with fresh := [] }

/-- The base: the least r over the last WINDOW seconds. -/
def baseOf (j : Jb) (window : Nat) : Int :=
  let top := greatest (j.secmin.map (·.1))
  match j.secmin.filter (fun q => decide (top < q.1 + window)) with
  | [] => j.bs
  | q :: r => r.foldl (fun b p => min b p.2) q.2

/-- The target of the loop in ns. -/
def targetOf (s : Dev) (k : Channel) (j : Jb) : Nat :=
  if modeNow k ≠ 0 then (if k.vbd then max j.d (playVbd s) else 1000000 * k.now 18 2)
  else if j.measured < 50 then j.d
  else
    let n := (j.hist.map (·.2)).sum
    let q := ((j.hist.foldl (fun (a : Nat × Option Nat) p =>
      let t := a.1 + p.2
      (t, if a.2.isNone ∧ n * playPctl s ≤ 1000 * t then some p.1 else a.2)) (0, none)).2).getD 0
    max (1000000 * k.now 14 2) (min (1000000 * jbMaxMs k.live) (1000000 * (q + 1) + playMargin s))

/-- The units of a packet that have not been played: its first, and the one after its last. -/
def unitsLeft (k : Channel) (p : Pkt) : Nat × Nat := (p.ts + p.skip, p.ts + max 1 (payloadUnits k p.vbd p.payload).1)

/-- A talkspurt starts with one of these packets, in the order of their timestamps (R200): with a voice packet that has the marker, or that is the first
after comfort noise, or after 60 ms of RTP time without a packet and without a gap in sequence numbers. `e` is the end of the voice before, `cn`
whether comfort noise was played last. -/
def spurtIn (k : Channel) : Option Nat → Bool → List Nat → List Pkt → Bool
  | _, _, _, [] => false
  | e, cn, seqs, p :: r =>
    let next := spurtIn k (some (unitsLeft k p).2) (payloadUnits k p.vbd p.payload).2 (p.seq :: seqs) r
    if p.cls = 2 then spurtIn k e true (p.seq :: seqs) r
    else if p.cls ≠ 0 then spurtIn k e cn (p.seq :: seqs) r
    else
      let pause : Bool := match e with | none => false | some e => decide (e + 60 * clockOf k / 1000 ≤ p.ts) && seqs.contains (p.seq - 1)
      p.marker || cn || pause || next

/-- The oldest stored frame leaves the packets (R200): a channel frame of units from the oldest voice unit; true when there was one. -/
def frameDiscard (k : Channel) (l : List Pkt) : List Pkt × Bool :=
  match l.find? (fun p => p.cls == 0) with
  | none => (l, false)
  | some o =>
    let cutAt := (unitsLeft k o).1 + chanUnits k
    (l.filterMap (fun p => if p.cls ≠ 0 then some p
      else if (unitsLeft k p).2 ≤ cutAt then none
      else some { p with skip := max p.skip (cutAt - p.ts) }), true)

/-- What the depth loop does: the buffer after it, whether it grew, whether a shrink discarded a frame, and its target. -/
structure LoopEnd where
  jb : Jb
  grew : Bool := false
  shed : Bool := false
  target : Nat

/-- The depth loop of R200. Before the stream's first packet there is no depth to change. -/
def depthLoop (s : Dev) (k : Channel) (spurt : Bool) (j : Jb) : LoopEnd :=
  let mode := modeNow k
  let frame := frameNs k
  let base := if mode = 0 then baseOf j (playWindow s) else j.bs
  let target := targetOf s k j
  let want : Int := base + target
  let have_ : Int := j.bs + j.d
  let lim := 1000000 * jbMaxMs k.live
  if mode = 2 ∨ j.t0.isNone then { jb := j, target := target }
  else if k.vbd then { jb := { j with d := target }, target := target }
  else if spurt then { jb := { j with bs := base, d := target, lateSeen := false, shrinkSince := none, spurtAt := s.cycles }, target := target }
  else if (frame ≤ want - have_ ∨ (mode = 0 ∧ j.lateSeen)) ∧ (j.d + frame ≤ lim ∨ mode ≠ 0) then
    { jb := { j with d := j.d + frame, lateSeen := false, shrinkSince := none }, grew := true, target := target }
  else if frame ≤ have_ - want then
    let since := j.shrinkSince.getD s.cycles
    if since + playShrink s ≤ s.cycles ∧ ((mode = 0 ∧ lim < j.d) ∨ j.spurtAt + playTalk s ≤ s.cycles) then
      let (pkts, shed) := frameDiscard k j.pkts
      { jb := { j with d := j.d - frame, shrinkSince := none, lateSeen := false, pkts := pkts }, shed := shed, target := target }
    else { jb := { j with shrinkSince := some since }, target := target }
  else { jb := { j with shrinkSince := none }, target := target }

/-! ### The pull (R193 to R195, R202 to R204, R208, R209) -/

/-- A pending mapping is taken at a talkspurt start, or TALK_MAX after its report (R204). -/
def takeMapping (c : Nat) (spurt : Bool) (s : Dev) : Dev :=
  match s.chan? c with
  | none => s
  | some k =>
    match k.jb.mappingNext with
    | none => s
    | some m =>
      if ¬ (spurt ∨ k.jb.mappingSince + playTalk s ≤ s.cycles) then s
      else
        let t := (k.jb.pkts.head?.map (·.ts)).getD (k.jb.lastTs.getD 0)
        let s' := modJb c (fun j => { j with mapping := some m, mappingNext := none }) s
        match k.jb.mapping with
        | none => tileEvent c 0x0204 (toLe 4 ((captureNs m t) % 1000000000).toNat ++ zeros 4) s'
        | some o => tileEvent c 0x0205 (toLe 4 (satInt 32 (captureNs m t - captureNs o t))) s'

/-- The span of due instants in ns that an instance's pull covers (R193). -/
def pullSpan (k : Channel) (i : Instance) : Int × Int :=
  let hi : Int := (i.spawnTick * tickNs : Nat)
  (hi - frameNs k, hi)

/-- The codec of a payload is sample-based (R195). -/
def sampleBased (k : Channel) (p : Pkt) : Bool := p.vbd || decide (k.now 3 1 ≤ 4)

/-- The frames of a packet that have not been played, by their timestamps (R195). -/
def frameStarts (k : Channel) (p : Pkt) : List Nat :=
  let fu := max 1 (frameUnits k)
  let (a, b) := unitsLeft k p
  (upTo (min 64 ((b - a + fu - 1) / fu))).map (fun x => a + x * fu)

/-- The part of a pull's span, in ns of due time, that a packet's samples cover. -/
def coverOf (s : Dev) (k : Channel) (sp : Int × Int) (p : Pkt) : Int × Int :=
  let (a, b) := unitsLeft k p
  (max sp.1 (dueOf s k a), min sp.2 (dueOf s k b))

/-- The parts of a span that a list of covered parts, in order, leaves open. -/
def gapsIn : Int × Int → List (Int × Int) → List (Int × Int)
  | (a, b), [] => if a < b then [(a, b)] else []
  | (a, b), c :: r => (if a < c.1 then [(a, c.1)] else []) ++ gapsIn (max a c.2, b) r

/-- A packet has nothing due at `t` or later. -/
def spentAt (s : Dev) (k : Channel) (t : Int) (p : Pkt) : Bool :=
  if p.cls ≠ 0 then decide (dueOf s k p.ts < t)
  else if sampleBased k p then decide (dueOf s k (unitsLeft k p).2 ≤ t)
  else (frameStarts k p).all (fun x => decide (dueOf s k x < t))

/-- The frames due in a pull's span that no packet carries and that the redundancy of the packet stored behind them holds, under Opus FEC (R215, R223):
`starts` are those found. -/
def fecFrames (s : Dev) (k : Channel) (sp : Int × Int) (l : List Pkt) (starts : List Nat) : Nat :=
  let on := k.now 3 1 == 9 && !k.vbd && (k.now 4 2).testBit 9
  (l.filter (fun p => on && p.cls == 0 && decide (frameUnits k ≤ p.ts) && !starts.contains (p.ts - frameUnits k) &&
    decide (sp.1 ≤ dueOf s k (p.ts - frameUnits k)) && decide (dueOf s k (p.ts - frameUnits k) < sp.2))).length

/-- The samples of the frame that starts at due instant `lo` which these packets carry, each at its due instant (R193, R202); where the mapping's grid
leaves one place between two samples, the earlier is repeated (R204). -/
def pullSamples (s : Dev) (k : Channel) (lo : Int) (l : List Pkt) : List (Option Int) :=
  if (lawOf k k.vbd).isNone then []
  else
    let hz := clockOf k
    let placed : List (Int × Int) := l.flatMap (fun p => match lawOf k p.vbd with
      | some law =>
        let (a, b) := unitsLeft k p
        (upTo (b - a)).map (fun u => (samplesBetween hz lo (dueOf s k (a + u)), codeSample law p.payload (p.skip + u)))
      | none => [])
    let at_ (n : Int) : Option Int := (placed.find? (fun q => q.1 == n)).map (·.2)
    (upTo (tickSamples k.frame_ hz)).map (fun (n : Nat) =>
      match at_ n with
      | some x => some x
      | none => if (at_ (n + 1)).isSome then at_ (n - 1) else none)

/-- What a pull takes of the chain `l` for the span `sp` of due instants (R193, R195, R208, R223). -/
def pullTake (s : Dev) (k : Channel) (sp : Int × Int) (l : List Pkt) : Pulled :=
  let j := k.jb
  let need := max 1 (chanUnits k / max 1 (frameUnits k))
  let reached := l.filter (fun p => decide (dueOf s k p.ts < sp.2) && !spentAt s k sp.1 p)
  let speech := reached.filter (fun p => p.cls == 0)
  let voice := reached.filter (fun p => p.cls != 1)
  let sample := speech.all (sampleBased k) && decide (k.vbd ∨ k.now 3 1 ≤ 4)
  let cover := (speech.map (coverOf s k sp)).filter (fun c => decide (c.1 < c.2))
  let starts := (speech.flatMap (frameStarts k)).filter (fun x => decide (sp.1 ≤ dueOf s k x) && decide (dueOf s k x < sp.2))
  let fec := if sample then 0 else fecFrames s k sp l starts
  let got := if sample then (if cover.isEmpty then 0 else need) else min need (starts.length + fec)
  let cn : Bool := match voice.getLast? with
    | some p => p.cls == 2 || (payloadUnits k p.vbd p.payload).2
    | none => j.lastCn
  -- the stream's frames begin with its first packet (R193)
  let begun : Bool := match j.t0 with | some t => decide (dueOf s k t < sp.2) | none => false
  { voice := voice, events := reached.filter (fun p => p.cls == 1), need := need, got := got, fec := fec, noise := cn,
    missing := if begun ∧ ¬ j.lastCn ∧ ¬ (cn ∧ ¬ voice.isEmpty) then need - got else 0,
    gaps := if begun ∧ sample ∧ ¬ cover.isEmpty then gapsIn sp cover else [],
    pcm := pullSamples s k sp.1 speech }

/-- The run of frames without a payload ends or goes on with a pull (R208): LONG_LOSS closes one beyond 60 ms at its first payload. -/
def runAfter (k : Channel) (p : Pulled) : Nat := if 0 < p.got ∨ (p.noise ∧ ¬ p.voice.isEmpty) then 0 else if k.jb.lastCn then 0 else k.jb.run + p.missing * (frameNs k / p.need)

/-- The buffer after a pull. -/
def jbPulled (s : Dev) (k : Channel) (sp : Int × Int) (p : Pulled) (keep : List Pkt) : Jb :=
  let j := k.jb
  let took := (p.voice ++ p.events).map (·.seq)
  let ends := (p.voice.filter (fun q => q.cls == 0)).map (fun q => (unitsLeft k q).2)
  { j with
    pkts := keep.filter (fun q => !(decide (dueOf s k q.ts < sp.2) && (q.cls != 0 || spentAt s k sp.2 q))),
    played := (took.filter (fun q => !j.played.contains q) ++ j.played).take 64, pulledTo := some sp.2.toNat, missed := 0, cut := none,
    run := runAfter k p, lastCn := p.noise, restore := false, slew := if 0 < j.slew then j.slew - 1 else if j.slew < 0 then j.slew + 1 else 0,
    voiceTs := match ends.getLast? with | some e => some e | none => j.voiceTs }

/-- The pull node of an instance of channel `c` spawned at tick N (R193): `bad` are packets whose cells failed parity (R170). It takes the chain as it
stood when the node was dispatched (R194). -/
def pullNode (c : Nat) (bad : List Nat) (s : Dev) : Dev :=
  match (s.chan? c).bind (fun k => k.active.map (fun i => (k, i))) with
  | none => s
  | some (k, i) =>
    -- cells that fail parity make their packets read as missing
    let lostCells := k.jb.pkts.filter (fun p => bad.contains (p.seq % 65536))
    let s := modJb c (fun j => { j with pkts := j.pkts.filter (fun p => !bad.contains (p.seq % 65536)) }) s
    let s := lostCells.foldl (fun s _ => occur 0x303 { chan := some (globalId k.owner c) } (s.bump64 Reg.mpePsParity)) s
    match s.chan? c with
    | none => s
    | some k =>
      let sp := pullSpan k i
      let inPicture (p : Pkt) : Bool := match k.jb.cut with | some n => decide (p.no < n) | none => true
      let j := measure k (playWindow s) k.jb
      let heads := j.pkts.filter (fun p => inPicture p && decide (dueOf s { k with jb := j } p.ts < sp.2) && !j.played.contains p.seq)
      let spurt := heads.any (fun p => p.cls == 0) && (j.restore || spurtIn k j.voiceTs j.lastCn j.played heads)
      let e := depthLoop s k spurt j
      let s := takeMapping c spurt (s.setChan c { k with jb := e.jb })
      let s := modStats c (fun t => { t with latePkts := t.latePkts + e.shed.toNat, concealed := t.concealed + e.grew.toNat }) s
      let s :=
        if e.grew then
          let (first, s) := s.oncePer (0x0201 * 2 ^ 32 + globalId k.owner c) s.now.sec
          if first then tileEvent c 0x0201 (toLe 2 (sat 16 (e.jb.d / 100000)) ++ toLe 2 (sat 16 (e.target / 100000))) s else s
        else s
      match s.chan? c with
      | none => s
      | some k =>
        let j := k.jb
        -- packets whose pulls have passed without them (R194, R209)
        let gone := j.pkts.filter (spentAt s k sp.1)
        let rest := j.pkts.filter (fun p => !gone.contains p)
        let p := pullTake s k sp (rest.filter inPicture)
        let longRun := decide (60000000 < j.run) && decide (runAfter k p = 0)
        let held := rest.filter (fun q => !inPicture q)
        let j' := jbPulled s k sp p (rest.filter inPicture)
        let merged := (held.foldl (fun l q => let b := l.takeWhile (fun x => decide (x.ts ≤ q.ts)); b ++ q :: l.drop b.length) j'.pkts)
        let s := s.setChan c { k with jb := { j' with pkts := merged }, pulled := { p with back := longRun } }
        let late := (gone.filter (fun q => !j.played.contains q.seq)).length
        let s := modStats c (fun t => { t with concealed := t.concealed + p.missing + j.missed * p.need, latePkts := t.latePkts + late }) s
        let s := if longRun then tileEvent c 0x0202 (toLe 4 (sat 32 (j.run / 1000000))) s else s
        refreshPs s

/-! ### Rows of the playout -/

/-- HISTOGRAM_DECAY (R200): once per second. -/
def histogramDecay (c : Nat) (s : Dev) : Dev :=
  modJb c (fun j => { j with hist := (j.hist.map (fun p => (p.1, p.2 * (playWindow s - 1) / playWindow s))).filter (fun p => p.2 != 0) }) s

/-- The slope of the least-squares line through points (x, y), rounded down. -/
def slope (l : List (Nat × Int)) : Option Int :=
  let n : Int := l.length
  let x0 := leastOr 0 (l.map (·.1))
  let sx := (l.map (fun p => ((p.1 - x0 : Nat) : Int))).sum
  let sy := (l.map (·.2)).sum
  let sxy := (l.map (fun p => ((p.1 - x0 : Nat) : Int) * p.2)).sum
  let sxx := (l.map (fun p => ((p.1 - x0 : Nat) : Int) * ((p.1 - x0 : Nat) : Int))).sum
  let den := n * sxx - sx * sx
  if den = 0 then none else some ((n * sxy - sx * sy) / den)

/-- DRIFT_FIT (R210): once per second. -/
def driftFit (c : Nat) (s : Dev) : Dev :=
  match s.chan? c with
  | none => s
  | some k =>
    if ¬ k.template.holds 7 then modJb c (fun j => { j with drift := 0 }) s
    else
      let top := greatest (k.jb.secmin.map (·.1))
      let pts := k.jb.secmin.filter (fun q => decide (top < q.1 + playDriftWin s))
      let e : Option Int := match modeNow k, k.jb.mapping with
        | 2, some m => if m.ns = 0 then none else some ((m.units : Int) * 1000000000 * 1000000000 / (m.ns * clockOf k) - 1000000000)
        | _, _ => slope pts
      match e with
      | none => s
      | some e =>
        let d := k.jb.drift
        let step : Int := if (e - d).natAbs ≤ playDead s then 0 else if d < e then min 1000 (e - d) else -(min 1000 (d - e))
        let d' := max (-200000) (min 200000 (d + step))
        let s := modJb c (fun j => { j with drift := d' }) s
        if 200000 < e.natAbs then
          let (first, s) := s.oncePer (0x0203 * 2 ^ 32 + globalId k.owner c) (s.now.sec / 60)
          if first then tileEvent c 0x0203 (toLe 4 (satInt 32 (e / 10))) s else s
        else s

/-- A report of an ALIGNED channel whose mapping moves t_c of the next frame by no more than ALIGN_STEP is taken at once (R204): the output index of
each following sample moves, one sample a frame at most. -/
def alignMove (k : Channel) (o m : AlignMap) (t : Nat) : Jb :=
  let at_ (m : AlignMap) : Int := alignedOut { k with jb := { k.jb with slew := 0 } } m t
  let f : Int := outGrid k
  { k.jb with mapping := some m, mappingNext := none, slew := k.jb.slew + ((at_ o - at_ m) * f + 500000000) / 1000000000 }

/-- A sender report reaches the channel's playout (R202, R204). -/
def senderReport (c ntp ts : Nat) (s : Dev) : Dev :=
  match s.chan? c with
  | none => s
  | some k =>
    let xts := extendTs k.jb.lastTs ts
    let m : AlignMap := match k.jb.srs.head?.filter (fun r => decide (r.ntp + 5000000000 ≤ ntp) && decide (r.ts < xts)) with
      | some r => { ntp := ntp, ts := xts, units := xts - r.ts, ns := ntp - r.ntp }
      | none => { ntp := ntp, ts := xts, units := clockOf k, ns := 1000000000 }
    let s := modJb c (fun j => { j with srs := [⟨ntp, xts⟩], srAt := some s.cycles, stale := false }) s
    let wait (s : Dev) : Dev :=
      modJb c (fun j => { j with mappingNext := some m, mappingSince := if j.mappingNext.isSome then j.mappingSince else s.cycles }) s
    if k.now 12 1 ≠ 2 then s
    else match k.jb.mapping with
      | none => wait s
      | some o =>
        let t := (k.jb.pkts.head?.map (·.ts)).getD xts
        if (captureNs m t - captureNs o t).natAbs ≤ playStep s then
          s.modChan c (fun k' => { k' with jb := { alignMove k o m t with srs := k'.jb.srs, srAt := k'.jb.srAt, stale := k'.jb.stale } })
        else wait s

/-- ALIGN_STALE (R204): no report for 30 s. -/
def alignStale (c : Nat) (s : Dev) : Dev :=
  match s.chan? c with
  | none => s
  | some k =>
    match k.jb.srAt with
    | none => s
    | some t =>
      if k.now 12 1 ≠ 2 ∨ k.jb.stale then s
      else tileEvent c 0x0206 [] (modJb c (fun j => { j with stale := true }) (s.elapseTo (t + usCycles 30000000)))

end Sys2Proof.Machine
end

