-- ==== Sys2Proof/Machine/Archive.lean ====
section
/-! DEFINITION. The archive engine: the record tap, Folio blocks, packing FIFOs, sinks and exhaustion (R342 to R366). -/

namespace Sys2Proof.Machine

/-! ### Staging (R343, R344) -/

/-- Cells of the staging pool in use: blocks that the compressor has not read, and what is staged. -/
def poolUsed (s : Dev) : Nat :=
  (((s.sink 0).jobs.filter (fun j => !j.remote)).map (fun j => wordsOf j.octets.length)).sum +
    (s.chans.map (fun p => (p.2.recs.map (fun r => wordsOf r.staged.length)).sum)).sum

/-- Whole blocks of BLOCK_SIZE leave a stream's staging buffer. -/
def recFill (c hz : Nat) : Nat → RecStream → Dev → RecStream × Dev
  | 0, r, s => (r, s)
  | n + 1, r, s =>
    let b := blockSize s
    if r.staged.length < b then (r, s)
    else
      let (q, s) := recCloseBlock c false { r with staged := r.staged.take b } s
      recFill c hz n { q with staged := r.staged.drop b, startNs := r.startNs + b / 2 * nsPerSec / hz } s

/-- One stream takes one frame of samples whose first sample is stamped `stamp` (R344). Stamps are whole nanoseconds, and a highway's follow its reference,
so a frame follows the last one where it starts within half a sample of its end (DEDUCED, log entry 81). -/
def recStage (c hz stamp : Nat) (o : Octets) (r : RecStream) (s : Dev) : RecStream × Dev :=
  let owner := ((s.chan? c).map (·.owner)).getD 0
  let n := o.length / 2
  let next := some (stamp + n * nsPerSec / hz)
  -- a break in the samples, or another rate, closes the open block
  let (r, s) :=
    match r.nextNs with
    | none => (r, s)
    | some t =>
      if samplesBetween hz t stamp = 0 ∧ r.hz = hz then (r, s)
      else
        let (r, s) := recCloseBlock c true r s
        (r, recGap c r.content ((stamp - t) * hz / nsPerSec) 0 owner s)
  if s.rfld Reg.arcRecPool 0 21 < poolUsed s + (wordsOf (r.staged.length + o.length) - wordsOf r.staged.length) then
    let s := occur 0x3E3 {} (s.bump Reg.arcPoolRefuse)
    ({ r with nextNs := next, hz := hz }, recGap c r.content n 3 owner s)
  else
    let r := { r with staged := r.staged ++ o, startNs := if r.staged.isEmpty then stamp else r.startNs, nextNs := next, hz := hz }
    recFill c hz 16 r s

/-- The stamp of a direction's first sample (R343): with a line leg the pins' under R278, else the media block's; where nothing made a block, the start
of the instance's frame. -/
def tapStamp (s : Dev) (k : Channel) (i : Instance) (out : Bool) : Nat :=
  let b := if out then k.media.far else k.media.up
  if out ∧ i.legs.line.isSome then outStart s k i
  else if b.samples.isEmpty then i.spawnTick * tickNs - i.frame * tickNs
  else b.stamp

/-- A stream takes its direction's frame at the channel's RATE, converted where the block has another rate; the stamp then leads the block's by the
converter's delay (R273, R277). -/
def recordStream (c : Nat) (k : Channel) (i : Instance) (r : RecStream) (s : Dev) : RecStream × Dev :=
  let hz := rateHz (oct i.params 2)
  let b := if r.content = 1 then k.media.up else k.media.far
  let fin := if b.samples.isEmpty then hz else b.hz
  let (xs, h) := convert fin hz (frameSamples i.frame hz) r.conv (b.first (frameSamples i.frame fin))
  recStage c hz (tapStamp s k i (r.content == 2) - (converter fin hz).1) (octets16 false xs) { r with conv := h } s

/-- A record tap node of channel `c`: the frame's samples of each direction in which it records. -/
def recordTap (c : Nat) (s : Dev) : Dev :=
  match (s.chan? c).bind (fun k => k.active.map (fun i => (k, i))) with
  | none => s
  | some (k, i) =>
    if ¬ s.domainOn 28 ∨ ¬ s.rbit Reg.arcCfg 0 then s
    else
      let (rs, s) := k.recs.foldl (fun (p : List RecStream × Dev) r =>
        let (r, s) := recordStream c k i r p.2
        (p.1 ++ [r], s)) ([], s)
      s.modChan c (fun k => { k with recs := rs })

/-! ### The pre-coder (R349) -/

/-- The 16-bit samples of octets. -/
def samples16 : Octets → List Nat
  | a :: b :: r => (a.toNat + 256 * b.toNat) :: samples16 r
  | _ => []

/-- The residuals of an order, from the two samples before. -/
def residuals (order : Nat) : Nat → Nat → List Nat → List Nat
  | _, _, [] => []
  | x1, x2, x :: r =>
    let p := match order with | 0 => 0 | 1 => x1 | _ => 2 * x1 + 65536 - x2
    ((x + 2 * 65536 - p % 65536) % 65536) :: residuals order x x1 r

/-- The sum of the magnitudes of residuals. -/
def residualSum (l : List Nat) : Nat := (l.map (fun e => (signed 16 e).natAbs)).sum

/-- The order of a block: the one set, or with 0xFF the one with the smallest sum, the lower on a tie. -/
def preOrder (order : Nat) (x : List Nat) : Nat :=
  if order ≤ 2 then order
  else
    let c (k : Nat) : Nat := residualSum (residuals k 0 0 x)
    if c 0 ≤ c 1 ∧ c 0 ≤ c 2 then 0 else if c 1 ≤ c 2 then 1 else 2

/-- The pre-coded octets: the low octets of all residuals, then the high ones. -/
def precode (order : Nat) (x : List Nat) : Octets :=
  let e := residuals order 0 0 x
  e.map (fun v => BitVec.ofNat 8 v) ++ e.map (fun v => BitVec.ofNat 8 (v / 256))

/-! ### A Folio block (R347, R348, R350) -/

/-- The octets of a job as they are compressed: pre-coded in a recording. -/
def jobRaw (j : ArcJob) : Octets :=
  if j.content = 1 ∨ j.content = 2 then precode (preOrder j.order (samples16 j.octets)) (samples16 j.octets) else j.octets

/-- The compressor's coded octets are one raw DEFLATE stream of the job's octets, with zero padding bits, or longer than they are (R348, R350). -/
def codedOk (j : ArcJob) (coded : Octets) : Bool :=
  decide (j.octets.length < coded.length) || (match inflateExact (jobRaw j).length coded with | .ok o => o == jobRaw j | .error _ => false)

/-- The Folio block of a job from the compressor's coded octets; STORED when they exceed the octets coded. -/
def folioBlock (j : ArcJob) (coded : Octets) : Octets :=
  let rec_ := decide (j.content = 1 ∨ j.content = 2)
  let order := if rec_ then preOrder j.order (samples16 j.octets) else 0
  let stored := decide (j.octets.length < coded.length)
  let data := if stored then jobRaw j else coded
  let flags := stored.toNat + 2 * rec_.toNat + 4 * order + 16 * j.end_.toNat + 32 * j.resumed.toNat
  toLe 2 0xF011 ++ [1, BitVec.ofNat 8 flags] ++ toLe 4 j.seq ++ toLe 4 j.octets.length ++ toLe 4 data.length ++ toLe 2 j.sid ++
    toLe 4 j.stamp.ns ++ toLe 6 j.stamp.sec ++ [BitVec.ofNat 8 j.content, BitVec.ofNat 8 j.stamp.tepoch, 0, 0] ++ data ++
    toLe 4 (crc32c j.octets)

/-- Octets in 64-octet words, the last one tagged with what it holds (R357). -/
def foldWords (chan : Option Nat) : Nat → Octets → List FifoWord
  | 0, _ => []
  | n + 1, o =>
    if o.length ≤ 64 then (if o.isEmpty then [] else [{ octets := o, blockEnd := true, chan := chan }])
    else { octets := o.take 64, blockEnd := false } :: foldWords chan n (o.drop 64)

/-- The words of a block, of which word `bad` fails parity when it is popped. -/
def blockWords (chan : Option Nat) (bad : Option Nat) (o : Octets) : List FifoWord :=
  (foldWords chan (wordsOf o.length) o).zipIdx.map (fun p => { p.1 with bad := bad == some p.2 })

/-- The words up to the end of the block that stands at the head, with their octets zero (R361): the words, and whether they hold that end. -/
def zeroBlock : List FifoWord → List FifoWord × Bool
  | [] => ([], false)
  | w :: r =>
    let z : FifoWord := { w with octets := zeros w.octets.length, zero := true, bad := false }
    if w.blockEnd then (z :: r, true) else let (q, e) := zeroBlock r; (z :: q, e)

/-- A word popped from the FIFO of sink `k` fails parity (R361): source 0x3E5, and what remains of its block follows as zeros. -/
def wordParity (k : Nat) (w : FifoWord) (s : Dev) : Dev :=
  if ¬ w.bad then s
  else
    let s := occur 0x3E5 {} s
    if w.blockEnd then s
    else
      let x := s.sink k
      let (f, ended) := zeroBlock x.fifo
      s.setSink k { x with fifo := f, waiting := if ended then x.waiting else (zeroBlock x.waiting).1 }

/-! ### Sinks (R352 to R354) -/

/-- Sink `k` writes to host memory: enabled, with a SIZE of 4 to 16, and PCIe on. -/
def sinkOn (s : Dev) (k : Nat) : Bool :=
  s.domainOn 28 && s.domainOn 24 && s.rbit (Reg.arcSinkCtrl k) 0 && decide (4 ≤ s.rfld (Reg.arcSinkSize k) 0 5) &&
    decide (s.rfld (Reg.arcSinkSize k) 0 5 ≤ 16)

/-- The room in the posted buffers. -/
def sinkRoom (x : Sink) : Nat := (x.bufs.map (fun b => b.len - b.used)).sum

/-- The buffer at the head is closed: its STATUS is written, HEAD moves on, and the sink's vector is signalled where asked (R353). -/
def closeBuf (k : Nat) (err : Bool) (s : Dev) : Dev :=
  let x := s.sink k
  match x.bufs with
  | [] => s
  | b :: r =>
    let h := s.rfld (Reg.arcSinkHead k) 0 16
    let base := (s.reg (Reg.arcSinkBaseLo k)).toNat + 2 ^ 32 * (s.reg (Reg.arcSinkBaseHi k)).toNat
    let s := s.emit (.dma (10 + k) (base + 16 * h + 12) (toLe 4 (b.used % 2 ^ 21 + 2 ^ 30 * err.toNat + 2 ^ 31)))
    let s := (s.setSink k { x with bufs := r }).setFld (Reg.arcSinkHead k) 0 16 ((h + 1) % 2 ^ s.rfld (Reg.arcSinkSize k) 0 5)
    if s.rbit (Reg.arcSinkCtrl k) 1 then msix (5 + k) s else s

/-- Octets go to the posted buffers in ring order, which have room for them. -/
def sinkWrite (k : Nat) : Nat → Octets → Dev → Dev
  | 0, _, s => s
  | n + 1, o, s =>
    let x := s.sink k
    match x.bufs with
    | [] => s
    | b :: r =>
      if o.isEmpty then (if b.used = b.len then sinkWrite k n o (closeBuf k false s) else s)
      else
        let p := o.take (b.len - b.used)
        let s := if p.isEmpty then s else s.emit (.dma (10 + k) (b.addr + b.used) p)
        let s := s.setSink k { x with bufs := { b with used := b.used + p.length } :: r }
        if b.used + p.length = b.len then sinkWrite k n (o.drop p.length) (closeBuf k false s) else sinkWrite k n (o.drop p.length) s

/-- The reader pops words while the posted buffers have room for all of a word's octets (R354). -/
def popWords (k : Nat) : Nat → Dev → Dev
  | 0, s => s
  | n + 1, s =>
    let x := s.sink k
    match x.fifo with
    | [] => s
    | w :: r =>
      if ¬ sinkOn s k ∨ sinkRoom x < w.octets.length then s
      else
        let s := sinkWrite k (2 * x.bufs.length + 2) w.octets s
        let y := s.sink k
        let lost := y.markLost || decide (x.fifo.length ≤ x.marked)
        let s := s.setSink k { y with fifo := r, marked := min y.marked r.length, markLost := lost, lastEnd := if w.blockEnd then some s.cycles else none }
        let s := wordParity k w (s.bump64 Reg.arcOutOctets w.octets.length)
        popWords k n (if w.blockEnd ∧ ¬ w.zero then s.bump64 Reg.arcBlocks else s)

/-- Words that the FIFO withheld are pushed while it has slots (R358); a block that has left the compressor whole ends its job. -/
def pushWords (k : Nat) (s : Dev) : Dev :=
  let x := s.sink k
  let n := min x.waiting.length (fifoDepth s (3 + k) - x.fifo.length)
  let left := x.waiting.drop n
  let m := if x.job.isSome then x.marked + n else x.marked
  s.setSink k { x with fifo := x.fifo ++ x.waiting.take n, waiting := left, marked := m,
                       markLost := x.markLost || (x.job.isSome && decide (fifoDepth s (3 + k) ≤ m)),
                       job := if left.isEmpty then none else x.job }

/-- The FIFO and the sink move until neither can. -/
def sinkMove (k : Nat) : Nat → Dev → Dev
  | 0, s => s
  | n + 1, s =>
    let x := s.sink k
    if x.fifo.isEmpty ∧ x.waiting.isEmpty then s
    else
      let t := pushWords k (popWords k x.fifo.length s)
      let y := t.sink k
      if y.fifo.length = x.fifo.length ∧ y.waiting.length = x.waiting.length then t else sinkMove k n t

/-- `ARC.STATUS` and `ARC.FIFO[3 + k].STATUS` follow; the cycles in which pushes were withheld count in WAIT. -/
def sinkShow (k : Nat) (s : Dev) : Dev :=
  let x := s.sink k
  let held := x.job.isSome
  let s :=
    match x.heldAt with
    | some t => if held then s else (s.bump (Reg.arcFifoWait (3 + k)) (s.cycles - t)).setSink k { x with heldAt := none }
    | none => if held then s.setSink k { x with heldAt := some s.cycles } else s
  let s := s.setFld (Reg.arcFifoStatus (3 + k)) 0 10 x.fifo.length
  let s := s.setBit (Reg.arcFifoStatus (3 + k)) 12 x.markLost
  let s := s.setBit Reg.arcStatus 1 ((s.sink 0).job.isSome || (s.sink 1).job.isSome)
  s.setBit Reg.arcStatus 0 ([0, 1].all (fun k => let y := s.sink k; y.jobs.isEmpty && y.job.isNone && y.fifo.isEmpty && y.waiting.isEmpty))

/-- RECORD_STOPs that waited for blocks now delivered or discarded complete. -/
def recDone (s : Dev) : Dev :=
  (s.pci.cmds.filter (fun m => m.opcode == 0x0B && m.done.isNone)).foldl (fun s m => recFinish (m.field % 0x10000) s) s

/-- A block enters the output FIFO of sink `k`, at a new mark (R360). -/
def startBlock (k : Nat) (j : ArcJob) (bad : Option Nat) (o : Octets) (s : Dev) : Dev :=
  let x := s.sink k
  let s := s.setSink k { x with job := some j, waiting := x.waiting ++ blockWords j.chan bad o, marked := 0, markLost := false }
  s.setBit (Reg.arcFifoStatus (3 + k)) 11 true

/-- A job's input is discarded (R355): counted, with source 0x3E1, and REC_GAP of a recording. -/
def dropJob (cause : Nat) (j : ArcJob) (s : Dev) : Dev :=
  let s := blockLost s
  match j.chan with
  | none => s
  | some c => recGap c j.content (j.octets.length / 2) cause (((s.chan? c).map (·.owner)).getD s.hid) s

/-- Blocks that other devices finished leave for the sink in their turn, while nothing is held (R345, R355). -/
def startRemote (k : Nat) : Nat → Dev → Dev
  | 0, s => s
  | n + 1, s =>
    let x := s.sink k
    match x.jobs with
    | [] => s
    | j :: r =>
      if ¬ j.remote ∨ x.job.isSome ∨ ¬ x.waiting.isEmpty then s
      else
        let s := s.setSink k { x with jobs := r }
        if s.rbit (Reg.arcSinkStatus k) 1 then startRemote k n (blockLost s)
        else startRemote k n (sinkMove k 2048 (startBlock k j none j.octets s))

/-- Sink `k` goes on as far as it can. -/
def sinkGo (k : Nat) (s : Dev) : Dev :=
  let s := sinkMove k 2048 s
  recDone (sinkShow k (startRemote k (s.sink k).jobs.length s))

/-- A finished block in pieces of the Ronong bulk lane (R345, R432, R433): AUX bit 31 marks the last. -/
def sendBlock (h : Nat) : Nat → Octets → Dev → Dev
  | 0, _, s => s
  | n + 1, o, s =>
    let last := decide (o.length ≤ ronMost)
    let s := ronSendTo h 5 1 (if last then 2 ^ 31 else 0) (o.take ronMost) s
    if last then s else sendBlock h n (o.drop ronMost) s

/-- The compressor finishes the oldest closed block of sink `k` (R350, R355, R361). The compressor works on one block at a time. Coded octets
that are no stream of this block are no product of the compressor: nothing finishes. -/
def blockCompressed (k : Nat) (r : CompressOut) (s : Dev) : Dev :=
  let x := s.sink k
  match x.jobs with
  | [] => s
  | j :: rest =>
    if ¬ s.domainOn 28 ∨ j.remote ∨ (s.sink 0).job.isSome ∨ (s.sink 1).job.isSome ∨ ¬ codedOk j r.coded then s
    else
      let here := k = 1 ∨ s.leads
      if here ∧ ¬ s.rbit (Reg.arcSinkStatus k) 1 ∧ ¬ sinkOn s k then s
      else
        let s := s.setSink k { x with jobs := rest }
        let s := if k = 1 then f1Status s else s
        if here ∧ s.rbit (Reg.arcSinkStatus k) 1 then sinkGo k (dropJob 1 j s)
        else if r.inParity then sinkGo k (dropJob 2 j (occur 0x3E5 {} s))
        else
          let s := s.bump64 Reg.arcInOctets j.octets.length
          let o := folioBlock j r.coded
          if here then sinkGo k (startBlock k j r.outParity o s)
          else match dossierDest s with
            | none => sinkGo k s
            | some h => sinkGo k (sendBlock h (o.length / ronMost + 1) o s)

/-- A finished block arrives from another device (R345). -/
def blockArrived (o : Octets) (s : Dev) : Dev :=
  let j : ArcJob := { octets := o, content := oct o 28, sid := le o 16 2, seq := le o 4 4, order := 0, stamp := s.now, end_ := false,
                      resumed := false, chan := none, remote := true }
  let x := s.sink 0
  if ¬ s.domainOn 28 ∨ ¬ s.rbit (Reg.arcSinkCtrl 0) 0 then blockLost s
  else sinkGo 0 (s.setSink 0 { x with jobs := x.jobs ++ [j] })

/-- `ARC.SINK[k].TAIL` is written (R353): the buffers it posts; a sink with posted room again takes blocks. -/
def sinkTail (k : Nat) (tail : Nat) (bufs : List (Nat × Nat)) (s : Dev) : Dev :=
  let n := 2 ^ s.rfld (Reg.arcSinkSize k) 0 5
  let old := s.rfld (Reg.arcSinkTail k) 0 16
  let s := s.setFld (Reg.arcSinkTail k) 0 16 tail
  if ¬ (4 ≤ s.rfld (Reg.arcSinkSize k) 0 5 ∧ s.rfld (Reg.arcSinkSize k) 0 5 ≤ 16) then s
  else
    let x := s.sink k
    let new := (bufs.take ((tail % 65536 + n - old % n) % n)).map (fun b => ({ addr := b.1, len := b.2, used := 0 } : SinkBuf))
    let s := s.setSink k { x with bufs := x.bufs ++ new }
    let need := ((s.sink k).fifo.head?.map (·.octets.length)).getD 1
    sinkGo k (if need ≤ sinkRoom (s.sink k) then s.setBit (Reg.arcSinkStatus k) 1 false else s)

/-- No octet has arrived for SINK_IDLE after the end of a block: the buffer is closed (R353). -/
def sinkIdle (k : Nat) (s : Dev) : Dev :=
  let x := s.sink k
  match x.lastEnd, x.bufs with
  | some t, b :: _ =>
    if b.used = 0 ∨ ¬ sinkOn s k then s
    else closeBuf k false ((s.elapseTo (t + usCycles (1000 * max 1 (s.rfld (Reg.arcSinkCtrl k) 8 8)))))
  | _, _ => s

/-- A DMA error of a sink (R353): ERR, the buffer closed, source 0x3E4, and the sink disabled. -/
def sinkError (k : Nat) (s : Dev) : Dev :=
  if ¬ sinkOn s k ∨ (s.sink k).bufs.isEmpty then s
  else
    let s := (closeBuf k true s).setBit (Reg.arcSinkStatus k) 0 true
    occur 0x3E4 {} (s.setBit (Reg.arcSinkCtrl k) 0 false)

/-- The output is exhausted (R355): the block's words after its mark leave the FIFO, or, with the mark lost, the rest of the block follows as
zeros; the buffer is closed, and every further block is discarded until the sink has posted room. -/
def outputExhausted (k : Nat) (s : Dev) : Dev :=
  let x := s.sink k
  match x.job, x.heldAt with
  | some j, some t =>
    let need := (x.fifo.head?.map (·.octets.length)).getD 1
    if need ≤ sinkRoom x ∧ sinkOn s k then s
    else
      let s := s.elapseTo (t + usCycles (max 1 (s.rfld Reg.arcExhWait 0 16)))
      let s :=
        if x.markLost then
          let z := x.waiting.map (fun w => { w with octets := zeros w.octets.length, zero := true })
          (s.bump (Reg.arcFifoMarkLost (3 + k))).setSink k { x with job := none, waiting := z, marked := 0 }
        else s.setSink k { x with job := none, waiting := [], fifo := x.fifo.take (x.fifo.length - x.marked), marked := 0 }
      let s := closeBuf k false s
      let s := s.setBit (Reg.arcSinkStatus k) 1 true
      sinkGo k (if j.remote then blockLost s else dropJob 1 j s)
  | _, _ => s

/-! ### Enabling, and the FIFO depths -/

/-- `ARC.CFG.EN` is written (R364): with 0 nothing further is staged or exported. -/
def arcEn (en : Bool) (s : Dev) : Dev :=
  let was := s.rbit Reg.arcCfg 0
  let s := s.setBit Reg.arcCfg 0 en
  if was ∧ ¬ en then
    let s := s.chans.foldl (fun s p =>
      let s := p.2.recs.foldl (fun s r => recGap p.1 r.content (r.staged.length / 2) 4 p.2.owner s) s
      s.modChan p.1 (fun k => { k with recs := k.recs.map (fun r => { r with staged := [], nextNs := none }) })) s
    let lost := s.ledger.export_.length / 32
    let s := if lost = 0 then s else s.bump Reg.arcLdgLost lost
    f1Status { s with ledger := { s.ledger with export_ := [], exportAt := none, exportStamp := none } }
  else s

/-- `ARC.FIFO[f].CFG` is written (R356): while CFG.EN = 0, a depth of 16 to 512 in sixteens, and no more than 768 words in all. -/
def fifoCfg (f depth : Nat) (s : Dev) : Dev :=
  if s.rbit Reg.arcCfg 0 then s
  else
    let sum := ((upTo 6).map (fun i => if i = f then depth else fifoDepth s i)).sum
    if 16 ≤ depth ∧ depth ≤ 512 ∧ depth % 16 = 0 ∧ sum ≤ 768 then s.setFld (Reg.arcFifoCfg f) 0 10 depth
    else s.setBit Reg.arcStatus 2 true

/-- The flush time of the open export block passes (R362): it closes with END. -/
def exportFlush (s : Dev) : Dev :=
  match s.ledger.exportAt with
  | none => s
  | some t => exportClose true (s.elapseTo t)

end Sys2Proof.Machine
end

