-- ==== Sys2Proof/Machine/Echo.lean ====
section
/-! DEFINITION. Sparse-window echo cancellation (spec/09): windows, shadows and moves, the canceller's samples, tone states, non-linear processing,
repairs, and the echo record of a dossier. Taps count in 2⁻²⁴ (R258). The engine's rounding is open (`quot`). -/

namespace Sys2Proof.Machine

/-- A channel's canceller changed. -/
def modEcho (c : Nat) (f : Echo → Echo) (s : Dev) : Dev := s.modChan c (fun k => { k with echo := f k.echo })

/-- An event of the Echo Engine of the channel's home cluster (R265), stamped `t`. -/
def echoEventAt (t : Stamp) (c code : Nat) (data : Octets) (s : Dev) : Dev :=
  match s.chan? c with
  | none => s
  | some k => noteAt t (0x200 + 16 * (k.home / 16)) code (some (globalId k.owner c)) (toLe 4 c ++ data) s

/-- The same, stamped now: what no sample causes. -/
def echoEvent (c code : Nat) (data : Octets) (s : Dev) : Dev := echoEventAt s.now c code data s

/-- The octets of the echo record of R240 that the channel's PROFILE_IN carries, under the epoch of its instance (R81). -/
def echoRecordOf (s : Dev) (k : Channel) : Option Octets :=
  let cur : Bool := match k.active with | some i => decide (i.epoch = s.epochs.cur.epoch) | none => true
  let p := k.par 10 1
  let prof := if p = 0xFF then none else if cur then rfeProfile s (k.home / 16) p else rfePrevProfile s (k.home / 16) p
  prof.map (fun x => octs x.record 16 32)

/-- An octet of the echo record; zero where there is none. -/
def echoOct (s : Dev) (k : Channel) (off : Nat) : Nat := oct ((echoRecordOf s k).getD []) off

/-- A field of the echo record, or its default. -/
def echoField (s : Dev) (k : Channel) (off lo hi dflt : Nat) : Nat :=
  let v := echoOct s k off
  if (echoRecordOf s k).isSome ∧ lo ≤ v ∧ v ≤ hi then v else dflt

/-- CNG_OFFSET in 0.1 dB, zero taken literally. -/
def cngOffset (s : Dev) (k : Channel) : Int :=
  let v := signed 16 (le ((echoRecordOf s k).getD []) 18 2)
  if -200 ≤ v ∧ v ≤ 100 then v else 0

/-- TONE_MODE, taken literally. -/
def toneMode (s : Dev) (k : Channel) : Nat := echoField s k 20 0 255 0

/-- Taps of one window: 96 at 8 kHz, 192 otherwise (R235). -/
def windowTaps (k : Channel) : Nat := if k.par 2 1 = 0 then 96 else 192

/-- A shadow is abandoned (R249): the background takes the outgoing window from the foreground, and MOVE_ABANDON is recorded. -/
def shadowAbandon (t : Stamp) (c cause : Nat) (s : Dev) : Dev :=
  match (s.chan? c).bind (fun k => k.echo.shadow.map (fun x => (k, x))) with
  | none => s
  | some (k, x) =>
    let s := modEcho c (fun e => { e with bg := e.bg.set x.window (e.fg.getD x.window []), bgStarts := e.bgStarts.set x.window x.oldStart,
                                          shadow := none, held := 0 }) s
    echoEventAt t c 0x0401 ([BitVec.ofNat 8 x.window] ++ toLe 2 x.start ++ [BitVec.ofNat 8 cause]) (s.bump (Reg.eeAbandons (k.home / 16)))

/-- A cause's number (R265). -/
def abandonNum : AbandonCause → Nat
  | .shadowMax => 0 | .divergence => 1 | .tone => 2 | .span => 3 | .parity => 4

/-- The fade ends (R248): the foreground holds the new window with the shadow's taps. -/
def fadeEnd (t : Stamp) (c : Nat) (s : Dev) : Dev :=
  match (s.chan? c).bind (fun k => k.echo.fade.map (fun x => (k, x))) with
  | none => s
  | some (k, x) =>
    let s := modEcho c (fun e => { e with fg := e.fg.set x.window (e.bg.getD x.window []), starts := e.starts.set x.window x.start, fade := none }) s
    let ms := 1000 * k.echo.age / bandHz k.params
    echoEventAt t c 0x0400 ([BitVec.ofNat 8 x.window] ++ toLe 2 x.oldStart ++ toLe 2 x.start ++ toLe 2 (sat 16 ms))
      (s.bump (Reg.eeMoves (k.home / 16)))

/-- The canceller enters NLP_OFF (1) or DISABLED (2) (R254). -/
def toneDisable (t : Stamp) (c : Nat) (next : EchoTone) (s : Dev) : Dev :=
  match s.chan? c with
  | none => s
  | some k =>
    let s := shadowAbandon t c 2 s
    let s := modEcho c (fun e => { e with tone := next, quiet := 0, erle := if next = .disabled then 0 else e.erle }) s
    echoEventAt t c 0x0403 [if next = .disabled then 2 else 1] (s.bump (Reg.eeDisables (k.home / 16)))

/-- An answer tone without a reversal has been on for 400 ms at a media instant in ns (R254). -/
def answerLong (k : Channel) (ns : Nat) : Bool :=
  k.tonesOn.any (fun t => (t.cls == .ans || t.cls == .ansam) && t.reversals == 0 && decide (stampNs t.stamp + 400000000 ≤ ns))

/-- The tone events that the context holds as a node starts are applied (R254, R255). -/
def echoTones (t : Stamp) (c : Nat) (s : Dev) : Dev :=
  match s.chan? c with
  | none => s
  | some k =>
    let e := k.echo
    let s := modEcho c (fun e => { e with toneNext := none }) s
    if e.toneNext = some .disabled ∧ e.tone ≠ .disabled ∧ ¬ (toneMode s k).testBit 0 then toneDisable t c .disabled s else s

/-- A window of 12 ms at `x` is clear of those at `others`. -/
def clearAt (others : List Nat) (x : Nat) : Bool := others.all (fun o => decide (o + 12 ≤ x) || decide (x + 12 ≤ o))

/-- The lowest start at which a window lies inside the span clear of the others (R256). -/
def freeStart (span : Nat) (others : List Nat) : Option Nat := (upTo (span - 11)).find? (clearAt others)

/-- A window zeroed and moved. -/
def windowTo (w x : Nat) (e : Echo) : Echo :=
  { e with starts := e.starts.set w x, bgStarts := e.bgStarts.set w x, fg := e.fg.set w [], bg := e.bg.set w [] }

/-- The windows packed downwards from the end of a span of at least 48 ms, in the order of their starts: each that does not end before the next one's
start is zeroed and moved to end there. -/
def windowsPacked (span : Nat) (e : Echo) : Echo :=
  let order := sorted (fun a b => decide (e.starts.getD b 0 ≤ e.starts.getD a 0)) (upTo 4)
  (order.foldl (fun (a : Echo × Nat) w =>
    if a.1.starts.getD w 0 + 12 ≤ a.2 then (a.1, a.1.starts.getD w 0) else (windowTo w (a.2 - 12) a.1, a.2 - 12)) (e, span)).1

/-- One window brought inside a reduced span: zeroed and moved to the lowest free start. Where none is free, R256 names the highest free start, of which
there is none, and R235 keeps windows apart: the windows are packed downwards from the end of the span (DESIGN CHOICE, log entry 68). -/
def windowInside (span w : Nat) (e : Echo) : Echo :=
  if e.starts.getD w 0 + 12 ≤ span then e
  else match freeStart span (((upTo 4).filter (· != w)).map (fun x => e.starts.getD x 0)) with
    | some x => windowTo w x e
    | none => windowsPacked span e

/-- EC_TAIL has changed (R236, R256): the windows under the new span. A cross-fade ends first, so that its window is judged where it goes (DESIGN CHOICE,
log entry 68). -/
def spanChange (t : Stamp) (c span : Nat) (s : Dev) : Dev :=
  match s.chan? c with
  | none => s
  | some k =>
    let e := k.echo
    if e.span = span then s
    else if e.span = 0 then modEcho c (fun e => { e with span := span }) s
    else
      let out : Bool := match e.shadow with | some x => decide (span < x.start + 12) | none => false
      let s := if out ∨ span ≤ 48 then shadowAbandon t c 3 s else s
      let s := if span < e.span ∨ span ≤ 48 then fadeEnd t c s else s
      if span ≤ 48 then
        modEcho c (fun e =>
          let home (w : Nat) : Bool := e.starts.getD w 0 == 12 * w
          { e with span := span, starts := [0, 12, 24, 36], bgStarts := [0, 12, 24, 36], held := 0, lastProp := 0, loc := {},
                   fg := (upTo 4).map (fun w => if home w then e.fg.getD w [] else []),
                   bg := (upTo 4).map (fun w => if home w then e.bg.getD w [] else []) }) s
      else
        modEcho c (fun e =>
          let e := if span < e.span then (upTo 4).foldl (fun e w => windowInside span w e) e else { e with held := 0, lastProp := 0, loc := {} }
          { e with span := span }) s

/-! ### The two signals (R233, R234) -/

/-- The reference sample `j` samples before the newest one; zero outside the history. -/
def refAt (e : Echo) (j : Int) : Int := if j < 0 then 0 else e.ref.getD j.toNat 0

/-- `n` reference samples from lag index `j` on, each older than the last. -/
def refFrom (e : Echo) (j : Int) (n : Nat) : List Int :=
  if 0 ≤ j then let xs := (e.ref.drop j.toNat).take n; xs ++ List.replicate (n - xs.length) 0 else (upTo n).map (fun (i : Nat) => refAt e (j + i))

/-- The history index of the reference sample that left the pins at a media instant. -/
def refIndex (e : Echo) (hz ns : Nat) : Int := samplesBetween hz ns e.refEnd - 1

/-- The reference history reaches the end of the farthest window for a near-end sample at index `j` (R242). -/
def historyFull (e : Echo) (hz : Nat) (j : Int) : Bool := decide (j + ((greatest e.starts + 12) * hz / 1000 : Nat) ≤ e.ref.length)

/-! ### Filters (R241) -/

/-- A window's share of an estimate, in 2⁻²⁴. -/
def windowSum (e : Echo) (hz : Nat) (j : Int) (start : Nat) (taps : Taps) : Int :=
  ((taps.zip (refFrom e (j + (start * hz / 1000 : Nat)) taps.length)).map (fun p => p.1.toInt * p.2)).sum

/-- The background's windows on the reference: start, taps and samples of each. -/
def bgWindows (e : Echo) (hz n : Nat) (j : Int) : List (Taps × List Int) :=
  (upTo 4).map (fun w => (let t := e.bg.getD w []; if t.isEmpty then List.replicate n 0 else t, refFrom e (j + (e.bgStarts.getD w 0 * hz / 1000 : Nat)) n))

/-- The foreground's estimate of the echo; in a cross-fade of `len` samples, with the moving window weighted from its old place to its new one (R248). -/
def estimateF (e : Echo) (hz len : Nat) (j : Int) : Int :=
  let of (w : Nat) : Int :=
    let old := windowSum e hz j (e.starts.getD w 0) (e.fg.getD w [])
    match e.fade with
    | some x => if x.window = w then
        quot (old * ((len - e.faded : Nat) : Int) + windowSum e hz j x.start (e.bg.getD w []) * ((min len e.faded : Nat) : Int)) (max 1 len)
      else old
    | none => old
  quot (((upTo 4).map of).sum) (2 ^ 24)

/-- The mean square of a level in 0.01 dBFS, rounded down. -/
def powerAt (x : Int) : Nat := (searchUp (fun p => dbGe (fullScale ^ 2) (2 * p.toNat) (-x)) 0 47).toNat

/-- ALPHA in 1/16 (R240): zero and what is out of range select −8, and 0x80 selects 0. -/
def alphaOf (v : Nat) : Int := if v = 0x80 then 0 else let a := signed 8 v; if a = 0 ∨ a < -15 ∨ 15 < a then -8 else a

/-- Proportionate NLMS (R241) on the background's windows: `step` is STEP, `a` ALPHA, `floor_` the far-end power at ADAPT_MIN − 10 dB, and `err` e_b. -/
def nlms (step : Nat) (a : Int) (floor_ : Nat) (err : Int) (ws : List (Taps × List Int)) : List Taps :=
  let l := ((ws.map (·.1.length)).sum : Nat)
  let sum := ((ws.flatMap (·.1)).map (fun w => w.toInt.natAbs)).sum
  let g (w : Word) : Int := (16 - a) * (2 * sum + 1 : Nat) + 2 * l * (16 + a) * (w.toInt.natAbs : Nat)
  let gx := ((ws.flatMap (fun p => p.1.zip p.2)).map (fun p => g p.1 * p.2 ^ 2)).sum
  let den : Int := gx + (l * floor_ * (32 * l * (2 * sum + 1)) : Nat)
  ws.map (fun p => (p.1.zip p.2).map (fun q => BitVec.ofInt 32 (q.1.toInt + quot (65536 * step * g q.1 * err * q.2) (max 1 den))))

/-! ### The locator (R245) -/

/-- An average after one value: unchanged where the value is the average itself. -/
def averaged (tau : Nat) (old new : Int) : Int := if old = new then old else Config.averaged tau old new

/-- The locator after one decimated sample of each signal. -/
def locatorTake (tau span : Nat) (x y : Int) (l : Locator) : Locator :=
  let xs := (x :: l.xs).take span
  { xs := xs, r := (upTo span).map (fun i => averaged tau (l.r.getD i 0) (xs.getD i 0 * y)),
    px := (upTo span).map (fun i => averaged tau (l.px.getD i 0) (xs.getD i 0 ^ 2)), py := averaged tau l.py (y ^ 2) }

/-- The square of a correlation, in 2⁻³⁰. -/
def corrSq (r d1 d2 : Int) : Nat := if d1 * d2 = 0 then Config.corrNone else (r ^ 2 * 2 ^ 30 / (d1 * d2)).toNat

/-- A correlation lies under a threshold in 1/256. -/
def corrUnder (th : Nat) (r d1 d2 : Int) : Bool :=
  if d1 * d2 = 0 then decide (Config.corrNone < th ^ 2 * 2 ^ 14) else decide (r ≤ 0 ∨ r ^ 2 * 65536 < th ^ 2 * (d1 * d2))

/-- The energy of the region of twelve lags that starts at `x`. -/
def regionEnergy (l : Locator) (x : Nat) : Nat := ((upTo 12).map (fun i => corrSq (l.r.getD (x + i) 0) (l.px.getD (x + i) 0) l.py)).sum

/-- The locator's largest c(l) lies under a threshold. -/
def locatorUnder (th : Nat) (l : Locator) : Bool := (l.r.zip l.px).all (fun p => corrUnder th p.1 p.2 l.py)

/-- The energy of a window's foreground coefficients. -/
def tapEnergy (t : Taps) : Nat := (t.map (fun w => w.toInt.natAbs ^ 2)).sum

/-- The least useful window (R245): least region energy, then least foreground coefficient energy, then highest number. -/
def leastWindow (e : Echo) : Nat :=
  let en (w : Nat) : Nat := regionEnergy e.loc (e.starts.getD w 0)
  let co (w : Nat) : Nat := tapEnergy (e.fg.getD w [])
  [1, 2, 3].foldl (fun b w => if en w < en b ∨ (en w = en b ∧ co w ≤ co b) then w else b) 0

/-- The proposal of R246: the start of the greatest region clear of every window but `least`; ties go to the lowest. -/
def proposal (e : Echo) (span least : Nat) : Option Nat :=
  let others := ((upTo 4).filter (· != least)).map (fun w => e.starts.getD w 0)
  (upTo (span - 11)).foldl (fun (b : Option Nat) x =>
    if clearAt others x then
      match b with
      | none => some x
      | some y => if regionEnergy e.loc y < regionEnergy e.loc x then some x else b
    else b) none

/-! ### What changes the filters -/

/-- A repair of a line of echo state (R260, R261). The manual does not say how a reference line lies in the history: the samples until it has left are
free. -/
def echoRepair (t : Stamp) (c : Nat) (line : EchoLine) (s : Dev) : Dev :=
  match s.chan? c with
  | none => s
  | some k =>
    let s := modStats c (fun t => { t with repairs := t.repairs + 1 }) ((s.bump (Reg.eeRepairs (k.home / 16))).bump (Reg.tileDmemPar k.home))
    let tell (l w : Nat) (s : Dev) : Dev := echoEventAt t c 0x0405 [BitVec.ofNat 8 l, BitVec.ofNat 8 w] s
    match line with
    | .foreground w =>
      if k.echo.fade.isSome then fadeEnd t c (tell 0 w.val (modEcho c (fun e => { e with fg := e.bg }) s))
      else tell 0 w.val (modEcho c (fun e => { e with fg := e.fg.set w.val (e.bg.getD w.val []) }) s)
    | .background w =>
      if k.echo.fade.isSome then
        fadeEnd t c (tell 1 w.val (modEcho c (fun e =>
          let bg := e.bg.set w.val (e.fg.getD w.val [])
          { e with bg := bg, fg := bg }) s))
      else
        let s := shadowAbandon t c 4 s
        tell 1 w.val (modEcho c (fun e => { e with bg := e.bg.set w.val (e.fg.getD w.val []) }) s)
    | .both w => tell 2 w.val (modEcho c (fun e => { e with fg := e.fg.set w.val [], bg := e.bg.set w.val [] }) s)
    | .reference =>
      let (n, s) := s.drawBelow (max 1 k.echo.ref.length)
      tell 3 0 (modEcho c (fun e => { e with refBad := k.echo.ref.length - n, ref := e.ref.set n 0 }) s)
    | .locator => tell 4 0 (modEcho c (fun e => { e with held := 0, loc := {} }) s)

/-- The foreground takes the background's taps; with a shadow, the move's cross-fade begins (R243, R248). -/
def copyTaps (c : Nat) (s : Dev) : Dev :=
  modEcho c (fun e => match e.shadow with
    | none => { e with fg := e.bg, copies := 0 }
    | some x => { e with fg := e.bg.set x.window (e.fg.getD x.window []), shadow := none, fade := some x, copies := 0, faded := 0 }) s

/-- The background takes the foreground's taps and windows (R243). -/
def resetTaps (t : Stamp) (c excess : Nat) (s : Dev) : Dev :=
  match s.chan? c with
  | none => s
  | some k =>
    let s := shadowAbandon t c 1 s
    let s := modEcho c (fun e => { e with bg := e.fg, bgStarts := e.starts, resets := 0 }) s
    echoEventAt t c 0x0402 (toLe 2 (sat 16 excess)) (s.bump (Reg.eeDiverge (k.home / 16)))

/-- A run of the placement loop (R246). -/
def placementLoop (c span : Nat) (s : Dev) : Dev :=
  match s.chan? c with
  | none => s
  | some k =>
    let e := k.echo
    if span ≤ 48 ∨ e.tone ≠ .enabled ∨ e.dt ∨ e.shadow.isSome ∨ e.fade.isSome then s
    else
      let least := leastWindow e
      match proposal e span least with
      | none => s
      | some p =>
        let near := decide ((p : Int) - e.lastProp ≤ 2) && decide ((e.lastProp : Int) - p ≤ 2)
        let held := if 0 < e.held ∧ near then e.held + 1 else 1
        let hold := echoField s k 7 2 10 3
        let margin := echoField s k 8 2 40 6
        let en := regionEnergy e.loc p
        let el := regionEnergy e.loc (e.starts.getD least 0)
        if hold ≤ held ∧ el ^ 20 * 10 ^ margin ≤ en ^ 20 then
          modEcho c (fun e => { e with held := 0, lastProp := p, bg := e.bg.set least [], bgStarts := e.bgStarts.set least p,
                                       shadow := some ⟨least, p, e.starts.getD least 0⟩, copies := 0, resets := 0, age := 0, idle := 0 }) s
        else modEcho c (fun e => { e with held := held, lastProp := p }) s

/-- The canceller returns to ENABLED (R254). -/
def releaseTone (t : Stamp) (c : Nat) (s : Dev) : Dev :=
  match s.chan? c with
  | none => s
  | some k =>
    if k.echo.tone = .enabled then s
    else echoEventAt t c 0x0404 [if k.echo.tone = .disabled then 2 else 1] (modEcho c (fun e => { e with tone := .enabled, quiet := 0 }) s)

/-! ### The samples of a node (R238, R241 to R246) -/

/-- The far-end level over the last 10 ms is at or above −ADAPT_MIN dBm0. -/
def farLevel (s : Dev) (k : Channel) (hz : Nat) (j : Int) : Bool :=
  levelGe (energy (refFrom k.echo j (hz / 100))) (hz / 100) (-(100 * (echoField s k 2 20 60 40 : Nat) : Int) - dbm0 k.legs.line)

/-- The background may adapt (R242) at a sample whose reference lies at index `j`. -/
def mayAdapt (s : Dev) (k : Channel) (hz : Nat) (j : Int) : Bool :=
  let e := k.echo
  farLevel s k hz j && !e.dt && e.tone == .enabled && e.fade.isNone && historyFull e hz j && e.refBad == 0

/-- Double-talk after the tests of one sample (R244): DT_HOLD after both have stopped firing it clears. -/
def doubleTalk (hold : Nat) (fires : Bool) (e : Echo) : Echo :=
  if fires then { e with dt := true, dtLeft := hold, copies := if e.dt then e.copies else 0, resets := if e.dt then e.resets else 0 }
  else if e.dt ∧ e.dtLeft ≤ 1 then { e with dt := false, dtLeft := 0 }
  else { e with dtLeft := e.dtLeft - 1 }

/-- Sums over the ms. -/
def sumsOf (l : List EchoSums) : EchoSums :=
  l.foldl (fun a m => ⟨a.x + m.x, a.y + m.y, a.f + m.f, a.b + m.b, a.h + m.h, a.yh + m.yh⟩) {}

/-- The end of a ms at instant `t` (R243 to R246, R249, R254, R262): the powers are updated and judged, the locator takes its decimated samples `d`, and
every tenth ms the placement loop runs. The two correlations of R244 and the levels of R254 are judged here too (DESIGN CHOICE, log entry 69). -/
def echoMs (t : Stamp) (c span : Nat) (far : Bool) (d : Int × Int) (s : Dev) : Dev :=
  match s.chan? c with
  | none => s
  | some k =>
    let hz := bandHz k.params
    let e := k.echo
    let ms := (e.acc :: e.ms).take 10
    let p := sumsOf ms
    let fld_ := echoField s k
    let qual := far && !e.dt
    let copyMargin := fld_ 9 1 100 10
    let copyHold := fld_ 10 10 255 50
    let resetMargin := fld_ 11 2 40 12
    let adapting := e.tone != .disabled && e.fade.isNone
    let copies := if ¬ qual then e.copies else if 0 < p.f ∧ p.b ^ 100 * 10 ^ copyMargin ≤ p.f ^ 100 then e.copies + 1 else 0
    let resets := if ¬ qual then e.resets else if 0 < p.b ∧ p.f ^ 20 * 10 ^ resetMargin ≤ p.b ^ 20 then e.resets + 1 else 0
    let loc := if span ≤ 48 then e.loc else locatorTake (fld_ 6 4 64 16) span d.1 d.2 e.loc
    let th := fld_ 4 64 250 154
    let em := if qual ∧ e.tone ≠ .disabled then ((e.acc.y, e.acc.f) :: e.erleMs).take 1000 else e.erleMs
    let (ty, tf) := ((em.map (·.1)).sum, (em.map (·.2)).sum)
    let rel := -(100 * (fld_ 21 20 50 36 : Nat) : Int) - dbm0 k.legs.line
    let quiet := !levelGe p.x (hz / 100) rel && !levelGe p.y (hz / 100) rel
    let s := modEcho c (fun e => { e with
      acc := {}, inMs := 0, ms := ms, count := e.count + 1, copies := copies, resets := resets, loc := loc,
      coh := corrUnder th p.yh p.y p.h && locatorUnder th loc, erleMs := em,
      erle := if e.tone = .disabled then 0 else if em.isEmpty then e.erle else if tf = 0 then Config.erleNone else (dbOf ty tf).toNat,
      quiet := if quiet then e.quiet + hz / 1000 else 0, heard := e.heard ++ [(far && adapting && e.tone == .enabled && !e.dt, e.dt)] }) s
    let s := if adapting ∧ copyHold ≤ copies then copyTaps c s
             else if adapting ∧ copyHold ≤ resets then resetTaps t c ((dbOf p.b p.f / 10).toNat) s else s
    let s := if (e.count + 1) % 10 = 0 then placementLoop c span s else s
    if hz * fld_ 22 10 100 25 / 100 ≤ (if quiet then e.quiet + hz / 1000 else 0) then releaseTone t c s else s

/-- One sample `y` of the near-end signal, at media instant `ns` (R238): e_f and the estimate, and what holds from the next sample on. -/
def echoSample (c span : Nat) (tepoch : Nat) (a : List Int × List Int × List (Int × Int) × Dev) (p : Int × Nat) : List Int × List Int × List (Int × Int) × Dev :=
  let (outs, ests, dec, s) := a
  let (y, ns) := p
  let t := stampAt ns tepoch
  match s.chan? c with
  | none => (outs ++ [y], ests ++ [0], dec, s)
  | some k =>
    let s := if k.echo.tone = .enabled ∧ answerLong k ns ∧ ¬ (toneMode s k).testBit 1 then toneDisable t c .nlpOff s else s
    match s.chan? c with
    | none => (outs ++ [y], ests ++ [0], dec, s)
    | some k =>
      let hz := bandHz k.params
      let e := k.echo
      let n := windowTaps k
      let j := refIndex e hz ns
      let fadeLen := hz * echoField s k 12 1 20 5 / 1000
      let h := estimateF e hz fadeLen j
      let f := y - h
      let ws := bgWindows e hz n j
      let b := if e.fade.isSome then 0 else y - quot ((ws.map (fun p => ((p.1.zip p.2).map (fun q => q.1.toInt * q.2)).sum)).sum) (2 ^ 24)
      let far := farLevel s k hz j
      let bg := if mayAdapt s k hz j then
          nlms (echoField s k 0 1 255 128) (alphaOf (echoOct s k 1)) (powerAt (-(100 * (echoField s k 2 20 60 40 + 10 : Nat) : Int) - dbm0 k.legs.line)) b ws
        else e.bg
      let x := refAt e j
      let acc : EchoSums := ⟨e.acc.x + x.natAbs ^ 2, e.acc.y + y.natAbs ^ 2, e.acc.f + f.natAbs ^ 2, e.acc.b + b.natAbs ^ 2, e.acc.h + h.natAbs ^ 2,
                             e.acc.yh + y * h⟩
      let most := peakOf (refFrom e j (span * hz / 1000))
      let fires := decide (most ^ 40 < y.natAbs ^ 40 * 10 ^ echoField s k 3 1 48 12) || e.coh
      let counts := e.shadow.isSome && !e.dt && e.tone == .enabled
      let s := modEcho c (fun e => doubleTalk (hz * echoField s k 5 1 255 40 / 1000) fires { e with
        bg := bg, acc := acc, inMs := e.inMs + 1, fill := e.fill && !historyFull e hz j, faded := if e.fade.isSome then e.faded + 1 else 0,
        age := e.age + 1, idle := if counts then e.idle + 1 else e.idle }) s
      let s := if e.fade.isSome ∧ fadeLen ≤ e.faded + 1 then fadeEnd t c s else s
      let s := if counts ∧ hz * echoField s k 13 5 100 20 / 100 ≤ e.idle + 1 then shadowAbandon t c 0 s else s
      let (dec, s) := if e.inMs + 1 < hz / 1000 then (dec, s) else (dec.drop 1, echoMs t c span far (dec.headD (0, 0)) s)
      ((outs ++ [if e.tone = .disabled then y else limit f]), ests ++ [if e.tone = .disabled then 0 else h], dec, s)

/-- An echo node of channel `c` on cluster `n` (R233 to R262), taken while the engine was enabled (`on`): its near-end samples in order, `dec` the locator's
1 kHz samples. -/
def echoNode (n c : Nat) (on : Bool) (repair : Option EchoLine) (dec : List (Int × Int)) (s : Dev) : Dev :=
  match (s.chan? c).bind (fun k => k.active.map (fun i => (k, i))) with
  | none => s
  | some (k, i) =>
    let s := s.bump64 (Reg.eeNodes n)
    if ¬ on then s.bump (Reg.eePassNodes n)
    else
      let hz := bandHz i.params
      let near := k.media.nearBand
      let ys := near.first (frameSamples i.frame hz)
      let from_ := if near.samples.isEmpty then i.spawnTick * tickNs - i.frame * tickNs else near.stamp
      let t := stampAt from_ i.tepoch
      let span := ecTailMs i.params
      let s := echoTones t c (spanChange t c span s)
      let s := match repair with | some l => echoRepair t c l s | none => s
      let s := modEcho c (fun e => { e with heard := [] }) s
      let ps := ys.zipIdx.map (fun p => (p.1, from_ + p.2 * 1000000000 / hz))
      let (outs, ests, _, s) := ps.foldl (echoSample c span i.tepoch) ([], [], dec, s)
      let side := sideHz i
      s.modChan c (fun k => { k with media := { k.media with
        est := { near with hz := hz, samples := ests },
        up := { k.media.near with samples := if side = hz then outs else fit (frameSamples i.frame side) (Config.bandLess side k.media.near.samples ests) } } })

/-! ### Non-linear processing and comfort noise (R251, R252, R259) -/

/-- A band's target gain in 2⁻¹⁶: `e10` the near-end and residual power of the last 10 ms of adaptation. -/
def bandGain (overSub dtMax floor_ : Nat) (dt : Bool) (est res : Nat) (e10 : Nat × Nat) : Nat :=
  let re := est * e10.2 * dbRatio overSub
  let g := if res = 0 then 65536 else 65536 - min 65536 (re / (max 1 e10.1 * res))
  let least := (searchUp (fun x => decide (x.toNat ^ 10 * 10 ^ dtMax ≤ 2 ^ 160)) 0 17).toNat
  let g := if dt then max g least else g
  if g ^ 10 * 10 ^ floor_ < 2 ^ 160 then 0 else g

/-- Band by band over a list of powers. -/
def bandOf (l : List Nat) (b : Nat) : Nat := l.getD b 0

/-- One ms of the NLP (R251, R252): the channel's near-end signal exceeds the dossier's far-end level less GEIGEL_TH (`loud`), the background might adapt
(`adapts`), and double-talk stands (`dt`). -/
def nlpMs (s : Dev) (k : Channel) (span : Nat) (loud : Bool) (h : Bool × Bool) (m : NlpMs) (p : Nlp) : Nlp :=
  let fld_ := echoField s k
  let far := (m.far :: p.far).take span
  let erle := if h.1 then ((m.near, m.res) :: p.erle).take 10 else p.erle
  let res := (m.res :: p.res).take 2000
  let dtMax := fld_ 17 1 20 6
  let target (b : Nat) : Nat :=
    if k.echo.fill then
      (if loud then (searchUp (fun x => decide (x.toNat ^ 10 * 10 ^ dtMax ≤ 2 ^ 160)) 0 17).toNat else 0)
    else
      let quiet := !levelGe ((far.map (bandOf · b)).sum) (max 1 far.length) (-6000 - dbm0 k.legs.line)
      if quiet then 65536
      else bandGain (fld_ 16 1 24 6) dtMax (fld_ 15 12 80 30) h.2 (bandOf m.est b) (bandOf m.res b)
        ((erle.map (fun e => bandOf e.1 b)).sum, (erle.map (fun e => bandOf e.2 b)).sum)
  let smooth (old new : Nat) : Nat := (averaged (if old < new then 20 else 1) old new).toNat
  let least (b : Nat) : Nat := (res.map (bandOf · b)).foldl min (bandOf m.res b)
  let noise (b : Nat) : Nat :=
    match p.noise[b]? with
    | none => least b
    | some v => if least b ≤ v then least b else min (least b) (v * 1000690 / 1000000)
  { gain := (upTo 16).map (fun b => smooth (bandOf p.gain b) (target b)), erle := erle, far := far, res := res, noise := (upTo 16).map noise }

/-- An NLP/CNG node of channel `c` on cluster `n`: the bands of every ms, and the output. It passes e_f unchanged while the canceller is in NLP_OFF or
DISABLED (R253). -/
def nlpNode (n c : Nat) (parity : Bool) (ms : List NlpMs) (s : Dev) : Dev :=
  match (s.chan? c).bind (fun k => k.active.map (fun i => (k, i))) with
  | none => s
  | some (k, i) =>
    let s :=
      if parity then
        let s := (s.bump (Reg.eeRepairs n)).bump (Reg.tileDmemPar k.home)
        echoEventAt (stampAt k.media.near.stamp i.tepoch) c 0x0405 [5, 0]
          ((modEcho c (fun e => { e with nlp := {} }) (modStats c (fun t => { t with repairs := t.repairs + 1 }) s)))
      else s
    match s.chan? c with
    | none => s
    | some k =>
      let e := k.echo
      if e.tone ≠ .enabled then s
      else
        let span := ecTailMs i.params
        let near := k.media.nearBand
        let loud : Bool := match e.fillFar with
          | some l => levelGe (energy near.samples) (max 1 near.samples.length) (l - 50 * (echoField s k 3 1 48 12 : Nat))
          | none => false
        let p := (ms.zip e.heard).foldl (fun p m => nlpMs s k span loud m.2 m.1 p) e.nlp
        let up := k.media.up
        let out := if p.gain.all (· == 65536) then up.samples
          else fit up.samples.length (Config.nlpOut up.hz (echoField s k 14 1 2 1 == 1) (cngOffset s k) (p.gain ++ [bandOf p.gain 15]) p.noise up.samples)
        s.setChan c { k with echo := { e with nlp := p }, media := { k.media with up := { up with samples := out } } }

/-! ### The commands -/

/-- The canceller of a channel runs: its engine is enabled. -/
def echoRuns (s : Dev) (k : Channel) : Bool := s.domainServed (1 + k.home / 16) && s.rbit (Reg.eeCfg (k.home / 16)) 0

/-- The engine may change the filters of a channel: it runs, and neither double-talk, a cross-fade nor a tone state stands against it. -/
def echoFree (s : Dev) (k : Channel) : Bool := echoRuns s k && !k.echo.dt && k.echo.fade.isNone && k.echo.tone == .enabled

/-- ECHO_COPY (R243, R248). -/
def echoCopy (c : Nat) (s : Dev) : Dev :=
  match s.chan? c with
  | none => s
  | some k => if echoFree s k then copyTaps c s else s

/-- DIVERGE (R243). -/
def diverge (c excess : Nat) (s : Dev) : Dev :=
  match s.chan? c with
  | none => s
  | some k => if echoFree s k then resetTaps s.now c excess s else s

/-- PLACEMENT_RUN (R246). -/
def placementRun (c : Nat) (s : Dev) : Dev :=
  match s.chan? c with
  | none => s
  | some k => if echoRuns s k then placementLoop c (ecTailMs k.params) s else s

/-- WINDOW_MOVE (R248). -/
def windowMove (c : Nat) (s : Dev) : Dev := fadeEnd s.now c s

/-- MOVE_ABANDON (R249). -/
def moveAbandon (c : Nat) (cause : AbandonCause) (s : Dev) : Dev := shadowAbandon s.now c (abandonNum cause) s

/-- DOUBLE_TALK_CLEAR (R244). -/
def doubleTalkClear (c : Nat) (s : Dev) : Dev := modEcho c (fun e => { e with dt := false, dtLeft := 0 }) s

/-- TONE_RELEASE (R254). -/
def toneRelease (c : Nat) (s : Dev) : Dev :=
  match s.chan? c with
  | none => s
  | some k => if echoRuns s k then releaseTone s.now c s else s

/-- `EE.STATUS`: PASS and BUSY. -/
def eeStatus (n : Nat) (s : Dev) : Dev :=
  (s.setBit (Reg.eeStatus n) 0 (enginePass s n .ee (s.rbit (Reg.eeCfg n) 0))).setBit (Reg.eeStatus n) 1 (engineBusy s n .ee)

/-- A write of `EE.CFG.EN` (R257): enabled again, the reference histories start from zero. -/
def eeEnWrite (n : Nat) (en : Bool) (s : Dev) : Dev :=
  let was := s.rbit (Reg.eeCfg n) 0
  let s := eeStatus n (s.setBit (Reg.eeCfg n) 0 en)
  if en ∧ ¬ was then (homedIn s n).foldl (fun s q => modEcho q.1 (fun e => { e with ref := [], refBad := 0 }) s) s else s

/-! ### The echo record of a dossier (R258, R259) -/

/-- The echo record: `taps` are the exponents and mantissae of the foreground. -/
def echoRecord (k : Channel) (taps : Octets) : Octets :=
  let e := k.echo
  let tone := match e.tone with | .enabled => 0 | .nlpOff => 1 | .disabled => 2
  let on := (k.par 6 2).testBit 0
  let wide := k.par 2 1 != 0
  let t := padTo 962 taps
  ((upTo 4).map (fun w => BitVec.ofNat 8 (e.starts.getD w 0))) ++ t.take 2 ++ [BitVec.ofNat 8 (tone + 4 * on.toNat + 8 * wide.toNat), 0] ++
    (if wide then t.drop 2 else octs t 2 480 ++ zeros 480)

/-- Mantissa `i` of the record's taps: ten bits, two's complement, packed from the least significant bit. -/
def mantissa (o : Octets) (i : Nat) : Int := signed 10 (nfld (le o (8 + 10 * i / 8) 2) (10 * i % 8) 10)

/-- The foreground that a record holds: a tap is its mantissa by two to its window's exponent, in units of 2⁻²⁴. -/
def recordTaps (o : Octets) (n w : Nat) : Taps :=
  (upTo n).map (fun i => BitVec.ofInt 32 (mantissa o (n * w + i) * 2 ^ nfld (le o 4 2) (4 * w) 4))

/-- The canceller as a restore sets it (R259), with FILL running. -/
def echoRestored (k : Channel) (o : Octets) : Echo :=
  let n := windowTaps k
  let st := (upTo 4).map (fun w => oct o w)
  let t := (upTo 4).map (recordTaps o n)
  { starts := st, bgStarts := st, fg := t, bg := t, fill := true, span := ecTailMs k.params, fillFar := k.rfeOut.rms,
    tone := match nfld (oct o 6) 0 2 with | 1 => .nlpOff | 2 => .disabled | _ => .enabled }

/-- RESTORED (R259, R265): the length of FILL is the time until the history reaches the end of the farthest window. -/
def echoRestore (c : Nat) (o : Octets) (s : Dev) : Dev :=
  match s.chan? c with
  | none => s
  | some k =>
    let e := echoRestored k o
    tileEvent c 0x0406 (toLe 2 (greatest e.starts + 12)) (s.setChan c { k with echo := e })

end Sys2Proof.Machine
end

