-- ==== Sys2Proof/Machine/ToneBins.lean ====
section
/-! DEFINITION. The bins of the Tone Detector (R303 to R306): noise floors, presence, onsets and ends, and the classes of R306 whose components and
times the limits decide. Frequencies are in 0.1 Hz. -/

namespace Sys2Proof.Machine

/-! ### Classes (R306) -/

/-- The frequencies of a class's components. -/
def classFreqs : ToneClass → List Nat
  | .dtmf => [6970, 7700, 8520, 9410, 12090, 13360, 14770, 16330]
  | .mfr1 => [7000, 9000, 11000, 13000, 15000, 17000]
  | .mfcFwd => [13800, 15000, 16200, 17400, 18600, 19800]
  | .mfcBwd => [11400, 10200, 9000, 7800, 6600, 5400]
  | .sit => [9138, 9852, 13706, 14285, 17767]
  | .v21 => [16500, 18500]
  | .ans => [21000]
  | .ansam => [21000]
  | .cng => [11000]
  | .callProgress => []

/-- How far a component of a class may lie from its nominal frequency: accepted, and rejected beyond. `ftol` is FTOL of a call-progress definition. -/
def classTol (c : ToneClass) (ftol nominal : Nat) : Nat × Nat :=
  match c with
  | .dtmf => (nominal * 15 / 1000, nominal * 35 / 1000)
  | .mfr1 => (nominal * 15 / 1000 + 50, nominal * 35 / 1000 + 50)
  | .mfcFwd => (100, 250)
  | .mfcBwd => (100, 250)
  | .sit => (nominal * 15 / 1000, nominal * 30 / 1000)
  | .v21 => (300, 600)
  | .ans => (210, 350)
  | .ansam => (210, 350)
  | .cng => (380, 600)
  | .callProgress => (nominal * ftol / 1000, nominal * 2 * ftol / 1000)

/-- The levels of a component that a class accepts, in dBm0. -/
def classLevels : ToneClass → Int × Int
  | .dtmf => (-30, 0)
  | .mfr1 => (-25, 0)
  | .mfcFwd => (-35, -5)
  | .mfcBwd => (-35, -5)
  | .sit => (-40, 0)
  | .v21 => (-43, 0)
  | .ans => (-31, 0)
  | .ansam => (-31, 0)
  | .cng => (-43, 0)
  | .callProgress => (-45, 0)

/-- The share of a window's power, in percent, that a class's components hold (R303). -/
def classShare : ToneClass → Nat
  | .dtmf => 80
  | .mfr1 => 80
  | .mfcFwd => 80
  | .mfcBwd => 80
  | .ans => 90
  | .ansam => 90
  | .cng => 90
  | .callProgress => 70
  | .sit => 70
  | .v21 => 70

/-- The gap in ms that does not end a tone of a class (R304, R306). -/
def bridgedMs (c : ToneClass) : Nat := if c = .dtmf then 10 else 0

/-- The duration in ms from which a tone is accepted: KP of MF R1 takes 55 ms. -/
def acceptMs (c : ToneClass) (value : Nat) : Nat :=
  match c with
  | .dtmf => 40
  | .mfr1 => if value = 10 then 55 else 30
  | .mfcFwd => 30
  | .mfcBwd => 30
  | _ => 250

/-- The duration in ms up to which a tone is rejected. -/
def rejectMs (c : ToneClass) : Nat :=
  match c with
  | .dtmf => 20
  | .mfr1 => 10
  | .mfcFwd => 8
  | .mfcBwd => 8
  | _ => 0

/-- The classes whose components and duration decide a recognition; the others are known by cadences, segments, modulation or flags. -/
def autoClasses : List ToneClass := [.dtmf, .mfr1, .mfcFwd, .mfcBwd, .ans, .cng]

/-- The bins of a program at a listening point (R301). -/
def progBins (o r : Octets) (recv : Bool) : List Nat :=
  let m := le r (if recv then 2 else 0) 2
  let of (b : Nat) (c : ToneClass) : List Nat := if m.testBit b then classFreqs c else []
  of 0 .dtmf ++ of 1 .mfr1 ++ of 2 .mfcFwd ++ of 3 .mfcBwd ++ of 4 .sit ++ of 5 .v21 ++
    (if m.testBit 6 ∨ m.testBit 7 then [21000] else []) ++ of 8 .cng ++ (if (oct r 28).testBit recv.toNat then progFreqs o r else [])

/-! ### Bins (R303, R304) -/

/-- A component's level in 0.01 dBm0. -/
def componentLevel (off : Int) (power : Nat) : Int := dbOf (2 * power) (fullScale ^ 2) + off

/-- A bin's power exceeds its floor by SNR_MIN, in 0.5 dB, and −46 dBm0, which lies below every class's minimum. -/
def binPresent (snr : Nat) (off : Int) (power floor_ : Nat) : Bool :=
  levelGe power 1 (-4600 - off) && dbGe power floor_ (50 * snr)

/-- A bin after a window (R303): the floor is the least power of the last FLOOR_TAU windows, rises by at most 3 dB/s, and is frozen while the component
is detected. Before its first window without the component it is zero, so that a tone present from the first sample is heard (R319; DESIGN CHOICE, log
entry 81). The steady amplitude is the greatest at the end of a window since the component came (DESIGN CHOICE, log entry 81), and the onset is taken
against it when the component has stood for three windows (R304). -/
def trackTake (snr tau hz : Nat) (off : Int) (from_ total : Nat) (b : ToneBin) (t : ToneTrack) : ToneTrack :=
  let powers := (b.power :: t.powers).take tau
  let least := powers.foldl min b.power
  let first := t.powers.isEmpty
  let present := binPresent snr off b.power t.floor
  let floor_ := if present then t.floor else if first ∨ t.floor = 0 then least else if least ≤ t.floor then least else min least (t.floor * 1001728 / 1000000 + 1)
  let amps := (t.amps ++ b.amps).drop (t.amps.length + b.amps.length - hz / 50)
  let start := from_ + b.amps.length * 1000000000 / hz - amps.length * 1000000000 / hz
  let steady := if ¬ present then t.steady else if t.present = 0 then b.amps.getLastD 0 else max t.steady (b.amps.getLastD 0)
  let place (j : Nat) : Nat := start + j * 1000000000 / hz
  let onset := if ¬ present then t.onset
    else if t.present = 0 then none
    else if t.present = 2 then some (place ((amps.findIdx? (fun a => decide (steady ≤ 2 * a))).getD 0)) else t.onset
  let lastIdx := (b.amps.zipIdx.filter (fun p => decide (t.steady ≤ 2 * p.1))).getLast?.map (·.2)
  let last := match lastIdx with
    | some j => if 0 < t.present ∨ present then from_ + j * 1000000000 / hz else t.last
    | none => t.last
  if present then
    let more (x : Nat) : Nat := if t.present = 0 then 0 else x
    { t with powers := powers, floor := floor_, present := t.present + 1, gone := 0, total := more t.total + 1,
             share := max (more t.share) (100 * b.power / max 1 total),
             sumPower := more t.sumPower + b.power, sumFreq := more t.sumFreq + b.freq, amps := amps, steady := steady, onset := onset, last := last, power := b.power, freq := b.freq }
  else
    let gone := t.gone + 1
    let ended := decide (4 < gone)
    { t with powers := powers, floor := floor_, present := if ended then 0 else t.present, gone := gone, amps := amps,
             steady := if ended then 0 else t.steady, last := last, power := b.power, freq := b.freq }

/-- A listening point after a window that ends `xs` (2.5 ms) after instant `from_`. Bins outside the program are not heard. -/
def earTake (o r : Octets) (hz : Nat) (off : Int) (w : ToneWin) (from_ : Nat) (xs : List Int) (e : ToneEar) : ToneEar :=
  let win := (e.win ++ xs).drop (e.win.length + xs.length - hz / 100)
  let one (f : Nat) : ToneTrack :=
    let t := (e.bins.find? (fun t => t.nominal == f)).getD { nominal := f }
    let b := (w.bins.find? (fun b => b.nominal == f)).getD ⟨f, f, 0, []⟩
    trackTake (progField r 7 12 60 24) (40 * progField r 8 5 100 20) hz off from_ (energy win / max 1 win.length) b t
  { e with win := win, winEnd := from_ + tickNs, bins := (progBins o r e.recv).eraseDups.map one }

/-! ### Recognition (R303 to R307) -/

/-- A tone as the bins show it: value, frequencies (0 for one component), level of the stronger in −0.5 dBm0, the later of the onsets, the last instant, and
its duration so far in ms. -/
structure ToneSeen where
  value : Nat
  f1 : Nat
  f2 : Nat
  level : Nat
  onset : Nat
  last : Nat
  ms : Nat
deriving DecidableEq, Repr

/-- The value of a class's pair, from the places of its components in `classFreqs` (R307). The digits of the signalling systems' pairs are those of their
recommendations (PRESUMED, log entry 70). -/
def pairValue (c : ToneClass) (a b : Nat) : Nat :=
  let v := b * (b - 1) / 2 + a + 1
  match c with
  | .dtmf => ([1, 2, 3, 12, 4, 5, 6, 13, 7, 8, 9, 14, 10, 0, 11, 15] : List Nat).getD (4 * a + (b - 4)) 0
  | .mfr1 => ([0, 1, 2, 3, 4, 5, 6, 7, 8, 9, 0, 14, 12, 10, 13, 11] : List Nat).getD v 0
  | _ => v

/-- The weaker and stronger component lie within the class's twist: `lo` and `hi` are the powers of the lower and the higher frequency. -/
def twistOk (c : ToneClass) (adjacent : Bool) (lo hi : Nat) : Bool :=
  match c with
  | .dtmf => dbGe lo hi (-400) && dbGe hi lo (-800)
  | .mfr1 => dbGe lo hi (-600) && dbGe hi lo (-600)
  | _ => let x : Int := if adjacent then -500 else -700; dbGe lo hi x && dbGe hi lo x

/-- A component is present, at an accepted level and frequency. -/
def trackAccepted (c : ToneClass) (off : Int) (t : ToneTrack) : Bool :=
  let l := componentLevel off t.power
  decide (t.gone = 0) && decide (2 < t.present) && decide (100 * (classLevels c).1 ≤ l) && decide (l ≤ 100 * (classLevels c).2) &&
    decide (((t.freq : Int) - t.nominal).natAbs ≤ (classTol c 0 t.nominal).1)

/-- A tone of tracks as it is reported, with the averages over the whole of it. -/
def seenTracks (value : Nat) (ts : List ToneTrack) (winEnd : Nat) (off : Int) : ToneSeen :=
  let mean (t : ToneTrack) : Nat := t.sumFreq / max 1 t.total
  let onset := greatest (ts.map (fun t => t.onset.getD winEnd))
  let level := ((ts.map (fun t => componentLevel off (t.sumPower / max 1 t.total))).foldl max (-30000))
  let last := (ts.map (·.last)).foldl min winEnd
  { value := value, f1 := (ts[0]?.map mean).getD 0, f2 := (ts[1]?.map mean).getD 0, level := sat 8 ((-level) / 50).toNat, onset := onset,
    last := last, ms := (winEnd - onset) / 1000000 }

/-- A class's tone in the bins, where every accept limit but the duration holds. -/
def classSeen (_snr : Nat) (c : ToneClass) (off : Int) (e : ToneEar) : Option ToneSeen :=
  let fs := classFreqs c
  let ts := fs.map (fun f => (e.bins.find? (fun t => t.nominal == f)).getD { nominal := f })
  let here := ts.zipIdx.filter (fun p => trackAccepted c off p.1)
  let total := energy e.win / max 1 e.win.length
  let share (l : List ToneTrack) : Bool := decide (classShare c * total ≤ 100 * (l.map (·.power)).sum)
  match here, fs.length with
  | [(t, _)], 1 => if share [t] then some (seenTracks 0 [t] e.winEnd off) else none
  | [(t, a), (u, b)], _ =>
    let split := c != .dtmf || (decide (a < 4) && decide (4 ≤ b))
    let (lo, hi) := if t.nominal ≤ u.nominal then (t, u) else (u, t)
    if split ∧ share [t, u] ∧ twistOk c (b == a + 1) lo.power hi.power then some (seenTracks (pairValue c a b) [lo, hi] e.winEnd off) else none
  | _, _ => none

/-- No reject limit stands against a tone of a class with frequencies `f1` and `f2` (0 for one): each component is present at a level that its class does
not reject, and no further from a frequency of the class, or of the definition, than the reject limit. -/
def classCould (d : Option Octets) (_snr : Nat) (c : ToneClass) (off : Int) (e : ToneEar) (f1 f2 : Nat) : Bool :=
  let fs := match d with | some r => defFreqs r | none => classFreqs c
  let ftol := match d with | some r => oct r 30 | none => 0
  let near (f : Nat) : Bool :=
    e.bins.any (fun t => fs.contains t.nominal && decide (((f : Int) - t.nominal).natAbs ≤ (classTol c ftol t.nominal).2) && decide (0 < t.present) &&
      decide (100 * ((classLevels c).1 - 5) ≤ componentLevel off t.power) &&
      decide (rejectMs c * 1000000 ≤ e.winEnd - t.onset.getD 0))
  near f1 && (f2 == 0 || near f2)

/-- The tracks of a tone that is on. -/
def tracksOf (t : ToneOn) (e : ToneEar) : List ToneTrack :=
  let near (f : Nat) : Option ToneTrack :=
    if f = 0 then none else e.bins.find? (fun b => (classFreqs t.cls).contains b.nominal && decide (((f : Int) - b.nominal).natAbs ≤ (classTol t.cls 0 b.nominal).2))
  [near t.f1, near t.f2].filterMap id

/-- A component of the tone has been gone for longer than the class's bridged gap. -/
def classGone (t : ToneOn) (e : ToneEar) : Bool := (tracksOf t e).any (fun b => decide (bridgedMs t.cls * 10 < b.gone * 25))

/-- What a tone that ends reports: the averages over the whole of it. -/
def seenOf (off : Int) (t : ToneOn) (e : ToneEar) : ToneSeen :=
  let ts := tracksOf t e
  let mean (i f : Nat) : Nat := match ts[i]? with | some b => if 0 < b.total then b.sumFreq / b.total else f | none => f
  let level := (ts.map (fun b => componentLevel off (b.sumPower / max 1 b.total))).foldl max (-30000)
  { value := t.value, f1 := mean 0 t.f1, f2 := if t.f2 = 0 then 0 else mean 1 t.f2,
    level := if ts.isEmpty then t.level else sat 8 ((-level) / 50).toNat, onset := stampNs t.stamp, last := e.winEnd, ms := 0 }

/-- The last instant at which every component stood at half its steady amplitude or above (R304). -/
def lastOf (t : ToneOn) (e : ToneEar) : Nat := ((tracksOf t e).map (·.last)).foldl min e.winEnd

/-- A burst of 1,100 Hz that has just ended, with its length. -/
def burstOf (off : Int) (e : ToneEar) : Option ToneSeen :=
  match e.bins.find? (fun t => t.nominal == 11000 && t.gone == 1 && decide (0 < t.present)) with
  | some t => t.onset.map (fun x => { value := 0, f1 := t.sumFreq / max 1 t.total, f2 := 0,
                                      level := sat 8 ((-(componentLevel off (t.sumPower / max 1 t.total))) / 50).toNat, onset := x, last := t.last, ms := (t.last - x) / 1000000 })
  | none => none

/-- Of an operand's recognitions, whether one names this class and value at this listening point. It decides a tone that lies between the accept and
reject limits, where R306 leaves the outcome open. -/
def hitNamed (hits : List ToneHit) (recv : Bool) (c : ToneClass) (value : Nat) : Bool :=
  hits.any (fun h => h.on && !h.reversal && h.recv == recv && h.cls == c && h.value == value)

/-- The bins of some frequencies, in that order. -/
def tracksFor (e : ToneEar) (fs : List Nat) : List ToneTrack := fs.map (fun f => (e.bins.find? (fun t => t.nominal == f)).getD { nominal := f })

/-- The mean power of the present window. -/
def winPower (e : ToneEar) : Nat := energy e.win / max 1 e.win.length

/-! ### Call progress: cadences (R302, R306, R307) -/

/-- The ON and OFF periods of a definition's cycle in ms. An OFF of 0 is no gap, so that the ON periods about it are one; without any gap the cycle is
one ON period. -/
def cadencePairs (d : Octets) : List (Nat × Nat) :=
  let raw := (upTo (oct d 11)).map (fun i => (le d (12 + 4 * i) 2, le d (14 + 4 * i) 2))
  if raw.all (fun p => p.2 == 0) then [((raw.map (·.1)).sum, 0)]
  else
    let tail := raw.reverse.takeWhile (fun p => p.2 == 0)
    (tail.reverse ++ raw.take (raw.length - tail.length)).foldr (fun p l =>
      match p.2, l with
      | 0, (on, gap) :: r => (p.1 + on, gap) :: r
      | _, _ => p :: l) []

/-- Period `i` of a cadence that goes on, in ns: the even ones are ON. -/
def cadencePeriod (d : Octets) (i : Nat) : Nat :=
  let l := cadencePairs d
  let p := l.getD (i / 2 % max 1 l.length) (0, 0)
  1000000 * (if i % 2 = 0 then p.1 else p.2)

/-- A period of `ns` lies within CP_TOL of period `i`. -/
def periodFits (d : Octets) (i ns : Nat) : Bool :=
  decide (100 * ((ns : Int) - cadencePeriod d i).natAbs ≤ oct d 29 * cadencePeriod d i)

/-- The longest that period `i` may last, in ns. -/
def periodMost (d : Octets) (i : Nat) : Nat := cadencePeriod d i * (100 + oct d 29) / 100

/-- A definition's components are heard now, within every limit of call progress; `grey` decides where they lie between the limits. -/
def defHeard (d : Octets) (off : Int) (e : ToneEar) (grey : Bool) : Bool :=
  let ts := tracksFor e (defFreqs d)
  let sure (t : ToneTrack) : Bool :=
    let l := componentLevel off t.power
    decide (-4500 ≤ l) && decide (l ≤ 0) && decide (((t.freq : Int) - t.nominal).natAbs ≤ (classTol .callProgress (oct d 30) t.nominal).1)
  let even : Bool := match ts with | [a, b] => dbGe a.power b.power (-1000) && dbGe b.power a.power (-1000) | _ => true
  !ts.isEmpty && ts.all (fun t => decide (2 < t.present) && decide (t.gone = 0)) && even &&
    decide (classShare .callProgress * winPower e ≤ 100 * (ts.map (·.power)).sum) &&
    (ts.all sure || (grey && classCould (some d) 0 .callProgress off e (le d 2 2) ((defFreqs d).getD 1 0)))

/-- A cadence after a window, and the instant at which a period left CP_TOL, if one did. -/
def cadenceTake (d : Octets) (off : Int) (grey : Bool) (e : ToneEar) (x : Cadence) : Cadence × Option Nat :=
  let ts := tracksFor e (defFreqs d)
  let on := if x.on then ts.all (fun t => decide (0 < t.present)) else defHeard d off e grey
  let onset := greatest (ts.map (fun t => t.onset.getD e.winEnd))
  let last := (ts.map (·.last)).foldl min e.winEnd
  let long : Bool := decide (periodMost d x.steps < e.winEnd - x.from_)
  if (cadencePairs d).all (fun p => p.2 == 0) then
    (match x.on, on with
      | false, true => ({ x with on := true, from_ := onset, first := onset, steps := 0 }, none)
      | true, true => ({ x with steps := 2 * ((e.winEnd - x.from_) / max 1 (cadencePeriod d 0)) }, none)
      | true, false => ({ x with on := false, from_ := last, steps := 0 }, some last)
      | false, false => (x, none))
  else match x.on, on with
    | false, true =>
      let y := { x with on := true, from_ := onset }
      if x.steps = 0 then (y, none)
      else if periodFits d x.steps (onset - x.from_) then ({ y with steps := x.steps + 1 }, none)
      else ({ y with steps := 0 }, some onset)
    | true, false =>
      let y := { x with on := false, from_ := last }
      let ns := last - x.from_
      if periodFits d x.steps ns then ({ y with steps := x.steps + 1, first := if x.steps = 0 then x.from_ else x.first }, none)
      else if periodFits d 0 ns then ({ y with steps := 1, first := x.from_ }, some last)
      else ({ y with steps := 0 }, some last)
    | _, _ => if 0 < x.steps ∧ long then ({ x with steps := 0 }, some (x.from_ + periodMost d x.steps)) else (x, none)

/-- CP_CYCLES cycles of a cadence have matched. -/
def cadenceDone (d : Octets) (x : Cadence) : Bool := decide (2 * (cadencePairs d).length * oct d 28 ≤ x.steps)

/-! ### Special information tones (R306, R307) -/

/-- A segment's component, by the frequency at which it may stand: first, second or third. -/
def sitPlace (nominal : Nat) : Nat := if nominal < 12000 then 0 else if nominal < 16000 then 1 else 2

/-- A segment of `ms` is long, or short, or none of a SIT. -/
def sitLong (ms : Nat) : Option Bool := if 240 ≤ ms ∧ ms ≤ 310 then some false else if 330 ≤ ms ∧ ms ≤ 430 then some true else none

/-- The segments that end in this window: the bin has been gone for longer than the bins bridge. -/
def sitEnds (off : Int) (grey : Bool) (e : ToneEar) : List SitSeg :=
  (tracksFor e (classFreqs .sit)).filterMap (fun t =>
    let power : Nat := t.sumPower / max 1 t.total
    let freq : Nat := t.sumFreq / max 1 t.total
    let far := ((freq : Int) - t.nominal).natAbs
    let level := componentLevel off power
    let tol := classTol .sit 0 t.nominal
    let stands := decide (level ≤ 0) && decide (-4000 ≤ level) && (decide (far ≤ tol.1) || (grey && decide (far ≤ tol.2)))
    match t.onset with
    | some x =>
      if t.gone = 5 ∧ 2 < t.total ∧ classShare .sit ≤ t.share ∧ stands ∧ (sitLong ((t.last - x) / 1000000)).isSome
      then some ⟨t.nominal, x, t.last, freq, power⟩ else none
    | none => none)

/-- The segments heard so far, after one that has ended. The segments of a tone follow one another within 30 ms (PRESUMED from ITU-T E.180, log
entry 81). -/
def sitNext (l : List SitSeg) (x : SitSeg) : List SitSeg :=
  let follows : Bool := match l.getLast? with | some y => decide (y.last ≤ x.onset) && decide (x.onset ≤ y.last + 30000000) | none => true
  if sitPlace x.nominal = l.length ∧ follows then l ++ [x] else if sitPlace x.nominal = 0 then [x] else []

/-- The SIT that three segments make: its value, the frequency of the first segment, the level of the strongest, its onset and its end. -/
def sitSeen (off : Int) (l : List SitSeg) : Option ToneSeen :=
  match l with
  | [a, b, c] =>
    let long (x : SitSeg) : Nat := if sitLong ((x.last - x.onset) / 1000000) = some true then 1 else 0
    let level := ((l.map (fun x => componentLevel off x.power)).foldl max (-30000))
    some { value := (if a.nominal = 9852 then 1 else 0) + (if b.nominal = 14285 then 2 else 0) + 4 * long a + 8 * long b, f1 := a.freq, f2 := 0,
           level := sat 8 ((-level) / 50).toNat, onset := a.onset, last := c.last, ms := (c.last - a.onset) / 1000000 }
  | _ => none

/-! ### V.21 flags and the modulation of 2,100 Hz (R306) -/

/-- The amplitudes of a bin over the window's advance. -/
def newAmps (hz : Nat) (t : ToneTrack) : List Nat := t.amps.drop (t.amps.length - hz / 400)

/-- The runs of marks and spaces after the samples of a window's advance: 1,650 Hz is a mark. -/
def runsTake (hz : Nat) (e : ToneEar) : List (Bool × Nat) :=
  match tracksFor e (classFreqs .v21) with
  | [a, b] =>
    if a.present = 0 ∧ b.present = 0 then []
    else (((newAmps hz a).zip (newAmps hz b)).foldl (fun l p =>
      let mark := decide (p.2 ≤ p.1)
      match l with
      | (m, n) :: r => if m = mark then (m, n + 1) :: r else (mark, 1) :: l
      | [] => [(mark, 1)]) e.runs).take 8
  | _ => e.runs

/-- The bits of 300 bit/s in a run of `n` samples, to the nearest. -/
def flagBits (hz n : Nat) : Nat := (600 * n / hz + 1) / 2

/-- Three consecutive HDLC flags, 01111110, have just ended (R306). -/
def threeFlags (hz : Nat) (l : List (Bool × Nat)) : Bool :=
  match l with
  | (false, z) :: (true, a) :: (false, y) :: (true, b) :: (false, x) :: (true, c) :: (false, w) :: _ =>
    [a, b, c].all (fun n => flagBits hz n == 6) && [x, y].all (fun n => flagBits hz n == 2) && decide (1 ≤ flagBits hz z) && decide (1 ≤ flagBits hz w)
  | _ => false

/-- The flags of V.21 as they are reported, with both of its frequencies and the onset of the first to be heard. -/
def flagsSeen (off : Int) (grey : Bool) (hz : Nat) (e : ToneEar) : Option ToneSeen :=
  let ts := tracksFor e (classFreqs .v21)
  let sure (t : ToneTrack) : Bool :=
    let far := ((t.sumFreq / max 1 t.total : Nat) : Int) - t.nominal
    let level := componentLevel off (t.sumPower / max 1 t.total)
    decide (-4300 ≤ level) && decide (level ≤ 0) && (decide (far.natAbs ≤ 300) || (grey && decide (far.natAbs ≤ 600)))
  if threeFlags hz e.runs ∧ ts.all sure ∧ classShare .v21 * winPower e ≤ 100 * (ts.map (·.power)).sum
  then some { seenTracks 0 ts e.winEnd off with onset := (ts.filterMap (·.onset)).foldl min e.winEnd } else none

/-- The envelope of 2,100 Hz after a window: one amplitude for each of the last 100. -/
def envelopeTake (hz : Nat) (e : ToneEar) : List Nat :=
  match tracksFor e [21000] with
  | [t] => if t.present = 0 then [] else let l := newAmps hz t; (e.envelope ++ [l.sum / max 1 l.length]).drop (e.envelope.length + 1 - 100)
  | _ => []

/-- The places at which a signal rises through its mean. -/
def risesOf (l : List Nat) : List Nat :=
  let mean := l.sum / max 1 l.length
  ((l.zip (l.drop 1)).zipIdx.filter (fun p => decide (p.1.1 < mean) && decide (mean ≤ p.1.2))).map (·.2)

/-- The tone is ANSam (R306): over its last 250 ms it is modulated by 15 Hz ± 0.5 Hz to a depth of 10 % to 30 %. -/
def isAnsam (e : ToneEar) : Bool :=
  let l := e.envelope
  let lo := leastOr 0 l
  let hi := greatest l
  let deep := decide (10 * (hi + lo) ≤ 100 * (hi - lo)) && decide (100 * (hi - lo) ≤ 30 * (hi + lo))
  let up := risesOf l
  -- the periods between the first and the last rise, in windows of 2.5 ms
  let span := up.getLastD 0 - up.headD 0
  let n := up.length - 1
  deep && decide (0 < n) && decide (145 * span ≤ 4000 * n) && decide (4000 * n ≤ 155 * span)

end Sys2Proof.Machine
end

