-- ==== Sys2Proof/Machine/Tones.lean ====
section
/-! DEFINITION. Tone detection and generation (spec/11): the tone detect node, what its events drive, voice-band data passthrough (R225),
telephone events received and sent, and the tone generate node. -/

namespace Sys2Proof.Machine

/-! ### Programs and classes (R300, R306, R307) -/

/-- The program of a parameter block. -/
def progOf (s : Dev) (params : Octets) : Option Octets := if oct params 9 = 0xFF then none else toneProg (toneSection s) (oct params 9)

/-- A class's number (R307) and its bit in a program's masks (R300); call progress has none. -/
def toneNum : ToneClass → Nat
  | .dtmf => 1 | .mfr1 => 2 | .mfcFwd => 3 | .mfcBwd => 4 | .callProgress => 5 | .sit => 6 | .v21 => 7 | .ans => 8 | .ansam => 9 | .cng => 10

def toneBit : ToneClass → Option Nat
  | .dtmf => some 0 | .mfr1 => some 1 | .mfcFwd => some 2 | .mfcBwd => some 3 | .callProgress => none | .sit => some 4 | .v21 => some 5
  | .ans => some 6 | .ansam => some 7 | .cng => some 8

/-- A program detects a class, with its value, at a listening point. -/
def detects (r : Octets) (h : ToneHit) : Bool :=
  match toneBit h.cls with
  | some b => (le r (if h.recv then 2 else 0) 2).testBit b
  | none => (oct r 28).testBit h.recv.toNat && (progCp r).contains h.value

/-- A class starts passthrough under a program (R309). -/
def inVbdMask (r : Octets) (c : ToneClass) : Bool := match toneBit c with | some b => (le r 4 2).testBit b | none => false

/-- An event stamped `t` of the Tone Detector of the channel's home cluster. -/
def toneEvent (c code : Nat) (t : Stamp) (data : Octets) (s : Dev) : Dev :=
  match s.chan? c with
  | none => s
  | some k =>
    let e := eventOf s (0x202 + 16 * (k.home / 16)) code (some (globalId k.owner c)) (toLe 4 c ++ data)
    modStats c (fun t => { t with toneEvents := t.toneEvents + 1 }) (pushEvent { e with stamp := t } s)

/-- Octets 4 to 11 of TONE_ON and TONE_OFF. -/
def toneData (cls value f1 f2 level flags : Nat) : Octets :=
  [BitVec.ofNat 8 cls, BitVec.ofNat 8 value] ++ toLe 2 f1 ++ toLe 2 f2 ++ [BitVec.ofNat 8 level, BitVec.ofNat 8 flags]

/-- TONE_OFF with CUT: the end of a tone that is on was not observed (R307, R320, R321). -/
def toneCut (c : Nat) (t : ToneOn) (s : Dev) : Dev :=
  toneEvent c 0x0601 s.now (toneData (toneNum t.cls) t.value t.f1 t.f2 t.level (t.recv.toNat + 4)) s

/-- The detector state of a channel is emptied. -/
def detectorClear (c : Nat) (s : Dev) : Dev :=
  match s.chan? c with
  | none => s
  | some k => (k.tonesOn.foldl (fun s t => toneCut c t s) s).modChan c (fun k => { k with tonesOn := [], ears := [], restored := false })

/-! ### Passthrough (R225, R309, R310) -/

/-- The passthrough PT: 0 or 8 by the line leg's law, µ-law or A-law; a G.711 channel keeps its own (R225). -/
def passPt (k : Channel) : Nat :=
  if isG711 (k.par 3 1) then k.par 28 1
  else match k.legs.line with | some l => if nfld l 16 2 = 1 then 0 else 8 | none => 8

/-- A trigger of passthrough, with the Ledger code of its tone event: from the next spawn on a channel with a packet leg and a codec. -/
def vbdTrigger (c code : Nat) (s : Dev) : Dev :=
  match s.chan? c with
  | none => s
  | some k =>
    let starting : Bool := match k.vbdNext with | some (b, _) => b | none => k.vbd
    if starting ∨ k.legs.session.isNone ∨ k.par 3 1 = 0 ∨ k.st = .closing then s
    else (s.modChan c (fun k => { k with vbdNext := some (true, code) })).bump (Reg.tdVbdTriggers (k.home / 16))

/-- The end of passthrough, from the next spawn: cause 0 tone end, 1 voice PT received. -/
def vbdEnd (c cause : Nat) (s : Dev) : Dev :=
  s.modChan c (fun k => if k.vbd ∧ k.vbdNext.isNone then { k with vbdNext := some (false, cause) } else k)

/-- VBD_QUIET (R310, R321): both signals have stayed quiet. -/
def vbdQuiet (c : Nat) (s : Dev) : Dev :=
  match s.chan? c with
  | none => s
  | some k =>
    let n := k.home / 16
    if ¬ k.vbd ∨ ¬ s.domainServed (1 + n) ∨ ¬ s.rbit (Reg.tdCfg n) 0 ∨ ¬ (k.par 6 2).testBit 2 ∨ (progOf s k.params).isNone then s
    else vbdEnd c 0 (toneEvent c 0x0603 s.now [] s)

/-- A change of passthrough is taken by an instance that spawns (R225, R318). -/
def vbdSpawn (c : Nat) (s : Dev) : Dev :=
  match (s.chan? c).bind (fun k => k.vbdNext.map (fun x => (k, x))) with
  | none => s
  | some (k, (true, code)) =>
    let s := s.modChan c (fun k => { k with vbd := true, vbdNext := none, genNet := none })
    let s := tileEvent c 0x0301 (toLe 2 code) s
    match k.genNet with
    | some g => tileEvent c 0x0605 ([1, BitVec.ofNat 8 g.def_, 4] ++ toLe 2 (sat 16 g.played)) s
    | none => s
  | some (k, (false, cause)) =>
    let reset := !isG711 (k.par 3 1)
    let s := s.modChan c (fun k => { k with
      vbd := false, vbdNext := none, resetDec := k.resetDec || reset, resetEnc := k.resetEnc || reset,
      stats := { k.stats with concealed := k.stats.concealed + reset.toNat } })
    tileEvent c 0x0302 [BitVec.ofNat 8 cause] s

/-! ### Telephone events sent (R313, R315) -/

/-- The RTP timestamp of a media instant in ns (R176). -/
def rtpOf (k : Channel) (ns : Nat) : Nat := (ns * clockOf k / 1000000000 + k.tsOffset) % 2 ^ 32

/-- Telephone events may be sent on the channel. -/
def eventPt (k : Channel) : Bool := !(k.par 29 1).testBit 7

/-- The RFC 4733 event of a detected tone under RELAY, and whether it takes the place of voice. -/
def relayCode (relay : Nat) (cls : ToneClass) (value reversals : Nat) : Option (Nat × Bool) :=
  match cls with
  | .dtmf => if relay.testBit 0 then some (value, true) else none
  | .ans => if relay.testBit 1 then some (if reversals = 0 then 32 else 33, false) else none
  | .ansam => if relay.testBit 1 then some (if reversals = 0 then 34 else 35, false) else none
  | .cng => if relay.testBit 1 then some (36, false) else none
  | _ => none

/-- A commanded network-direction tone is sending events (R317). -/
def sendsTone (s : Dev) (k : Channel) : Bool :=
  match k.genNet with
  | none => false
  | some g => match toneDef (toneSection s) g.def_ with
    | some r => g.started && oct r 31 != 0xFF && eventPt k
    | none => false

/-- The channel with an event that it starts to send, whose onset is at `ns`. -/
def startEvent (code volume ns : Nat) (replaces : Bool) (k : Channel) : Channel :=
  { k with txEvents := k.txEvents ++ [{ ts := rtpOf k ns, code := code, volume := min 63 volume, duration := 0, ended := false, endsLeft := 3,
                                        replaces := replaces }] }

/-- A channel starts to send an event whose onset is at `ns` with a level in −0.5 dBm0. -/
def sendEvent (c code level ns : Nat) (replaces : Bool) (s : Dev) : Dev :=
  match s.chan? c with
  | none => s
  | some k =>
    if ¬ eventPt k ∨ k.legs.session.isNone ∨ sendsTone s k then s else s.setChan c (startEvent code ((level + 1) / 2) ns replaces k)

/-- The events being sent that still go on change. -/
def modEvents (c : Nat) (f : TxEvent → TxEvent) (s : Dev) : Dev :=
  s.modChan c (fun k => { k with txEvents := k.txEvents.map (fun e => if e.ended then e else f e) })

/-- The event of a code that is being sent ends. -/
def endEvent (c code : Nat) (s : Dev) : Dev := modEvents c (fun e => if e.code = code then { e with ended := true } else e) s

/-- The instant on a partner's side of what is at `ns` on the channel's (R109, R315): the handoff ring delays it by the pair's lag. -/
def crossNs (s : Dev) (k : Channel) (p ns : Nat) : Nat :=
  ns + (match s.chan? p with | some q => pairLag q.frame_ k.frame_ | none => 0) * tickNs

/-- RELAY of a channel's program. -/
def relayOf (s : Dev) (k : Channel) : Nat := match progOf s k.params with | some r => oct r 6 | none => 0

/-- A tone's onset is relayed: on the send signal by the channel itself, on the receive signal by its partner (R313, R315). -/
def relayOn (c : Nat) (k : Channel) (cls : ToneClass) (value level ns : Nat) (recv : Bool) (s : Dev) : Dev :=
  let relay := relayOf s k
  if recv then
    match k.legs.partner, relayCode 3 cls value 0 with
    | some p, some (code, rep) =>
      -- the decoded block carries the instants at which it plays; the ring those of the instance's span
      if relay.testBit 2 then sendEvent p code level (crossNs s k p (ns - (2 * k.frame_ * tickNs + slackNs s))) rep s else s
    | _, _ => s
  else match relayCode relay cls value 0 with
    | some (code, rep) => sendEvent c code level ns rep s
    | none => s

/-- A tone's end is relayed. -/
def relayOff (c : Nat) (k : Channel) (t : ToneOn) (s : Dev) : Dev :=
  let relay := relayOf s k
  if t.recv then
    match k.legs.partner with
    | some p => match relayCode 3 t.cls t.value t.reversals with
      | some (code, _) => if relay.testBit 2 then endEvent p code s else s
      | none => s
    | none => s
  else match relayCode relay t.cls t.value t.reversals with
    | some (code, _) => endEvent c code s
    | none => s

/-- A first reversal changes the event that is being sent. -/
def relayReversal (c : Nat) (k : Channel) (t : ToneOn) (s : Dev) : Dev :=
  let q := if t.recv then k.legs.partner else some c
  let code (revs : Nat) := relayCode (if t.recv then (if (relayOf s k).testBit 2 then 3 else 0) else relayOf s k) t.cls t.value revs
  match q, code 0, code 1 with
  | some q, some (old, _), some (new, _) => modEvents q (fun e => if e.code = old then { e with code := new } else e) s
  | _, _, _ => s

/-! ### The tone detect node (R297 to R312, R319 to R321) -/

/-- Send-direction detection of DTMF, MF R1 and MFC is suspended (R312). -/
def suspended (s : Dev) (k : Channel) : Bool :=
  k.genLine.isSome || (match k.rxEvent with | some e => e.playing | none => false) ||
    (match k.lineQuiet with | some t => decide (s.cycles < t) | none => false)

/-- A tone's onset is reported. -/
def toneOnset (n c : Nat) (k : Channel) (r : Octets) (h : ToneHit) (s : Dev) : Dev :=
  let resumed : Bool := match (k.ears.find? (fun e => e.recv == h.recv)).bind (·.since) with | some t => decide (stampNs h.stamp ≤ t) | none => false
  let t : ToneOn := { cls := h.cls, recv := h.recv, value := h.value, reversals := 0, f1 := h.f1, f2 := h.f2, level := h.level, stamp := h.stamp }
  let s := (s.modChan c (fun k => { k with tonesOn := k.tonesOn ++ [t] })).bump (Reg.tdOnsets n)
  let s := toneEvent c 0x0600 h.stamp (toneData (toneNum h.cls) h.value h.f1 h.f2 h.level (h.recv.toNat + 2 * resumed.toNat)) s
  let s := if inVbdMask r h.cls then vbdTrigger c 0x0600 s else s
  relayOn c k h.cls h.value h.level (stampNs h.stamp) h.recv s

/-- A tone's end is reported. -/
def toneOffset (c : Nat) (k : Channel) (t : ToneOn) (h : ToneHit) (s : Dev) : Dev :=
  let s := s.modChan c (fun k => { k with tonesOn := k.tonesOn.erase t })
  relayOff c k t (toneEvent c 0x0601 h.stamp (toneData (toneNum t.cls) t.value h.f1 h.f2 h.level t.recv.toNat) s)

/-- A phase reversal is reported, and the canceller told of it (R254, R308). -/
def toneReversal (n c : Nat) (k : Channel) (t : ToneOn) (h : ToneHit) (s : Dev) : Dev :=
  let ns := stampNs h.stamp
  let gap := match t.revAt with | some x => sat 16 ((ns - x) / 100000) | none => 0
  let num := sat 8 (t.reversals + 1)
  let t' := { t with reversals := num, revAt := some ns }
  let s := (s.modChan c (fun k => { k with tonesOn := k.tonesOn.map (fun x => if x = t then t' else x),
                                           echo := { k.echo with toneNext := some .disabled } })).bump (Reg.tdReversals n)
  let s := toneEvent c 0x0602 h.stamp ([BitVec.ofNat 8 (toneNum t.cls), BitVec.ofNat 8 num] ++ toLe 2 gap ++ toLe 2 h.degrees ++
    [0, BitVec.ofNat 8 t.recv.toNat]) s
  if num = 1 then relayReversal c k t s else s

/-- One recognition. -/
def toneHit (n c : Nat) (r : Octets) (h : ToneHit) (s : Dev) : Dev :=
  match s.chan? c with
  | none => s
  | some k =>
    let on := k.tonesOn.find? (fun t => t.cls == h.cls && t.recv == h.recv && (h.reversal || t.value == h.value))
    if h.reversal then
      match on with
      | some t => if (h.cls = .ans ∨ h.cls = .ansam) ∧ 120 ≤ h.degrees ∧ h.degrees ≤ 240 then toneReversal n c k t h s else s
      | none => s
    else if h.on then
      let muted := !h.recv && suspended s k && (h.cls == .dtmf || h.cls == .mfr1 || h.cls == .mfcFwd || h.cls == .mfcBwd)
      if on.isSome ∨ muted ∨ ¬ detects r h then s else toneOnset n c k r h s
    else match on with
      | some t => toneOffset c k t h s
      | none => s

/-- A receive-direction stamp names the instant at which the sample leaves the pins, or without a line leg that of the decoded block (R298). -/
def recvStart (s : Dev) (k : Channel) (i : Instance) : Nat := if i.legs.line.isSome then outStart s k i else k.media.dec.stamp

/-- The ear of a listening point; a new one starts at instant `from_`. -/
def earOf (k : Channel) (recv : Bool) (from_ : Nat) : ToneEar :=
  (k.ears.find? (fun e => e.recv == recv)).getD { recv := recv, since := if k.restored then some from_ else none }

/-- The samples that a listening point hears in an instance (R297), in the detector's rate: the near-end copy, or the decoded signal before any tone of the
device's own; the instant of the first of them (R298); and the converter's history after them. -/
def heardBlock (s : Dev) (k : Channel) (i : Instance) (recv : Bool) : List Int × Nat × List Int :=
  let hz := bandHz i.params
  let n := frameSamples i.frame hz
  if ¬ recv then (k.media.nearBand.first n, k.media.nearBand.stamp, [])
  else
    let side := sideHz i
    let (xs, h) := convert side hz n (earOf k true 0).conv (k.media.dec.first (frameSamples i.frame side))
    (xs, recvStart s k i - (converter side hz).1, h)

/-- A recognition at a listening point with the stamp of instant `ns`. -/
def hitOf (on recv : Bool) (cls : ToneClass) (value : Nat) (p : ToneSeen) (ns tepoch : Nat) : ToneHit :=
  { on := on, reversal := false, cls := cls, value := value, f1 := p.f1, f2 := p.f2, level := p.level, degrees := 0, recv := recv, stamp := stampAt ns tepoch }

/-- What a class that R306 knows by its components alone is called by what is known of 2,100 Hz: with the modulation it is ANSam. -/
def ansOr (e : ToneEar) (c : ToneClass) : ToneClass := if c = .ans ∨ c = .ansam then (if isAnsam e then .ansam else .ans) else c

/-- A recognition that an operand brings stands where R306 leaves the outcome open: a reversal, or the onset of a class that its components decide, between
the accept and reject limits. The bins alone say when a tone ends, and what the sequences of the other classes are. -/
def hitStands (off : Int) (snr : Nat) (e : ToneEar) (h : ToneHit) : Bool :=
  h.reversal || (h.on && autoClasses.contains (if h.cls = .ansam then .ans else h.cls) && classCould none snr h.cls off e h.f1 h.f2)

/-- Which of the classes with a lower number the same components make (R306). -/
def lowerClass (mask snr : Nat) (off : Int) (e : ToneEar) (c : ToneClass) (f1 f2 : Nat) : Bool :=
  autoClasses.any (fun x => decide (toneNum x < toneNum c) && ((toneBit x).map (fun b => mask.testBit b)).getD false &&
    (classSeen snr x off e).any (fun q => q.f1 == f1 && q.f2 == f2))

/-- A listening point's sequences after a window (R306): the cadences of the program's definitions, SIT, V.21 flags and the envelope of 2,100 Hz; with the
recognitions that follow from them, and the ends. -/
def sequencesTake (o r : Octets) (hz tepoch : Nat) (off : Int) (hits : List ToneHit) (k : Channel) (e : ToneEar) : ToneEar × List ToneHit :=
  let mask := le r (if e.recv then 2 else 0) 2
  let grey (c : ToneClass) (v : Nat) : Bool := hitNamed hits e.recv c v
  let isOn (c : ToneClass) : Bool := k.tonesOn.any (fun t => t.recv == e.recv && t.cls == c)
  let e := { e with runs := if mask.testBit 5 then runsTake hz e else [], envelope := envelopeTake hz e }
  -- call progress
  let defs := if (oct r 28).testBit e.recv.toNat then (progCp r).eraseDups else []
  let cads := defs.filterMap (fun d => (toneDef o d).map (fun x =>
    (x, cadenceTake x off (grey .callProgress d) e ((e.cadences.find? (fun y => y.def_ == d)).getD { def_ := d }))))
  let progress (p : Octets × Cadence × Option Nat) : List ToneHit :=
    let (d, x, broken) := p
    let q := seenTracks x.def_ (tracksFor e (defFreqs d)) e.winEnd off
    let end_ := match broken with | some ns => [hitOf false e.recv .callProgress x.def_ q ns tepoch] | none => []
    if cadenceDone d x ∧ ¬ lowerClass mask (progField r 7 12 60 24) off e .callProgress q.f1 q.f2
    then end_ ++ [hitOf true e.recv .callProgress x.def_ q x.first tepoch] else end_
  -- special information tones
  let sit := if mask.testBit 4 then (sitEnds off (hits.any (fun h => h.on && h.recv == e.recv && h.cls == .sit)) e).foldl sitNext e.sit else []
  let special : List ToneHit := match sitSeen off sit with
    | some q => [hitOf true e.recv .sit q.value q q.onset tepoch, hitOf false e.recv .sit q.value q q.last tepoch]
    | none => []
  -- V.21 flags
  let flags : List ToneHit :=
    if isOn .v21 then
      let ts := tracksFor e (classFreqs .v21)
      if ts.all (fun t => t.present == 0) then [hitOf false e.recv .v21 0 (seenTracks 0 ts e.winEnd off) (greatest (ts.map (·.last))) tepoch] else []
    else match flagsSeen off (grey .v21 0) hz e with
      | some q => [hitOf true e.recv .v21 0 q q.onset tepoch]
      | none => []
  ({ e with cadences := cads.map (·.2.1), sit := if sit.length = 3 then [] else sit }, (cads.map progress).flatten ++ special ++ flags)

/-- One window at a listening point (R303 to R306): the bins take it, tones that R306 accepts are reported with the onset of R304, and tones whose
components have gone for longer than the class's bridged gap end. -/
def toneWindow (n c : Nat) (o r : Octets) (i : Instance) (hits : List ToneHit) (w : ToneWin) (from_ : Nat) (xs : List Int) (s : Dev) : Dev :=
  match s.chan? c with
  | none => s
  | some k =>
    let hz := bandHz i.params
    let off := dbm0 i.legs.line
    let snr := progField r 7 12 60 24
    let (ear, seqs) := sequencesTake o r hz i.tepoch off hits k (earTake o r hz off w from_ xs (earOf k w.recv from_))
    let s := s.modChan c (fun k => { k with ears := ear :: k.ears.filter (fun e => e.recv != w.recv) })
    let mask := le r (if w.recv then 2 else 0) 2
    -- onsets
    let s := autoClasses.foldl (fun s cls =>
      match classSeen snr cls off ear with
      | some p =>
        if lowerClass mask snr off ear cls p.f1 p.f2 ∨ cls = .cng ∨ p.ms < acceptMs cls p.value then s
        else toneHit n c r (hitOf true w.recv (ansOr ear cls) p.value p p.onset i.tepoch) s
      | none => s) s
    let s := seqs.foldl (fun s h => toneHit n c r h s) s
    -- ends
    match s.chan? c with
    | none => s
    | some k =>
      let ended := k.tonesOn.filter (fun t => t.recv == w.recv && autoClasses.contains (if t.cls = .ansam then .ans else t.cls) && classGone t ear)
      let s := ended.foldl (fun s t => toneHit n c r (hitOf false w.recv t.cls t.value (seenOf off t ear) (lastOf t ear) i.tepoch) s) s
      -- a calling tone is known by the length of its burst
      match burstOf off ear with
      | some p => if 400 ≤ p.ms ∧ p.ms ≤ 650 then
          toneHit n c r (hitOf false w.recv .cng 0 p p.last i.tepoch) (toneHit n c r (hitOf true w.recv .cng 0 p p.onset i.tepoch) s)
        else s
      | none => s

/-- The powers of both signals during a data call (R310): VBD_QUIET when both have stayed below −VBD_END_LEVEL for VBD_END_HOLD. -/
def vbdListen (c : Nat) (r : Octets) (off : Int) (s : Dev) : Dev :=
  match s.chan? c with
  | none => s
  | some k =>
    if ¬ k.vbd then s
    else
      let quietEar (e : ToneEar) : Bool := !levelGe (energy e.win) (max 1 e.win.length) (-(100 * (progField r 9 40 70 50 : Nat) : Int) - off)
      let q := k.ears.length == 2 && k.ears.all quietEar
      let t := ((k.ears.map (·.quiet)).foldl max 0 + 25) * q.toNat
      let s := s.modChan c (fun k => { k with ears := k.ears.map (fun e => { e with quiet := t }) })
      if 10000 * progField r 10 1 30 5 ≤ t then vbdQuiet c s else s

/-- A tone detect node of channel `c` on cluster `n`, taken while the engine was enabled (`on`): the windows of each direction, 2.5 ms apart, then what R306 leaves open. -/
def toneNode (n c : Nat) (on : Bool) (wins : List ToneWin) (hits : List ToneHit) (parity : Bool) (s : Dev) : Dev :=
  match (s.chan? c).bind (fun k => k.active.map (fun i => (k, i))) with
  | none => s
  | some (k, i) =>
    let s := s.bump64 (Reg.tdNodes n)
    if ¬ on then detectorClear c (s.bump (Reg.tdPassNodes n))
    else
      let s := if parity then
          detectorClear c (modStats c (fun t => { t with repairs := t.repairs + 1 }) ((s.bump (Reg.tdRepairs n)).bump (Reg.tileDmemPar k.home)))
        else s
      match progOf s i.params with
      | none => s
      | some r =>
        let o := toneSection s
        let hz := bandHz i.params
        let step := hz / 400
        let heard := [false, true].map (fun recv => heardBlock s k i recv)
        let s := (upTo i.frame).foldl (fun s a =>
          let s := [false, true].foldl (fun s recv =>
            let (xs, start, _) := heard.getD recv.toNat ([], 0, [])
            let w := ((wins.filter (fun w => w.recv == recv))[a]?).getD ⟨recv, []⟩
            toneWindow n c o r i hits w (start + a * tickNs) ((xs.drop (step * a)).take step) s) s
          vbdListen c r (dbm0 i.legs.line) s) s
        let ear (recv : Bool) : ToneEar := (((s.chan? c).bind (fun k => k.ears.find? (fun e => e.recv == recv)))).getD { recv := recv }
        let s := s.modChan c (fun k => { k with ears := k.ears.map (fun e => { e with conv := (heard.getD e.recv.toNat ([], 0, [])).2.2 }) })
        let open_ := hits.filter (fun h => hitStands (dbm0 i.legs.line) (progField r 7 12 60 24) (ear h.recv) h)
        (open_.foldl (fun s h => toneHit n c r { h with cls := if h.reversal then h.cls else ansOr (ear h.recv) h.cls } s) s).modChan c (fun k => { k with restored := false })

/-- `TD.STATUS`. -/
def tdStatus (n : Nat) (s : Dev) : Dev :=
  (s.setBit (Reg.tdStatus n) 0 (enginePass s n .td (s.rbit (Reg.tdCfg n) 0))).setBit (Reg.tdStatus n) 1 (engineBusy s n .td)

/-- A write of `TD.CFG.EN` (R321). -/
def tdEnWrite (n : Nat) (en : Bool) (s : Dev) : Dev := tdStatus n (s.setBit (Reg.tdCfg n) 0 en)

/-! ### Telephone events received (R309, R314, R315) -/

/-- EVENT_RX of an event packet's payload, under the home tile's source. -/
def eventRx (c : Nat) (o : Octets) (discarded : Bool) (s : Dev) : Dev :=
  tileEvent c 0x0604 ([BitVec.ofNat 8 (oct o 0), BitVec.ofNat 8 (oct o 1 % 64)] ++ toLe 2 (be o 2 2) ++ [0, 0, 0, BitVec.ofNat 8 (8 * discarded.toNat)]) s

/-- A received event starts passthrough when the program's VBD mask holds its tone (R309). -/
def rxVbd (c code : Nat) (s : Dev) : Dev :=
  match s.chan? c with
  | none => s
  | some k =>
    match progOf s k.params with
    | none => s
    | some r =>
      let m := le r 4 2
      if (32 ≤ code ∧ code ≤ 35 ∧ (m.testBit 6 ∨ m.testBit 7)) ∨ (code = 36 ∧ m.testBit 8) then vbdTrigger c 0x0604 s else s

/-- The line direction goes quiet after a tone: EC_TAIL × 4 ms (R312). -/
def lineEnds (s : Dev) (k : Channel) : Channel := { k with lineQuiet := some (s.cycles + usCycles (1000 * ecTailMs k.params)) }

/-- The partner to which a channel's received events cross (R315). -/
def crossTo (s : Dev) (k : Channel) : Option Nat := if (relayOf s k).testBit 2 then k.legs.partner.filter (fun p => (s.chan? p).isSome) else none

/-- A duration in RTP units on another channel's clock. -/
def onClock (k q : Channel) (n : Nat) : Nat := n * clockOf q / clockOf k

/-- A received event crosses to partner `p` (R315): sent there as an event, or, where the partner sends none, played towards the network. -/
def crossStart (p : Nat) (k : Channel) (e : RxEvent) (s : Dev) : Dev :=
  match s.chan? p with
  | none => s
  | some q =>
    if eventPt q then
      let s := sendEvent p e.code (2 * e.volume) (crossNs s k p e.at_) (decide (e.code ≤ 15)) s
      if e.ended then endEvent p e.code s else s
    else if 15 < e.code then s
    else
      let on (i : Instance) : Instance := { i with toneNet := true }
      s.setChan p { q with netEvent := some { e with duration := onClock k q e.duration }, active := q.active.map on, deferred := q.deferred.map on }

/-- What the partner makes of a received event changes with it; an event that has ended ends there too. -/
def crossUpdate (p : Nat) (k : Channel) (e : RxEvent) (s : Dev) : Dev :=
  let s := if e.ended then endEvent p e.code s else s
  s.modChan p (fun q => { q with netEvent := q.netEvent.map (fun x =>
    if x.ts = e.ts then { x with volume := e.volume, duration := onClock k q e.duration, ended := x.ended || e.ended } else x) })

/-- An event packet reaches its due instant (R314, R315). The later packets of an event that has begun only update it. One that crosses a pair is played
on the partner's side alone (DEDUCED, log entry 81). -/
def eventDue (c : Nat) (p : Pkt) (s : Dev) : Dev :=
  match s.chan? c with
  | none => s
  | some k =>
    if k.rxLast = some p.ts then s
    else
      let k := { k with rxLast := some p.ts }
      let s := s.setChan c k
      let o := p.payload
      let code := oct o 0
      let due := dueOf s k p.ts
      -- by how much of the frame its due instant lies after the frame's start
      let lead : Nat := match k.active with | some i => ((due - (pullSpan k i).1) / 100000).toNat | none => 0
      let e : RxEvent := { ts := p.ts, code := code, volume := oct o 1 % 64, duration := be o 2 2, ended := (oct o 1).testBit 7, playing := true,
                           lead := lead, at_ := due.toNat }
      let cross := crossTo s k
      let s := match cross with
        | some q => if code ≤ 15 ∨ (32 ≤ code ∧ code ≤ 36) then crossStart q k e s else s
        | none => s
      if 16 ≤ code then rxVbd c code (eventRx c o false s)
      else if cross.isSome then s.modChan c (fun k => { k with rxEvent := if e.ended then none else some { e with playing := false } })
      else if k.genLine.isSome then eventRx c o true s
      else s.modChan c (fun k => { k with rxEvent := some e, active := k.active.map (fun i => { i with toneLine := true }) })

/-- An event packet updates the event that its timestamp names, stored or playing (R314). -/
def eventUpdate (c ts : Nat) (o : Octets) (s : Dev) : Dev :=
  match s.chan? c with
  | none => s
  | some k =>
    let x := extendTs k.jb.lastTs ts
    let pkts := k.jb.pkts.map (fun p => if p.cls = 1 ∧ p.ts = x then { p with payload := putOcts p.payload 1 (octs o 1 3) } else p)
    let s := s.setChan c { k with jb := { k.jb with pkts := pkts } }
    match k.rxEvent.filter (fun e => e.ts == x) with
    | none => s
    | some e =>
      let e := { e with volume := oct o 1 % 64, duration := be o 2 2, ended := e.ended || (oct o 1).testBit 7 }
      let s := s.modChan c (fun k => { k with rxEvent := if e.ended ∧ ¬ e.playing then none else some e })
      match crossTo s k with
      | some p => crossUpdate p k e s
      | none => s

/-- The length of a received event in 0.1 ms: its reported duration, or 40 ms if that is longer. -/
def eventLength (k : Channel) (e : RxEvent) : Nat := max 400 (e.duration * 10000 / clockOf k)

/-- A received event ends: the line direction goes quiet, or the partner's share of it ends. -/
def rxEnds (c : Nat) (k : Channel) (e : RxEvent) (s : Dev) : Dev :=
  let s := s.setChan c { (if e.playing then lineEnds s k else k) with rxEvent := none }
  match crossTo s k with
  | some p => crossUpdate p k { e with ended := true } s
  | none => s

/-- EVENT_RX_END_TIMEOUT (R314): 60 ms after the end of its last reported duration no update has come. -/
def eventTimeout (c : Nat) (s : Dev) : Dev :=
  match (s.chan? c).bind (fun k => k.rxEvent.map (fun e => (k, e))) with
  | none => s
  | some (k, e) => rxEnds c k e s

/-! ### Generation (R316 to R318) -/

/-- TONE_DONE. -/
def toneDone (c dir : Nat) (g : ToneGen) (cause : Nat) (s : Dev) : Dev :=
  tileEvent c 0x0605 ([BitVec.ofNat 8 dir, BitVec.ofNat 8 g.def_, BitVec.ofNat 8 cause] ++ toLe 2 (sat 16 g.played)) s

/-- A direction's command is taken at a spawn: the tone that plays now, and the record of one that ends. -/
def toneTake (c dir : Nat) (cur : Option ToneGen) (next : ToneNext) (s : Dev) : Option ToneGen × Dev :=
  match next with
  | .keep => (cur, s)
  | .stop => (none, match cur with | some g => toneDone c dir g 1 s | none => s)
  | .play g => (some { g with started := true }, match cur with | some old => toneDone c dir old 2 s | none => s)

/-- Both directions at a spawn. -/
def toneSpawn (c : Nat) (s : Dev) : Dev :=
  match s.chan? c with
  | none => s
  | some k =>
    let (l, s) := toneTake c 0 k.genLine k.lineNext s
    let (n, s) := toneTake c 1 k.genNet k.netNext s
    s.modChan c (fun k =>
      let k := if k.genLine.isSome ∧ l.isNone then lineEnds s k else k
      { k with genLine := l, genNet := n, lineNext := .keep, netNext := .keep })

/-- The pairs of ON and OFF of a definition in 0.1 ms, those that it uses. -/
def cadence (r : Octets) : List (Nat × Nat) := (upTo (oct r 11)).map (fun i => (10 * le r (12 + 4 * i) 2, 10 * le r (14 + 4 * i) 2))

/-- A cadence cycle in 0.1 ms. -/
def cadenceLen (r : Octets) : Nat := ((cadence r).map (fun p => p.1 + p.2)).sum

/-- Edges of the ON periods within one cycle: start and end. -/
def onPeriods (r : Octets) : List (Nat × Nat) :=
  ((cadence r).foldl (fun (a : Nat × List (Nat × Nat)) p => (a.1 + p.1 + p.2, a.2 ++ [(a.1, a.1 + p.1)])) (0, [])).2

/-- A network-direction tone sends each ON period as an event (R317): the edges within the span [`a`, `b`) of its cadence, whose start is at instant
`frameNs`. -/
def toneEvents (c : Nat) (g : ToneGen) (r : Octets) (a b frameNs : Nat) (s : Dev) : Dev :=
  let len := max 1 (cadenceLen r)
  let place (x : Nat) : Option Nat := let y := (x + len - a % len) % len; if a + y < b then some y else none
  let ons := (onPeriods r).filterMap (fun p => place p.1)
  let offs := (onPeriods r).filterMap (fun p => place (p.2 % len))
  let code := oct r 31
  let edge (s : Dev) (y : Nat) : Dev :=
    let s := if offs.contains y then endEvent c code s else s
    if ons.contains y then s.modChan c (startEvent code ((-(signed 16 g.level)) / 100).toNat (frameNs + 100000 * y) true) else s
  (sorted (fun x y => decide (x ≤ y)) (ons ++ offs.filter (fun y => !ons.contains y))).foldl edge s

/-- One direction's tone after a node of `n` in 0.1 ms. -/
def toneStep (c dir n : Nat) (o : Octets) (g : ToneGen) (s : Dev) : Option ToneGen × Dev :=
  match toneDef o g.def_ with
  | none => (some g, s)
  | some r =>
    let pos := g.pos + n
    let done := pos / max 1 (cadenceLen r)
    if 0 < g.count ∧ g.count ≤ done then (none, toneDone c dir { g with played := g.count } 0 s)
    else (some { g with pos := pos, played := done }, s)

/-- A partner's event in an instance that reads the handoff ring: it starts in the frame whose span holds its instant. -/
def netEventNow (s : Dev) (i : Instance) (e : RxEvent) : RxEvent :=
  let l := match i.legs.partner.bind s.chan? with | some q => pairLag i.frame q.frame_ | none => 0
  let start := (i.spawnTick - (i.frame + l)) * tickNs
  if e.playing ∨ start + i.frame * tickNs ≤ e.at_ then e else { e with playing := true, lead := (e.at_ - start) / 100000 }

/-- A tone generate node of channel `c`. -/
def toneGenNode (c : Nat) (s : Dev) : Dev :=
  match (s.chan? c).bind (fun k => k.active.map (fun i => (k, i))) with
  | none => s
  | some (k, i) =>
    let n := 25 * i.frame
    let o := toneSection s
    let s := match k.genNet.bind (fun g => (toneDef o g.def_).map (fun r => (g, r))) with
      | some (g, r) =>
        if oct r 31 ≠ 0xFF ∧ eventPt k then toneEvents c g r g.pos (g.pos + n) (i.spawnTick * tickNs - i.frame * tickNs) s else s
      | none => s
    let (l, s) := match k.genLine with | some g => toneStep c 0 n o g s | none => (none, s)
    let (m, s) := match k.genNet with | some g => toneStep c 1 n o g s | none => (none, s)
    let s := match k.genNet.bind (fun g => toneDef o g.def_) with
      | some r => if m.isNone then endEvent c (oct r 31) s else s
      | none => s
    let after (e : RxEvent) : RxEvent := if e.playing then { e with pos := e.pos + (n - e.lead), lead := e.lead - n } else e
    s.modChan c (fun k =>
      let rx := k.rxEvent.map after
      let spent (x : Option RxEvent) : Bool := match x with | some e => e.playing && e.ended && decide (eventLength k e ≤ e.pos) | none => false
      let net := (k.netEvent.map (netEventNow s i)).map after
      let k := if (k.genLine.isSome ∧ l.isNone) ∨ spent rx then lineEnds s k else k
      { k with genLine := l, genNet := m, rxEvent := if spent rx then none else rx, netEvent := if spent net then none else net })

end Sys2Proof.Machine
end

