-- ==== Sys2Proof/Machine/Dossier.lean ====
section
/-! DEFINITION. Dossiers and the catalogue: their octets, how they are sent, stored and staged, and the restore of a channel from one (R126,
R212, R258, R259, R319, R346, R441 to R445, R452, R459). -/

namespace Sys2Proof.Machine

/-- Octets of a dossier. -/
def dossierLen : Nat := 1024

/-- A level in −0.5 dBFS from 0.01 dBFS. -/
def levelOct (v : Option Int) : Nat := match v with | none => 0xFF | some x => min 0xFE ((-x) / 50).toNat

/-- Octets 968 to 1,019 (R441). -/
def dossierTail (k : Channel) : Octets :=
  let j := k.jb
  let dirs := (k.recs.any (fun r => r.content == 1)).toNat + 2 * (k.recs.any (fun r => r.content == 2)).toNat
  let r := k.recs.head?
  let pre := match r with | some r => if r.order ≤ 2 then r.order else 3 | none => 0
  let next (c : Nat) : Nat := ((k.recs.find? (fun r => r.content == c)).map (·.seq)).getD 0
  let cap : Nat := match j.mapping, j.t0 with | some m, some t => (captureNs m t).toNat | _, _ => 0
  let cm : Int := match j.mapping with
    | some m => if m.ns = 0 then 0 else (m.units : Int) * 1000000000 * 1000000000 / (m.ns * clockOf k) - 1000000000
    | none => 0
  [BitVec.ofNat 8 (k.vbd.toNat + 2 * j.mapping.isSome.toNat + 4 * j.t0.isSome.toNat + 8 * dirs + 32 * pre), BitVec.ofNat 8 (satInt 8 (k.agc / 100)),
    BitVec.ofNat 8 (levelOct k.rfeIn.rms), BitVec.ofNat 8 (levelOct k.rfeOut.rms)] ++ toLe 4 k.tsOffset ++
    toLe 4 (j.t0.getD 0 % 2 ^ 32) ++ toLe 8 (satInt 64 j.bs) ++ toLe 2 (sat 16 (j.d / 100000)) ++ toLe 4 (satInt 32 j.drift) ++
    toLe 4 ((j.seq.cycles + j.seq.maxSeq) % 2 ^ 32) ++ toLe 8 cap ++ toLe 4 (satInt 32 cm) ++ toLe 2 ((r.map (·.sid)).getD 0) ++
    toLe 4 (next 1) ++ toLe 4 (next 2)

/-- A channel's dossier; `taps` are the exponents and mantissae of its foreground. -/
def dossierOctets (k : Channel) (taps : Octets) : Octets :=
  let o := padTo 968 (echoRecord k taps) ++ dossierTail k
  o ++ toLe 4 (crc32c o)

/-- A dossier's CRC is correct. -/
def dossierOk (o : Octets) : Bool := o.length == dossierLen && le o 1020 4 == crc32c (o.take 1020)

/-- A dossier as it is stored (R444). -/
def dossierTrim (o : Octets) : Octets :=
  if ¬ (oct o 6).testBit 2 then o.take 8 ++ o.drop 968
  else if ¬ (oct o 6).testBit 3 then o.take 488 ++ o.drop 968
  else o

/-- A stored dossier in full. -/
def dossierFull (o : Octets) : Octets :=
  if ¬ (oct o 6).testBit 2 then o.take 8 ++ zeros 960 ++ o.drop 8
  else if ¬ (oct o 6).testBit 3 then o.take 488 ++ zeros 480 ++ o.drop 488
  else o

/-! ### Staging and writing (R444, R459) -/

/-- A dossier arrives at the store of this device: staged, or dropped when its CRC fails or it is not newer than the one held or in use. -/
def dossierStage (g spawn : Nat) (record o : Octets) (s : Dev) : Dev :=
  let bad (s : Dev) : Dev := s.bump Reg.ronDossierBad
  let held := (kvGet s.ron.stagedDossiers g).or (kvGet s.ron.dossiers g)
  let older : Bool := match held with
    | some x => if x.tepoch = s.time.tepoch then pastMod 32 x.spawn spawn else !tepochOlder x.tepoch s.time.tepoch
    | none => false
  let serving : Bool := match s.ron.takeover with | some t => t.hid == g / 65536 && (s.chan? (g % 65536)).isSome | none => false
  if !dossierOk o || older || serving then bad s
  else
    let s := { s with ron := { s.ron with stagedDossiers := kvSet s.ron.stagedDossiers g ⟨s.time.tepoch, spawn, o⟩ } }
    if record.isEmpty then s else { s with ron := { s.ron with stagedRecords := kvSet s.ron.stagedRecords g record } }

/-- A catalogue record arrives (R442, R444): staged. -/
def recordStage (record : Octets) (s : Dev) : Dev :=
  { s with ron := { s.ron with stagedRecords := kvSet s.ron.stagedRecords (le record 0 4 % 2 ^ 20) record } }

/-- The staged entries that `take` names are written into the tiles; a record of state FREE deletes its channel's entry. -/
def writeStaged (take : Nat → Bool) (s : Dev) : Dev :=
  let r := s.ron
  let ds := r.stagedDossiers.filter (fun p => take p.1)
  let rs := r.stagedRecords.filter (fun p => take p.1)
  let r := { r with stagedDossiers := r.stagedDossiers.filter (fun p => !take p.1), stagedRecords := r.stagedRecords.filter (fun p => !take p.1) }
  let r := ds.foldl (fun r p => { r with dossiers := kvSet r.dossiers p.1 { p.2 with octets := dossierTrim p.2.octets } }) r
  let r := rs.foldl (fun r p =>
    if oct p.2 66 = 0 then { r with catalogue := kvDel r.catalogue p.1, dossiers := kvDel r.dossiers p.1 }
    else { r with catalogue := kvSet r.catalogue p.1 p.2 }) r
  { s with ron := r }

/-! ### Sending (R443, R459) -/

/-- A dossier node of channel `c` sends the channel's dossier: towards the reserve, or in spare-cluster mode over the fabric to CL15. -/
def dossierSend (c : Nat) (taps : Octets) (s : Dev) : Dev :=
  match (s.chan? c).bind (fun k => k.active.map (fun i => (k, i))) with
  | none => s
  | some (k, i) =>
    let g := globalId k.owner c
    let o := dossierOctets k taps
    if s.ron.fenced then s
    else if s.spare then dossierStage g (i.spawnTick % 2 ^ 32) [] o s
    else match dossierDest s with
      | none => s
      | some h => ronSendTo h 3 1 g (toBe 4 (i.spawnTick % 2 ^ 32) ++ catalogueRecord s c k k.st.num ++ o) s

/-! ### Restoring -/

/-- The jitter buffer from a dossier (R212), with the packets that the packet store still holds, whose timestamps the dossier's T0 continues. Frames
before the takeover instance's span have been played. -/
def jbRestored (k : Channel) (o : Octets) : Jb :=
  let f := oct o 968
  let q := le o 994 4
  let t0 := extendTs (k.jb.pkts.head?.map (·.ts)) (le o 976 4)
  let rel := signed 32 (le o 1006 4)
  { pkts := k.jb.pkts, stored := k.jb.stored, t0 := if f.testBit 2 then some t0 else none, bs := signed 64 (le o 980 8), d := 100000 * le o 988 2,
    drift := signed 32 (le o 990 4), lastTs := if f.testBit 2 then some t0 else none, restore := true,
    pulledTo := k.active.map (fun i => (pullSpan k i).1.toNat),
    seq := if f.testBit 2 then { started := true, maxSeq := q % 65536, cycles := q / 65536 * 65536, baseSeq := q % 65536, probation := 0, uniq := 1 }
           else {},
    mapping := if f.testBit 1 then
        some { ntp := le o 998 8, ts := t0, units := (((1000000000 : Int) + rel) * clockOf k).toNat, ns := 1000000000000000000 }
      else none }

/-- The recording streams from a dossier (R346): 64 is added to each sequence number, and the first block is RESUMED. -/
def recsRestored (o : Octets) : List RecStream :=
  let f := oct o 968
  let pre := nfld f 5 2
  let one (content off : Nat) : RecStream :=
    { content := content, sid := le o 1010 2, order := if pre = 3 then 0xFF else pre, seq := (le o off 4 + 64) % 2 ^ 32, resumed := true }
  (if f.testBit 3 then [one 1 1012] else []) ++ (if f.testBit 4 then [one 2 1016] else [])

/-- The tones that play on a channel end with a restore, and are not resumed (R319). -/
def tonesRestore (c : Nat) (s : Dev) : Dev :=
  match s.chan? c with
  | none => s
  | some k =>
    let s := match k.genLine with | some g => toneDone c 0 g 3 s | none => s
    match k.genNet with | some g => toneDone c 1 g 3 s | none => s

/-- Recording streams across a restore (R344): the open blocks close as END blocks, and each stream `rs` resumed records a gap, whose length in samples
the spec does not give: a free value (log entry 81). -/
def recsBreak (c : Nat) (k : Channel) (rs : List RecStream) (s : Dev) : Dev :=
  let s := k.recs.foldl (fun s r => (recCloseBlock c true r s).2) s
  rs.foldl (fun s r => let (n, s) := s.drawBelow (2 ^ 32); recGap c r.content n 0 k.owner s) s

/-- A dossier node in restore mode (R452): the context is written from the stored dossier, both codec directions are reset, and RESTORED is
recorded; it counts as promoted (R82); a tone that was playing is not resumed (R319). A stored dossier that fails parity or its CRC is not
used: the channel starts from its catalogue record (R508). -/
def dossierRestore (c : Nat) (bad : Bool) (s : Dev) : Dev :=
  let s := s.modChan c (fun k => { k with awaits := false })
  match s.chan? c with
  | none => s
  | some k =>
    match kvGet s.ron.dossiers (globalId k.owner c) with
    | none => s
    | some st =>
      if bad then
        ((s.bump Reg.ronDossierBad).bump (Reg.tileDmemPar k.home)).modChan c (fun k => { k with resetDec := true, resetEnc := true })
      else
      let o := dossierFull st.octets
      let s := recsBreak c k (recsRestored o) (tonesRestore c s)
      let level (off : Nat) : Option Int := if oct o off = 0xFF then none else some (-(50 * (oct o off : Int)))
      let s := s.modChan c (fun k => { k with
        jb := jbRestored k o, recs := recsRestored o, vbd := (oct o 968).testBit 0, vbdNext := none, agc := 100 * signed 8 (oct o 969),
        rfeIn := { rms := level 970 }, rfeOut := { rms := level 971 }, tsOffset := le o 972 4, tonesOn := [], ears := [], restored := true,
        genLine := none, genNet := none, rxEvent := none, rxLast := none, netEvent := none, txEvents := [], resetDec := true, resetEnc := true, echo := {} })
      let s := (refreshRec s).bump Reg.gduEpochPromoted
      if (oct o 6).testBit 2 then echoRestore c o s else tileEvent c 0x0406 [0, 0] s

/-- The channel that a catalogue record describes (R442), with its local ID. -/
def catalogueChannel (s : Dev) (r : Octets) : Option (Nat × Channel) :=
  let g := le r 0 4 % 2 ^ 20
  let params := octs r 16 48
  match kvGet s.epochs.cur.templates (oct params 0) with
  | none => none
  | some t =>
    let opt (off : Nat) : Option Nat := let v := le r off 4; if v = 0xFFFFFFFF then none else some v
    let partner := le r 12 4
    let ch := chargeOf s.epochs.cur.cost t params
    let now := s.time.lastTick.getD 0
    some (g % 65536,
      { st := if oct r 66 = 1 ∨ oct r 66 = 2 then .opened else .running, owner := g / 65536, params := params, template := t, phase := oct r 64,
        home := nfld (le r 0 4) 20 8, charge := ch, catSeq := le r 68 4,
        awaits := decide (2 < oct r 66) && frameTicks (oct params 1 % 8) != 0 && t.holds 0x13,
        legs := { line := opt 4, session := opt 8, partner := if partner.testBit 31 then some (partner % 65536) else none },
        stats := { openTick := now }, shown := { openTick := now, snapTick := now }, live := params })

end Sys2Proof.Machine
end

