-- ==== Sys2Proof/Machine/Network.lean ====
section
/-! DEFINITION. The network ports (spec/14): groups and lanes (R367 to R376), link state (R377), the MAC's receive tests and pause
(R378 to R387), transmit queues and stamps (R388, R389, R402, R405 to R408), and disabling (R393, R394). MAC 8 is the Night Desk's (R474). -/

namespace Sys2Proof.Machine

/-! ### Groups, ports and lanes (R367, R384) -/

/-- The MAC whose GROUP register sets the group of MAC or lane `e`. -/
def groupHead (e : Nat) : Nat := e / 4 * 4

/-- MODE of the group of MAC or lane `e`. -/
def groupMode (s : Dev) (e : Nat) : Nat := s.rfld (Reg.macGroup (groupHead e)) 0 3

/-- The lanes of a port in a mode. -/
def portLanes (mode : Nat) : Nat := if mode = 1 then 4 else if mode = 2 then 2 else if 3 ≤ mode ∧ mode ≤ 5 then 1 else 0

/-- The mode names MAC `e`: it carries traffic. -/
def macNamed (s : Dev) (e : Nat) : Bool :=
  let m := groupMode s e
  decide (0 < portLanes m) && decide (e % 4 * portLanes m < 4)

/-- The lanes of MAC `e`'s port. -/
def lanesOf (s : Dev) (e : Nat) : List Nat :=
  let n := portLanes (groupMode s e)
  if macNamed s e then (upTo n).map (fun i => groupHead e + e % 4 * n + i) else []

/-- The MAC whose port holds lane `m`. -/
def macOfLane (s : Dev) (m : Nat) : Option Nat := if 8 ≤ m then none else (upTo 8).find? (fun e => (lanesOf s e).contains m)

/-- The rate of MAC `e`'s port in Mbit/s; the Night Desk's is what its PHY settled (R473). -/
def portRate (s : Dev) (e : Nat) : Nat :=
  if e = 8 then (if s.rbit Reg.ndkStatus 2 then 100 else 10)
  else [0, 200000, 100000, 50000, 25000, 10000].getD (groupMode s e) 0

/-- Receive and transmit buffer of MAC `e`, in octets (R384, R474). -/
def rxBuffer (s : Dev) (e : Nat) : Nat :=
  if e = 8 then 16384 else [0, 524288, 262144, 131072, 131072, 131072].getD (groupMode s e) 0

def txBuffer (s : Dev) (e : Nat) : Nat := rxBuffer s e / 2

/-- The network domain of MAC `e`. -/
def netDomain (e : Nat) : Nat := if e < 4 then 20 else 21

/-- The registers of MAC `e`, the Night Desk's where `e` is 8. -/
def cfgReg (e : Nat) : Nat := if e = 8 then Reg.ndkCfg else Reg.macCfg e
def statReg (e : Nat) : Nat := if e = 8 then Reg.ndkStatus else Reg.macStatus e
def ucastLo (e i : Nat) : Nat := if e = 8 then Reg.ndkUcastLo i else Reg.macUcastLo e i
def ucastHi (e i : Nat) : Nat := if e = 8 then Reg.ndkUcastHi i else Reg.macUcastHi e i
def hashReg (e k : Nat) : Nat := if e = 8 then Reg.ndkHash k else Reg.macHash e k

/-- MAC `e` beside its registers. -/
def portOf (s : Dev) (e : Nat) : Mac := if e = 8 then s.night.mac else s.mac e

/-- The device with MAC `e` written. -/
def putPort (s : Dev) (e : Nat) (m : Mac) : Dev := if e = 8 then { s with night := { s.night with mac := m } } else s.setMac e m

/-- The counters of a MAC. -/
inductive MacCount where
  | rxOk | rxOctets | rxRunt | rxOversize | rxFcs | rxFilter | rxOverflow | rxParity | rxPause | rxUnsup | rxBcast | rxMcast
  | txOk | txOctets | txPause | txOversize | txDisabled | txParity
deriving DecidableEq, Repr

/-- A counter's register; the Night Desk has fewer (R474, R395). -/
def MacCount.reg (c : MacCount) (e : Nat) : Option Nat :=
  if e = 8 then
    match c with
    | .rxOk => some Reg.ndkRxOk | .rxRunt => some Reg.ndkRxRunt | .rxOversize => some Reg.ndkRxOversize | .rxFcs => some Reg.ndkRxFcs
    | .rxFilter => some Reg.ndkRxFilter | .rxOverflow => some Reg.ndkRxOverflow | .rxPause => some Reg.ndkRxPause
    | .rxUnsup => some Reg.ndkRxMacctlUnsup | .txOk => some Reg.ndkTxOk | .txPause => some Reg.ndkTxPause
    | .rxOctets | .rxParity | .rxBcast | .rxMcast | .txOctets | .txOversize | .txDisabled | .txParity => none
  else
    match c with
    | .rxOk => some (Reg.macRxOk e) | .rxOctets => some (Reg.macRxOctets e) | .rxRunt => some (Reg.macRxRunt e)
    | .rxOversize => some (Reg.macRxOversize e) | .rxFcs => some (Reg.macRxFcs e) | .rxFilter => some (Reg.macRxFilter e)
    | .rxOverflow => some (Reg.macRxOverflow e) | .rxParity => some (Reg.macRxParity e) | .rxPause => some (Reg.macRxPause e)
    | .rxUnsup => some (Reg.macRxMacctlUnsup e) | .rxBcast => some (Reg.macRxBcast e) | .rxMcast => some (Reg.macRxMcast e)
    | .txOk => some (Reg.macTxOk e) | .txOctets => some (Reg.macTxOctets e) | .txPause => some (Reg.macTxPause e)
    | .txOversize => some (Reg.macTxOversize e) | .txDisabled => some (Reg.macTxDisabled e) | .txParity => some (Reg.macTxParity e)

/-- A MAC's counter goes up. -/
def count (c : MacCount) (e : Nat) (s : Dev) (n : Nat := 1) : Dev :=
  match c.reg e with
  | none => s
  | some a => s.bump64 a n

/-- A source that a MAC or lane records at most once per second. -/
def oncePerSec (src : Nat) (s : Dev) : Dev :=
  let (first, s) := s.oncePer src s.now.sec
  if first then occur src {} s else s

/-- The port runs full duplex: every network port, and the Night Desk's in that mode. -/
def fullDuplex (s : Dev) (e : Nat) : Bool := e != 8 || s.rbit Reg.ndkStatus 1

/-- LINK of a MAC. -/
def linkIs (s : Dev) (e : Nat) : Bool := s.rbit (statReg e) 0

/-- The network MACs and lanes and the highways carry traffic on a standalone device and a manager alone; those of a worker and of the reserve are
held idle (R26). -/
def carriesNet (s : Dev) : Bool := decide (s.role ≤ 1)

/-- The MAC carries traffic: its domain is on, its mode names it, EN = 1 and the link is up, on a device whose MACs carry traffic. -/
def macRuns (s : Dev) (e : Nat) : Bool :=
  s.rbit (cfgReg e) 0 && linkIs s e && (if e = 8 then true else carriesNet s && s.domainOn (netDomain e) && macNamed s e)

/-! ### Buffers (R384, R385, R393) -/

/-- Octets in the receive buffer. -/
def rxUsed (m : Mac) : Nat := (m.rx.map (·.len)).sum

/-- KiB that hold `n` octets. -/
def kib (n : Nat) : Nat := (n + 1023) / 1024

/-- `RXB`, `RXB_MAX` and IDLE follow the buffers. -/
def macShow (e : Nat) (s : Dev) : Dev :=
  if e = 8 then s
  else
    let m := s.mac e
    let u := kib (rxUsed m)
    let s := (s.setFld (Reg.macRxb e) 0 10 (rxBuffer s e / 1024)).setFld (Reg.macRxb e) 16 10 u
    (s.maxFld (Reg.macRxbMax e) 0 10 u).setBit (Reg.macStatus e) 1 (m.rx.isEmpty && m.tx.isEmpty)

/-- PAUSE_QUANTA, at least 0x100. The Night Desk has no such register and sends the most (R474 gives none). -/
def pauseQuanta (s : Dev) (e : Nat) : Nat := if e = 8 then 0xFFFF else max 0x100 (s.rfld (Reg.macPauseQuanta e) 0 16)

/-- `n` quanta of 512 bit times at the port's rate, in cycles. -/
def quantaCycles (s : Dev) (e n : Nat) : Nat := let r := portRate s e; if r = 0 then 0 else (n * 256000 + r - 1) / r

/-- The watermarks in 64ths; the Night Desk takes the defaults of R396. -/
def highMark (s : Dev) (e : Nat) : Nat := if e = 8 then 48 else s.rfld (Reg.macWm e) 8 6
def lowMark (s : Dev) (e : Nat) : Nat := if e = 8 then 32 else s.rfld (Reg.macWm e) 0 6

/-- The address of MAC `e` in frames that it makes itself: its `UCAST[0]`, the Night Desk's of R474. -/
def macAddress (s : Dev) (e : Nat) : Octets :=
  if e = 8 then 2 :: toBe 5 ((s.reg (Reg.glbSerial 0)).toNat + 2 ^ 32 * s.rfld (Reg.glbSerial 1) 0 8)
  else toBe 2 (s.rfld (Reg.macUcastHi e 0) 0 16) ++ toBe 4 (s.reg (Reg.macUcastLo e 0)).toNat

/-- The group address of MAC control frames. -/
def pauseGroup : Octets := [0x01, 0x80, 0xC2, 0x00, 0x00, 0x01]

/-- The address equals a VALID `UCAST` entry. -/
def ucastHit (s : Dev) (e : Nat) (da : Octets) : Bool :=
  (upTo (if e = 8 then 2 else 8)).any (fun i =>
    s.rbit (ucastHi e i) 31 && s.rfld (ucastHi e i) 0 16 == be da 0 2 && (s.reg (ucastLo e i)).toNat == be da 2 4)

/-- A MAC control frame (R386): the pause timer is set, or cleared, or the frame is counted and dropped. -/
def macControl (e : Nat) (o : Octets) (s : Dev) : Dev :=
  let da := o.take 6
  if be o 14 2 = 1 ∧ (da = pauseGroup ∨ ucastHit s e da) ∧ fullDuplex s e then
    let s := count .rxPause e s
    if s.rbit (cfgReg e) 2 then s
    else
      let q := be o 16 2
      let until_ := if q = 0 then none else some (s.cycles + quantaCycles s e q)
      let s := putPort s e { portOf s e with pauseUntil := until_ }
      if e = 8 then s else s.setBit (Reg.macStatus e) 2 until_.isSome
  else count .rxUnsup e s

/-- LOOP of MAC `e`'s lanes (R376): 0 none, 1 when its frames come back to its own receiver, 2 when its lanes send back what they receive. -/
def loopOf (s : Dev) (e : Nat) : Nat := if e = 8 then 0 else ((lanesOf s e).map (fun m => s.rfld (Reg.sdsCfg m) 10 2)).foldl max 0

/-- A pause frame leaves (R385); in loop it comes back to the MAC, or nowhere (R376). -/
def sendPause (e quanta : Nat) (s : Dev) : Dev :=
  let o := pauseGroup ++ macAddress s e ++ [0x88, 0x08, 0x00, 0x01] ++ toBe 2 quanta ++ zeros 42
  let s := count .txPause e s
  match loopOf s e with
  | 0 => s.emit (.frame e o true)
  | 1 => macControl e o s
  | _ => s

/-- STATUS.XOFF; the Night Desk shows none. -/
def setXoff (e : Nat) (b : Bool) (s : Dev) : Dev := if e = 8 then s else s.setBit (Reg.macStatus e) 3 b

/-- XOFF leaves, and the time at which it is due again is noted. -/
def sendXoff (e : Nat) (s : Dev) : Dev :=
  let q := pauseQuanta s e
  let s := sendPause e q s
  setXoff e true (putPort s e { portOf s e with xoffAt := some (s.cycles + quantaCycles s e q / 2) })

/-- The MAC sends pause frames. -/
def sendsPause (s : Dev) (e : Nat) : Bool :=
  s.rbit (cfgReg e) 3 && s.rbit (cfgReg e) 0 && linkIs s e && fullDuplex s e && (e == 8 || carriesNet s)

/-- The states of R385 after the occupancy has changed. -/
def watermarks (e : Nat) (s : Dev) : Dev :=
  let m := portOf s e
  let u := 64 * rxUsed m
  let b := rxBuffer s e
  let s :=
    match m.xoffAt with
    | none => if sendsPause s e ∧ 0 < b ∧ highMark s e * b ≤ u then sendXoff e s else s
    | some _ =>
      if u ≤ lowMark s e * b then
        let s := setXoff e false (putPort s e { m with xoffAt := none })
        if sendsPause s e then sendPause e 0 s else s
      else s
  macShow e s

/-- Half of the PAUSE_QUANTA time has passed since the last XOFF: the pause ends at LOW, or is renewed (R385). -/
def xoffResend (e : Nat) (s : Dev) : Dev :=
  match (portOf s e).xoffAt with
  | none => s
  | some t =>
    let s := s.elapseTo t
    if 64 * rxUsed (portOf s e) ≤ lowMark s e * rxBuffer s e then watermarks e s
    else if sendsPause s e then sendXoff e s else s

/-! ### Receive (R378 to R383, R386) -/

/-- The EtherType position of a frame after its tags (R380): octet offset and tags counted. -/
def tagCount (o : Octets) : Nat :=
  let t := be o 12 2
  if t = 0x8100 ∨ t = 0x88A8 then (if be o 16 2 = 0x8100 then 2 else 1) else 0

/-- MAX_FRAME within its range (R380, R474). -/
def maxFrame (s : Dev) (e : Nat) : Nat :=
  if e = 8 then s.within Reg.ndkMaxFrame 0 12 1518 2048 else s.within (Reg.macMaxFrame e) 0 14 1518 9216

/-- The maximum of R380 for a frame. -/
def maxLen (s : Dev) (e : Nat) (o : Octets) : Nat := maxFrame s e + 4 * min (tagCount o) (min 2 (s.rfld (cfgReg e) 4 2))

/-- The hash index of a destination address (R383). -/
def hashIndex (da : Octets) : Nat := crc32 da / 2 ^ 23 % 512

/-- The address filter (R382). -/
def addressOk (s : Dev) (e : Nat) (da : Octets) : Bool :=
  if s.rbit (cfgReg e) 7 then true
  else if oct da 0 % 2 = 0 then ucastHit s e da || (e == 8 && da == macAddress s 8)
  else if da = [0xFF, 0xFF, 0xFF, 0xFF, 0xFF, 0xFF] then s.rbit (cfgReg e) 6
  else da == pauseGroup || s.rbit (hashReg e (hashIndex da / 32)) (hashIndex da % 32)

/-- The first test of R378 that a frame fails: none when it is accepted. -/
def rxTest (s : Dev) (e : Nat) (f : RxFrame) : Option MacCount :=
  if f.len < 64 then some .rxRunt
  else if maxLen s e f.octets < f.len then some .rxOversize
  else if ¬ f.fcsOk then some .rxFcs
  else if ¬ addressOk s e (f.octets.take 6) then some .rxFilter
  else if rxBuffer s e < rxUsed (portOf s e) + f.len then some .rxOverflow
  else if ¬ f.parityOk ∧ e ≠ 8 then some .rxParity
  else none

/-- The lane that carries logical lane 0 of MAC `e` (R402). -/
def stampLane (s : Dev) (e : Nat) : Nat := (lanesOf s e).getD (s.rfld (Reg.macStatus e) 8 2) (groupHead e)

/-- A time in ns moved by `n` sixteenths, never below zero. -/
def shiftSixteenths (ns : Nat) (n : Int) : Nat := ((ns : Int) + n / 16).toNat

/-- The delay of `TB.LAT[m]`, in sixteenths. -/
def latOf (s : Dev) (m : Nat) : Int := signed 32 (s.reg (Reg.tbLat m)).toNat

/-- What the FEC found in the codewords of a frame (R391). -/
def fecCount (e : Nat) (f : RxFrame) (s : Dev) : Dev :=
  if e = 8 ∨ (4 ≤ groupMode s e ∧ s.rfld (Reg.macGroup (groupHead e)) 4 2 = 2) then s
  else
    let s := (s.bump64 (Reg.macFecCorr e) f.fecCorr).bump64 (Reg.macFecUncorr e) f.fecUncorr
    let s := f.fecSym.foldl (fun s p => if (lanesOf s e).contains p.1.val then s.bump64 (Reg.sdsFecSym p.1.val) p.2 else s) s
    if 0 < f.fecUncorr then occur (0x358 + e) {} (s.setMac e { s.mac e with uncorrAt := some s.cycles }) else s

/-- A second has passed since `FEC_UNCORR` of MAC `e` last rose: source 0x358 + e is no longer live (R391). -/
def fecQuiet (e : Nat) (s : Dev) : Dev :=
  match (s.mac e).uncorrAt with
  | none => s
  | some t => if t + usCycles 1000000 ≤ s.cycles then faultEnd (0x358 + e) [] (s.setMac e { s.mac e with uncorrAt := none }) else s

/-- A frame has ended at the receiver of MAC `e` (R378): dropped, passed to R386, or stored for the MPE, in the side-band port's FIFO for the Night Desk (R474). -/
def frameEnd (e : Nat) (f : RxFrame) (s : Dev) : Dev :=
  if ¬ macRuns s e then s
  else
    let s := fecCount e f s
    match rxTest s e f with
    | some c =>
      let s := count c e s
      if e = 8 then s
      else if c = .rxOverflow then oncePerSec (0x350 + e) s
      else if c = .rxParity then occur (0x360 + e) {} s
      else s
    | none =>
      if be f.octets 12 2 = 0x8808 then macControl e f.octets s
      else
        let s := count .rxOctets e (count .rxOk e s) f.len
        let da := f.octets.take 6
        let s := if da = [0xFF, 0xFF, 0xFF, 0xFF, 0xFF, 0xFF] then count .rxBcast e s else if oct da 0 % 2 = 1 then count .rxMcast e s else s
        let t := if e = 8 then s.nowNs else shiftSixteenths (s.nowNs - f.len * 8000 / portRate s e) (- latOf s (stampLane s e))
        let m := portOf s e
        watermarks e (putPort s e { m with rx := m.rx ++ [⟨f.octets, f.len, t⟩] })

/-- A received frame has ended (R378). In loop, the MAC sees none of the frames that come from its partner (R376). -/
def macReceive (e : Nat) (f : RxFrame) (s : Dev) : Dev := if loopOf s e = 0 then frameEnd e f s else s

/-- The MPE takes the oldest frame of MAC `e`'s receive buffer. -/
def macTake (e : Nat) (s : Dev) : Option (RxHeld × Dev) :=
  match (s.mac e).rx with
  | [] => none
  | h :: r => some (h, watermarks e (s.setMac e { s.mac e with rx := r }))

/-- The pause timer runs out (R386, R387). -/
def pauseExpiry (e : Nat) (s : Dev) : Dev :=
  match (portOf s e).pauseUntil with
  | none => s
  | some t =>
    let s := s.elapseTo t
    let s := putPort s e { portOf s e with pauseUntil := none }
    if e = 8 then s else s.setBit (Reg.macStatus e) 2 false

/-! ### Transmit (R381, R388, R389, R392) -/

/-- The partition of a transmit queue in 64ths. -/
def txPart (s : Dev) (e q : Nat) : Nat := if q < 4 then s.rfld (Reg.macTxqPartLo e) (8 * q) 6 else s.rfld (Reg.macTxqPartHi e) (8 * (q - 4)) 6

/-- A frame padded to 60 octets (R381). -/
def padFrame (o : Octets) : Octets := if o.length < 60 then padTo 60 o else o

/-- A frame is offered to transmit queue `q` of MAC `e`; false when it is refused and counted (R377, R381, R389, R393). -/
def enqueue (e q : Nat) (octets : Octets) (stampId : Option Nat) (insert : Bool) (s : Dev) : Bool × Dev :=
  let o := padFrame octets
  let m := portOf s e
  let held := ((m.tx.filter (fun x => x.q == q)).map (fun x => x.octets.length + 4)).sum
  if ¬ macRuns s e then (false, count .txDisabled e s)
  else if maxLen s e o < o.length + 4 then (false, count .txOversize e s)
  else if e ≠ 8 ∧ txPart s e q * txBuffer s e < 64 * (held + o.length + 4) then (false, s.bump64 (Reg.macTxQfull e q))
  else (true, macShow e (putPort s e { m with tx := m.tx ++ [⟨q, o, stampId, insert⟩] }))

/-- The head of `TB.TSQ[e]` shows in its registers (R406). -/
def tsqShow (e : Nat) (s : Dev) : Dev :=
  let l := (kvGet s.time.tsq e).getD []
  let s := s.setNat (Reg.tbTsqCount e) l.length
  match l with
  | [] => s.setBit (Reg.tbTsqW2 e) 25 false
  | x :: _ =>
    let s := (s.setNat (Reg.tbTsqW0 e) x.stamp.ns).setNat (Reg.tbTsqW1 e) (x.stamp.sec % 2 ^ 32)
    let s := s.setNat (Reg.tbTsqW2 e) (x.stamp.sec / 2 ^ 32 % 65536 + 65536 * x.sixteenths + 2 ^ 24 * x.gap.toNat + 2 ^ 25)
    s.setNat (Reg.tbTsqW3 e) (x.id % 65536 + 65536 * (x.stamp.tepoch % 256))

/-- A stamp is pushed into the transmit stamp queue of MAC `e`, or lost (R406, R407). -/
def tsqPush (e id : Nat) (t : Stamp) (sixteenths : Nat) (s : Dev) : Dev :=
  let l := (kvGet s.time.tsq e).getD []
  if 64 ≤ l.length then
    let s := (s.bump (Reg.tbTsqLost e)).setBit Reg.tbTsqOvf e true
    let s := { s with time := { s.time with tsqGap := if s.time.tsqGap.contains e then s.time.tsqGap else e :: s.time.tsqGap } }
    let s := { s with time := { s.time with tsqLost := kvMod s.time.tsqLost e 0 (· + 1) } }
    let (first, s) := s.oncePer (0x10000 + e) s.now.sec
    if first then
      occurCode 0x046 0x0805 none (BitVec.ofNat 8 e :: toLe 4 (sat 32 ((kvGet s.time.tsqLost e).getD 0)))
        { s with time := { s.time with tsqLost := kvSet s.time.tsqLost e 0 } }
    else s
  else
    let gap := s.time.tsqGap.contains e
    tsqShow e { s with time := { s.time with tsq := kvSet s.time.tsq e (l ++ [⟨t, sixteenths, id, gap⟩]),
                                             tsqGap := s.time.tsqGap.filter (· != e) } }

/-- The frame that starts next: the first of the highest queue that holds one (R388). -/
def nextTx (l : List TxFrame) : Option TxFrame := ((upTo 8).reverse.filterMap (fun q => l.find? (fun x => x.q == q))).head?

/-- Where the PTP message stands in a frame: after the Ethernet header and its tag, or after the IP and UDP headers. -/
def ptpOffset (o : Octets) : Nat :=
  let h := 14 + 4 * tagCount o
  let t := be o (h - 2) 2
  if t = 0x0800 then h + 4 * (oct o h % 16) + 8 else if t = 0x86DD then h + 48 else h

/-- The sum of the 16-bit words of octets, in ones' complement. -/
def wordSum (o : Octets) : Nat := ((upTo ((o.length + 1) / 2)).map (fun i => be o (2 * i) 2)).sum % 65535

/-- The last two octets of `q` rewritten so that its words from octet `h` on add up as those of `o` do (R405). -/
def keepSum (h : Nat) (o q : Octets) : Octets :=
  let z := putOcts q (q.length - 2) [0, 0]
  let d := (wordSum (o.drop h) + 65535 - wordSum (z.drop h)) % 65535
  putOcts z (q.length - 2) (toBe 2 (if (q.length - h) % 2 = 0 then d else d * 256 % 65535))

/-- One-step insertion (R405): seconds and nanoseconds into originTimestamp, the sixteenths into correctionField, and the UDP checksum
zero over IPv4; over IPv6 the two octets after the message keep it valid. -/
def insertStamp (o : Octets) (t : Stamp) (sixteenths : Nat) : Octets :=
  let p := ptpOffset o
  let h := 14 + 4 * tagCount o
  let q := putOcts o (p + 34) (toBe 6 t.sec ++ toBe 4 t.ns)
  let q := putOcts q (p + 8) (toBe 8 ((be q (p + 8) 8 + 4096 * sixteenths) % 2 ^ 64))
  if be o (h - 2) 2 = 0x0800 then putOcts q (p - 2) [0, 0]
  else if be o (h - 2) 2 = 0x86DD then keepSum h o q else q

/-- The MAC starts the next frame, with its stamp and counters (R388, R392, R402, R405, R406). No frame starts while the pause timer
runs or the port does not carry traffic; a fenced device sends none (R451). -/
def transmitFrame (e : Nat) (parityOk : Bool) (sixteenths : Nat) (s : Dev) : Dev :=
  let m := portOf s e
  if ¬ macRuns s e ∨ m.pauseUntil.isSome ∨ (e ≠ 8 ∧ s.ron.fenced) then s
  else
    match nextTx m.tx with
    | none => s
    | some f =>
      let s := macShow e (putPort s e { m with tx := m.tx.erase f })
      let lat := if e = 8 then 0 else latOf s (stampLane s e)
      let six := ((sixteenths : Int) + lat)
      let t := stampOf (shiftSixteenths s.nowNs six) s.time.tepoch
      let x := (six % 16).toNat
      let o := if f.insert then insertStamp f.octets t x else f.octets
      let s := match f.stampId with
        | some id => if f.insert then s else tsqPush e id t x s
        | none => s
      let good := parityOk || e == 8
      let s := if good then count .txOctets e (count .txOk e s) (o.length + 4) else occur (0x360 + e) {} (count .txParity e s)
      match loopOf s e with
      | 0 => s.emit (.frame e o good)
      | 1 => frameEnd e { octets := o, len := o.length + 4, fcsOk := good, parityOk := true, fecCorr := 0, fecUncorr := 0, fecSym := [] } s
      | _ => s

/-! ### Link state (R377) -/

/-- The frames queued for transmission are discarded and counted. -/
def discardTx (e : Nat) (s : Dev) : Dev :=
  let m := portOf s e
  macShow e (putPort (count .txDisabled e s m.tx.length) e { m with tx := [] })

/-- The source of lane `m` (R395, R462). -/
def laneSource (m : Nat) : Nat := (if m < 8 then 0x340 else 0x380) + m

/-- TRAIN_STATE of lane `m`. -/
def trainState (s : Dev) (m : Nat) : Nat := s.rfld (Reg.sdsStatus m) 8 3

/-- TRAIN_STATE of lane `m` is written. -/
def setTrain (m st : Nat) (s : Dev) : Dev := s.setFld (Reg.sdsStatus m) 8 3 st

/-- A lane goes back to WAIT_SIGNAL. -/
def laneWait (m : Nat) (s : Dev) : Dev :=
  if trainState s m = 0 then s
  else ((((setTrain m 1 s).setBit (Reg.sdsStatus m) 1 false).setBit (Reg.sdsStatus m) 2 false).setBit (Reg.sdsStatus m) 3 false)

/-- The link of MAC `e` goes down (R377). -/
def linkGone (e : Nat) (localF remoteF : Bool) (s : Dev) : Dev :=
  let was := linkIs s e
  let s := ((s.setBit (Reg.macStatus e) 0 false).setBit (Reg.macStatus e) 4 localF).setBit (Reg.macStatus e) 5 remoteF
  if ¬ was then s
  else
    let s := discardTx e s
    let s := s.setMac e { s.mac e with pauseUntil := none, xoffAt := none }
    let s := (s.setBit (Reg.macStatus e) 2 false).setBit (Reg.macStatus e) 3 false
    let s := (lanesOf s e).foldl (fun s m => laneWait m s) s
    let s := if localF then s.emit (.remoteFault e) else s
    if s.rbit (Reg.macCfg e) 0 then occur (0x348 + e) {} s else s

/-- The Reconciliation Sublayer, the PCS or the FEC takes the link down. -/
def linkDown (e : Nat) (localF remoteF : Bool) (s : Dev) : Dev := if s.domainOn (netDomain e) then linkGone e localF remoteF s else s

/-- The link of MAC `e` comes up, with every lane of its port in DATA (R377, R373). -/
def linkUp (e : Nat) (laneMap : Byte) (s : Dev) : Dev :=
  if ¬ carriesNet s ∨ ¬ s.domainOn (netDomain e) ∨ (lanesOf s e).isEmpty ∨ ¬ (lanesOf s e).all (fun m => trainState s m == 4) then s
  else
    let s := (s.setFld (Reg.macStatus e) 8 8 laneMap.toNat).setBit (Reg.macStatus e) 0 true
    faultEnd (0x348 + e) [] ((s.setBit (Reg.macStatus e) 4 false).setBit (Reg.macStatus e) 5 false)

/-! ### Enables and settings (R367, R368, R393, R394) -/

/-- `MACn.CFG.EN` is written (R393). A MAC that the mode does not name ignores EN = 1 (R367). -/
def macEnWrite (e : Nat) (en : Bool) (s : Dev) : Dev :=
  let was := s.rbit (Reg.macCfg e) 0
  if en = was ∨ (en ∧ ¬ macNamed s e) then s
  else
    let s := s.setBit (Reg.macCfg e) 0 en
    let s := s.setMac e { s.mac e with pauseUntil := none, xoffAt := none }
    let s := (s.setBit (Reg.macStatus e) 2 false).setBit (Reg.macStatus e) 3 false
    if en then follow (0x348 + e) (!linkIs s e) {} s else faultEnd (0x348 + e) [] (discardTx e s)

/-- The value is one that R367 allows: the mode, and MEDIA and FEC that it lists. -/
def groupOk (v : Nat) : Bool :=
  let mode := v % 8
  let media := nfld v 3 1
  let fec := nfld v 4 2
  if mode = 0 then true
  else if mode ≤ 3 then fec == 0
  else if mode ≤ 5 then media == 0 && decide (fec ≤ 2)
  else false

/-- `MACn.GROUP` is written: of E0, or of E4 (R367, R368). -/
def groupWrite (head : Nat) (v : Word) (s : Dev) : Dev :=
  let v := v.toNat % 64
  let members := (upTo 4).map (head + ·)
  if ¬ groupOk v ∨ members.any (fun e => s.rbit (Reg.macCfg e) 0 || s.rbit (Reg.sdsCfg e) 0) then s.setBit (Reg.macStatus head) 6 true
  else
    let s := (s.setBit (Reg.macStatus head) 6 false).setNat (Reg.macGroup head) v
    let rate := if v % 8 = 4 then 1 else if v % 8 = 5 then 2 else 0
    members.foldl (fun s e => macShow e (s.setFld (Reg.sdsCfg e) 1 2 rate)) s

/-- `MACn.WM` is written (R385). -/
def wmWrite (e : Nat) (v : Word) (s : Dev) : Dev :=
  if fld v 8 6 ≤ fld v 0 6 ∨ 63 < fld v 8 8 then s.setBit (Reg.macStatus e) 6 true
  else watermarks e ((s.setBit (Reg.macStatus e) 6 false).setNat (Reg.macWm e) (v.toNat &&& 0x3F3F))

/-- The sum of the four partitions of a register. -/
def partSum (w : Word) : Nat := fld w 0 6 + fld w 8 6 + fld w 16 6 + fld w 24 6

/-- `MACn.TXQ_PART_LO` (`high` false) or `_HI` is written (R388). -/
def partWrite (e : Nat) (high : Bool) (v : Word) (s : Dev) : Dev :=
  let other := if high then Reg.macTxqPartLo e else Reg.macTxqPartHi e
  if 64 < partSum v + partSum (s.reg other) then s.setBit (Reg.macStatus e) 6 true
  else (s.setBit (Reg.macStatus e) 6 false).setNat (if high then Reg.macTxqPartHi e else Reg.macTxqPartLo e) (v.toNat &&& 0x3F3F3F3F)

/-- `SDSm.CFG.EN` is written (R370, R394). A lane that failed the power-on self-test stays off (R541). -/
def sdsEnWrite (m : Nat) (en : Bool) (s : Dev) : Dev :=
  if en = s.rbit (Reg.sdsCfg m) 0 ∨ (en ∧ s.boot.badLanes.contains m) then s
  else
    let s := s.setBit (Reg.sdsCfg m) 0 en
    if en then setTrain m 1 s
    else
      let s := match macOfLane s m with | some e => linkGone e false false s | none => s
      (s.setNat (Reg.sdsStatus m) 0).setLane m { s.lane m with txInv := false, failedAt := none }

/-- `SDSm.CFG.LOOP` is written; 3 is ignored (R376, R398). -/
def sdsLoopWrite (m loop : Nat) (s : Dev) : Dev := if loop = 3 then s else s.setFld (Reg.sdsCfg m) 10 2 loop

/-! ### Bring-up of a lane (R370 to R375) -/

/-- The transmit polarity of lane `m`'s present attempt. -/
def txPolarity (s : Dev) (m : Nat) : Bool := s.rbit (Reg.sdsCfg m) 8 != (s.rbit (Reg.sdsCfg m) 9 && (s.lane m).txInv)

/-- The lane enters DATA. -/
def laneData (m : Nat) (s : Dev) : Dev :=
  let s := ((setTrain m 4 s).setBit (Reg.sdsStatus m) 1 true).setBit (Reg.sdsStatus m) 5 (txPolarity s m)
  if s.rbit (Reg.sdsCfg m) 6 then s else s.setBit (Reg.sdsStatus m) 4 (s.rbit (Reg.sdsCfg m) 7)

/-- The lane trains, or with TRAIN_EN = 0 enters DATA at once; whether its receiver is then within its convergence limit is open. -/
def laneTrain (m : Nat) (s : Dev) : Dev :=
  if s.rbit (Reg.sdsCfg m) 4 then (setTrain m 3 s).setBit (Reg.sdsStatus m) 1 true
  else
    let (a, s) := s.drawBelow 2
    (laneData m s).setBit (Reg.sdsStatus m) 3 (a == 1)

/-- The lane on which auto-negotiation runs for lane `m`'s port: the port's lowest. -/
def anLane (s : Dev) (m : Nat) : Nat :=
  match macOfLane s m with
  | some e => (lanesOf s e).headD m
  | none => m

/-- Signal is detected on a lane (R370): AN, or TRAIN where AN does not run or has resolved. A network lane of a worker or the reserve stays idle (R26). -/
def signalDetect (m : Nat) (s : Dev) : Dev :=
  if trainState s m ≠ 1 ∨ (m < 8 ∧ ¬ carriesNet s) then s
  else
    let s := s.setBit (Reg.sdsStatus m) 0 true
    let a := anLane s m
    if m < 8 ∧ s.rbit (Reg.sdsCfg a) 3 ∧ (a = m ∨ trainState s a < 3) then setTrain m 2 s else laneTrain m s

/-- Auto-negotiation resolves the group's mode on lane `m` (R370): the port's lanes that waited for it train. -/
def anResolved (m : Nat) (s : Dev) : Dev :=
  if trainState s m ≠ 2 ∨ anLane s m ≠ m ∨ macOfLane s m = none then s
  else
    let port := match macOfLane s m with | some e => lanesOf s e | none => []
    port.foldl (fun s i => if trainState s i = 2 then laneTrain i s else s) s

/-- Training completes (R370 to R374). -/
def trainingComplete (m : Nat) (r : TrainOut) (s : Dev) : Dev :=
  if trainState s m ≠ 3 then s
  else
    let s := laneData m s
    let s := if s.rbit (Reg.sdsCfg m) 6 then s.setBit (Reg.sdsStatus m) 4 r.rxInv else s
    let s := (s.setBit (Reg.sdsStatus m) 2 true).setBit (Reg.sdsStatus m) 3 true
    let rate := s.rfld (Reg.sdsCfg m) 1 2
    let s := s.setNat (Reg.sdsTxFfe m) (if rate = 1 ∨ rate = 2 then r.ffe.toNat % 2 ^ 24 else r.ffe.toNat)
    if s.rbit (Reg.sdsCfg m) 5 then s else s.setNat (Reg.sdsRxEq m) (r.eq.toNat &&& 0xFF1F)

/-- A training attempt fails (R371): 100 ms in FAILED_WAIT, and the other transmit polarity next. -/
def trainingFail (m : Nat) (s : Dev) : Dev :=
  if trainState s m ≠ 3 then s
  else
    let s := setTrain m 5 (s.bump (Reg.sdsTrainFail m))
    let l := s.lane m
    let l : Lane := { txInv := if s.rbit (Reg.sdsCfg m) 9 then !l.txInv else l.txInv, failedAt := some (s.cycles + usCycles 100000) }
    oncePerSec (laneSource m) (s.setLane m l)

/-- FAILED_WAIT ends (R370). -/
def failedWaitEnd (m : Nat) (s : Dev) : Dev :=
  match (s.lane m).failedAt with
  | none => s
  | some t => laneWait m ((s.elapseTo t).setLane m { s.lane m with failedAt := none })

/-- Without training, 10 ms pass without lock and the lane inverts its receive data (R372). -/
def polarityFlip (m : Nat) (s : Dev) : Dev :=
  let up : Bool := match macOfLane s m with | some e => linkIs s e | none => false
  if trainState s m = 4 ∧ s.rbit (Reg.sdsCfg m) 6 ∧ ¬ s.rbit (Reg.sdsCfg m) 4 ∧ ¬ up then
    s.setBit (Reg.sdsStatus m) 4 (!s.rbit (Reg.sdsStatus m) 4)
  else s

/-- Signal is lost on lane `m` (R370, R395). -/
def signalLost (m : Nat) (s : Dev) : Dev :=
  let st := trainState s m
  let s := s.setBit (Reg.sdsStatus m) 0 false
  if st ≠ 4 then s
  else
    let s := occur (laneSource m) {} (s.bump (Reg.sdsLos m))
    let s := match macOfLane s m with | some e => linkGone e true false s | none => s
    laneWait m s

/-- A lane in DATA reports its eyes and its signal-to-noise ratio (R375). -/
def eyeMeasure (m : Nat) (eyes : List (Nat × Nat)) (snr : Nat) (s : Dev) : Dev :=
  if trainState s m ≠ 4 then s
  else
    let rate := s.rfld (Reg.sdsCfg m) 1 2
    let n := if rate = 1 ∨ rate = 2 then 1 else 3
    let s := (upTo 3).foldl (fun s j =>
      let e := if j < n then eyes.getD j (0, 0) else (0, 0)
      s.setNat (Reg.sdsEye m j) (sat 12 e.1 + 65536 * sat 7 e.2)) s
    s.setNat (Reg.sdsSnr m) (sat 10 snr)

end Sys2Proof.Machine
end

