-- ==== Sys2Proof/Machine/Srtp.lean ====
section
/-! DEFINITION. The transforms of the SRTP engine (R171, R172): key derivation under RFC 3711 section 4.3 with rate 0, the protection of RTP and
RTCP packets under the suites of R171, and their check. PRESUMED: what R171 and R172 leave to RFC 3711 and RFC 7714 (log entry 63). -/

namespace Sys2Proof.Machine

/-- Octets of a suite's master key and salt (R171). -/
def keyLen (suite : Nat) : Nat := if suite = 4 then 32 else if suite = 0 then 0 else 16
def saltLen (suite : Nat) : Nat := if suite = 1 ∨ suite = 2 then 14 else if suite = 0 then 0 else 12

/-- The suite is one of AES-GCM. -/
def isGcm (suite : Nat) : Bool := suite == 3 || suite == 4

/-- Octets of a suite's tag on an RTP packet, and on an RTCP packet (R171). -/
def srtpTag (suite : Nat) : Nat := if suite = 1 then 10 else if suite = 2 then 4 else if isGcm suite then 16 else 0
def srtcpTag (suite : Nat) : Nat := if suite = 1 ∨ suite = 2 then 10 else if isGcm suite then 16 else 0

/-- `n` octets derived for a label from a master key and salt; a salt of 96 bits stands at the head of 112. -/
def srtpDerive (key salt : Octets) (label n : Nat) : Octets :=
  ctrStream key ((beNat (padTo 14 salt) ^^^ (label * 2 ^ 48)) * 2 ^ 16) false n

/-- The session keys of a stream: labels 0 to 2 of RTP, 3 to 5 of RTCP. -/
structure SrtpKeys where
  enc : Octets
  auth : Octets
  salt : Nat

/-- The session keys of a suite from its master key and salt. -/
def srtpKeys (suite : Nat) (rtcp : Bool) (key salt : Octets) : SrtpKeys :=
  let l := 3 * rtcp.toNat
  { enc := srtpDerive key salt l (keyLen suite), auth := srtpDerive key salt (l + 1) 20,
    salt := beNat (srtpDerive key salt (l + 2) (saltLen suite)) }

/-- The 12-octet IV of GCM for an SSRC and an index. -/
def srtpGcmIv (k : SrtpKeys) (ssrc idx : Nat) : Octets := toBe 12 (k.salt ^^^ (ssrc * 2 ^ 48 + idx))

/-- A packet's portion enciphered or deciphered. -/
def srtpCipher (suite : Nat) (k : SrtpKeys) (ssrc idx : Nat) (o : Octets) : Octets :=
  if isGcm suite then gcmCrypt k.enc (srtpGcmIv k ssrc idx) o
  else aesCtr k.enc ((k.salt * 2 ^ 16) ^^^ (ssrc * 2 ^ 64) ^^^ (idx * 2 ^ 16)) o

/-- The tag of an RTP packet: header `hdr` and enciphered payload `ct` at an index of 48 bits. -/
def rtpTag (suite : Nat) (k : SrtpKeys) (idx : Nat) (hdr ct : Octets) : Octets :=
  if isGcm suite then gcmTag k.enc (srtpGcmIv k (be hdr 8 4) idx) hdr ct
  else (hmacSha1 k.auth (hdr ++ ct ++ toBe 4 (idx / 65536))).take (srtpTag suite)

/-- An RTP packet's payload as protected, its tag behind it. -/
def srtpProtect (suite : Nat) (key salt : Octets) (idx : Nat) (hdr payload : Octets) : Octets :=
  let k := srtpKeys suite false key salt
  let ct := srtpCipher suite k (be hdr 8 4) idx payload
  ct ++ rtpTag suite k idx hdr ct

/-- A protected RTP packet with a header of `h` octets, checked at an index: the packet in clear. -/
def srtpOpen (suite : Nat) (key salt : Octets) (idx h : Nat) (u : Octets) : Option Octets :=
  let n := u.length - srtpTag suite
  if n < h then none
  else
    let k := srtpKeys suite false key salt
    let hdr := u.take h
    let ct := (u.take n).drop h
    if rtpTag suite k idx hdr ct = u.drop n then some (hdr ++ srtpCipher suite k (be hdr 8 4) idx ct) else none

/-- The E flag and the index that an SRTCP packet carries: before the tag of suites 1 and 2, at the end for the GCM suites. -/
def srtcpWord (suite : Nat) (o : Octets) : Nat := be o (o.length - 4 - (if isGcm suite then 0 else srtcpTag suite)) 4

/-- An RTCP packet as protected at an index, with the E flag set (R171). -/
def srtcpProtect (suite : Nat) (key salt : Octets) (idx : Nat) (o : Octets) : Octets :=
  let k := srtpKeys suite true key salt
  let hdr := o.take 8
  let w := toBe 4 (2 ^ 31 + idx)
  let ct := srtpCipher suite k (be o 4 4) idx (o.drop 8)
  if isGcm suite then hdr ++ ct ++ gcmTag k.enc (srtpGcmIv k (be o 4 4) idx) (hdr ++ w) ct ++ w
  else hdr ++ ct ++ w ++ (hmacSha1 k.auth (hdr ++ ct ++ w)).take (srtcpTag suite)

/-- A protected RTCP packet checked: the packet in clear. One whose E flag is clear was authenticated alone. -/
def srtcpOpen (suite : Nat) (key salt : Octets) (u : Octets) : Option Octets :=
  let t := srtcpTag suite
  if u.length < 12 + t then none
  else
    let k := srtpKeys suite true key salt
    let v := srtcpWord suite u
    let body := u.take (u.length - 4 - t)
    let iv := srtpGcmIv k (be u 4 4) (v % 2 ^ 31)
    let e := decide (2 ^ 31 ≤ v)
    let good : Bool :=
      if isGcm suite then
        let w := toBe 4 v
        (u.drop (u.length - 4 - t)).take t == (if e then gcmTag k.enc iv (body.take 8 ++ w) (body.drop 8) else gcmTag k.enc iv (body ++ w) [])
      else u.drop (u.length - t) == (hmacSha1 k.auth (body ++ toBe 4 v)).take t
    if ¬ good then none
    else some (if e then body.take 8 ++ srtpCipher suite k (be u 4 4) (v % 2 ^ 31) (body.drop 8) else body)

end Sys2Proof.Machine
end

