-- ==== Sys2Proof/Machine/Sessions.lean ====
section
/-! DEFINITION. The session table (R160 to R165), its commands (R178 to R181), the rotation cache (R180), crypto state after faults
(R183) and its mirror (R184). -/

namespace Sys2Proof.Machine

/-! ### Local addresses and neighbours (R164, R165) -/

/-- A local address (R165): its MAC, VLAN (none untagged), hop limit, family and address; IPv4 as ::ffff:a.b.c.d. -/
structure LocalAddr where
  mac : Nat
  vlan : Option Nat
  ttl : Nat
  v6 : Bool
  ip : Nat

/-- The prefix of an IPv4 address held in 128 bits. -/
def v4Prefix : Nat := 0xFFFF00000000

/-- A 128-bit address is an IPv4 address. -/
def isV4 (ip : Nat) : Bool := ip / 2 ^ 32 == 0xFFFF

/-- `MPE.ADDR[a]`, when VALID. -/
def localAddr (s : Dev) (a : Nat) : Option LocalAddr :=
  let c := s.reg (Reg.mpeAddrCfg a)
  if ¬ bit c 31 then none
  else
    let w (r : Nat) : Nat := (s.reg r).toNat
    let v6 := bit c 24
    some { mac := fld c 0 3, vlan := if bit c 3 then some (fld c 4 12) else none, ttl := fld c 16 8, v6 := v6,
           ip := if v6 then w (Reg.mpeAddrIp0 a) * 2 ^ 96 + w (Reg.mpeAddrIp1 a) * 2 ^ 64 + w (Reg.mpeAddrIp2 a) * 2 ^ 32 + w (Reg.mpeAddrIp3 a)
                 else v4Prefix + w (Reg.mpeAddrIp3 a) }

/-- The local address on a MAC and VLAN (VID 0 untagged) with an IP (R166 step 6). -/
def findLocal (s : Dev) (mac vid ip : Nat) (v6 : Bool) : Option Nat :=
  (upTo 16).find? (fun a => match localAddr s a with
    | none => false
    | some l => l.mac == mac && l.v6 == v6 && l.ip == ip && (l.vlan.getD 0) == vid)

/-- The lowest key that a list does not hold. -/
def freeKey {α : Type} (l : List (Nat × α)) (bound : Nat) : Option Nat := (upTo (min bound (l.length + 1))).find? (fun i => (kvGet l i).isNone)

/-- The neighbour entry of a remote address from a local one: that of its next hop, in use already or the lowest unused. -/
def neighbourOf (a ip : Nat) (s : Dev) : Nat × Dev :=
  let hop := Config.nextHop (netSection s) a ip
  match s.mpe.hops.find? (fun p => p.2 == (a, hop)) with
  | some p => (p.1, s)
  | none =>
    let i := (freeKey s.mpe.hops 65536).getD 65535
    (i, { s with mpe := { s.mpe with hops := kvSet s.mpe.hops i (a, hop) } })

/-! ### Sessions -/

/-- The session of an index, when VALID. -/
def session? (s : Dev) (i : Nat) : Option Session := kvGet s.mpe.sessions i

/-- A session written. -/
def setSession (i : Nat) (x : Session) (s : Dev) : Dev := { s with mpe := { s.mpe with sessions := kvSet s.mpe.sessions i x } }

/-- A session changed. -/
def modSession (i : Nat) (f : Session → Session) (s : Dev) : Dev := match session? s i with | some x => setSession i (f x) s | none => s

/-- A channel event of the MPE or the SRTP engine (R188). -/
def sessionEvent (src i : Nat) (x : Session) (s : Dev) : Dev := occurCode src 0x0100 (some x.chan) (toLe 4 i) s

/-- `SEC.ROT_USED`. -/
def rotUsed (s : Dev) : Dev := s.setFld Reg.secRotUsed 0 12 s.mpe.rot.length

/-- The session's rotation cache entry is freed and ROT cleared: `SEC.ROT_RELEASE` counts it, and `SEC.ROT_USED` follows. -/
def rotFree (i : Nat) (s : Dev) : Dev :=
  match session? s i with
  | none => s
  | some x =>
    if ¬ x.rot then s
    else
      let s := { s with mpe := { s.mpe with rot := kvDel s.mpe.rot x.rotIdx } }
      setSession i { x with rot := false, rotIdx := 0 } (rotUsed (s.bump Reg.secRotRelease))

/-- The session's ports leave the port map. -/
def unmapPorts (i : Nat) (s : Dev) : Dev := { s with mpe := { s.mpe with ports := s.mpe.ports.filter (fun p => p.2.session != i) } }

/-- The session's ports enter the port map (R178). -/
def mapPorts (i a port : Nat) (mux : Bool) (s : Dev) : Dev :=
  let l := kvSet s.mpe.ports (a * 65536 + port) ⟨i, false⟩
  { s with mpe := { s.mpe with ports := if mux then l else kvSet l (a * 65536 + (port + 1) % 65536) ⟨i, true⟩ } }

/-- A port is mapped to another session. -/
def portTaken (s : Dev) (i a port : Nat) : Bool :=
  match kvGet s.mpe.ports (a * 65536 + port) with
  | some e => e.session != i
  | none => false

/-- The 32 octets of a route record (R162). -/
def routeOctets (x : Session) : Octets :=
  toLe 4 (x.chan % 2 ^ 20 + 2 ^ 20 * (x.rotIdx % 2048) + 2 ^ 31 * x.started.toNat) ++ toLe 2 x.neigh ++
    [BitVec.ofNat 8 (x.addr + 16 * x.suite + 128 * x.srtcp.toNat),
     BitVec.ofNat 8 (1 + 2 * x.latch.toNat + 4 * x.checkSrc.toNat + 8 * x.rtcpMux.toNat + 16 * x.ssrcLock.toNat + 32 * x.latched.toNat +
       64 * x.rot.toNat + 128 * x.keyLost.toNat)] ++ toBe 16 x.remoteIp ++ toLe 2 x.remotePort ++ toLe 2 x.localPort ++ toLe 4 x.rxSsrc.toNat

/-- The session that a mirrored route record and its contexts make (R184). -/
def sessionFrom (r : Octets) (c : CryptoCtx) : Session :=
  let b := oct r 6
  let f := oct r 7
  { chan := le r 0 4 % 2 ^ 20, rotIdx := le r 0 4 / 2 ^ 20 % 2048, started := (oct r 3).testBit 7, neigh := le r 4 2, addr := b % 16, suite := b / 16 % 8,
    srtcp := b.testBit 7, latch := f.testBit 1, checkSrc := f.testBit 2, rtcpMux := f.testBit 3, ssrcLock := f.testBit 4,
    latched := f.testBit 5, rot := f.testBit 6, keyLost := f.testBit 7, remoteIp := be r 8 16, remotePort := le r 24 2, localPort := le r 26 2,
    rxSsrc := BitVec.ofNat 32 (le r 28 4), ctx := c, rxSet := !c.rxKey.isEmpty, txSet := !c.txKey.isEmpty }

/-- The lane to the other manager, when UP. -/
def standbyLane (s : Dev) : Option Nat := (planManagers s).findSome? (directLane s)

/-- A MIRROR frame goes to the standby (R184); with none reachable, nothing goes. -/
def mirrorSend (m : MirrorMsg) (s : Dev) : Dev :=
  if ¬ s.activeManager then s
  else match standbyLane s with
    | none => s
    | some k => ronSend k 1 8 0 (Config.mirrorPayload m) s

/-- A session's rotation cache entry, while ROT is set. -/
def rotEntry (s : Dev) (x : Session) : Option RotEntry := if x.rot then kvGet s.mpe.rot x.rotIdx else none

/-- A session's whole entry is mirrored, with its rotation cache entry. -/
def mirrorSession (i : Nat) (s : Dev) : Dev :=
  match session? s i with
  | none => mirrorSend { session := i, route := none, ctx := {} } s
  | some x => modSession i (fun x => { x with mirrored := x.ctx.txRoc * 65536 + x.ctx.seq })
      (mirrorSend { session := i, route := some (routeOctets x), ctx := x.ctx, rot := rotEntry s x } s)

/-- A received MIRROR on the standby: the session and its rotation cache entry are written, or removed. -/
def mirrorTake (m : MirrorMsg) (s : Dev) : Dev :=
  let s := { s with mpe := { s.mpe with rot := s.mpe.rot.filter (fun p => p.2.session != m.session) } }
  match m.route with
  | none =>
    let s := unmapPorts m.session s
    rotUsed { s with mpe := { s.mpe with sessions := kvDel s.mpe.sessions m.session } }
  | some r =>
    let x := sessionFrom r m.ctx
    let s := match m.rot with
      | some e => { s with mpe := { s.mpe with rot := kvSet s.mpe.rot x.rotIdx e } }
      | none => s
    rotUsed (mapPorts m.session x.addr x.localPort x.rtcpMux (unmapPorts m.session (setSession m.session x s)))

/-! ### SESSION_SET, KEY_SET and KEY_ROTATE (R178 to R181) -/

/-- A command that only a standalone device or the active manager takes, on a session index in AUX (R150, R160). -/
def onSession (d : Desc) (id : Nat) (ok : Bool) (act : Nat → Dev → Dev) (s : Dev) : Dev :=
  let i := d.aux.toNat % 2 ^ 19
  if ¬ s.leads then completeWith id .notRole s
  else if ¬ descClean d ∨ ¬ ok ∨ sessionCount ≤ i then completeWith id .badParam s
  else act i s

/-- A completion with REFUSED and a code of R181. -/
def sessionRefuse (id code : Nat) (s : Dev) : Dev := complete id .refused [BitVec.ofNat 8 code] s

/-- The packet leg of a global channel: that of a channel processed here, and else of its catalogue record (R442), which a manager keeps of the
channels of other devices; none where it has none or is CLOSING. The flag says whether the channel is known. -/
def packetLeg (s : Dev) (g : Nat) : Bool × Option Nat :=
  match (s.chan? (g % 65536)).filter (fun k => k.owner == g / 65536) with
  | some k => (true, if k.st = .closing then none else k.legs.session)
  | none => match kvGet s.ron.catalogue g with
    | some r => (true, if oct r 66 = 4 ∨ le r 8 4 = 0xFFFFFFFF then none else some (le r 8 4))
    | none => (false, none)

/-- The session stands as the packet leg of the channel it names (R166 step 17, R181). A manager that became active after another delivers to a channel
of which it holds no record yet, since no call drops then (R457; DEDUCED, log entry 64). -/
def isLeg (s : Dev) (i : Nat) (x : Session) : Bool :=
  match packetLeg s x.chan with
  | (true, l) => l == some i
  | (false, _) => s.ron.inherited && x.chan / 65536 != s.hid

/-- A channel holds the session as its packet leg, CLOSING or not (R181). -/
def inUse (s : Dev) (i : Nat) : Bool :=
  s.chans.any (fun p => p.2.legs.session == some i) || s.ron.catalogue.any (fun p => p.1 / 65536 != s.hid && le p.2 8 4 == i)

/-- SESSION_SET (R178). -/
def sessionSetCmd (d : Desc) (id : Nat) (s : Dev) : Dev :=
  let fl := oct d.params 7
  onSession d id (d.aux.toNat / 2 ^ 19 == 0 && d.arg 0 4 / 2 ^ 20 == 0 && oct d.params 6 / 16 == 0 && fl / 64 == 0 && d.zeroFrom 34 47)
    (fun i s =>
      let old := session? s i
      if ¬ fl.testBit 0 then
        match old with
        | none => completeWith id .ok s
        | some _ =>
          if inUse s i then sessionRefuse id 1 s
          else
            let s := unmapPorts i (rotFree i s)
            let s := { s with mpe := { s.mpe with sessions := kvDel s.mpe.sessions i } }
            completeWith id .ok (mirrorSession i s)
      else
        let g := d.arg 0 4 % 2 ^ 20
        let port := d.arg 4 2
        let a := oct d.params 6 % 16
        let mux := fl.testBit 3
        let ip := be d.params 8 16
        let fam : Bool := match localAddr s a with | some l => l.v6 != isV4 ip | none => false
        let moves : Bool := match old with | some x => inUse s i && x.chan != g | none => false
        if moves then sessionRefuse id 1 s
        else if portTaken s i a port ∨ (¬ mux ∧ (port % 2 = 1 ∨ portTaken s i a (port + 1))) then sessionRefuse id 2 s
        else if ¬ fam then sessionRefuse id 3 s
        else
          let (nb, s) := neighbourOf a ip s
          let lock := fl.testBit 4
          let rport := d.arg 24 2
          let x := old.getD {}
          let moved := x.remoteIp != ip || x.remotePort != rport
          let x := { x with
            chan := g, neigh := nb, addr := a, latch := fl.testBit 1, checkSrc := fl.testBit 2, rtcpMux := mux, ssrcLock := lock,
            latched := x.latched && !moved, remoteIp := ip, remotePort := rport, localPort := port,
            rxSsrc := if lock then BitVec.ofNat 32 (d.arg 26 4) else x.rxSsrc }
          let (x, s) :=
            if old.isSome then (x, s)
            else
              let (q, s) := s.drawBelow 65536
              let (r, s) := s.drawWord
              let s := { s with mpe := { s.mpe with rot := s.mpe.rot.filter (fun p => p.2.session != i) } }
              ({ x with ctx := { x.ctx with seq := q, txSsrc := if fl.testBit 5 then r else BitVec.ofNat 32 (d.arg 30 4) } }, s)
          let s := mapPorts i a port mux (unmapPorts i (setSession i x s))
          completeWith id .ok (mirrorSession i s)) s

/-- The key and salt that PARAMS carry (R163, R179). -/
def keyOf (d : Desc) (suite : Nat) : Octets := d.octs 0 (keyLen suite)
def saltOf (d : Desc) (suite : Nat) : Octets := d.octs 32 (saltLen suite)

/-- Both directions of a session whose context was lost hold keys again: KEY_LOST clears (R183). -/
def keyFound (x : Session) : Session := if x.lostRx ∨ x.lostTx then x else { x with keyLost := false }

/-- A new SEQ is drawn and ROC and SRTCP_IDX return to zero, for a direction lost under R183. -/
def seqDraw (x : Session) (s : Dev) : Session × Dev :=
  let (q, s) := s.drawBelow 65536
  ({ x with ctx := { x.ctx with seq := q, txRoc := 0, srtcpIdx := 0 } }, s)

/-- SUITE or SRTCP differs from those of the other direction's installed key (R181). -/
def suiteMismatch (x : Session) (dir suite : Nat) (srtcp : Bool) : Bool :=
  (if dir = 1 then x.txSet else x.rxSet) && (x.suite != suite || x.srtcp != srtcp)

/-- The key is installed in a direction (R179): a receive key clears STARTED, so that the next packet accepted is the first of its stream. -/
def keyInstall (i dir suite : Nat) (srtcp : Bool) (key salt : Octets) (s : Dev) : Dev :=
  match session? s i with
  | none => s
  | some x =>
    if suite = 0 then
      let s := rotFree i s
      modSession i (fun x => { x with suite := 0, srtcp := srtcp, rxSet := false, txSet := false, keyLost := false, lostRx := false, lostTx := false,
                                      ctx := { x.ctx with rxKey := [], rxSalt := [], txKey := [], txSalt := [] } }) s
    else if dir = 1 then
      let s := rotFree i s
      modSession i (fun x => keyFound { x with
        suite := suite, srtcp := srtcp, rxSet := true, started := false, lostRx := false,
        ctx := { x.ctx with rxKey := key, rxSalt := salt, sl := 0, roc := 0, replay := 0, srtcpHi := 0, srtcpValid := false } }) s
    else
      let (x, s) := if x.lostTx then seqDraw x s else (x, s)
      setSession i (keyFound { x with suite := suite, srtcp := srtcp, txSet := true, lostTx := false,
                                      ctx := { x.ctx with txKey := key, txSalt := salt } }) s

/-- The fields of AUX of KEY_SET and KEY_ROTATE are in range (R179). -/
def keyAuxOk (d : Desc) : Bool :=
  let a := d.aux
  !bit a 19 && (fld a 20 2 == 1 || fld a 20 2 == 2) && decide (fld a 22 3 < 5) && fld a 26 6 == 0 && d.zeroFrom 46 47

/-- KEY_SET, and KEY_ROTATE of the transmit key (R179, R180). -/
def keySetCmd (d : Desc) (id : Nat) (s : Dev) : Dev :=
  onSession d id (keyAuxOk d) (fun i s =>
    let dir := fld d.aux 20 2
    let suite := fld d.aux 22 3
    let srtcp := bit d.aux 25
    match session? s i with
    | none => sessionRefuse id 5 s
    | some x =>
      if suite ≠ 0 ∧ suiteMismatch x dir suite srtcp then sessionRefuse id 4 s
      else
        let s := mirrorSession i (keyInstall i dir suite srtcp (keyOf d suite) (saltOf d suite) s)
        let idx := match session? s i with | some x => x.ctx.txRoc * 65536 + x.ctx.seq | none => 0
        complete id .ok (if dir = 1 then [] else toLe 6 idx) s) s

/-- The rotation cache (R160). -/
def rotSize : Nat := 2048

/-- KEY_ROTATE of the receive key (R180). -/
def keyRotateCmd (d : Desc) (id : Nat) (s : Dev) : Dev :=
  onSession d id (keyAuxOk d) (fun i s =>
    let suite := fld d.aux 22 3
    let srtcp := bit d.aux 25
    match session? s i with
    | none => sessionRefuse id 5 s
    | some x =>
      if suiteMismatch x 1 suite srtcp then sessionRefuse id 4 s
      else
        let entry := if x.rot then kvGet s.mpe.rot x.rotIdx else none
        let busy : Bool := match entry with | some e => e.retained | none => false
        if busy then sessionRefuse id 7 s
        else
          match (if x.rot then some x.rotIdx else freeKey s.mpe.rot rotSize) with
          | none => sessionRefuse id 6 (occur 0x30A {} s)
          | some j =>
            let e : RotEntry := { session := i, retained := false, from_ := 0, key := keyOf d suite, salt := saltOf d suite, promo := 0 }
            let s := { s with mpe := { s.mpe with rot := kvSet s.mpe.rot j e } }
            let s := setSession i { x with rot := true, rotIdx := j } (rotUsed s)
            complete id .ok [] (mirrorSession i s)) s

/-- ROTATION_RELEASE (R180): S_L has passed FROM + 64, or 400 ticks have passed since the promotion. -/
def rotationRelease (j : Nat) (s : Dev) : Dev :=
  match kvGet s.mpe.rot j with
  | none => s
  | some e =>
    let past : Bool := match session? s e.session with
      | some x => x.rot && x.rotIdx == j && decide (e.from_ + 64 < x.ctx.roc * 65536 + x.ctx.sl)
      | none => false
    let old := decide (400 ≤ (s.time.lastTick.getD 0 % 2 ^ 32 + 2 ^ 32 - e.promo) % 2 ^ 32)
    if e.retained ∧ (past ∨ old) then mirrorSession e.session (rotFree e.session s) else s

/-! ### Lost contexts (R162, R183, R187) -/

/-- The session is treated as KEY_LOST: its own mark, or the SRTP engine disabled. -/
def keyLostNow (s : Dev) (x : Session) : Bool := x.keyLost || (!s.rbit Reg.secCfg 0 && x.suite != 0)

/-- A session's crypto context has failed parity (R183). -/
def contextLost (i : Nat) (s : Dev) : Dev :=
  match session? s i with
  | none => s
  | some x =>
    if s.activeManager ∧ (standbyLane s).isSome then setSession i { x with fetching := true } s
    else sessionEvent 0x301 i x (setSession i { x with keyLost := true, lostRx := true, lostTx := true } (s.bump Reg.secKeyLost))

/-- CRYPTO_FETCH_DONE (R183). -/
def cryptoFetchDone (i : Nat) (c : CryptoCtx) (s : Dev) : Dev :=
  match session? s i with
  | none => s
  | some x => if x.fetching then occur 0x302 {} (setSession i { x with fetching := false, ctx := c } (s.bump Reg.secKeyRepair)) else s

/-- A read of a session's route record (R162): true when it can be used. -/
def routeRead (i : Nat) (p : RoutePar) (s : Dev) : Bool × Dev :=
  match p with
  | .ok | .oneBad => (true, s)
  | .lost => (false, occur 0x300 { data := toLe 4 i } { s with mpe := { s.mpe with sessions := kvDel s.mpe.sessions i } })

/-- The takeover guard of R185: every VALID session's transmit context moves on. -/
def guardApply (s : Dev) : Dev :=
  let g := s.within Reg.secGuard 0 16 1024 32767
  let s := { s with mpe := { s.mpe with sessions := s.mpe.sessions.map (fun p =>
    let v := p.2.ctx.txRoc * 65536 + p.2.ctx.seq + g
    (p.1, { p.2 with ctx := { p.2.ctx with txRoc := v / 65536 % 2 ^ 32, seq := v % 65536, srtcpIdx := (p.2.ctx.srtcpIdx + 64) % 2 ^ 31 } })) } }
  occur 0x30C {} s

end Sys2Proof.Machine
end

