-- ==== Sys2Proof/Machine/Mpe.lean ====
section
/-! DEFINITION. The Media Packet Engine (spec/06): ingress (R166 to R174), delivery and forwarding (R169, R434, R447), egress (R176,
R177), RTCP (R174) and its enables (R187). -/

namespace Sys2Proof.Machine

/-! ### Checksums and headers -/

/-- The sum of the 16-bit words of octets, most significant octet first. -/
def sumWords : Octets → Nat
  | [] => 0
  | [a] => 256 * a.toNat
  | a :: b :: r => 256 * a.toNat + b.toNat + sumWords r

/-- Octets that hold a correct Internet checksum. -/
def sumOk (o : Octets) : Bool := sumWords o % 65535 == 0

/-- The Internet checksum of octets. -/
def inetSum (o : Octets) : Nat := (65535 - sumWords o % 65535) % 65535

/-- The address octets of a packet in one family. -/
def ipOctets (v6 : Bool) (ip : Nat) : Octets := if v6 then toBe 16 ip else toBe 4 (ip % 2 ^ 32)

/-- The pseudo-header of UDP and ICMPv6. -/
def pseudoHeader (v6 : Bool) (src dst proto len : Nat) : Octets :=
  ipOctets v6 src ++ ipOctets v6 dst ++ (if v6 then toBe 4 len ++ [0, 0, 0, BitVec.ofNat 8 proto] else [0, BitVec.ofNat 8 proto] ++ toBe 2 len)

/-- An Ethernet header from local address `l` (R176 step 4): the tag's PCP is DSCP bits 5 to 3. -/
def etherHeader (s : Dev) (l : LocalAddr) (dst : Octets) (dscp type : Nat) : Octets :=
  dst ++ macAddress s l.mac ++ (match l.vlan with | some v => [0x81, 0x00] ++ toBe 2 (dscp / 8 % 8 * 8192 + v) | none => []) ++ toBe 2 type

/-- An IP packet from local address `l` (R176 step 4). -/
def ipPacket (l : LocalAddr) (dst dscp proto hops : Nat) (payload : Octets) : Octets :=
  if l.v6 then
    toBe 4 (6 * 2 ^ 28 + dscp * 2 ^ 22) ++ toBe 2 payload.length ++ [BitVec.ofNat 8 proto, BitVec.ofNat 8 hops] ++ toBe 16 l.ip ++ toBe 16 dst ++ payload
  else
    let h (c : Nat) : Octets := [0x45, BitVec.ofNat 8 (dscp * 4)] ++ toBe 2 (20 + payload.length) ++ [0, 0, 0x40, 0] ++
      [BitVec.ofNat 8 hops, BitVec.ofNat 8 proto] ++ toBe 2 c ++ toBe 4 (l.ip % 2 ^ 32) ++ toBe 4 (dst % 2 ^ 32)
    h (inetSum (h 0)) ++ payload

/-- A UDP datagram with its checksum. -/
def udpPacket (l : LocalAddr) (dst sport dport : Nat) (payload : Octets) : Octets :=
  let n := 8 + payload.length
  let u (c : Nat) : Octets := toBe 2 sport ++ toBe 2 dport ++ toBe 2 n ++ toBe 2 c ++ payload
  let c := inetSum (pseudoHeader l.v6 l.ip dst 17 n ++ u 0)
  u (if c = 0 then 0xFFFF else c)

/-- The EtherType of a local address's family. -/
def etherType (l : LocalAddr) : Nat := if l.v6 then 0x86DD else 0x0800

/-- RTCP_CFG.TXQ: 7 is taken as 4 (R189). -/
def rtcpTxq (s : Dev) : Nat := let q := s.rfld Reg.mpeRtcpCfg 16 3; if q = 7 then 4 else q

/-- A frame of firmware or the MPE is offered to a MAC. -/
def sendFrame (mac q : Nat) (o : Octets) (s : Dev) : Dev := (enqueue mac q o none false s).2

/-! ### ARP and Neighbor Discovery (R164, R165) -/

/-- Every octet of a MAC broadcast. -/
def broadcast : Octets := [0xFF, 0xFF, 0xFF, 0xFF, 0xFF, 0xFF]

/-- An ARP packet (RFC 826). -/
def arpPacket (op : Nat) (sha : Octets) (spa : Nat) (tha : Octets) (tpa : Nat) : Octets :=
  [0, 1, 8, 0, 6, 4] ++ toBe 2 op ++ sha ++ toBe 4 (spa % 2 ^ 32) ++ tha ++ toBe 4 (tpa % 2 ^ 32)

/-- An ICMPv6 message with its checksum. -/
def icmp6 (src dst : Nat) (o : Octets) : Octets := putOcts o 2 (toBe 2 (inetSum (pseudoHeader true src dst 58 o.length ++ o)))

/-- The solicited-node multicast address of an IPv6 address. -/
def solicitedNode (ip : Nat) : Nat := 0xFF0200000000000000000001FF000000 + ip % 2 ^ 24

/-- The Ethernet address of an IPv6 multicast address. -/
def multicastMac (ip : Nat) : Octets := [0x33, 0x33] ++ toBe 4 (ip % 2 ^ 32)

/-- An advertisement of a local address to `dst` (at `mac`): an ARP reply, or a Neighbor Advertisement. -/
def advertise (s : Dev) (l : LocalAddr) (mac : Octets) (dst : Nat) (solicited : Bool) : Octets :=
  let me := macAddress s l.mac
  if l.v6 then
    let o : Octets := [136, 0, 0, 0, if solicited then 0x60 else 0x20, 0, 0, 0] ++ toBe 16 l.ip ++ [2, 1] ++ me
    etherHeader s l mac 0 0x86DD ++ ipPacket l dst 0 58 255 (icmp6 l.ip dst o)
  else etherHeader s l mac 0 0x0806 ++ arpPacket 2 me l.ip mac dst

/-- A solicitation for a next hop from a local address: an ARP request, or a Neighbor Solicitation. -/
def solicit (s : Dev) (l : LocalAddr) (hop : Nat) : Octets :=
  let me := macAddress s l.mac
  if l.v6 then
    let dst := solicitedNode hop
    let o : Octets := [135, 0, 0, 0, 0, 0, 0, 0] ++ toBe 16 hop ++ [1, 1] ++ me
    etherHeader s l (multicastMac dst) 0 0x86DD ++ ipPacket l dst 0 58 255 (icmp6 l.ip dst o)
  else etherHeader s l broadcast 0 0x0806 ++ arpPacket 1 me l.ip (zeros 6) hop

/-- Local address `a` is on a MAC. -/
def onMac (s : Dev) (a mac : Nat) : Bool := match localAddr s a with | some l => l.mac == mac | none => false

/-- Firmware learns the MAC address of a neighbour: every entry whose next hop it is takes it. -/
def learn (mac ip : Nat) (addr : Octets) (s : Dev) : Dev :=
  s.mpe.hops.foldl (fun s p =>
    if p.2.2 = ip ∧ onMac s p.2.1 mac then { s with mpe := { s.mpe with neigh := kvSet s.mpe.neigh p.1 (BitVec.ofNat 48 (beNat addr)) } } else s) s

/-- A packet passes to firmware under the rate of PUNT_RATE (R166); `act` is what firmware does with it. -/
def punt (session : Option Nat) (o : Octets) (act : Dev → Dev) (s : Dev) : Dev :=
  let sec := s.cycles / 500000000
  let n := if s.mpe.puntSec = sec then s.mpe.puntCount else 0
  if s.rfld Reg.mpePuntRate 0 24 ≤ n then s.bump64 Reg.mpeDropPunt
  else act ({ s with mpe := { s.mpe with puntSec := sec, puntCount := n + 1 } }.emit (.punt false session o))

/-- Firmware takes an ARP packet that came to `mac` with `vid`. -/
def arpTake (mac vid : Nat) (o : Octets) (s : Dev) : Dev :=
  let spa := v4Prefix + be o 14 4
  let tpa := v4Prefix + be o 24 4
  let s := learn mac spa (octs o 8 6) s
  match (findLocal s mac vid tpa false).bind (localAddr s) with
  | some l => if be o 6 2 = 1 then sendFrame mac (rtcpTxq s) (advertise s l (octs o 8 6) spa true) s else s
  | none => s

/-- Firmware takes an ICMPv6 packet: a solicitation is answered, an advertisement learnt. -/
def icmpTake (mac vid src : Nat) (sa o : Octets) (s : Dev) : Dev :=
  let target := be o 8 16
  if oct o 0 = 135 then
    let s := if oct o 24 = 1 then learn mac src (octs o 26 6) s else s
    match (findLocal s mac vid target true).bind (localAddr s) with
    | some l => sendFrame mac (rtcpTxq s) (advertise s l (if oct o 24 = 1 then octs o 26 6 else sa) src true) s
    | none => s
  else if oct o 0 = 136 then learn mac target (if oct o 24 = 2 then octs o 26 6 else sa) s
  else s

/-! ### Parsing (R166 steps 1 to 8) -/

/-- What the first steps of R166 make of a frame. -/
inductive Parsed where
  | drop (counter : Nat)
  | arp (vid : Nat) (o : Octets)
  | ptp (o : Octets)
  | icmp (v6 : Bool) (vid src : Nat) (o : Octets)
  | udp (addr src sport dport : Nat) (payload : Octets)

/-- An IP packet's fields: protocol, source, destination, payload, fragment, multicast destination. -/
structure IpFields where
  proto : Nat
  src : Nat
  dst : Nat
  payload : Octets
  frag : Bool
  mcast : Bool

/-- Step 2: the IP header, if correct. -/
def ipFields (v6 : Bool) (p : Octets) : Option IpFields :=
  if v6 then
    if p.length < 40 ∨ oct p 0 / 16 ≠ 6 ∨ p.length < 40 + be p 4 2 then none
    else some { proto := oct p 6, src := be p 8 16, dst := be p 24 16, payload := octs p 40 (be p 4 2), frag := oct p 6 == 44,
                mcast := oct p 24 == 0xFF }
  else
    let h := 4 * (oct p 0 % 16)
    if p.length < 20 ∨ oct p 0 / 16 ≠ 4 ∨ h < 20 ∨ be p 2 2 < h ∨ p.length < be p 2 2 ∨ ¬ sumOk (p.take h) then none
    else some { proto := oct p 9, src := v4Prefix + be p 12 4, dst := v4Prefix + be p 16 4, payload := octs p h (be p 2 2 - h),
                frag := be p 6 2 % 0x4000 != 0, mcast := oct p 16 / 16 == 14 }

/-- Steps 1 to 8 for a frame of MAC `e`. -/
def parseFrame (s : Dev) (e : Nat) (f : Octets) : Parsed :=
  let tagged := be f 12 2 == 0x8100
  let vid := if tagged then be f 14 2 % 4096 else 0
  let h := if tagged then 18 else 14
  let type := be f (h - 2) 2
  let p := f.drop h
  if type = 0x0806 then .arp vid p
  else if type = 0x88F7 then .ptp f
  else if type = 0x8100 ∨ type = 0x88A8 then .drop Reg.mpeDropVlan
  else if type ≠ 0x0800 ∧ type ≠ 0x86DD then .drop Reg.mpeDropEthertype
  else
    let v6 := type == 0x86DD
    match ipFields v6 p with
    | none => .drop Reg.mpeDropIpHdr
    | some i =>
      if i.frag then .drop Reg.mpeDropFrag
      else if i.proto = (if v6 then 58 else 1) ∧ (i.mcast ∨ (findLocal s e vid i.dst v6).isSome) then .icmp v6 vid i.src i.payload
      else if i.proto ≠ 17 then .drop Reg.mpeDropProto
      else match findLocal s e vid i.dst v6 with
        | none => .drop Reg.mpeDropNotLocal
        | some a =>
          let n := be i.payload 4 2
          let u := i.payload.take n
          let c := be u 6 2
          if i.payload.length < 8 ∨ n < 8 ∨ i.payload.length < n then .drop Reg.mpeDropUdp
          else if (c = 0 ∧ v6) ∨ (c ≠ 0 ∧ ¬ sumOk (pseudoHeader v6 i.src i.dst 17 n ++ u)) then .drop Reg.mpeDropUdp
          else if be u 2 2 = 319 ∨ be u 2 2 = 320 then .ptp f
          else .udp a i.src (be u 0 2) (be u 2 2) (u.drop 8)

/-- The length of a correct RTP fixed header, contributing sources and extension (R166 step 12). -/
def rtpHeader (o : Octets) : Option Nat :=
  let n := 12 + 4 * (oct o 0 % 16)
  if o.length < n ∨ oct o 0 / 64 ≠ 2 then none
  else if (oct o 0).testBit 4 then
    let m := n + 4 + 4 * be o (n + 2) 2
    if o.length < n + 4 ∨ o.length < m then none else some m
  else some n

/-! ### SRTP on receive (R171 to R173, R180) -/

/-- The index that a sequence number stands for (RFC 3711 appendix A). -/
def estimate (c : CryptoCtx) (seq : Nat) : Nat :=
  let v := if c.sl < 32768 then (if c.sl + 32768 < seq then c.roc + 2 ^ 32 - 1 else c.roc) else (if seq < c.sl - 32768 then c.roc + 1 else c.roc)
  v % 2 ^ 32 * 65536 + seq

/-- The highest index accepted. -/
def highest (c : CryptoCtx) : Nat := c.roc * 65536 + c.sl

/-- An index is a replay (R172). -/
def isReplay (c : CryptoCtx) (i : Nat) : Bool :=
  let h := highest c
  if h < i then false else if h - i < 64 then c.replay.toNat.testBit (h - i) else true

/-- The context after an accepted index (R172). -/
def accept (c : CryptoCtx) (i : Nat) : CryptoCtx :=
  let h := highest c
  if h < i then
    { c with sl := i % 65536, roc := i / 65536 % 2 ^ 32,
             replay := BitVec.ofNat 64 ((if i - h < 64 then c.replay.toNat * 2 ^ (i - h) else 0) + 1) }
  else { c with replay := c.replay ||| BitVec.ofNat 64 (2 ^ (h - i)) }

/-- The context with the first packet of a stream accepted. -/
def acceptFirst (c : CryptoCtx) (seq : Nat) : CryptoCtx := { c with sl := seq, roc := 0, replay := 1 }

/-- How a packet ends at step 14: `pass` with the packet in clear and its index where a PENDING key passed it. -/
inductive SrtpEnd where
  | auth | replay | pass (payload : Octets) (promoted : Option Nat)

/-- Step 14 for a packet `u` with a header of `h` octets (R171, R172, R180): the packet's end, and the session after it. A first packet is one after a
receive KEY_SET, or one under a new SSRC. -/
def srtpCheck (s : Dev) (x : Session) (h : Nat) (u : Octets) : SrtpEnd × Session :=
  if x.suite = 0 then (.pass u none, x)
  else
    let seq := be u 2 2
    let fresh := !x.started || (!x.ssrcLock && be u 8 4 != x.rxSsrc.toNat)
    let idx := if fresh then seq else estimate x.ctx seq
    if ¬ fresh ∧ isReplay x.ctx idx then (.replay, x)
    else
      let done (x : Session) : Session := { x with ctx := if fresh then acceptFirst x.ctx seq else accept x.ctx idx }
      let under (key salt : Octets) : Option Octets := srtpOpen x.suite key salt idx h u
      let now := under x.ctx.rxKey x.ctx.rxSalt
      match rotEntry s x with
      | none => match now with
        | some o => (.pass o none, done x)
        | none => (.auth, x)
      | some e =>
        if e.retained ∧ idx < e.from_ then match under e.key e.salt with
          | some o => (.pass o none, done x)
          | none => (.auth, x)
        else match now with
          | some o => (.pass o none, done x)
          | none =>
            if e.retained then (.auth, x)
            else match under e.key e.salt with
              | some o => (.pass o (some idx), done x)
              | none => (.auth, x)

/-- A PENDING key becomes current (R180), and the standby hears of it. -/
def promote (i idx : Nat) (s : Dev) : Dev :=
  match session? s i with
  | none => s
  | some x =>
    match kvGet s.mpe.rot x.rotIdx with
    | none => s
    | some e =>
      let e' : RotEntry := { e with retained := true, from_ := idx, key := x.ctx.rxKey, salt := x.ctx.rxSalt, promo := s.time.lastTick.getD 0 % 2 ^ 32 }
      let s := { s with mpe := { s.mpe with rot := kvSet s.mpe.rot x.rotIdx e' } }
      let s := setSession i { x with ctx := { x.ctx with rxKey := e.key, rxSalt := e.salt } } (s.bump Reg.secRotPromote)
      mirrorSession i (sessionEvent 0x30B i x s)

/-- A counter of a session's channel, which is processed here (R157, R173). -/
def sessionStats (x : Session) (f : Stats → Stats) (s : Dev) : Dev :=
  match (s.chan? (x.chan % 65536)).filter (fun k => k.owner == x.chan / 65536) with
  | some _ => modStats (x.chan % 65536) f s
  | none => s

/-- A dropped packet's counter, with the channel's statistics and source of R173. -/
def dropAuth (i : Nat) (x : Session) (s : Dev) : Dev :=
  let s := sessionStats x (fun t => { t with authFail := t.authFail + 1 }) (s.bump64 Reg.mpeDropAuth)
  let (first, s) := s.oncePer (0x308 * 2 ^ 32 + i) s.time.ticks
  if first then sessionEvent 0x308 i x s else s

def dropReplay (i : Nat) (x : Session) (s : Dev) : Dev :=
  let s := sessionStats x (fun t => { t with replay := t.replay + 1 }) (s.bump64 Reg.mpeDropReplay)
  let (first, s) := s.oncePer (0x309 * 2 ^ 32 + i) s.now.sec
  if first then sessionEvent 0x309 i x s else s

/-! ### Delivery and forwarding (R169, R434, R446, R447) -/

/-- The class of an accepted payload type: 0 voice, 1 event, 2 comfort noise. -/
def payloadClass (k : Channel) (pt : Nat) : Option Nat :=
  let voice := if k.vbd then passPt k else k.par 28 1
  if pt = voice then some 0
  else if eventPt k ∧ pt = k.par 29 1 then some 1
  else if pt = 13 ∧ rfc3389 (if k.vbd then 1 else k.par 3 1) then some 2
  else none

/-- Delivery of an RTP header and payload to a channel of this device (R169, R309, R314). -/
def deliver (c : Nat) (rtp payload : Octets) (stampNs : Nat) (s : Dev) : Dev :=
  match s.chan? c with
  | none => s
  | some k =>
    let pt := oct rtp 1 % 128
    match payloadClass k pt with
    | none =>
      let s := s.bump64 Reg.mpeDropPt
      if k.vbd then (if pt = k.par 28 1 then vbdEnd c 1 s else s)
      else
        let mask := match progOf s k.params with | some r => le r 4 2 | none => 0
        if pt = passPt k ∧ mask ≠ 0 then vbdTrigger c 0 s else s
    | some cls =>
      let ts := be rtp 4 4
      let s := if cls = 1 then eventUpdate c ts payload s else s
      packetArrive c ts (be rtp 2 2) (decide (128 ≤ oct rtp 1)) cls payload stampNs s

/-- A media record's octets (R434). -/
def mediaRecord (g kind : Nat) (t : Stamp) (rtp : Octets) : Octets :=
  let o := toBe 4 (g % 2 ^ 20 + kind * 2 ^ 20) ++ toBe 6 t.sec ++ toBe 4 t.ns ++ toBe 2 rtp.length ++ rtp
  o ++ zeros ((4 - o.length % 4) % 4)

/-- A MEDIA frame of one record leaves. -/
def mediaSend (h g kind : Nat) (t : Stamp) (rtp : Octets) (s : Dev) : Dev := ronSendTo h 2 1 1 (mediaRecord g kind t rtp) s

/-- The other processing devices of the hierarchy, by HID. -/
def processing (s : Dev) : List Nat := ((planOthers s).filter (fun d => d.role == 2 || d.role == 1)).map (·.hid)

/-- The span that a device's replay share holds, in 0.1 ms. -/
def replaySpan (s : Dev) (l : List (Nat × MediaRec)) : Nat := match l with | [] => 0 | p :: _ => (s.cycles - p.1) / 50000

/-- The newest records that a share of `share` cells holds: the oldest are discarded first (R447). -/
def fitShare (share : Nat) : List (Nat × MediaRec) → List (Nat × MediaRec)
  | [] => []
  | p :: r => if share < ((p :: r).map (fun q => cellsFor q.2.rtp.length)).sum then fitShare share r else p :: r

/-- A record is kept in the replay store of device `h` (R447): for REPLAY_MS, within its share of the cells. -/
def replayKeep (h : Nat) (r : MediaRec) (s : Dev) : Dev :=
  let ms := min 40 (s.rfld Reg.ronReplayMs 0 8)
  let share := s.rfld Reg.mpePsReplay 0 21 / max 1 (processing s).length
  let l := ((kvGet s.ron.replay h).getD []).filter (fun p => decide (s.cycles ≤ p.1 + usCycles (1000 * ms))) ++ [(s.cycles, r)]
  let l' := fitShare share l
  let s := { s with ron := { s.ron with replay := kvSet s.ron.replay h l' } }
  let covers : List (Nat × Nat) := (s.cycles, leastOr 0 (s.ron.replay.map (fun p => replaySpan s p.2))) ::
    s.ron.covers.filter (fun p => decide (s.cycles < p.1 + usCycles 1000000))
  let s := { s with ron := { s.ron with covers := covers } }
  let s := s.setFld Reg.ronReplayCover 0 16 (sat 16 (leastOr 0 (covers.map (fun (p : Nat × Nat) => p.2))))
  if l'.length < l.length ∧ replaySpan s l' < 10 * ms then
    let (first, s) := s.oncePer 0x3A9 s.now.sec
    if first then occur 0x3A9 {} s else s
  else s

/-- An ingress record goes to the device that processes its channel, or is delivered here (R166 step 18, R446, R447). -/
def forwardIngress (g : Nat) (t : Stamp) (rtp payload : Octets) (s : Dev) : Dev :=
  let h := g / 65536
  let target := processor s h
  if target = some s.hid ∨ s.standalone then
    let s := if s.activeManager then (planManagers s).foldl (fun s m => mediaSend m g 0 t rtp s) s else s
    deliver (g % 65536) rtp payload (stampNs t) s
  else match target with
    | none => s
    | some x => replayKeep h { chan := g, kind := 0, stamp := t, rtp := rtp } (mediaSend x g 0 t rtp (s.bump64 Reg.mpeRxPackets))

/-! ### RTCP received (R174, R201) -/

/-- The sender report of a compound packet: its place, its NTP instant in ns of the scale and its RTP timestamp. -/
def findSr : Nat → Octets → Option (Nat × Nat × Nat)
  | 0, _ => none
  | n + 1, o =>
    if o.length < 8 then none
    else if oct o 1 = 200 ∧ 20 ≤ o.length then
      some (0, (be o 8 4 - 2208988800) * nsPerSec + (be o 12 4 * nsPerSec + 2 ^ 32 - 1) / 2 ^ 32, be o 16 4)
    else
      let n4 := 4 * (be o 2 2 + 1)
      (findSr n (o.drop n4)).map (fun r => (r.1 + n4, r.2))

/-- A packet's source becomes the session's remote address (R167). -/
def latchTake (i : Nat) (x : Session) (latch : Option (Nat × Nat)) (s : Dev) : Dev :=
  match latch with
  | some (ip, port) =>
    let (nb, s) := neighbourOf x.addr ip s
    sessionEvent 0x307 i x (modSession i (fun x => { x with remoteIp := ip, remotePort := port, latched := true, neigh := nb }) s)
  | none => s

/-- An SRTCP packet checked under the current key and then under the key of the rotation cache entry, PENDING or RETAINED (R180). It promotes none:
FROM is an index of RTP packets (DESIGN CHOICE, log entry 66). -/
def srtcpCheck (s : Dev) (x : Session) (u : Octets) : Option Octets :=
  match srtcpOpen x.suite x.ctx.rxKey x.ctx.rxSalt u with
  | some o => some o
  | none => (rotEntry s x).bind (fun e => srtcpOpen x.suite e.key e.salt u)

/-- Firmware takes an RTCP packet: a sender report is noted for the next report of the session, and feeds the playout (R174, R201). -/
def rtcpGive (i : Nat) (x : Session) (o : Octets) (s : Dev) : Dev :=
  punt (some i) o (fun s => match findSr 16 o with
    | some (at_, ntp, ts) =>
      let s := modSession i (fun x => { x with lsr := be o (at_ + 10) 4, lsrAt := some s.nowNs }) s
      if (packetLeg s x.chan).2 = some i then senderReport (x.chan % 65536) ntp ts s else s
    | none => s) s

/-- The RTCP path. -/
def rtcpTake (i : Nat) (x : Session) (latch : Option (Nat × Nat)) (u : Octets) (k : EntryCheck) (s : Dev) : Dev :=
  if ¬ x.srtcp ∨ x.suite = 0 then rtcpGive i x u (latchTake i x latch s)
  else if keyLostNow s x ∨ x.fetching then s.bump64 Reg.mpeDropKeyLost
  else if k.ctxBad then (contextLost i s).bump64 Reg.mpeDropKeyLost
  else
    let idx := srtcpWord x.suite u % 2 ^ 31
    if x.ctx.srtcpValid ∧ idx ≤ x.ctx.srtcpHi then dropReplay i x s
    else match srtcpCheck s x u with
      | none => dropAuth i x s
      | some o =>
        rtcpGive i x o (latchTake i x latch
          (modSession i (fun x => { x with ctx := { x.ctx with srtcpHi := idx, srtcpValid := true } }) (s.bump64 Reg.secUnprotect)))

/-! ### An ingress frame (R166) -/

/-- Steps 15 to 18 for an RTP packet `o` in clear, with a header of `h` octets. -/
def rtpAccept (i : Nat) (x : Session) (latch : Option (Nat × Nat)) (h : Nat) (o : Octets) (stampNs : Nat) (s : Dev) : Dev :=
  let data := o.drop h
  let pad := if (oct o 0).testBit 5 then oct data (data.length - 1) else 0
  if (oct o 0).testBit 5 ∧ (data.isEmpty ∨ pad = 0 ∨ data.length < pad) then s.bump64 Reg.mpeDropRtpHdr
  else
    let data := data.take (data.length - pad)
    let ssrc := BitVec.ofNat 32 (be o 8 4)
    if x.ssrcLock ∧ ssrc ≠ x.rxSsrc then s.bump64 Reg.mpeDropSsrc
    else if ¬ isLeg s i x then s.bump64 Reg.mpeDropNoLeg
    else
      let s := latchTake i x latch s
      let changed := x.started && !x.ssrcLock && ssrc != x.rxSsrc
      let s := modSession i (fun x => { x with started := true, rxSsrc := ssrc }) s
      let here := s.standalone || processor s (x.chan / 65536) == some s.hid
      let s := if changed then sessionEvent 0x306 i x (if here then newStream (x.chan % 65536) (be o 2 2) s else s) else s
      if data.isEmpty then s else forwardIngress x.chan (stampOf stampNs s.time.tepoch) (o.take h ++ data) data s

/-- Steps 12 to 14 for an RTP packet of session `i`. -/
def rtpTake (i : Nat) (x : Session) (latch : Option (Nat × Nat)) (u : Octets) (k : EntryCheck) (stampNs : Nat) (s : Dev) : Dev :=
  match rtpHeader u with
  | none => s.bump64 Reg.mpeDropRtpHdr
  | some h =>
    if keyLostNow s x ∨ x.fetching then s.bump64 Reg.mpeDropKeyLost
    else if k.ctxBad ∧ x.suite ≠ 0 then (contextLost i s).bump64 Reg.mpeDropKeyLost
    else
      match srtpCheck s x h u with
      | (.auth, _) => dropAuth i x s
      | (.replay, _) => dropReplay i x s
      | (.pass o promoted, x') =>
        let s := setSession i x' (if x.suite = 0 then s else s.bump64 Reg.secUnprotect)
        rtpAccept i x latch h o stampNs (match promoted with | some idx => promote i idx s | none => s)

/-- Steps 9 to 11 for a UDP datagram. -/
def udpTake (a src sport dport : Nat) (u : Octets) (k : EntryCheck) (stampNs : Nat) (s : Dev) : Dev :=
  match kvGet s.mpe.ports (a * 65536 + dport) with
  | none => s.bump64 Reg.mpeDropNoSession
  | some pe =>
    let i := pe.session
    if (session? s i).isNone then s.bump64 Reg.mpeDropNoSession
    else
      let (ok, s) := routeRead i k.route s
      match ok, session? s i with
      | true, some x =>
        let rtcp := pe.rtcp || (x.rtcpMux && decide (192 ≤ oct u 1) && decide (oct u 1 ≤ 223))
        let differs := src != x.remoteIp || (!rtcp && sport != x.remotePort)
        let mayLatch := x.latch && !x.latched
        if differs ∧ x.checkSrc ∧ ¬ mayLatch then s.bump64 Reg.mpeDropSrc
        else
          let latch := if differs ∧ mayLatch then some (src, sport) else none
          if rtcp then rtcpTake i x latch u k s else rtpTake i x latch u k stampNs s
      | _, _ => s

/-- The frame that the MPE took, under `MPE.CFG.EN` (R166, R187): with EN = 0 only ARP, ND and PTP pass. -/
def frameTake (e : Nat) (f : RxHeld) (k : EntryCheck) (s : Dev) : Dev :=
  let en := s.rbit Reg.mpeCfg 0
  let p := parseFrame s e f.octets
  match p with
  | .arp vid o => punt none f.octets (arpTake e vid o) s
  | .ptp o => s.emit (.punt true none o)
  | .icmp v6 vid src o =>
    if ¬ en ∧ ¬ (v6 ∧ 133 ≤ oct o 0 ∧ oct o 0 ≤ 137) then s.bump64 Reg.mpeDropDisabled
    else punt none f.octets (fun s => if v6 then icmpTake e vid src (octs f.octets 6 6) o s else s) s
  | .drop c => s.bump64 (if en then c else Reg.mpeDropDisabled)
  | .udp a src sport dport u => if en then udpTake a src sport dport u k f.stampNs s else s.bump64 Reg.mpeDropDisabled

/-- INGRESS_FRAME (R166): the MPE of a standalone device or the active manager takes the oldest frame of a MAC. -/
def ingressFrame (e : Nat) (k : EntryCheck) (s : Dev) : Dev :=
  if ¬ s.leads ∨ ¬ s.domainOn 18 then s
  else match macTake e s with
    | none => s
    | some (f, s) => frameTake e f k s

/-! ### Egress (R176, R177, R451) -/

/-- A packet is handed to the MPE (R187). -/
def handEgress (p : EgPkt) (s : Dev) : Dev :=
  if s.rbit Reg.mpeCfg 0 then { s with mpe := { s.mpe with egress := s.mpe.egress ++ [p] } } else s.bump64 Reg.mpeEgDropDisabled

/-- The transmit context moves past a packet (R176 step 2). -/
def seqNext (c : CryptoCtx) : CryptoCtx :=
  let q := (c.seq + 1) % 65536
  { c with seq := q, txRoc := if q = 0 then (c.txRoc + 1) % 2 ^ 32 else c.txRoc }

/-- UDP, IP and Ethernet headers, the neighbour and the queue (R176 steps 4 to 6). -/
def sendUdp (x : Session) (dport sport dscp q : Nat) (o : Octets) (s : Dev) : Bool × Dev :=
  match localAddr s x.addr with
  | none => (false, s)
  | some l =>
    match kvGet s.mpe.neigh x.neigh with
    | none =>
      let s := s.bump64 Reg.mpeEgNoNeigh
      let (first, s) := s.oncePer (0x305 * 2 ^ 32 + x.neigh) s.now.sec
      let s := if first then occur 0x305 { data := toLe 4 x.neigh } s else s
      match kvGet s.mpe.hops x.neigh with
      | some (_, hop) => (false, sendFrame l.mac (rtcpTxq s) (solicit s l hop) s)
      | none => (false, s)
    | some mac =>
      let f := etherHeader s l (toBe 6 mac.toNat) dscp (etherType l) ++
        ipPacket l x.remoteIp dscp 17 l.ttl (udpPacket l x.remoteIp sport dport o)
      enqueue l.mac q f none false s

/-- A session's transmit index has moved 256 packets past the mirror (R184). -/
def mirrorDue (i : Nat) (s : Dev) : Dev :=
  match session? s i with
  | none => s
  | some x => if x.mirrored + 256 ≤ x.ctx.txRoc * 65536 + x.ctx.seq then mirrorSession i s else s

/-- A packet of session `i` with its numbers, protected and sent (R176 steps 2 to 6). -/
def egressSend (i : Nat) (x : Session) (p : EgPkt) (s : Dev) : Dev :=
  let hdr := [0x80, BitVec.ofNat 8 (p.pt % 128 + 128 * p.marker.toNat)] ++ toBe 2 x.ctx.seq ++ toBe 4 (p.ts % 2 ^ 32) ++ toBe 4 x.ctx.txSsrc.toNat
  let o := if x.suite = 0 then p.payload else srtpProtect x.suite x.ctx.txKey x.ctx.txSalt (x.ctx.txRoc * 65536 + x.ctx.seq) hdr p.payload
  let s := setSession i { x with ctx := seqNext x.ctx, lastTs := some (p.ts % 2 ^ 32), lastStamp := p.stampNs, sentPkts := (x.sentPkts + 1) % 2 ^ 32,
                                 sentOcts := (x.sentOcts + p.payload.length) % 2 ^ 32 } (if x.suite = 0 then s else s.bump64 Reg.secProtect)
  let (sent, s) := sendUdp x x.remotePort x.localPort p.dscp p.txq (hdr ++ o) s
  mirrorDue i (if sent then s.bump64 Reg.mpeTxPackets else s)

/-- EGRESS_PACKET (R176). -/
def egressPacket (t : EntryCheck) (s : Dev) : Dev :=
  if ¬ s.leads ∨ ¬ s.domainOn 18 then s
  else match s.mpe.egress with
    | [] => s
    | p :: rest =>
      let s := { s with mpe := { s.mpe with egress := rest } }
      match p.session.bind (fun i => (session? s i).map (fun _ => i)) with
      | none => s.bump64 Reg.mpeEgDropSession
      | some i =>
        let (ok, s) := routeRead i t.route s
        match ok, session? s i with
        | true, some x =>
          if keyLostNow s x ∨ x.fetching then s.bump64 Reg.mpeEgDropSession
          else if t.ctxBad ∧ x.suite ≠ 0 then (contextLost i s).bump64 Reg.mpeEgDropSession
          else egressSend i x p s
        | _, _ => s.bump64 Reg.mpeEgDropSession

/-! ### RTCP sent (R174) -/

/-- What the reception report of a session says (R207, RFC 3550 section 6.4.1): packets expected, received and lost, the extended highest sequence
number, and the jitter in RTP units. -/
structure Reception where
  expected : Nat
  received : Nat
  lost : Nat
  high : Nat
  jitter : Nat

/-- The reception of a channel processed here, from its jitter buffer. -/
def receptionOf (k : Channel) : Reception :=
  let q := k.jb.seq
  let e := q.cycles + q.maxSeq + 1 - q.baseSeq
  { expected := e, received := q.uniq, lost := lostBy q, high := (q.cycles + q.maxSeq) % 2 ^ 32, jitter := k.jb.jitter * clockOf k / 1000000000 }

/-- The channel of a session, where it is processed here. -/
def sessionChan (s : Dev) (x : Session) : Option Channel := (s.chan? (x.chan % 65536)).filter (fun k => k.owner == x.chan / 65536)

/-- The reception of a session's stream: from its channel, and free where another device holds the jitter buffer (R157), from which no frame brings it
(log entry 67). -/
def reception (x : Session) (s : Dev) : Reception × Dev :=
  match sessionChan s x with
  | some k => (receptionOf k, s)
  | none =>
    let (e, s) := s.drawBelow (2 ^ 32)
    let (l, s) := s.drawBelow (e + 1)
    let (h, s) := s.drawBelow (2 ^ 32)
    let (j, s) := s.drawBelow (2 ^ 32)
    ({ expected := e, received := e - l, lost := l, high := h, jitter := j }, s)

/-- A reception report block (RFC 3550 section 6.4.1) at instant `now` in ns. -/
def reportBlock (x : Session) (r : Reception) (now : Nat) : Octets :=
  let e := r.expected - x.expPrior
  let l := e - (r.received - x.recvPrior)
  let frac := if e = 0 then 0 else min 255 (256 * l / e)
  let dlsr := match x.lsrAt with | some t => (now - t) * 65536 / nsPerSec | none => 0
  toBe 4 x.rxSsrc.toNat ++ [BitVec.ofNat 8 frac] ++ toBe 3 (min 0x7FFFFF r.lost) ++ toBe 4 r.high ++ toBe 4 r.jitter ++
    toBe 4 (if x.lsrAt.isSome then x.lsr else 0) ++ toBe 4 dlsr

/-- The RTP clock of a session's channel: from the channel, or from its catalogue record on a manager. -/
def sessionClock (s : Dev) (x : Session) : Nat :=
  match sessionChan s x with
  | some k => clockOf k
  | none => match kvGet s.ron.catalogue x.chan with
    | some r => rtpClock (oct r 19) (oct r 18)
    | none => 8000

/-- A VoIP Metrics block (RFC 3611 section 4.7) from the channel's statistics: loss and discard rates, residual echo return loss, playout depths and
levels; what the statistics do not hold is free (log entry 67). -/
def voipMetrics (x : Session) (r : Reception) (s : Dev) : Octets × Dev :=
  let (v, s) := s.drawOctets 28
  let rate (n : Nat) : Byte := if r.expected = 0 then 0 else BitVec.ofNat 8 (min 255 (256 * n / r.expected))
  match sessionChan s x with
  | none => (toBe 4 x.rxSsrc.toNat ++ v, s)
  | some k =>
    let level : Byte := match k.rfeOut.rms with | some l => BitVec.ofInt 8 (l / 100) | none => 127
    let rerl := BitVec.ofNat 8 (min 126 (k.echo.erle / 100))
    let ms (n : Nat) : Octets := toBe 2 (sat 16 (n / 1000000))
    let o := [rate r.lost, rate k.stats.latePkts] ++ octs v 2 10 ++ [level, BitVec.ofNat 8 (oct v 13), rerl, BitVec.ofNat 8 16] ++ octs v 16 6 ++
      ms k.jb.d ++ ms k.jb.d ++ ms (1000000 * jbMaxMs k.live)
    (toBe 4 x.rxSsrc.toNat ++ o, s)

/-- A compound packet of session `i`: SR, or RR while the channel has sent nothing, SDES CNAME, a VoIP Metrics block under XR_EN, and at close a
BYE. -/
def rtcpPacket (x : Session) (xr bye : Bool) (s : Dev) : Octets × Reception × Dev :=
  let ssrc := toBe 4 x.ctx.txSsrc.toNat
  let now := s.nowNs
  let ntp := toBe 4 ((now / nsPerSec + 2208988800) % 2 ^ 32) ++ toBe 4 (now % nsPerSec * 2 ^ 32 / nsPerSec)
  let (r, s) := reception x s
  let blocks := if x.started then reportBlock x r now else []
  let n : Nat := x.started.toNat
  let ts := x.lastTs.getD 0 + (now - x.lastStamp) * sessionClock s x / nsPerSec
  let report :=
    if x.lastTs.isSome then
      [BitVec.ofNat 8 (0x80 + n), 200] ++ toBe 2 (6 + 6 * n) ++ ssrc ++ ntp ++ toBe 4 (ts % 2 ^ 32) ++ toBe 4 x.sentPkts ++ toBe 4 x.sentOcts ++ blocks
    else [BitVec.ofNat 8 (0x80 + n), 201] ++ toBe 2 (1 + 6 * n) ++ ssrc ++ blocks
  let name := Config.cname
  let item := [BitVec.ofNat 8 1, BitVec.ofNat 8 name.length] ++ name
  let chunk := ssrc ++ item ++ zeros (4 - item.length % 4)
  let (m, s) := if xr then voipMetrics x r s else ([], s)
  (report ++ [0x81, 202] ++ toBe 2 (chunk.length / 4) ++ chunk ++
    (if xr then [0x80, 207] ++ toBe 2 10 ++ ssrc ++ [7, 0] ++ toBe 2 8 ++ m else []) ++ (if bye then [0x81, 203] ++ toBe 2 1 ++ ssrc else []), r, s)

/-- Firmware sends RTCP for a session. -/
def rtcpSend (i : Nat) (bye : Bool) (t : EntryCheck) (s : Dev) : Dev :=
  let (ok, s) := routeRead i t.route s
  match ok, session? s i with
  | true, some x =>
    let secured := x.srtcp && x.suite != 0
    if secured ∧ (keyLostNow s x ∨ x.fetching) then s
    else if secured ∧ t.ctxBad then contextLost i s
    else
      let (o, r, s) := rtcpPacket x (s.rbit Reg.mpeCfg 1) bye s
      let x := { x with expPrior := r.expected, recvPrior := r.received }
      let (o, x, s) :=
        if secured then
          (srtcpProtect x.suite x.ctx.txKey x.ctx.txSalt x.ctx.srtcpIdx o, { x with ctx := { x.ctx with srtcpIdx := (x.ctx.srtcpIdx + 1) % 2 ^ 31 } },
            s.bump64 Reg.secProtect)
        else (o, x, s)
      let s := setSession i x s
      let dport := if x.rtcpMux then x.remotePort else (x.remotePort + 1) % 65536
      let sport := if x.rtcpMux then x.localPort else (x.localPort + 1) % 65536
      let s := (sendUdp x dport sport (s.rfld Reg.mpeRtcpCfg 0 6) (rtcpTxq s) o s).2
      if secured then mirrorSession i s else s
  | _, _ => s

/-- The channel of session `i` is RUNNING with it as its packet leg: a channel processed here, or by its catalogue record another device's. -/
def runningLeg (s : Dev) (i : Nat) (x : Session) : Bool :=
  match sessionChan s x, kvGet s.ron.catalogue x.chan with
  | some k, _ => k.st == .running && k.legs.session == some i
  | none, some r => oct r 66 == 3 && le r 8 4 == i
  | none, none => s.ron.inherited && x.chan / 65536 != s.hid

/-- RTCP_SEND_TIMER (R174): for a session whose channel is RUNNING, on the device that holds the session table. -/
def rtcpTimer (i : Nat) (t : EntryCheck) (s : Dev) : Dev :=
  if ¬ s.leads ∨ ¬ s.domainOn 18 then s
  else match session? s i with
    | none => s
    | some x => if runningLeg s i x then rtcpSend i false t s else s

/-- The BYEs owed to sessions whose channel has closed (R174). -/
def sendByes (s : Dev) : Dev :=
  s.mpe.byes.foldl (fun s i => if s.leads ∧ s.domainOn 18 then rtcpSend i true ⟨.ok, false⟩ s else s) { s with mpe := { s.mpe with byes := [] } }

/-! ### Enables (R187) -/

/-- A write of `MPE.CFG.EN`: frames and packets already in the pipeline finish; IDLE reads 1 once it is empty. -/
def mpeIdle (s : Dev) : Dev := s.setBit Reg.mpeStatus 0 (!s.rbit Reg.mpeCfg 0 && s.mpe.egress.isEmpty)

def mpeEnWrite (en : Bool) (s : Dev) : Dev := mpeIdle (s.setBit Reg.mpeCfg 0 en)

/-- A write of `SEC.CFG.EN`. -/
def secEnWrite (en : Bool) (s : Dev) : Dev := (s.setBit Reg.secCfg 0 en).setBit Reg.secStatus 0 (!en)

end Sys2Proof.Machine
end

