-- ==== Sys2Proof/Machine/TdmOps.lean ====
section
/-! DEFINITION. The TDM highways (R324 to R341). `TDM.H[h].STATUS` holds what the manual names of a highway; `Dev.tdm` holds when its clock or
frame sync was lost, and how many frame-sync edges in a row came on time. -/

namespace Sys2Proof.Machine

/-- Highway `h` beside its registers. -/
def tdmOf (s : Dev) (h : Nat) : Tdm := (kvGet s.tdm h).getD {}

/-- Highway `h` written. -/
def setTdm (h : Nat) (x : Tdm) (s : Dev) : Dev := { s with tdm := kvSet s.tdm h x }

/-- The highway is enabled, on a device whose highways carry traffic (R26). -/
def tdmOn (s : Dev) (h : Nat) : Bool := carriesNet s && s.domainOn 27 && s.rbit (Reg.tdmCfg h) 31

/-- The highway is enabled as a slave. -/
def tdmSlave (s : Dev) (h : Nat) : Bool := tdmOn s h && !s.rbit (Reg.tdmCfg h) 24

/-- The highway drives CLK and FS in place of an external clock (R336). -/
def fallbackOn (s : Dev) (h : Nat) : Bool := s.rbit (Reg.tdmStatus h) 3

/-- CLK or FS is lost on a slave (R335). -/
def tdmLost (s : Dev) (h : Nat) : Bool := !(s.rbit (Reg.tdmStatus h) 1 && s.rbit (Reg.tdmStatus h) 2)

/-! ### The frame on the wires (R325 to R327, R331) -/

/-- Bit periods of a frame of 125 µs at a RATE. -/
def frameBits (rate : Nat) : Nat := 256 * 2 ^ rate

/-- The instant of bit period `b` after a frame's boundary, to the nearest ns at the nominal rate. -/
def bitNs (rate b : Nat) : Nat := (2 * b * 125000 + frameBits rate) / (2 * frameBits rate)

/-- The level of FS in bit period `b` after the first in which it is active (R326): FS is active for one bit period, or for eight with FS_LONG = 1, and
low when active with FS_POL = 1. -/
def fsLevel (cfg : Word) (b : Nat) : Bool := decide (b < (if bit cfg 19 then 8 else 1)) != bit cfg 20

/-- The bit period, after the first in which FS is active, of bit `j` of slot `k`, bit 0 the most significant (R326). -/
def slotBit (cfg : Word) (k j : Nat) : Nat := fld cfg 16 3 + 8 * k + j

/-- The edge of CLK, rising for `true`, on which TX data is launched, and that on which RX data is sampled (R326). -/
def launchEdge (cfg : Word) : Bool := !bit cfg 21
def sampleEdge (cfg : Word) : Bool := bit cfg 21

/-- The level of TX in bit `j` of a slot that carries an octet: most significant bit first. -/
def slotLevel (o : Byte) (j : Nat) : Bool := o.toNat.testBit (7 - j)

/-- Samples of one frame in a slot group (R327). -/
def groupSamples (fmt : Nat) : Nat := if fmt = 3 then 2 else 1

/-- The octets of a code, the high octet of a 16-bit sample in the lower-numbered slot. -/
def codeOctets (fmt code : Nat) : Octets := if fmt ≤ 1 then [BitVec.ofNat 8 code] else toBe 2 code

/-- The octets of a group's slots in each frame of a span. -/
def spanFrames (fmt : Nat) (codes : List Nat) : List Octets :=
  (upTo (codes.length / groupSamples fmt)).map (fun f => ((codes.drop (groupSamples fmt * f)).take (groupSamples fmt)).flatMap (codeOctets fmt))

/-- The instant in ns at which the first bit of a leg's slots in the first frame of a span from `from_` stands at the pins (R331): on a master, the
slot's place after the frame boundary; on a slave, the FS edge's stamp and the bit offset at the nominal rate. Where no edge of the span was captured,
the device-side grid stands for it. -/
def pinInstant (s : Dev) (l from_ : Nat) : Nat :=
  let h := lineHighway l
  let cfg := s.reg (Reg.tdmCfg h)
  let rate := fld cfg 0 3
  if bit cfg 24 then from_ + bitNs rate (8 * lineFirst l)
  else match ((tdmOf s h).edges.filter (fun e => decide (from_ ≤ e))).getLast? with
    | some e => e + bitNs rate (slotBit cfg (lineFirst l) 0)
    | none => from_ + bitNs rate (8 * lineFirst l)

/-- TX may drive: frames run, and the pin is not released (R335, R337). -/
def txFree (s : Dev) (h : Nat) : Bool := s.rbit (Reg.tdmStatus h) 0 && !s.rbit (Reg.tdmStatus h) 6

/-- With DRIVE_ALL = 1 the slots that no leg drives carry `IDLE.CODE` (R332). -/
def idleDrive (h : Nat) (s : Dev) : Dev :=
  if tdmOn s h && s.rbit (Reg.tdmCfg h) 22 && txFree s h then s.emit (.idle h (BitVec.ofNat 8 (s.rfld (Reg.tdmIdle h) 0 8))) else s

/-- A write of `TDM.H[h].IDLE`. -/
def idleWrite (h : Nat) (v : Word) (s : Dev) : Dev := idleDrive h (s.setNat (Reg.tdmIdle h) (fld v 0 8))

/-- `STATUS.RUNNING`: the highway carries frames; as it starts to, idle slots are driven. -/
def tdmShow (h : Nat) (s : Dev) : Dev :=
  let st := Reg.tdmStatus h
  let run :=
    if ¬ tdmOn s h then false
    else if s.rbit (Reg.tdmCfg h) 24 then !(s.rbit st 4 || s.rbit st 5)
    else fallbackOn s h || !tdmLost s h
  let was := s.rbit st 0
  let s := s.setBit st 0 run
  if run && !was then idleDrive h s else s

/-- The channels with a line leg on highway `h`, by local ID. -/
def legsOn (s : Dev) (h : Nat) : List Nat :=
  (s.chans.filter (fun p => (p.2.legs.line.map lineHighway) == some h)).map (·.1)

/-- The highway is disabled (R339): every pin released, spans discarded, `IDLE` = 1. -/
def tdmDisable (h : Nat) (s : Dev) : Dev :=
  let s := (s.setBit (Reg.tdmCfg h) 31 false).setNat (Reg.tdmStatus h) (0x100 + 0x200 * (s.rbit (Reg.tdmStatus h) 9).toNat)
  let s := setTdm h {} (s.setNat (Reg.tdmFreq h) 0)
  let s := (legsOn s h).foldl (fun s c => s.modChan c (fun k => { k with supplied := false })) s
  faultEnd (0x3C8 + h) [] s

/-- The highway is enabled: no pin stands released. -/
def tdmEnable (h : Nat) (s : Dev) : Dev :=
  let s := (s.setBit (Reg.tdmCfg h) 31 true).setNat (Reg.tdmStatus h) (6 + 0x200 * (s.rbit (Reg.tdmStatus h) 9).toNat)
  tdmShow h (faultEnd (0x3C0 + h) [] (setTdm h {} s))

/-- Every connected leg's slots lie within the slot count of a RATE. -/
def legsFit (s : Dev) (h rate : Nat) : Bool :=
  (legsOn s h).all (fun c => match (s.chan? c).bind (·.legs.line) with
    | some l => decide (lineFirst l + groupSlots (lineFormat l) ≤ 32 * 2 ^ rate)
    | none => true)

/-- A master's synthesiser runs at eight times the slot count of a RATE (R420). -/
def masterFits (s : Dev) (v : Nat) : Bool :=
  !v.testBit 24 || s.rfld (Reg.tbSynthCfg (nfld v 25 3)) 16 13 + 1 == 8 * (32 * 2 ^ (v % 8))

/-- The fields of `TDM.H[h].CFG`. -/
def tdmMask : Nat := 0x8FFF0007

/-- `TDM.H[h].CFG` is written (R325, R339). A highway whose pins were found shorted at boot stays disabled, and its source live, until the next wiring
checks (R39; DEDUCED that a later EN = 1 does not lift the fallback, log entry 58). -/
def tdmCfgWrite (h : Nat) (w : Word) (s : Dev) : Dev :=
  let a := Reg.tdmCfg h
  let v := w.toNat &&& tdmMask
  let old := (s.reg a).toNat
  let en := v.testBit 31
  let was := old.testBit 31
  let bad := s.setBit (Reg.tdmStatus h) 9 true
  if 6 ≤ v % 8 then bad
  else if was ∧ v % 2 ^ 31 ≠ old % 2 ^ 31 then bad
  else if en ∧ ¬ legsFit s h (v % 8) then bad
  else if en ∧ ¬ was ∧ ¬ masterFits s v then bad
  else
    let s := s.setBit (Reg.tdmStatus h) 9 false
    if was = en then s.setNat a v
    else if en then (if s.boot.tdmShort.contains h then s.setNat a (v % 2 ^ 31) else tdmEnable h (s.setNat a v))
    else tdmDisable h s

/-- Released pins are armed again (R337). -/
def rearm (h : Nat) (s : Dev) : Dev := tdmShow h (faultEnd (0x3C0 + h) [] (s.setFld (Reg.tdmStatus h) 4 3 0))

/-- TDM-in of channel `c` (R268, R330, R331, R333): the codes of the frames that reached the pins in the instance's input span, expanded; the silence
code for those that failed parity in the line memory (`bad`), and for a span of a highway that is disabled or has lost its clock. -/
def tdmInNode (c : Nat) (codes bad : List Nat) (s : Dev) : Dev :=
  match (s.chan? c).bind (fun k => k.active.bind (fun i => i.legs.line.map (fun l => (k, i, l)))) with
  | none => s
  | some (k, i, l) =>
    let h := lineHighway l
    let fmt := lineFormat l
    let hz := if fmt = 3 then 16000 else 8000
    let on := tdmOn s h && s.rbit (Reg.tdmStatus h) 0
    let n := tickSamples i.frame hz
    let code (j : Nat) : Nat := if on && !bad.contains j then codes.getD j (silenceCode fmt) else silenceCode fmt
    let block : Block := { stamp := pinInstant s l (i.spawnTick * tickNs - i.frame * tickNs), tepoch := i.tepoch, hz := hz, epoch := i.epoch,
                           samples := (upTo n).map (fun j => expand fmt (code j)) }
    let errors := (bad.filter (fun j => decide (j < n))).length
    let s := s.setChan c { k with media := { k.media with lineIn := block }, stats := { k.stats with repairs := k.stats.repairs + errors } }
    if errors = 0 then s else occur 0x3D8 { chan := some (globalId k.owner c) } s

/-- A TDM-out node places its span (R327, R330, R332): in the instance's own line leg (R153), at the first device-side frame boundary at or after its
deadline. On a disabled highway it is discarded (R339), and where no frames run or TX is released it does not reach the pins: a master counts it in
`UNDERRUN` (R335, R337). -/
def tdmOutNode (c : Nat) (s : Dev) : Dev :=
  match (s.chan? c).bind (fun k => k.active.bind (fun i => i.legs.line.map (fun l => (k, i, l)))) with
  | none => s
  | some (k, i, l) =>
    let h := lineHighway l
    if ¬ tdmOn s h then s
    else
      let fmt := lineFormat l
      let n := tickSamples i.frame (if fmt = 3 then 16000 else 8000)
      let due := i.spawnTick * tickNs + i.frame * tickNs + 1000 * min 2500 (s.rfld Reg.gduSlack 0 12)
      let codes := (k.media.lineOut.first n).map (compress fmt)
      let at_ := (due + 124999) / 125000 * 125000
      let s := setTdm h { tdmOf s h with ends := kvSet (tdmOf s h).ends (lineFirst l) (at_ + i.frame * tickNs) } s
      let s := s.setChan c { k with supplied := k.supplied || k.legs.line == some l }
      if txFree s h then s.emit (.line h (lineFirst l) at_ (spanFrames fmt codes))
      else if s.rbit (Reg.tdmCfg h) 24 && !s.rbit (Reg.tdmStatus h) 0 then s.bump (Reg.tdmUnderrun h)
      else s

/-- A slip of a slave highway (R329, R338): a receive slip repeats the last complete frame, which carries a stamp of its own (R331), or deletes one. -/
def slip (h : Nat) (receive repeated : Bool) (s : Dev) : Dev :=
  if ¬ tdmSlave s h ∨ tdmLost s h ∨ fallbackOn s h then s
  else
    let x := tdmOf s h
    let edges := if ¬ receive then x.edges else if repeated then (x.edges.head?.map (· + 125000)).toList ++ x.edges else x.edges.drop 1
    let s := setTdm h { x with edges := edges } s
    let s := s.bump (if receive then Reg.tdmSlipRx h else Reg.tdmSlipTx h)
    let (first, s) := s.oncePer (0x3D000 + h) s.now.sec
    if first then occur (0x3D0 + h) {} s else s

/-- CLK_LOSS (`i` = 1) or FS_LOSS (`i` = 2) is declared (R335). -/
def tdmLoss (h i : Nat) (s : Dev) : Dev :=
  if ¬ tdmSlave s h ∨ fallbackOn s h ∨ ¬ s.rbit (Reg.tdmStatus h) i then s
  else
    let s := (s.setBit (Reg.tdmStatus h) i false).bump (Reg.tdmClkLoss h)
    let x := tdmOf s h
    let s := setTdm h { x with lostAt := some (x.lostAt.getD s.cycles) } s
    occur (0x3C8 + h) {} (tdmShow h s)

/-- CLK and FS have both been good for 1 ms (R335). -/
def tdmRecovered (h : Nat) (s : Dev) : Dev :=
  if ¬ tdmSlave s h ∨ fallbackOn s h ∨ ¬ tdmLost s h then s
  else
    let s := setTdm h { tdmOf s h with lostAt := none } (s.setFld (Reg.tdmStatus h) 1 2 3)
    faultEnd (0x3C8 + h) [] (tdmShow h s)

/-- A loss has lasted 10 ms on a highway with FALLBACK = 1 (R336). -/
def tdmFallback (h : Nat) (s : Dev) : Dev :=
  match (tdmOf s h).lostAt with
  | none => s
  | some t =>
    if ¬ tdmSlave s h ∨ fallbackOn s h ∨ ¬ s.rbit (Reg.tdmCfg h) 23 then s
    else tdmShow h ((s.elapseTo (t + usCycles 10000)).setBit (Reg.tdmStatus h) 3 true)

/-- The bit of `STATUS.RELEASED` of a pin. -/
def pinBit : TdmPin → Nat
  | .clk => 4
  | .fs => 5
  | .tx => 6

/-- TX drives in some slot (R332): with DRIVE_ALL in every one; in those of a connected leg from its first span on; in those of a leg that has gone until
the end of the last span supplied. -/
def txDriven (s : Dev) (h : Nat) : Bool :=
  s.rbit (Reg.tdmCfg h) 22 || (legsOn s h).any (fun c => ((s.chan? c).map (·.supplied)).getD false) ||
    (tdmOf s h).ends.any (fun p => decide (stampNs s.now < p.2))

/-- The device drives the pin (R324, R332, R335 to R337). -/
def drives (s : Dev) (h : Nat) (p : TdmPin) : Bool :=
  tdmOn s h && !s.rbit (Reg.tdmStatus h) (pinBit p) &&
    (match p with
     | .tx => s.rbit (Reg.tdmStatus h) 0 && txDriven s h
     | _ => s.rbit (Reg.tdmCfg h) 24 || fallbackOn s h)

/-- Four mismatches of a driven pin with its readback (R336, R337): in a fallback, CLK and FS are released and the highway is a slave again;
else the pin is released and source 0x3C0 + h is live. -/
def fight (h : Nat) (p : TdmPin) (s : Dev) : Dev :=
  if ¬ drives s h p then s
  else
    let s := s.bump (Reg.tdmFight h)
    if fallbackOn s h ∧ p ≠ .tx then tdmShow h (setTdm h { tdmOf s h with lostAt := some s.cycles } (s.setBit (Reg.tdmStatus h) 3 false))
    else occur (0x3C0 + h) {} (tdmShow h (s.setBit (Reg.tdmStatus h) (pinBit p) true))

/-- A connected leg's span has not been supplied at the instant of its first sample (R333): the silence code, counted once. A leg that has
never been supplied is undriven (R332), as is every leg of a slave that has lost its clock (R335). -/
def underrun (h c : Nat) (s : Dev) : Dev :=
  match s.chan? c with
  | none => s
  | some k =>
    if tdmOn s h ∧ (k.legs.line.map lineHighway) = some h ∧ k.supplied ∧ (s.rbit (Reg.tdmStatus h) 0 ∨ s.rbit (Reg.tdmCfg h) 24) then
      let s := s.bump (Reg.tdmUnderrun h)
      if txFree s h then s.emit (.silence h c) else s
    else s

/-- A frame-sync edge reaches a slave (R331, R335): its stamp is captured, misplaced edges are counted, and two in a row on time realign the frame. The
measured offset of CLK is open within the 1,000 ppm beyond which CLK is lost. -/
def slaveFsEdge (h : Nat) (onTime : Bool) (s : Dev) : Dev :=
  if ¬ tdmSlave s h ∨ fallbackOn s h then s
  else
    let x := tdmOf s h
    let x := { x with edges := (stampNs s.now :: x.edges).take 1024 }
    if onTime then
      let (w, s) := s.drawBelow 200001
      (setTdm h { x with fsRun := min 2 (x.fsRun + 1) } s).setReg (Reg.tdmFreq h) (BitVec.ofInt 32 ((w : Int) - 100000))
    else (setTdm h { x with fsRun := 0 } s).bump (Reg.tdmFsErr h)

end Sys2Proof.Machine
end

