-- ==== Sys2Proof/Machine/MediaNodes.lean ====
section
/-! DEFINITION. The signal nodes that a tile's kernels run: decode, VAD, AGC, tone generate, encode and packetise, the transcoding link, and the read of
its handoff ring (R109, R136, R175, R176, R208, R209, R214 to R216, R222, R224 to R226, R313, R314, R316, R317). Where the manual leaves a kernel's
arithmetic to its codec's standard, its product is an operand. -/

namespace Sys2Proof.Machine

/-- A running channel with its ACTIVE instance. -/
def running? (s : Dev) (c : Nat) : Option (Channel × Instance) := (s.chan? c).bind (fun k => k.active.map (fun i => (k, i)))

/-- Codec frames of a channel's frame. -/
def framesPer (k : Channel) : Nat := max 1 (chanUnits k / max 1 (frameUnits k))

/-- A parity error in a codec's state (R224): counted, marked for reset, and recorded; dir 0 is decode. -/
def codecParity (c dir : Nat) (s : Dev) : Dev :=
  match s.chan? c with
  | none => s
  | some k =>
    let s := s.setChan c { k with
      resetDec := k.resetDec || dir == 0, resetEnc := k.resetEnc || dir == 1,
      stats := { k.stats with repairs := k.stats.repairs + 1, codecResets := k.stats.codecResets + 1,
                              concealed := k.stats.concealed + (if dir = 0 then framesPer k else 0) } }
    tileEvent c 0x0300 [BitVec.ofNat 8 dir] (s.bump (Reg.tileDmemPar k.home))

/-! ### The codec mode requests of a stream (R216) -/

/-- An EVS bit rate in the order of the rates: VBR 5.9, which BITRATE numbers 11, is the least. -/
def evsRank (b : Nat) : Nat := if b = 11 then 0 else b + 1

/-- The request in an EVS payload (3GPP TS 26.445 Annex A, PRESUMED), as a MODE of AMR-WB IO or as a BITRATE: compact frames carry one only in IO. -/
def evsCmr (mode : Nat) (o : Octets) : Option Nat :=
  let io := mode.testBit 4
  if mode.testBit 5 then (if io then [0, 1, 2, 4, 5, 7, 8][oct o 0 / 32]? else none)
  else if ¬ (oct o 0).testBit 7 then none
  else
    let (t, d) := (oct o 0 / 16 % 8, oct o 0 % 16)
    if t = 1 then (if io ∧ d ≤ 8 then some d else none)
    else if t ≤ 4 ∧ ¬ io ∧ d ≤ 11 then some (if d = 0 then 11 else d - 1)
    else none

/-- The request that a voice payload carries; RFC 4867's 15 is none. -/
def requestOf (k : Channel) (o : Octets) : Option Nat :=
  match k.now 3 1 with
  | 6 => if amrCmr o < 8 then some (amrCmr o) else none
  | 7 => if amrCmr o < 9 then some (amrCmr o) else none
  | 8 => evsCmr (k.now 4 2) o
  | _ => none

/-- A pull leaves the latest request for the next instance that spawns. -/
def cmrPulled (k : Channel) : Channel :=
  match (k.pulled.voice.filter (fun p => p.cls == 0 && !p.vbd)).reverse.findSome? (fun p => requestOf k p.payload) with
  | some m => { k with cmrNext := some m }
  | none => k

/-! ### Decode (R208, R222, R224) -/

/-- The decoded frame: what packets carry where the law is plain, else what the kernel made, which also fills what is missing. After a run beyond 60 ms it
fades in over 5 ms from the comfort noise (R208). -/
def decodedFrame (p : Pulled) (hz n : Nat) (samples : List Int) : List Int :=
  let base := fit n samples
  if p.pcm.isEmpty then base
  else
    let xs := (upTo n).map (fun j => (p.pcm.getD j none).getD (base.getD j 0))
    if p.back then crossFade (5 * hz / 1000) 0 base xs else xs

/-- The decoded signal of an instance becomes the signal towards the line. -/
def decodedTake (c : Nat) (xs : List Int) (s : Dev) : Dev :=
  match running? s c with
  | none => s
  | some (k, i) =>
    let hz := sideHz i
    let b : Block := { stamp := dueNs s i, tepoch := i.tepoch, hz := hz, samples := xs, epoch := i.epoch }
    s.setChan c { k with media := { k.media with dec := b, far := b }, tail := (k.tail ++ xs).reverse.take (hz / 100) |>.reverse }

/-- Decode. After a parity error the frame is concealed from the output history (R224). -/
def decodeNode (c : Nat) (parity : Bool) (samples : List Int) (s : Dev) : Dev :=
  match running? s c with
  | none => s
  | some (k, i) =>
    let hz := sideHz i
    let n := frameSamples i.frame hz
    let s := s.modChan c (fun k => { k with resetDec := false })
    if parity then codecParity c 0 (decodedTake c (fit n (Config.concealed hz k.tail n)) s)
    else decodedTake c (decodedFrame k.pulled hz n samples) s

/-- Concealment runs in place of decode (R100): the frame of an instance that has none yet. -/
def concealNode (c : Nat) (samples : List Int) (s : Dev) : Dev :=
  match running? s c with
  | none => s
  | some (k, _) => if k.media.dec.samples.isEmpty then decodeNode c false samples s else s

/-- The end of a pull: requests and event packets reach their instants (R216, R314), and without a codec the frame is at once the decoded signal. -/
def pullEnd (c : Nat) (s : Dev) : Dev :=
  match s.chan? c with
  | none => s
  | some k =>
    let s := s.modChan c cmrPulled
    let s := if k.now 3 1 = 0 then
        match running? s c with
        | some (k, i) =>
          let n := frameSamples i.frame (sideHz i)
          decodedTake c (decodedFrame k.pulled (sideHz i) n (Config.concealed (sideHz i) k.tail n)) s
        | none => s
      else s
    k.pulled.events.foldl (fun s p => eventDue c p s) s

/-! ### The handoff ring (R109, R121, R222) -/

/-- The converter of the link delays a signal by this many ns (R272). -/
def linkDelay (i : Instance) (to_ : Nat) : Nat := (converter (sideHz i) to_).1

/-- A link node writes the partner's handoff ring: the decoded frame with any line-direction tone (R317), converted to the partner's RATE, labelled with
the instance's span and carrying its epoch (R81); spans out of the ring's 120 ms leave it. -/
def linkNode (c : Nat) (s : Dev) : Dev :=
  match running? s c with
  | none => s
  | some (k, i) =>
    match i.legs.partner.bind (fun p => (s.chan? p).map (fun q => (p, q))) with
    | none => s
    | some (p, q) =>
      let (from_, to_) := (sideHz i, rateHz (q.now 2 1))
      let (xs, h) := convert from_ to_ (frameSamples i.frame to_) k.linkConv (k.media.far.first (frameSamples i.frame from_))
      let b : Block := { k.media.far with stamp := k.media.far.stamp - linkDelay i to_, hz := to_, samples := xs, epoch := i.epoch, tepoch := i.tepoch }
      let s := s.modChan c (fun k => { k with linkConv := h })
      s.modChan p (fun q => { q with
        ring := (⟨i.tickNo - i.frame, i.tickNo, b⟩ :: q.ring).filter (fun x => decide (i.tickNo < x.to_ + 48)) })

/-- The samples of tick `t` that the ring holds. -/
def ringTick (ring : List Span) (hz t : Nat) : Option (List Int) :=
  (ring.find? (fun x => decide (x.from_ ≤ t) && decide (t < x.to_) && x.block.hz == hz)).map
    (fun x => fit (tickSamples 1 hz) (x.block.samples.drop (tickSamples (t - x.from_) hz)))

/-- What a reader finds of `n` ticks from tick `t` on: the samples, each missing tick concealed from what stands before it, and how many were missing. -/
def ringSpan (ring : List Span) (hz : Nat) : Nat → Nat → List Int → List Int × Nat
  | 0, _, _ => ([], 0)
  | n + 1, t, before =>
    let (xs, lost) := match ringTick ring hz t with
      | some xs => (xs, 0)
      | none => (fit (tickSamples 1 hz) (Config.concealed hz before (tickSamples 1 hz)), 1)
    let (ys, m) := ringSpan ring hz n (t + 1) xs
    (xs ++ ys, lost + m)

/-- A node that reads the handoff ring loads its span as the signal towards the network, once in an instance. Frames of which a part is missing are
concealed and counted (DESIGN CHOICE, log entry 71: the count, which R109 leaves open). -/
def ringRead (c : Nat) (s : Dev) : Dev :=
  match running? s c with
  | none => s
  | some (k, i) =>
    if k.media.loaded ∨ i.legs.partner.isNone then s
    else
      let hz := rateHz (oct i.params 2)
      let l := match i.legs.partner.bind s.chan? with | some q => pairLag i.frame q.frame_ | none => 0
      let first := i.tickNo - (i.frame + l)
      let before := match ringTick k.ring hz (first - 1) with | some xs => xs | none => []
      let (xs, lost) := ringSpan k.ring hz i.frame first before
      let stamp := i.spawnTick * tickNs - (i.frame + l) * tickNs
      let head := match k.ring.find? (fun x => decide (x.from_ ≤ first) && decide (first < x.to_)) with
        | some x => x.block.stamp + (first - x.from_) * tickNs
        | none => stamp
      let side := sideHz i
      let (ys, h) := convert hz side (frameSamples i.frame side) k.rfeIn.vconv xs
      let ech := bandHz i.params
      let band := (convert side ech (frameSamples i.frame ech) [] ys).1
      let b : Block := { stamp := head, tepoch := i.tepoch, hz := side, samples := ys, epoch := i.epoch }
      s.setChan c { k with
        media := { k.media with up := b, near := b, nearBand := { b with hz := ech, samples := band }, loaded := true },
        rfeIn := { k.rfeIn with vconv := h },
        stats := { k.stats with concealed := k.stats.concealed + (lost * framesPer k + i.frame - 1) / i.frame } }

/-! ### VAD and AGC (R215, R226) -/

/-- VAD. -/
def vadNode (c : Nat) (active : Bool) (s : Dev) : Dev := s.modChan c (fun k => { k with speech := some active })

/-- A tone plays on the channel, or is detected. -/
def toneHere (k : Channel) (i : Instance) : Bool := i.toneLine || i.toneNet || !k.tonesOn.isEmpty

/-- A sample under a gain in 0.001 dB. -/
def gainedBy (g : Int) (x : Int) : Int := if g = 0 ∨ x = 0 then x else limit (Config.gained g x)

/-- AGC_TARGET in 0.01 dBm0 (R137). -/
def agcTarget (params : Octets) : Int := if le params 24 2 = 0 then -1800 else signed 16 (le params 24 2)

/-- The AGC may not move its gain in this frame: it is inactive, a tone plays or is detected, or its peak exceeds −6 dBov. -/
def agcHolds (k : Channel) (i : Instance) (xs : List Int) : Bool :=
  let active : Bool := match k.speech with | some a => a | none => levelGe (energy xs) (max 1 xs.length) (-5000 - dbm0 i.legs.line)
  !active || toneHere k i || !dbGe (fullScale ^ 2) (peakOf xs ^ 2) 600

/-- AGC. Its measure of the active speech level is open, and so is how fast it moves below the limits of 6 dB/s up and 30 dB/s down; the gain is applied
after the move (DESIGN CHOICE, log entry 71). -/
def agcNode (c : Nat) (s : Dev) : Dev :=
  match running? s c with
  | none => s
  | some (k, i) =>
    let n := frameSamples i.frame (sideHz i)
    let xs := k.media.up.first n
    if agcHolds k i xs then s.setChan c { k with media := { k.media with up := { k.media.up with samples := xs.map (gainedBy k.agc) } } }
    else
      let level := Config.speechLevel k.agcLevel (dbOf (2 * energy xs) (max 1 xs.length * fullScale ^ 2) + dbm0 i.legs.line)
      let want : Int := 10 * (agcTarget i.params - level) - k.agc
      let (x, s) := s.drawBelow (1 + min want.natAbs ((if 0 < want then 15 else 75) * i.frame))
      let g := max (-12000) (min 12000 (k.agc + (if 0 < want then (x : Int) else -(x : Int))))
      s.setChan c { k with agc := g, agcLevel := some level,
                           media := { k.media with up := { k.media.up with samples := xs.map (gainedBy g) } } }

/-! ### Tones mixed into speech (R314, R316, R317) -/

/-- Two signals added. -/
def mixed (xs ys : List Int) : List Int := (xs.zip ys).map (fun p => limit (p.1 + p.2))

/-- A tone over a frame: `from_` its first sample there, `to_` the sample after its last, `replace` whether speech is muted while it plays, `muted` whether
it was muted up to here. Speech comes back, and goes, over 2 ms. -/
structure ToneSpan where
  from_ : Nat
  to_ : Nat
  replace : Bool
  samples : List Int

/-- Speech under a tone, or under the return of speech after one. -/
def underTone (hz : Nat) (muted : Bool) (t : Option ToneSpan) (xs : List Int) : List Int :=
  let len := 2 * hz / 1000
  let quiet := List.replicate xs.length (0 : Int)
  let back (n : Nat) : List Int := xs.take n |>.map (fun _ => 0) |>.append (crossFade len 0 (quiet.drop n) (xs.drop n))
  match t with
  | none => if muted then back 0 else xs
  | some t =>
    let speech :=
      if ¬ t.replace then (if muted then back 0 else xs)
      else
        let head := if muted then quiet.take t.from_ else xs.take t.from_
        let mid := if muted then (quiet.drop t.from_).take (t.to_ - t.from_)
          else (crossFade len 0 (xs.drop t.from_) (quiet.drop t.from_)).take (t.to_ - t.from_)
        head ++ mid ++ (back t.to_).drop t.to_
    mixed speech (List.replicate t.from_ 0 ++ t.samples ++ List.replicate (xs.length - t.to_) 0)

/-- The part of a frame of `f` ticks that a commanded tone takes, before it is advanced. -/
def toneSpan (o : Octets) (hz f : Nat) (g : ToneGen) : Option ToneSpan :=
  (toneDef o g.def_).map (fun r =>
    let left := if g.count = 0 then 25 * f else g.count * cadenceLen r - g.pos
    let n := min (tickSamples f hz) (left * hz / 10000)
    { from_ := 0, to_ := n, replace := oct r 10 == 0, samples := fit n (Config.toneSamples r (signed 16 g.level) hz g.pos n) })

/-- The part that a received event takes: DTMF at −(volume + 3) dBm0 for each component, from its due instant (R314). -/
def eventSpan (k : Channel) (hz f : Nat) (e : RxEvent) : ToneSpan :=
  let n := tickSamples f hz
  let a := min n (e.lead * hz / 10000)
  let left := if e.ended then eventLength k e - e.pos else 25 * f
  let b := min n (a + left * hz / 10000)
  { from_ := a, to_ := b, replace := true,
    samples := fit (b - a) (Config.toneSamples [3, BitVec.ofNat 8 e.code] (-(100 * ((e.volume : Int) + 3))) hz e.pos (b - a)) }

/-- A network-direction tone goes out as telephone events, not as audio (R317). -/
def netAsEvents (o : Octets) (k : Channel) (g : ToneGen) : Bool :=
  match toneDef o g.def_ with | some r => oct r 31 != 0xFF && eventPt k | none => false

/-- The tone generate node mixes before its tones are advanced. -/
def toneMix (c : Nat) (s : Dev) : Dev :=
  match running? s c with
  | none => s
  | some (k, i) =>
    let o := toneSection s
    let hz := sideHz i
    let n := frameSamples i.frame hz
    let line : Option ToneSpan := match k.genLine with
      | some g => toneSpan o hz i.frame g
      | none => (k.rxEvent.filter (·.playing)).map (eventSpan k hz i.frame)
    let net : Option ToneSpan := match k.genNet with
      | some g => if netAsEvents o k g then none else toneSpan o hz i.frame g
      | none => ((k.netEvent.map (netEventNow s i)).filter (·.playing)).map (eventSpan k hz i.frame)
    let mutes (t : Option ToneSpan) : Bool := match t with | some t => t.replace && decide (t.to_ = n) | none => false
    let put (b : Block) (xs : List Int) : Block := { b with hz := hz, samples := xs, stamp := if b.samples.isEmpty then dueNs s i else b.stamp }
    let far := if line.isNone ∧ ¬ k.mute.1 then k.media.far else put k.media.far (underTone hz k.mute.1 line (k.media.far.first n))
    let up := if net.isNone ∧ ¬ k.mute.2 then k.media.up else put k.media.up (underTone hz k.mute.2 net (k.media.up.first n))
    s.setChan c { k with media := { k.media with far := far, up := up }, mute := (mutes line, mutes net) }

/-! ### Encode (R136, R214 to R216, R224, R225, R313) -/

/-- The signal handed to the encoder: zero from the onset of an event that takes the place of voice (R313, R317). -/
def encoderInput (k : Channel) (i : Instance) : List Int :=
  let hz := sideHz i
  let n := frameSamples i.frame hz
  let xs := k.media.up.first n
  match k.txEvents.find? (fun e => e.replaces && !e.ended) with
  | none => xs
  | some e =>
    let start := rtpOf k (i.spawnTick * tickNs - i.frame * tickNs)
    let ahead := signed 32 ((e.ts + 2 ^ 32 - start) % 2 ^ 32)
    let j := (ahead * hz / clockOf k).toNat
    xs.take j ++ (xs.drop j).map (fun _ => 0)

/-- DTX of an instance: never in passthrough (R215, R225). -/
def dtxOn (i : Instance) : Bool := !i.vbd && dtxOf (oct i.params 3) (le i.params 4 2)

/-- RFC 3389 comfort noise: the level in −dBov, 127 at the least. -/
def noiseOctet (xs : List Int) : Byte := BitVec.ofNat 8 (min 127 ((-(dbOf (energy xs) (max 1 xs.length * fullScale ^ 2))).toNat / 100))

/-- Opus' bit rate in kbit/s (R215). -/
def opusRate (params : Octets) : Nat :=
  let b := le params 4 2 % 256
  if b ≠ 0 then b else match oct params 2 with | 0 => 24 | 1 => 24 | 2 => 48 | _ => 64

/-- Opus configurations up to the audio bandwidth of a RATE (RFC 6716). -/
def opusWithin (rate cfg : Nat) : Bool :=
  let band := if cfg < 4 then 0 else if cfg < 12 then 1 else if cfg < 14 then 2 else if cfg < 16 then 3 else [0, 1, 2, 3].getD ((cfg - 16) / 4) 3
  decide (band ≤ rate)

/-- The mode or bit rate that the encoder of an instance runs at: MODE, or BITRATE for EVS, or a lower one asked for (R216). -/
def modeOf (k : Channel) (i : Instance) : Nat :=
  let codec := oct i.params 3
  let mode := le i.params 4 2
  let (own, follow) := match codec with
    | 6 => (mode % 8, mode.testBit 5) | 7 => (mode % 16, mode.testBit 6) | _ => (mode % 16, mode.testBit 7)
  match k.cmr with
  | none => own
  | some m => if ¬ follow then own else if codec = 8 ∧ ¬ mode.testBit 4 then (if evsRank m < evsRank own then m else own) else min own m

/-- Frame types of an AMR payload at or below a mode; silence descriptions under DTX. -/
def amrTypes (mode sid : Nat) (dtx : Bool) (ts : List Nat) : Bool := ts.all (fun t => decide (t ≤ mode) || t == 15 || (dtx && t == sid))

/-- What an encoder's kernel made is a frame of the channel's codec (R214 to R216): the codec frames of FRAME, at the mode in force, with no request. -/
def encodedOk (k : Channel) (i : Instance) (o : Octets) : Bool :=
  let codec := oct i.params 3
  let mode := le i.params 4 2
  let dtx := dtxOn i
  let units := (payloadUnits k false o).1
  let whole := decide (units = chanUnits k)
  match codec with
  | 5 => whole || (dtx && (payloadUnits k false o).2 && decide (units ≤ chanUnits k))
  | 6 => whole && amrCmr o == 15 && amrTypes (modeOf k i) 8 dtx ((amrToc (mode.testBit 3) o).map (· / 8 % 16))
  | 7 => whole && amrCmr o == 15 && amrTypes (modeOf k i) 9 dtx ((amrToc (mode.testBit 4) o).map (· / 8 % 16))
  | 8 => whole && (evsCmr mode o).isNone
  | 9 => decide (oct o 0 % 4 = 0) && whole && opusWithin (oct i.params 2) (oct o 0 / 8) &&
      (mode.testBit 8 || decide (8 * o.length ≤ (opusRate i.params * 5 * i.frame + 1) / 2))
  | _ => whole

/-- What the channel's frame becomes: a payload of the plain laws, comfort noise of RFC 3389 for a frame that the VAD found inactive under DTX, or the
product of the kernel. A product that is none of the codec's frames is not sent. -/
def encodedFrame (k : Channel) (i : Instance) (made : Option Octets) : Option Octets × Bool :=
  let xs := encoderInput k i
  let law := lawOf k i.vbd
  if rfc3389 (oct i.params 3) ∧ dtxOn i ∧ k.speech = some false then (some [noiseOctet xs], true)
  else match law with
    | some 2 => (some (octets16 true xs), false)
    | some l => (some (xs.map (fun x => BitVec.ofNat 8 (compress l x))), false)
    | none => (made.filter (encodedOk k i), false)

/-- Encode (R224): its product waits for packetise. -/
def encodeNode (c : Nat) (parity : Bool) (made : Option Octets) (s : Dev) : Dev :=
  match running? s c with
  | none => s
  | some (k, i) =>
    let (o, noise) := encodedFrame k i made
    let s := s.setChan c { k with resetEnc := false, frame := if parity then none else o, noise := noise }
    if parity then codecParity c 1 s else s

/-! ### Packetise (R175, R176, R313) -/

/-- A packet leaves the packetise node: to this device's MPE, or, where another device terminates the network, to the active manager. -/
def packetOut (c : Nat) (pt ts : Nat) (marker : Bool) (payload : Octets) (s : Dev) : Dev :=
  match running? s c with
  | none => s
  | some (k, i) =>
    let s := modStats c (fun t => { t with sent := t.sent + 1, octSent := t.octSent + payload.length }) s
    let start := i.spawnTick * tickNs - i.frame * tickNs
    if s.leads then
      handEgress ⟨i.legs.session, oct i.params 26 % 64, txqOf i.params, pt, ts, marker, payload, start⟩ s
    else
      mediaSend s.ron.activeHid (globalId k.owner c) 1 (stampOf start i.tepoch)
        ([0x80, BitVec.ofNat 8 (pt % 128 + 128 * marker.toNat), 0, 0] ++ toBe 4 ts ++ zeros 4 ++ payload) s

/-- The packet of this frame for an event that is being sent (R313): the event after it, and true when the packet takes the place of the voice packet. -/
def eventPacket (c : Nat) (k : Channel) (i : Instance) (e : TxEvent) (s : Dev) : Bool × Option TxEvent × Dev :=
  let pt := oct i.params 29 % 128
  let full := (rtpOf k (i.spawnTick * tickNs) + 2 ^ 32 - e.ts) % 2 ^ 32
  let first := e.duration == 0
  let body (dur : Nat) (end_ : Bool) : Octets := [BitVec.ofNat 8 e.code, BitVec.ofNat 8 (e.volume % 64 + 128 * end_.toNat)] ++ toBe 2 dur
  if e.ended then
    let dur := if e.endsLeft = 3 then min 0xFFFF full else e.duration
    (e.replaces && e.endsLeft == 3, if e.endsLeft ≤ 1 then none else some { e with duration := dur, endsLeft := e.endsLeft - 1 },
      packetOut c pt e.ts (first && e.endsLeft == 3) (body dur true) s)
  else if 0xFFFF < full then
    (e.replaces, some { e with ts := (e.ts + 0xFFFF) % 2 ^ 32, duration := 0xFFFF }, packetOut c pt e.ts first (body 0xFFFF false) s)
  else (e.replaces, some { e with duration := max 1 full }, packetOut c pt e.ts first (body full false) s)

/-- The event packets of this frame; true when one takes the place of the voice packet. -/
def eventOut (c : Nat) (s : Dev) : Bool × Dev :=
  match running? s c with
  | none => (false, s)
  | some (k, i) =>
    let (instead, es, s) := k.txEvents.foldl (fun (a : Bool × List TxEvent × Dev) e =>
      let (b, x, s) := eventPacket c k i e a.2.2
      (a.1 || b, a.2.1 ++ x.toList, s)) (false, [], s)
    (instead, s.modChan c (fun k => { k with txEvents := es }))

/-- Packetise: the event packet, and the voice packet unless the event takes its place or DTX leaves the frame unsent. A channel without a codec sends its
samples as L16. Comfort noise goes as PT 13, and the first voice packet after a pause of DTX carries the marker (RFC 3551, PRESUMED). -/
def packetiseNode (c : Nat) (s : Dev) : Dev :=
  let (instead, s) := eventOut c s
  match running? s c with
  | none => s
  | some (k, i) =>
    let ts := rtpOf k (i.spawnTick * tickNs - i.frame * tickNs)
    let pt := if i.vbd then passPt k else oct i.params 28 % 128
    let (o, noise) := if oct i.params 3 = 0 then encodedFrame k i none else (k.frame, k.noise)
    let s := s.setChan c { k with frame := none, noise := false }
    if instead then s
    else
      let s := s.modChan c (fun k => { k with silent := noise || o.isNone })
      match o with
      | none => s
      | some o => if noise then packetOut c 13 ts false o s else packetOut c pt ts (dtxOn i && k.silent) o s

end Sys2Proof.Machine
end

