-- ==== Sys2Proof/Machine/Nodes.lean ====
section
/-! DEFINITION. Instances as they spawn, and what each kind of node does as it completes (R100, R102 to R109, R118, R126, R127, R154, R176,
R208, R209, R216, R224 to R226, R313, R330 to R333, R343, R443, R452). -/

namespace Sys2Proof.Machine

/-! ### Spawning -/

/-- The tick numbers at which a channel's rotation falls due, counted up to tick `n` (R443). -/
def rotations (c n : Nat) : Nat := if n < c % 400 then 0 else (n - c % 400) / 400 + 1

/-- The place of CMR_FOLLOW in CODEC_MODE, and the mask of the mode, for a codec that has them (R215). -/
def cmrField (codec : Nat) : Option (Nat × Nat) :=
  match codec with
  | 6 => some (5, 8) | 7 => some (6, 16) | 8 => some (7, 16) | _ => none

/-- A codec mode request that the encoder follows is applied by an instance that spawns (R216). -/
def cmrSpawn (c : Nat) (s : Dev) : Dev :=
  match (s.chan? c).bind (fun k => k.cmrNext.map (fun m => (k, m))) with
  | none => s
  | some (k, m) =>
    let s := s.modChan c (fun k => { k with cmr := some m, cmrNext := none })
    match cmrField (k.par 3 1) with
    | none => s
    | some (b, n) =>
      if (k.par 4 2).testBit b ∧ k.cmr ≠ some m then tileEvent c 0x0303 [BitVec.ofNat 8 (min m (k.par 4 2 % n))] s else s

/-- A pair leg that CONNECT or DISCONNECT left for the next spawn comes or goes at the first tick at which both channels spawn; the leg to a
partner that has closed goes at the channel's own (R154). -/
def pairSpawn (c : Nat) (falls : Nat → Bool) (s : Dev) : Dev :=
  s.modChan c (fun k =>
    match k.pairNext with
    | none => k
    | some none =>
      let waits : Bool := match k.legs.partner with | some p => p != noPartner && !falls p | none => false
      if waits then k else { pairQuiet k with legs := { k.legs with partner := none }, pairNext := none, ring := [] }
    | some (some p) => if falls p then { k with legs := { k.legs with partner := some p }, pairNext := none, ring := [] } else k)

/-- The template of the present epoch for a channel; its own where the epoch's bank holds none of its ID. -/
def spawnTemplate (s : Dev) (k : Channel) : Template := (kvGet s.epochs.cur.templates (k.par 0 1)).getD k.template

/-- The instance that a channel spawns now, with its spawn tick `d` ticks back (R102, R452). The next instance carries the migrate node of a pending
migration (R127), in a pair one that spawns with its partner's (`with_`, R128). A migration whose node is CANCELLED with its instance stays pending, and
the next instance carries the node again: the rule does not say what becomes of it (DESIGN CHOICE, log entry 62). -/
def makeInstance (s : Dev) (c : Nat) (k : Channel) (d : Nat) (restore with_ : Bool) : Instance :=
  let t := spawnTemplate s k
  let n := (s.time.lastTick.getD 0) - d
  let q := rotations c n
  let live := ([k.active, k.deferred].filterMap id).any (fun i => i.migrate.isSome)
  let mig := if restore ∨ live ∨ ¬ with_ then none else k.migrate
  { state := if k.active.isSome then .deferred else .active, spawnTick := n, tepoch := s.time.tepoch, spawnAt := s.cycles - d * tickCycles,
    tickNo := s.time.ticks - d, epoch := s.epochs.cur.epoch, template := t,
    nodes := List.replicate (t.nodes.length + mig.isSome.toNat) .waiting, params := k.params, legs := k.legs, migrate := mig,
    rotated := k.rotateDue || decide (k.rotSec.getD 0 < q), vbd := k.vbd,
    toneLine := k.genLine.isSome || (match k.rxEvent with | some e => e.playing | none => false) || k.mute.1,
    toneNet := k.genNet.isSome || k.netEvent.isSome || k.mute.2,
    recording := !k.recs.isEmpty, restore := restore, evacuate := tileState s k.home == 3 }

/-- A DEFERRED instance is replaced by a later spawn (R104). -/
def skipDeferred (c : Nat) (s : Dev) : Dev :=
  match (s.chan? c).bind (fun k => k.deferred.map (fun i => (k, i))) with
  | none => s
  | some (k, i) =>
    let s := s.modChan c (fun k => { k with
      deferred := none, stats := { k.stats with skipped := k.stats.skipped + 1 },
      jb := { k.jb with missed := k.jb.missed + i.pullMissed.toNat } })
    occur 0x083 { data := gduData i.spawnTick 0xFF, chan := some (globalId k.owner c) } (s.bump Reg.gduSkip)

/-- An instance of channel `c` spawns: ACTIVE, or DEFERRED while another is unretired (R104). Its nodes are looked at by `flowOn` when every
channel of the tick has spawned. -/
def spawn (c d : Nat) (restore with_ : Bool) (s : Dev) : Dev :=
  match s.chan? c with
  | none => s
  | some k =>
    let s := if k.active.isSome then skipDeferred c s else s
    let s := cmrSpawn c (toneSpawn c (vbdSpawn c s))
    match s.chan? c with
    | none => s
    | some k =>
      let i := makeInstance s c k d restore with_
      let deferred := k.active.isSome
      let ecOff := !(k.par 6 2).testBit 0
      let k := { k with
        active := if deferred then k.active else some i, deferred := if deferred then some i else none, template := i.template,
        rotateDue := false, live := k.params, rotSec := some (rotations c i.spawnTick), lastEpoch := i.epoch,
        echo := if ecOff then { k.echo with ref := [] } else k.echo,
        media := if deferred then k.media else {}, speech := if deferred then k.speech else none,
        stats := { k.stats with spawned := k.stats.spawned + 1 } }
      let s := (s.setChan c k).bump64 Reg.gduSpawn
      let s := s.setBit Reg.gduStatus 0 false
      if deferred then s.bump Reg.gduDefer else s

/-- A channel spawns at a cadence number (R70). -/
def fallsAtCadence (k : Channel) (cad : Nat) : Bool := k.st == .running && k.frame_ != 0 && cad % k.frame_ == k.phase

/-- The cadence number of the last delivered tick (R70). -/
def cadenceNow (s : Dev) : Nat := (s.time.lastTick.getD 0 + 48 - s.time.cadence % 48) % 48

/-- A channel holds a leg, or a pair leg is to appear on it. -/
def Channel.hasLeg (k : Channel) : Bool :=
  k.legs.line.isSome || k.legs.session.isSome || k.legs.partner.isSome || (match k.pairNext with | some (some _) => true | _ => false)

/-- A channel whose last leg has gone falls back to OPEN at its spawn tick (R134): firmware serves what waited for its next instance, STATS and
a migration (R127, R157). -/
def fallToOpen (c : Nat) (s : Dev) : Dev :=
  match s.chan? c with
  | none => s
  | some k =>
    let s := s.setChan c { k with st := .opened }
    let s := (cmdsOn s 0x07 (globalId k.owner c)).foldl (fun s m => statsServe c (s.time.lastTick.getD 0) m m.dmaOk s) s
    let s := if k.migrate.isSome then migrateOk c s else s
    catalogueNow c s

/-- A migration of a channel may start at this tick: alone, or with the partner's in instances that spawn at one tick (R128). -/
def pairFalls (s : Dev) (c : Nat) (cs : List Nat) : Bool :=
  match s.chan? c with
  | none => false
  | some k => k.migrateBack.isNone || (match k.legs.partner with | some p => cs.contains p | none => true)

/-- Every channel whose frame boundary falls at this tick spawns (R102), but one whose takeover instance carries this very tick, and each
flow goes on; a channel without a leg falls back to OPEN instead (R134). -/
def spawnAll (s : Dev) : Dev :=
  let on : Bool := s.rbit Reg.gduCfg 0 && !s.ron.fenced
  let cad := cadenceNow s
  let here (i : Option Instance) : Bool := match i with | some i => i.tickNo == s.time.ticks | none => false
  let due := (s.chans.filter (fun p => fallsAtCadence p.2 cad && !here p.2.active && !here p.2.deferred)).map (·.1)
  let s := if on then due.foldl (fun s c => pairSpawn c (fun p => due.contains p) s) s else s
  let legless (s : Dev) (c : Nat) : Bool := match s.chan? c with | some k => !k.hasLeg | none => true
  let cs := due.filter (fun c => !legless s c)
  let s := (due.filter (fun c => legless s c)).foldl (fun s c => fallToOpen c s) s
  if on then
    let s := cs.foldl (fun s c => spawn c 0 false (pairFalls s c cs) s) s
    cs.foldl (fun s c => flowOn c s) s
  else s

/-- How many ticks before S the takeover instance of a channel spawns (R452): the earliest frame whose deadline lies at least 1 ms after S. -/
def takeoverBack (s : Dev) (k : Channel) : Nat :=
  let f := k.frame_
  let most := (2500 * f + min 2500 (s.rfld Reg.gduSlack 0 12) - 1000) / 2500
  let cad := cadenceNow s
  ((upTo (most + 1)).reverse.find? (fun d => (cad + 480 - d) % f == k.phase)).getD 0

/-- Takeover instances of the channels that `which` names spawn at this tick (R452). -/
def takeoverSpawn (which : Nat → Channel → Bool) (s : Dev) : Dev :=
  let cs := (s.chans.filter (fun p => which p.1 p.2 && p.2.st == .running && p.2.frame_ != 0)).map (·.1)
  let s := cs.foldl (fun s c => match s.chan? c with
    | none => s
    | some k => spawn c (takeoverBack s k) ((spawnTemplate s k).holds 0x13) false s) s
  cs.foldl (fun s c => flowOn c s) s

/-! ### What a node did -/

/-- A migrate node (R127): the context is on its new home, or it stays where it was. A node of this kind among a template's own nodes, which R100
allows, does the same where a migration is pending, and else nothing: the manual does not say what it does (DESIGN CHOICE, log entry 62). -/
def migrateNodeDone (c : Nat) (ok : Bool) (s : Dev) : Dev :=
  match (s.chan? c).bind (fun k => k.active.map (fun i => (k, i))) with
  | none => s
  | some (k, i) => if k.migrate.isNone then s else if ok then migrateOk c s
    else migrateFail c i.spawnTick ((s.setChan c k).bump (Reg.tileDmemPar (k.migrate.getD k.home)))

/-- Statistics (R157): the channel's counters take what has been counted, the block dates from this instance, and the STATS commands that wait
are served. -/
def statsNode (c tick : Nat) (ok : Bool) (s : Dev) : Dev :=
  let s := s.modChan c (fun k => { k with shown := { k.stats with snapTick := tick } })
  (cmdsOn s 0x07 (((s.chan? c).map (fun k => globalId k.owner c)).getD 0)).foldl (fun s m => statsServe c tick m ok s) s

/-- What the kind of a node that has completed does. A node that reads the handoff ring loads it first (R109). The outcome that a kind cannot have counts
as none. -/
def nodeEffect (n : Nat) (v : Service) (out : NodeOutcome) (s : Dev) : Dev :=
  let c := v.chan
  match (s.chan? c).bind (·.active) with
  | none => s
  | some i =>
    let s := if i.reads v.node then ringRead c s else s
    match i.kind v.node, out with
    | 0x01, .tdmIn codes bad => tdmInNode c codes bad s
    | 0x01, _ => tdmInNode c [] [] s
    | 0x02, _ => tdmOutNode c s
    | 0x03, .pull bad => pullEnd c (pullNode c bad s)
    | 0x03, _ => pullEnd c (pullNode c [] s)
    | 0x04, .codec parity samples => decodeNode c parity samples s
    | 0x04, _ => decodeNode c false [] s
    | 0x05, .codec _ samples => concealNode c samples s
    | 0x05, _ => concealNode c [] s
    | 0x06, .rfe o => rfeNode n c false v.since v.on o s
    | 0x06, _ => rfeNode n c false v.since v.on ⟨false, 0⟩ s
    | 0x07, .rfe o => rfeNode n c true v.since v.on o s
    | 0x07, _ => rfeNode n c true v.since v.on ⟨false, 0⟩ s
    | 0x08, .echo repair dec => echoNode n c v.on repair dec s
    | 0x08, _ => echoNode n c v.on none [] s
    | 0x09, .nlp parity ms => nlpNode n c parity ms s
    | 0x09, _ => nlpNode n c false [] s
    | 0x0A, .tones wins hits parity => toneNode n c v.on wins hits parity s
    | 0x0A, _ => toneNode n c v.on [] [] false s
    | 0x0B, _ => toneGenNode c (toneMix c s)
    | 0x0C, _ => agcNode c s
    | 0x0D, .vad active => vadNode c active s
    | 0x0D, _ => vadNode c true s
    | 0x0E, .encode parity payload => encodeNode c parity payload s
    | 0x0E, _ => encodeNode c false none s
    | 0x0F, _ => packetiseNode c s
    | 0x10, _ => linkNode c s
    | 0x11, _ => recordTap c s
    | 0x12, .stats ok => statsNode c i.spawnTick ok s
    | 0x12, _ => statsNode c i.spawnTick true s
    | 0x13, .dossier taps bad => if i.restore then dossierRestore c bad s else dossierSend c taps s
    | 0x13, _ => if i.restore then dossierRestore c false s else dossierSend c [] s
    | 0x14, .migrate ok => migrateNodeDone c ok s
    | 0x14, _ => migrateNodeDone c true s
    | _, _ => s

/-- A node of a channel that closes (R120 step 3): of its results, the counters that a statistics node has updated and a moved home stand. -/
def closingEffect (n : Nat) (v : Service) (out : NodeOutcome) (s : Dev) : Dev :=
  let c := v.chan
  let t := nodeEffect n v out s
  match (s.chan? c).bind (fun k => k.active.map (fun i => (k, i))), t.chan? c with
  | some (_, i), some k' =>
    let moved : Option Nat := match i.kind v.node, out with
      | 0x14, .migrate false => none
      | 0x14, _ => i.migrate
      | _, _ => none
    let s := if i.kind v.node = 0x12 then s.modChan c (fun k => { k with shown := k'.shown }) else s
    match moved with
    | none => s
    | some h => moveHome c h s
  | _, _ => s

/-- A resource reports that a node of channel `c` has finished (R106, R107), or reports one that it had not in service (source 0x086). -/
def nodeComplete (n : Nat) (r : Resource) (c : Nat) (out : NodeOutcome) (par : RecPar) (s : Dev) : Dev :=
  let s := { s with gcycle := s.gcycle + 1 }
  match findService (s.cg n) r c with
  | none => occurRes 0x086 { data := gduData 0 0xFF, chan := (s.chan? c).map (fun k => globalId k.owner c) } n r s
  | some v =>
    let s := (recordParity c par s).2
    let closing : Bool := match s.chan? c with | some k => k.st == .closing | none => true
    let s := if closing then closingEffect n v out s else nodeEffect n v out s
    nodeDone n v s

end Sys2Proof.Machine
end

