-- ==== Sys2Proof/Machine/SelfTest.lean ====
section
/-! DEFINITION. Tests of lanes, tiles and mirror pairs, their limits, results and ends, and what a tile's test decides (R229, R532 to R543). -/

namespace Sys2Proof.Machine

/-! ### Requests (R532 to R540) -/

/-- How a request for a test is taken. -/
inductive TestAsk where
  | ok | badParam | noTemplate | refused (code : Nat) | admission
deriving DecidableEq, Repr

/-- The domains that a test needs (R540). -/
def testDomains (k : TestKey) : List Nat :=
  if k.kind = 1 then [25, if k.unit < 4 then 20 else if k.unit < 8 then 21 else if k.unit < 16 then 22 else 23]
  else if k.kind = 2 then [25, 17]
  else [25, 17, 18]

/-- Every field of the request lies in its range, and the fields that its KIND does not use are zero (R539). A SELF_TEST body carries octets 0 to 27 of
these PARAMS, and its fields are little-endian as they are in the PARAMS, although R477 puts a message in network order (DESIGN CHOICE, log entry 72). -/
def testParamsOk (p : Octets) : Bool :=
  let unit := oct p 1
  if oct p 0 = 1 then decide (unit < 24) && allZero (octs p 2 26) && allZero (octs p 36 12)
  else if oct p 0 = 2 then (decide (oct p 2 < 32) || oct p 2 == 0xFF) && allZero (octs p 3 25) && allZero (octs p 36 12)
  else if oct p 0 = 3 then
    let model := oct p 8
    decide (oct p 2 < 64) && decide (model ≤ 8) && decide (oct p 9 ≤ 60) && decide (le p 10 2 ≤ 2047) &&
      (model == 0 || decide (le p 10 2 + Config.echoModelLen model ≤ 2048)) && decide (le p 12 2 ≤ 400) && decide (le p 14 2 ≤ 100) &&
      decide (le p 16 2 ≤ 10000) && decide (le p 18 2 ≤ 10000) && signedIn (le p 20 2) (-3000) 0 &&
      decide (2000 ≤ le p 22 2) && decide (le p 22 2 ≤ 60000) && allZero (octs p 36 12)
  else false

/-- The lane is OFF under R370 or R436. -/
def laneIdle (s : Dev) (m : Nat) : Bool :=
  !s.rbit (Reg.sdsCfg m) 0 && trainState s m == 0 && (decide (m < 8) || ronState s (m - 8) == 0)

/-- The kernel set that a TILE test runs: the one named, or the tile's own; none where there is none or it is lost. -/
def testSet (s : Dev) (t : Nat) (p : Octets) : Option Nat :=
  let k := if oct p 2 = 0xFF then tileSet s t else some (oct p 2)
  k.bind (fun k => if k < (kernelSets s).length ∧ ¬ s.lostSets.contains k then some k else none)

/-- The state of the unit and the device allows the test (R535, R540). -/
def testAsk (p : Octets) (s : Dev) : TestAsk :=
  let key : TestKey := ⟨oct p 0, oct p 1⟩
  let unit := key.unit
  if ¬ testParamsOk p then .badParam
  else if s.tests.any (fun x => (x.key.kind == 1) == (key.kind == 1) && x.key.unit == unit) then .refused 1
  else if ¬ (testDomains key).all s.domainOn then .refused 2
  else if key.kind = 1 ∧ ¬ laneIdle s unit then .refused 2
  else if key.kind = 2 ∧ (tileState s unit ≠ 0 ∨ ¬ (onTile s unit).isEmpty) then .refused 2
  else if 4 ≤ s.tests.length then .refused 3
  else if key.kind = 1 then .ok
  else if key.kind = 2 then (if (testSet s unit p).isSome then .ok else .refused 4)
  else
    let o := testBlock p
    match templateFor s o with
    | none => .noTemplate
    | some t =>
      if ¬ paramsOk s t (putOcts o 9 [0xFF]) then .badParam
      else if (firstSet s (oct p 5)).isNone then .refused 4
      else
        let c := chargeOf s.epochs.cur.cost t o
        let both : Charge := { tile := 2 * c.tile, sram := 2 * c.sram, ee := 2 * c.ee, rfe := 2 * c.rfe, td := 2 * c.td }
        if clusterOpen s (unit / 16) ∧ tileCan s unit (oct p 5) ∧ (tileLoad s unit both).within (admLimit s) ∧
            (engineLoad s (unit / 16) both).within (admLimit s) then .ok else .admission

/-- A tile that a test needs in an OFF cluster has the cluster woken (R131, R540). -/
def testWake (n : Nat) (s : Dev) : Dev := if s.clState n = 0 then wakeRequest n s else s

/-- Tile `t` takes kernel set `k`, where it holds another (R228). -/
def takeSet (t k : Nat) (s : Dev) : Dev :=
  let s := { s with loads := kvDel s.loads t }
  if tileSet s t = some k ∨ s.clState (t / 16) = 0 then s
  else note (0x100 + t) 0x0307 none [0, 0, 0, 0, BitVec.ofNat 8 k] ((s.setFld (Reg.tileState t) 8 5 k).setBit (Reg.tileState t) 31 true)

/-- A test starts: a lane loops to its own receiver (R533), a tile takes the set to be tested (R534), and a MIRROR test's channels charge
their tile (R535). -/
def testBegin (p : Octets) (m : TestMeasure) (cmd : Option Nat) (night : Bool) (s : Dev) : Dev :=
  let key : TestKey := ⟨oct p 0, oct p 1⟩
  let u := key.unit
  let s := { s with tests := s.tests ++ [{ key := key, m := m, params := p, start := s.now, abandon := 0, cmd := cmd, night := night }] }
  if key.kind = 1 then (s.setFld (Reg.sdsCfg u) 10 2 1).setBit (Reg.sdsCfg u) 0 true
  else if key.kind = 2 then
    match testSet s u p with
    | some k => testWake (u / 16) (takeSet u k s)
    | none => s
  else
    let s := testWake (u / 16) (loadDue u (needSet u (oct p 5) s))
    refreshLoads (u / 16) s

/-- A MIRROR test's channels are refused (R123). -/
def testRefused (s : Dev) : Dev := occur 0x08B { data := [0, 0, 0, 0, 0xFF] } (s.bump Reg.gduAdmRefuse)

/-- MIRROR_TEST on a ring (R539). -/
def testCmd (d : Desc) (m : TestMeasure) (id : Nat) (s : Dev) : Dev :=
  if ¬ descClean d ∨ d.aux ≠ 0 then completeWith id .badParam s
  else match testAsk d.params s with
    | .ok => testBegin d.params m (some id) false s
    | .badParam => completeWith id .badParam s
    | .noTemplate => completeWith id .noTemplate s
    | .refused c => complete id .refused [BitVec.ofNat 8 c] s
    | .admission => completeWith id .admission (testRefused s)

/-- Firmware's return-to-service test of a tile in TESTING (R229, R493). -/
def serviceTest (t : Nat) (m : TestMeasure) (s : Dev) : Dev :=
  if tileState s t = 2 ∧ ¬ s.tests.any (fun x => x.key.kind != 1 && x.key.unit == t) then
    { s with tests := s.tests ++ [{ key := ⟨2, t⟩, m := m, params := padTo 48 [2, BitVec.ofNat 8 t, 0xFF], start := s.now, abandon := 0,
                                    cmd := none, night := false }] }
  else s

/-! ### Verdicts (R537, R538) -/

/-- A limit of the limit record; zero selects its default. -/
def limitOf (s : Dev) (off n dflt : Nat) : Nat := let v := le s.boot.limits off n; if v = 0 then dflt else v

/-- CAL_MAX: the greatest absolute residual of a lane, in 1/16 ns. -/
def calMax (s : Dev) : Nat := limitOf s 6 2 32

/-- The smallest eye height measured. -/
def leastEye (l : List (Nat × Nat)) : Nat := leastOr 0 (l.map (·.1))

/-- FAIL of a test (R538). -/
def testFail (s : Dev) (x : Test) : Nat :=
  let m := x.m
  let b (i : Nat) (f : Bool) : Nat := if f then 2 ^ i else 0
  match x.key.kind with
  | 1 => b 5 (decide (calMax s < m.residual.natAbs)) + b 6 (decide (m.snr < limitOf s 8 2 180)) +
      b 7 (decide (leastEye m.eyes < limitOf s 10 2 150))
  | 2 => b 8 (decide (0 < m.failed))
  | _ =>
    let want := le x.params 10 2 + m.modelLag
    let off := if m.delay < want then want - m.delay else m.delay - want
    b 0 (decide (m.erle < limitOf s 0 2 5000)) + b 1 (decide (limitOf s 2 1 2 < off)) + b 2 (decide (limitOf s 3 1 5 < m.level.natAbs)) +
      b 3 (decide (limitOf s 4 1 1 < m.onset.natAbs)) +
      b 4 (decide ((le x.params 16 2 + 10 * limitOf s 5 1 10) * m.frames < 10000 * m.concealed))

/-- The result record (R538); `verdict` 2 with a cause is an abandoned test, whose measurements are zero. -/
def testRecord (x : Test) (verdict fail cause : Nat) : Octets :=
  let m := if verdict = 2 then {} else x.m
  let k := x.key.kind
  let f (kinds : List Nat) (v : Nat) : Nat := if kinds.contains k then v else 0
  let o := toLe 2 0x5254 ++ [BitVec.ofNat 8 k, BitVec.ofNat 8 verdict] ++ toLe 2 fail ++ [BitVec.ofNat 8 x.key.unit, BitVec.ofNat 8 cause] ++
    toLe 4 x.start.ns ++ toLe 6 x.start.sec ++ [BitVec.ofNat 8 x.start.tepoch, 0] ++ toLe 2 (f [3] (sat 16 m.erle)) ++
    toLe 2 (f [3] (sat 16 m.delay)) ++ toLe 2 (f [3] (satInt 16 m.level)) ++ toLe 2 (f [3] (satInt 16 m.onset)) ++
    toLe 4 (f [3] (sat 32 m.concealed)) ++ toLe 4 (f [1] (satInt 32 m.residual)) ++ toLe 2 (f [1] (sat 16 m.snr)) ++
    toLe 2 (f [1] (sat 16 (leastEye m.eyes))) ++ toLe 4 (f [2] (sat 32 m.vectors)) ++ toLe 4 (f [2] (sat 32 m.failed)) ++ zeros 12
  o ++ toLe 4 (crc32c o)

/-- The source of a test's unit. -/
def testSource (k : TestKey) : Nat := if k.kind = 1 then (if k.unit < 8 then 0x340 else 0x380) + k.unit else 0x100 + k.unit

/-! ### Tiles out of and back in service (R117, R229) -/

/-- A channel of a tile that is OUT moves where admission can place it, or closes on error. -/
def evacuateOne (c : Nat) (s : Dev) : Dev :=
  match s.chan? c with
  | none => s
  | some k =>
    if k.st = .closing ∨ k.migrate.isSome then s
    else match place s k.charge k.params with
      | none => closeOnError c s
      | some (u, wake) =>
        let s := if wake then wakeRequest (u / 16) s else s
        if k.st = .opening then
          finishOpen c (refreshLoads (u / 16) (refreshLoads (k.home / 16) ((needSet u (k.par 3 1) s).setChan c { k with home := u })))
        else match migrateGo c u s with
          | some s => s
          | none => closeOnError c s

/-- A tile goes OUT: fenced and evacuated. -/
def tileOut (t : Nat) (s : Dev) : Dev :=
  let set := (tileSet s t).getD 0
  let s := ((s.setFld (Reg.tileState t) 0 2 3).setBit (Reg.tileCtrl t) 0 true)
  let s := { s with reloads := kvDel s.reloads t }
  let data : Octets := [0, 0, 0, 0, BitVec.ofNat 8 set]
  let s := if s.rbit (Reg.srcStatus (0x100 + t)) 0 then note (0x100 + t) 0x0306 none data s else occurCode (0x100 + t) 0x0306 none data s
  (s.chans.filter (fun p => p.2.home == t)).foldl (fun s p => evacuateOne p.1 s) s

/-- A tile comes back IN_SERVICE; after a reload, RELOAD_DONE. -/
def tileServe (t : Nat) (s : Dev) : Dev :=
  let s := s.setFld (Reg.tileState t) 0 2 0
  let s := match kvGet s.reloads t with
    | none => s
    | some c =>
      let o : Octets := [0, 0, 0, 0, BitVec.ofNat 8 ((tileSet s t).getD 0), 0, 0, 0] ++ toLe 4 (sat 32 ((s.cycles - c) / 500))
      note (0x100 + t) 0x0305 none o { s with reloads := kvDel s.reloads t }
  faultEnd (0x100 + t) [] s

/-! ### The end of a test (R538, R543) -/

/-- What the end of a test leaves of its unit: a lane without loop and off (R533), and the charge of test channels released. -/
def testRestore (x : Test) (s : Dev) : Dev :=
  let u := x.key.unit
  if x.key.kind = 1 then (s.setFld (Reg.sdsCfg u) 10 2 0).setBit (Reg.sdsCfg u) 0 false
  else if x.key.kind = 3 then refreshLoads (u / 16) s
  else s

/-- A test ends: the record, its entry, and the completion or the Night Desk's response. -/
def testFinish (x : Test) (verdict fail cause : Nat) (s : Dev) : Dev :=
  let s := testRestore x { s with tests := s.tests.erase x }
  let r := testRecord x verdict fail cause
  let s := note (testSource x.key) 0x0900 none ([BitVec.ofNat 8 x.key.kind, BitVec.ofNat 8 verdict] ++ toLe 2 fail) s
  let s := if x.night then { s with night := { s.night with testBody := some r } } else s
  match x.cmd.bind (findCmd s) with
  | none => s
  | some m =>
    let a := le x.params 28 8
    let s := if a ≠ 0 ∧ s.domainOn 24 then s.emit (.dma 9 a r) else s
    complete m.id .ok ([BitVec.ofNat 8 verdict] ++ toLe 2 fail) s

/-- The tests that `which` names are abandoned. -/
def testAbandon (which : TestKey → Bool) (cause : Nat) (s : Dev) : Dev :=
  (s.tests.filter (fun x => which x.key)).foldl (fun s x => testFinish x 2 0 cause s) s

/-- The unit of a test on tile `t`. -/
def tileKey (t : Nat) (k : TestKey) : Bool := k.kind != 1 && k.unit == t

/-- What a lane's test read (R375): the smallest eye stands in its registers with the others. -/
def laneRead (x : Test) (s : Dev) : Dev :=
  if x.key.kind ≠ 1 then s
  else
    let u := x.key.unit
    let s := (upTo 3).foldl (fun s j => let e := x.m.eyes.getD j (0, 0); s.setNat (Reg.sdsEye u j) (sat 12 e.1 + 65536 * sat 7 e.2)) s
    s.setNat (Reg.sdsSnr u) (sat 10 x.m.snr)

/-- TEST_RESULT: a test has run to its end. A tile that was TESTING comes back or goes OUT; a MIRROR test's instances count. -/
def testResult (k : TestKey) (s : Dev) : Dev :=
  match s.tests.find? (fun x => x.key == k) with
  | none => s
  | some x =>
    if k.kind ≠ 1 ∧ s.clState (k.unit / 16) = 0 then s
    else
      let fail := testFail s x
      let s := if k.kind = 3 then (s.bump64 Reg.gduSpawn x.m.frames).bump64 Reg.gduRetire x.m.frames else s
      let s := testFinish x (if fail = 0 then 0 else 1) fail 0 (laneRead x s)
      let s := if k.kind = 1 ∧ fail = 0 then { s with boot := { s.boot with badLanes := s.boot.badLanes.filter (· != k.unit) } } else s
      if k.kind = 2 ∧ tileState s k.unit = 2 then (if fail = 0 then tileServe k.unit s else tileOut k.unit s) else s

end Sys2Proof.Machine
end

