-- ==== Sys2Proof/Machine/Kernels.lean ====
section
/-! DEFINITION. Kernel sets that fail parity, and their reload (R229, R230). -/

namespace Sys2Proof.Machine

/-- A tile IN_SERVICE in a powered cluster that holds kernel set `k`, other than `t`. -/
def holderOf (s : Dev) (t k : Nat) : Bool :=
  (upTo 256).any (fun u => u != t && tileState s u == 0 && tileSet s u == some k && s.domainOn (1 + u / 16))

/-- The reserve's copy of set `k` fails: it is rewritten from a tile that holds it, or lost (R230). The flag says that it can be loaded. -/
def reserveRepair (t k : Nat) (s : Dev) : Bool × Dev :=
  if holderOf s t k then (true, occur 0x0C7 {} s)
  else (false, occur 0x0C7 {} { s with lostSets := if s.lostSets.contains k then s.lostSets else k :: s.lostSets })

/-- An instruction fetch of tile `t` fails parity (R229): the node in service is FAILED, the tile's test is abandoned, and the tile reloads;
a tile that needs a lost set goes OUT. -/
def kernelReload (t addr : Nat) (reserveOk : Bool) (s : Dev) : Dev :=
  if s.clState (t / 16) ≠ 3 ∨ tileState s t = 3 then s
  else match tileSet s t with
    | none => s
    | some k =>
      let s := (s.bump (Reg.tileImemPar t)).setFld (Reg.tileState t) 0 2 1
      let s := occurCode (0x100 + t) 0x0304 none ([0, 0, 0, 0] ++ toLe 4 addr) s
      let s := testAbandon (tileKey t) 1 { s with reloads := kvSet s.reloads t s.cycles }
      let s := failResource (t / 16) (.tile ⟨t % 16, Nat.mod_lt _ (by decide)⟩) s
      let (can, s) :=
        if s.lostSets.contains k then (false, s) else if reserveOk then (true, s) else reserveRepair t k s
      if can then s else tileOut t s

/-- The set is rewritten and its CRC is correct: the tile is TESTING (R229). -/
def reloadDone (t : Nat) (s : Dev) : Dev :=
  if tileState s t ≠ 1 then s else (s.bump (Reg.tileReload t)).setFld (Reg.tileState t) 0 2 2

end Sys2Proof.Machine
end

