-- ==== Sys2Proof/Machine/Access.lean ====
section
/-! DEFINITION. Who may write a register, and what a write does to its fields (R11, R13, R14, R472, R496, R514, R553). -/

namespace Sys2Proof.Machine

/-- The registers that firmware owns (R472, R553). -/
def fwOwned (a : Nat) : Bool :=
  [Reg.tbIncrFrac, Reg.tbIncrInt, Reg.tbAdjLo, Reg.tbAdjHi, Reg.tbAdjCmd, Reg.tbServo, Reg.gduEpochSchedLo, Reg.gduEpochSchedHi,
    Reg.gduEpochCmd, Reg.ronHbKick].contains a || a / 0x10000 == 7

/-- A requester reaches the registers: the host over PCIe, firmware on the control cluster, the Night Desk in AON. -/
def reaches (by_ : Requester) (s : Dev) : Bool :=
  match by_ with
  | .host => s.domainOn 24
  | .fw => s.domainOn 25
  | .nd => s.domainOn 0

/-- A write of the register at `a` reaches its block (true), or is ignored and counted. -/
def gate (by_ : Requester) (a : Nat) (s : Dev) : Bool × Dev :=
  if ¬ reaches by_ s then (false, s)
  else match regInfo a with
    | none => (false, s)
    | some i =>
      if by_ = .host ∧ fwOwned a then (false, s.bump Reg.pciFwOwnWr)
      else if ¬ s.served i then (false, s.bump Reg.pwrOffWr)
      else (true, s)

/-- An action that a write of the register at `a` asks for, where the write reaches its block. -/
def gated (by_ : Requester) (a : Nat) (f : Dev → Dev) (s : Dev) : Dev :=
  let (ok, s) := gate by_ a s
  if ok then f s else s

/-- The bits of a register that are locked now: RWL fields after the boot lock (R13), and the masks under `FLT.CFG.LOCK` (R496). -/
def lockedBits (i : RegInfo) (s : Dev) : Nat :=
  (if s.boot.rwlLocked then i.row.rwl else 0) ||| (if i.block = .src ∧ i.off = 0 ∧ s.rbit Reg.fltCfg 3 then 0x1F else 0)

/-- A write of `v` to the fields of a register, by their access types. A write that carries another value for a locked field is an
occurrence of source 0x016. -/
def writeFields (a : Nat) (v : Nat) (s : Dev) : Dev :=
  match regInfo a with
  | none => s
  | some i =>
    let lock := lockedBits i s
    let old := (s.reg a).toNat
    let rw := (i.row.rw ||| i.row.rwl ||| i.row.rws) &&& (0xFFFFFFFF ^^^ lock)
    let w1c := i.row.w1c &&& v
    let w1s := i.row.w1s &&& v
    let new := (((old &&& (0xFFFFFFFF ^^^ rw)) ||| (v &&& rw)) &&& (0xFFFFFFFF ^^^ w1c)) ||| w1s
    let s' := s.setNat a new
    if (old ^^^ v) &&& lock ≠ 0 then occur 0x016 {} s' else s'

end Sys2Proof.Machine
end

