-- ==== Sys2Proof/Machine/TimeBase.lean ====
section
/-! DEFINITION. The time base: the increment, corrections, the servo, PPS, the grid, the synthesisers and the tick generator's instants (R65 to
R70, R93, R399 to R428). -/

namespace Sys2Proof.Machine

/-- The time base changed. -/
def Dev.modTime (s : Dev) (f : TimeBase → TimeBase) : Dev := { s with time := f s.time }

/-- A number of ns, signed, in units of the scale. -/
def unitsOf (ns : Int) : Int := ns * (nsUnit : Int)

/-- SLEW_MAX in ppm (R428). -/
def slewMax (s : Dev) : Nat := s.within Reg.tbSlewMax 0 8 1 100

/-- JUMP_LIMIT in ns. -/
def jumpLimit (s : Dev) : Nat := s.within Reg.tbJumpLimit 0 24 1000 10000000

/-- A number in the nearest unit interval to zero: its distance from the nearest multiple of `m`, the later one on a tie. -/
def nearest (x m : Int) : Int :=
  let r := x % m
  if 2 * r < m then r else r - m

/-! ### The increment (R400, R414) -/

/-- The increment that INCR_INT and INCR_FRAC hold. -/
def incrNominal : Nat := 2 ^ 33

/-- Farthest that INCR may lie from nominal. -/
def incrLimit : Nat := 4294967

/-- The log of increments while LOCKED takes the segment that ends now. -/
def incrSegment (s : Dev) : Dev :=
  match s.time.incrFrom with
  | none => s
  | some c => s.modTime (fun t => { t with incrLog := (s.cycles - c, t.incr) :: t.incrLog.take 4096, incrFrom := some s.cycles })

/-- A new increment applies and reads back. -/
def setIncr (v : Nat) (s : Dev) : Dev :=
  let s := (incrSegment s).modTime (fun t => { t with incr := v })
  (s.setNat Reg.tbIncrFrac (v % 2 ^ 32)).setNat Reg.tbIncrInt (v / 2 ^ 32)

/-- `TB.INCR_INT` is written: both fields apply, clamped to 500 ppm (R400). -/
def incrWrite (w : Word) (s : Dev) : Dev :=
  let v := fld w 0 8 * 2 ^ 32 + (s.reg Reg.tbIncrFrac).toNat
  let c := max (incrNominal - incrLimit) (min (incrNominal + incrLimit) v)
  let s := setIncr c (s.elapse 1)
  if c = v then s else occur 0x04C {} s

/-- The mean increment over the last 60 s of LOCKED; the present one with less (R414). -/
def heldIncr (s : Dev) : Nat :=
  let want := usCycles 60000000
  let (left, sum) := s.time.incrLog.foldl (fun (p : Nat × Nat) q => let n := min p.1 q.1; (p.1 - n, p.2 + n * q.2)) (want, 0)
  if left = 0 then sum / want else s.time.incr

/-! ### What the registers show -/

/-- `TB.STATUS.SLEWING`, `TB.ADJ_REMAIN` and ADJ_CMD.BUSY follow the corrections. -/
def timeShow (s : Dev) : Dev :=
  let left := s.time.slewLeft
  let ns : Int := if left < 0 then -((left.natAbs / nsUnit : Nat) : Int) else (left.natAbs / nsUnit : Nat)
  let s := (s.setBit Reg.tbStatus 1 (left != 0)).setNat Reg.tbAdjRemain (satInt 32 ns)
  s.setBit Reg.tbAdjCmd 3 s.time.corr.isSome

/-! ### Servo states (R413, R414) -/

/-- The servo's state. -/
def servo (s : Dev) : Nat := s.rfld Reg.tbServo 0 3

/-- The servo takes a state: SERVO_STATE at each change, source 0x043 live in HOLDOVER and 0x044 in PATH_HOLD. `data` is what a rise of
source 0x044 records. -/
def setServo (st : Nat) (data : Octets) (s : Dev) : Dev :=
  let old := servo s
  if old = st then s
  else
    let s := if old = 2 then (incrSegment s).modTime (fun t => { t with incrFrom := none }) else s
    let s := if st = 2 then s.modTime (fun t => { t with incrFrom := some s.cycles, incrLog := [] }) else s
    let s := note 0x043 0x0804 none [BitVec.ofNat 8 old, BitVec.ofNat 8 st] (s.setFld Reg.tbServo 0 3 st)
    let s := if st = 4 then occurCode 0x044 0x0802 none data s else faultEnd 0x044 [] s
    if st = 3 then occur 0x043 {} (setIncr (heldIncr s) s) else faultEnd 0x043 [] s

/-! ### Corrections (R409 to R412, R424) -/

/-- Octets of a correction in a T_CORR frame (R433). -/
def corrOctets (c : Correction) : Octets :=
  toBe 6 (c.applyAt / nsPerSec) ++ toBe 4 (c.applyAt % nsPerSec) ++ [0, BitVec.ofNat 8 c.tepoch] ++ toBe 8 (satInt 64 c.delta) ++
    [BitVec.ofNat 8 c.step.toNat, BitVec.ofNat 8 c.tepoch]

/-- The followers of the active manager (R423). -/
def followers (s : Dev) : List Nat := (planOthers s).map (·.hid)

/-- The correction is sent to followers, and an acknowledgement awaited of each. -/
def corrSend (hs : List Nat) (c : Correction) (s : Dev) : Dev :=
  hs.foldl (fun s h =>
    match laneTo s h with
    | none => s
    | some k =>
      let seq := (s.rl k).sent.getD 0 0
      ronPut k 0 3 h 0 (corrOctets c) { s with ron := { s.ron with acks := s.ron.acks ++ [⟨h, 3, seq⟩] } }) s

/-- A step is applied (R411, R422): the counter, the time epoch, the grid and the ticks, which slew from now on (R67). -/
def stepApply (c : Correction) (s : Dev) : Dev :=
  let d := unitsOf c.delta
  let frame : Int := 125000 * (nsUnit : Int)
  let gap : Int := (slewMax s * 125000 * nsUnit / 1000000 : Nat)
  let done : Int := (((s.time.t - s.time.gridFrom) / (125000 * nsUnit) : Nat) : Int) * gap
  let res : Int := if s.time.gridRes.natAbs ≤ done.natAbs then 0 else if s.time.gridRes < 0 then s.time.gridRes + done else s.time.gridRes - done
  let g := nearest (res + d) frame
  let forced := !c.first
  let s := s.modTime (fun t =>
    let t' := ((t.t : Int) + d).toNat
    { t with t := t', slewLeft := 0, tepoch := c.tepoch, nextTickAt := ((t.nextTickAt : Int) + d).toNat, gridRes := g, gridFrom := t' })
  let s := (s.setBit Reg.tbStatus 0 true).setBit Reg.tbStatus 4 (g != 0)
  let s := s.setFld Reg.tbTickStatus 24 8 s.time.tepoch
  let s := if s.rbit Reg.tbTickCtrl 0 then s.setBit Reg.tbTickStatus 16 true else s
  occurCode 0x042 0x0800 none (toLe 8 (satInt 64 c.delta) ++ [BitVec.ofNat 8 s.time.tepoch, BitVec.ofNat 8 (!forced).toNat]) s

/-- A correction is applied. -/
def corrApply (c : Correction) (s : Dev) : Dev :=
  let s := s.modTime (fun t => { t with corr := none })
  timeShow (if c.step then stepApply c s else s.modTime (fun t => { t with slewLeft := t.slewLeft + unitsOf c.delta }))

/-- A correction is accepted: on a standalone device it applies in the next cycle, on the active manager 1 ms later on its own scale. -/
def corrAccept (delta : Int) (step : Bool) (s : Dev) : Dev :=
  let first := !s.rbit Reg.tbStatus 0
  let back := step && !first && decide (delta < 0)
  let s := s.setBit Reg.tbStatus 2 false
  let c : Correction := { applyAt := s.nowNs + 1000000, delta := delta, step := step,
                          tepoch := if back then (s.time.tepoch + 1) % 256 else s.time.tepoch, first := first }
  if s.standalone then corrApply c (s.elapse 1)
  else
    let hs := followers s
    corrSend hs c (timeShow (s.modTime (fun t => { t with corr := some c, corrWait := hs })))

/-- A correction is requested (R409): its code. `origin` is 0 the servo, 1 the host, 2 the Night Desk. -/
def correct (delta : Int) (force : Bool) (origin : Nat) (s : Dev) : Nat × Dev :=
  let result : Int := (s.nowNs : Int) + delta
  let sum := s.time.slewLeft + unitsOf delta
  if ¬ s.leads then (3, s)
  else if s.time.corr.isSome then (4, s)
  else if result < 0 ∨ (2 ^ 48 * nsPerSec : Nat) ≤ result then (5, s)
  else if force ∨ ¬ s.rbit Reg.tbStatus 0 then (1, corrAccept delta true s)
  else if sum.natAbs ≤ jumpLimit s * nsUnit then (0, corrAccept delta false s)
  else
    let s := occurCode 0x041 0x0801 none (toLe 8 (satInt 64 delta) ++ [BitVec.ofNat 8 origin]) (s.setBit Reg.tbStatus 2 true)
    (2, setServo 3 [] { s with once := kvSet s.once 0x04100 s.cycles })

/-- `TB.ADJ_CMD` is written with GO (R409). -/
def adjGo (v : Word) (s : Dev) : Dev :=
  if ¬ bit v 0 then s
  else
    let d := signed 64 ((s.reg Reg.tbAdjLo).toNat + 2 ^ 32 * (s.reg Reg.tbAdjHi).toNat)
    let (code, s) := correct d (bit v 1) 0 s
    timeShow (s.setFld Reg.tbAdjCmd 0 3 code)

/-- TIME_STEP on a ring (R409): a correction that is turned away completes with REFUSED and its code (R145). -/
def timeStepCmd (d : Desc) (id : Nat) (s : Dev) : Dev :=
  if ¬ descClean d ∨ d.aux ≠ 0 ∨ d.arg 8 1 ≥ 2 ∨ ¬ d.zeroFrom 9 47 then completeWith id .badParam s
  else
    let (code, s) := correct (signed 64 (d.arg 0 8)) ((d.arg 8 1).testBit 0) 1 s
    complete id (if code ≤ 1 then .ok else .refused) [BitVec.ofNat 8 code] s

/-- CORRECTION_APPLY: the apply instant comes (R424). -/
def correctionApply (s : Dev) : Dev :=
  match s.time.corr with
  | none => s
  | some c => corrApply c (s.elapseToTime (c.applyAt * nsUnit))

/-- The remaining slew reaches zero (R410). -/
def slewEnd (s : Dev) : Dev :=
  if s.time.slewLeft = 0 ∨ ¬ s.time.running then s
  else timeShow (s.elapse ((s.time.slewLeft.natAbs + s.slewShare - 1) / s.slewShare))

/-- The grid's residual reaches zero (R422). -/
def gridSlewEnd (s : Dev) : Dev :=
  if s.time.gridRes = 0 then s
  else
    let gap := slewMax s * 125000 * nsUnit / 1000000
    let n := (s.time.gridRes.natAbs + gap - 1) / gap
    let s := s.elapseToTime (s.time.gridFrom + n * 125000 * nsUnit)
    (s.modTime (fun t => { t with gridRes := 0 })).setBit Reg.tbStatus 4 false

/-- The active manager sends its pending correction again (R424). -/
def correctionResend (s : Dev) : Dev :=
  match s.time.corr with
  | none => s
  | some c => if s.leads then corrSend s.time.corrWait c s else s

/-! ### The servo's exchanges (R404, R413 to R416) -/

/-- LOCK_TH in ns. -/
def lockTh (s : Dev) : Nat := let v := Config.lockTh (sectionOf s 8); if v = 0 then 50 else v

/-- PD_STEP in ns. -/
def pdStep (s : Dev) : Nat := max 1 (s.rfld Reg.tbPdStep 0 16)

/-- The servo corrects a measured offset by a slew: what is not yet slewed of an earlier one counts (DEDUCED). -/
def servoSlew (offset : Int) (s : Dev) : Dev :=
  let left : Int := s.time.slewLeft / (nsUnit : Int)
  let d := -offset - left
  if d = 0 then s else (correct d false 0 s).2

/-- A jump seen in HOLDOVER is recorded at most once per minute (R414). -/
def holdJump (offset : Int) (s : Dev) : Dev :=
  let due : Bool := match kvGet s.once 0x04100 with | none => true | some c => decide (c + usCycles 60000000 ≤ s.cycles)
  if due then
    occurCode 0x041 0x0801 none (toLe 8 (satInt 64 (-offset)) ++ [0]) { s with once := kvSet s.once 0x04100 s.cycles }
  else s

/-- The lock count of R413 after an exchange. -/
def lockCount (offset : Int) (s : Dev) : Dev :=
  if offset.natAbs < lockTh s then s.modTime (fun t => { t with lockSince := some (t.lockSince.getD s.cycles) })
  else setServo (if servo s = 2 then 1 else servo s) [] (s.modTime (fun t => { t with lockSince := none }))

/-- The data octets of PATH_CHANGE (R427). -/
def pathData (old new : Nat) : Octets := toLe 4 (sat 32 old) ++ toLe 4 (sat 32 new) ++ toLe 4 0x80000000

/-- An exchange in PATH_HOLD (R415). -/
def pathExchange (m : PtpExchange) (s : Dev) : Dev :=
  let run : List PathSample := s.time.pathRun ++ [⟨m.meanPath, m.offset⟩]
  let n := run.length
  let sum := (run.map (·.path)).sum
  let ok := run.all (fun x => decide (2 * ((n * x.path : Int) - sum).natAbs ≤ pdStep s * n))
  let run : List PathSample := if ok then run else [⟨m.meanPath, m.offset⟩]
  let tries := s.time.pathTries + 1
  if 8 ≤ run.length then
    let off : Int := (run.map (·.offset)).sum / 8
    let s := s.modTime (fun t => { t with path := some (((run.map (·.path)).sum) / 8), pathRun := [], pathTries := 0, lockSince := none })
    let s := servoSlew off s
    if servo s = 3 then s else setServo 1 [] s
  else if 64 ≤ tries then setServo 3 [] (s.modTime (fun t => { t with pathRun := [], pathTries := 0 }))
  else s.modTime (fun t => { t with pathRun := run, pathTries := tries })

/-- The offsets of two ports with a parent each are compared (R416). -/
def asymCheck (m : PtpExchange) (s : Dev) : Dev :=
  match s.time.otherPort with
  | none => s
  | some (mac, off) =>
    let d := m.offset - off
    if d.natAbs ≤ max 1 (s.rfld Reg.tbAsymTh 0 16) then
      faultEnd 0x045 [] ((s.modTime (fun t => { t with asymRun := 0 })).setBit Reg.tbStatus 3 false)
    else
      let n := min 16 (s.time.asymRun + 1)
      let s := s.modTime (fun t => { t with asymRun := n })
      if n < 16 then s
      else occurCode 0x045 0x0803 none (toLe 4 (satInt 32 (d / 2)) ++ [BitVec.ofNat 8 m.mac.val, BitVec.ofNat 8 mac]) (s.setBit Reg.tbStatus 3 true)

/-- An exchange with the parent on port `m.mac` gives firmware an offset and a mean path (R404, R413 to R416). The standby manager listens
without acting (R423). -/
def servoExchange (m : PtpExchange) (s : Dev) : Dev :=
  if ¬ s.leads then s
  else if servo s = 5 ∨ servo s = 0 then
    let s := (s.setFld Reg.tbServo 4 3 m.mac.val).modTime (fun t => { t with path := some m.meanPath, lastSync := s.cycles, lastOffset := m.offset })
    servoSlew m.offset (setServo 1 [] s)
  else if s.rfld Reg.tbServo 4 3 ≠ m.mac.val then s.modTime (fun t => { t with otherPort := some (m.mac.val, m.offset) })
  else
    let s := asymCheck m (s.modTime (fun t => { t with lastSync := s.cycles, lastOffset := m.offset }))
    let old := s.time.path.getD m.meanPath
    let far := decide (pdStep s < (if old < m.meanPath then m.meanPath - old else old - m.meanPath))
    match servo s with
    | 4 => pathExchange m s
    | st =>
      if far then
        setServo 4 (pathData old m.meanPath) (s.modTime (fun t => { t with pathRun := [⟨m.meanPath, m.offset⟩], pathTries := 1, lockSince := none }))
      else if st = 3 then
        if m.offset.natAbs ≤ jumpLimit s then servoSlew m.offset (setServo 1 [] (s.modTime (fun t => { t with lockSince := none })))
        else holdJump m.offset s
      else servoSlew m.offset (lockCount m.offset s)

/-- No Sync from the parent within the announce receipt timeout (R414). -/
def holdoverTimeout (s : Dev) : Dev := if s.leads ∧ (servo s = 1 ∨ servo s = 2 ∨ servo s = 4) then setServo 3 [] s else s

/-- The offset has stayed below LOCK_TH for 16 s (R413). -/
def servoLocked (s : Dev) : Dev :=
  match s.time.lockSince with
  | none => s
  | some c => if s.leads ∧ servo s = 1 then setServo 2 [] (s.elapseTo (c + usCycles 16000000)) else s

/-- A follower without time frames for 10 ms (R425). -/
def timeMasterLost (s : Dev) : Dev :=
  if s.leads ∨ servo s ≠ 5 then s else occur 0x049 {} (setServo 3 [] (s.elapseTo (s.time.lastSync + usCycles 10000)))

/-! ### Reads with effects -/

/-- A read of `TB.TIME_NS` (R401): the value, and the time latched. -/
def timeNsRead (s : Dev) : Nat × Dev :=
  let t := s.time.t
  let ns := t / nsUnit
  let s := (s.setNat Reg.tbTimeSecLo (ns / nsPerSec % 2 ^ 32)).setNat Reg.tbTimeSecHi (ns / nsPerSec / 2 ^ 32 % 65536)
  (ns % nsPerSec, (s.setNat Reg.tbTimeFrac (t % nsUnit)).setNat Reg.tbTimeTepoch s.time.tepoch)

/-- A read of `TB.TICK_LO` (R69): the value, and `TICK_HI` latched. -/
def tickLoRead (s : Dev) : Nat × Dev :=
  let n := s.time.lastTick.getD 0
  (n % 2 ^ 32, s.setNat Reg.tbTickHi (n / 2 ^ 32 % 2 ^ 24))

/-- A read of `TB.TSQ[e].W3` (R406): the value, and the head entry popped. -/
def tsqRead (e : Nat) (s : Dev) : Nat × Dev :=
  let v := (s.reg (Reg.tbTsqW3 e)).toNat
  (v, tsqShow e { s with time := { s.time with tsq := kvMod s.time.tsq e [] (·.drop 1) } })

/-- A read of `TB.PPS_IN_NS` (R418): the value, and NEW cleared. -/
def ppsNsRead (s : Dev) : Nat × Dev := ((s.reg Reg.tbPpsInNs).toNat, s.setBit Reg.tbPpsInInfo 31 false)

/-! ### PPS (R417, R418) -/

/-- The next instant on the scale, in ns, at which PPS_OUT is to rise. -/
def ppsNext (s : Dev) : Nat :=
  let off := (signed 32 (s.reg Reg.tbPpsOutOffset).toNat % (nsPerSec : Int)).toNat
  let ns := s.nowNs
  let base := ns / nsPerSec * nsPerSec + off
  if ns < base ∨ (ns = 0 ∧ base = 0 ∧ s.time.t = 0) then base else base + nsPerSec

/-- PPS_OUT rises, or the edge is skipped (R417). -/
def ppsOutEdge (s : Dev) : Dev :=
  if ¬ s.rbit Reg.tbPpsOut 0 ∨ ¬ s.time.running then s
  else
    let s := s.elapseToTime (ppsNext s * nsUnit)
    match s.time.ppsRiseAt with
    | some c => if s.cycles < c + usCycles 200000 then s.setBit Reg.tbStatus 5 true else rise s
    | none => rise s
where
  rise (s : Dev) : Dev :=
    let s := s.setBit Reg.tbStatus 5 false
    if s.shorts.contains .ppsOut then s.modTime (fun t => { t with ppsHigh := true, ppsRiseAt := some s.cycles })
    else (s.modTime (fun t => { t with ppsHigh := true, ppsRiseAt := some s.cycles })).emit (.pps true)

/-- PPS_OUT drives low; a released output drives nothing (R570). -/
def ppsLow (s : Dev) : Dev :=
  let s' := s.modTime (fun t => { t with ppsHigh := false })
  if s.shorts.contains .ppsOut then s' else s'.emit (.pps false)

/-- PPS_OUT falls (R417). -/
def ppsOutFall (s : Dev) : Dev :=
  if ¬ s.time.ppsHigh then s
  else
    let w := max 1 (min 500 (s.rfld Reg.tbPpsOut 8 10))
    ppsLow (s.elapseTo (s.time.ppsRiseAt.getD 0 + usCycles (1000 * w)))

/-- `TB.PPS_OUT` is written: with EN = 0 the pin drives low. -/
def ppsOutWrite (w : Word) (s : Dev) : Dev :=
  let s := writeFields Reg.tbPpsOut w.toNat s
  if ¬ s.rbit Reg.tbPpsOut 0 ∧ s.time.ppsHigh then ppsLow s else s

/-- `TB.PPS_IN` is written: the 1.5 s of R418 count from its enabling. -/
def ppsInWrite (w : Word) (s : Dev) : Dev :=
  let was := s.rbit Reg.tbPpsIn 0
  let s := writeFields Reg.tbPpsIn w.toNat s
  let en := s.rbit Reg.tbPpsIn 0
  if en ∧ ¬ was then s.modTime (fun t => { t with ppsInAt := s.cycles })
  else if was ∧ ¬ en then faultEnd 0x047 [] s
  else s

/-- An active edge of PPS_IN (R418). -/
def ppsInEdge (width sixteenths : Nat) (s : Dev) : Dev :=
  if ¬ s.rbit Reg.tbPpsIn 0 ∨ ¬ s.domainOn 26 then s
  else if width < 100 then s.bump Reg.tbPpsInGlitch
  else
    let ns := s.nowNs
    let sec := ns / nsPerSec
    let err := nearest ns nsPerSec
    let s := (s.setNat Reg.tbPpsInNs (ns % nsPerSec)).setNat Reg.tbPpsInSec (sec % 2 ^ 32)
    let s := s.setNat Reg.tbPpsInInfo (sec / 2 ^ 32 % 65536 + 65536 * (sixteenths % 16) + 2 ^ 31)
    let s := (s.setNat Reg.tbPpsInErr (satInt 32 err)).modTime (fun t => { t with ppsInAt := s.cycles })
    let s := faultEnd 0x047 [] s
    let s := if s.rfld Reg.tbPpsTol 0 24 < err.natAbs then occur 0x048 {} s else s
    if Config.ppsReference (sectionOf s 8) ∧ s.leads ∧ s.rbit Reg.tbStatus 0 then servoSlew err s else s

/-- No edge of PPS_IN for 1.5 s (R418). -/
def ppsInMissing (s : Dev) : Dev :=
  if s.rbit Reg.tbPpsIn 0 ∧ s.domainOn 26 then occur 0x047 {} (s.elapseTo (s.time.ppsInAt + usCycles 1500000)) else s

/-! ### Synthesisers (R420) -/

/-- `TB.SYNTH[i].CFG` is written. -/
def synthWrite (i : Nat) (w : Word) (s : Dev) : Dev :=
  let a := Reg.tbSynthCfg i
  let v := w.toNat &&& 0x1FFF0001
  if s.rbit a 0 ∧ nfld v 16 13 ≠ s.rfld a 16 13 then occur 0x04B {} (s.setBit (Reg.tbSynthStatus i) 1 true)
  else (s.setNat a v).setNat (Reg.tbSynthStatus i) (v % 2)

/-! ### Ticks (R65 to R70) -/

/-- A tick in units of the scale. -/
def tickUnits : Nat := tickNs * nsUnit

/-- `TB.TICK_CTRL` is written: the first tick fires at the first boundary after the generator is enabled. -/
def tickCtrl (w : Word) (s : Dev) : Dev :=
  let was := s.rbit Reg.tbTickCtrl 0
  let s := s.setBit Reg.tbTickCtrl 0 (bit w 0)
  if bit w 0 ∧ ¬ was then s.modTime (fun t => { t with nextTickAt := (t.t / tickUnits + 1) * tickUnits }) else s

/-- The tick generator delivers its next tick (R65 to R70): its number is that of the nearest boundary, and the next interval is changed by at
most SLEW_MAX × 2.5 ms towards the boundary until a tick lies within 2 ns of one. None while the generator is stopped. -/
def tickFire (s : Dev) : Option Dev :=
  if ¬ s.rbit Reg.tbTickCtrl 0 ∨ ¬ s.time.running ∨ ¬ s.domainOn 26 then none
  else
    let at_ := s.time.nextTickAt
    let s := s.elapseToTime at_
    let res := nearest at_ tickUnits
    let bound := (((at_ : Int) - res) / (tickUnits : Int)).toNat
    let near : Bool := decide (res.natAbs ≤ 2 * nsUnit)
    let most := slewMax s * tickNs * nsUnit / 1000000
    let next : Nat :=
      if near then (bound + 1) * tickUnits
      else if res < 0 then at_ + tickUnits + min most res.natAbs
      else at_ + tickUnits - min most res.natAbs
    let cad := match s.time.lastTick with
      | none => s.time.cadence
      | some l => ((((s.time.cadence : Int) + (bound : Int) - (l : Int) - 1) % 48).toNat)
    let s := s.modTime (fun t => { t with ticks := t.ticks + 1, lastTick := some bound, lastTepoch := t.tepoch, nextTickAt := next, tickRes := res, cadence := cad })
    let phase : Int := ((s.time.t : Int) - ((bound * tickUnits : Nat) : Int)) / (nsUnit : Int)
    let s := s.setNat Reg.tbTickLo (bound % 2 ^ 32)
    let st := bound % 400 + 65536 * (!near).toNat + 2 ^ 17 * cad + 2 ^ 24 * (s.time.tepoch % 256)
    some ((s.setNat Reg.tbTickStatus st).setNat Reg.tbTickPhase (satInt 32 phase))

end Sys2Proof.Machine
end

