-- ==== Sys2Proof/Machine/Domains.lean ====
section
/-! DEFINITION. The power domains: what a domain loses as it goes off and how it comes up (R131, R471, R494, R511 to R515), and the entry
into phases 9 and 10 (R37, R56, R63). -/

namespace Sys2Proof.Machine

/-! ### What `PWR.DOMAIN_ON` and `PWR.DOMAIN_EN` show -/

/-- The domains whose EN bit reads the domain's state (R515). -/
def stateBits : List Nat := [0, 17, 25, 26, 29]

/-- Domain `d` is on or off in `PWR.DOMAIN_ON`; for the domains whose EN bit is RO, EN follows. -/
def domainShow (d : Nat) (on : Bool) (s : Dev) : Dev :=
  let s := s.setBit Reg.pwrDomainOn d on
  if stateBits.contains d then s.setBit Reg.pwrDomainEn d on else s

/-! ### The PCIe endpoint (R471) -/

/-- A host boot whose pull is in flight ends with an error (R57). -/
def pullEnds (s : Dev) : Dev := (({ s with boot := { s.boot with pulling := false } }).setBit Reg.bootHbCtrl 1 false).setBit Reg.bootHbCtrl 2 true

/-- The addresses of the ring, DMA and MSI-X registers. -/
def pciVolatile (a : Nat) : Bool :=
  (decide (0x350100 ≤ a) && decide (a < 0x350280)) || (decide (0x358000 ≤ a) && decide (a < 0x359008))

/-- The effects of R471 on rings, DMA and commands: every ring is disabled, the registers return to reset, and the completions of commands
already taken are to be discarded. -/
def ringsReset (s : Dev) : Dev :=
  { s with regs := s.regs.filter (fun p => !pciVolatile p.1),
           pci := { s.pci with rings := [], cmds := s.pci.cmds.map (fun c => { c with slot := false, discard := c.discard || c.origin.isNone }) } }

/-! ### Going off -/

/-- Lane L(8 + k) is held OFF (R436); what it last heard of its partner stays until the partner is declared lost. -/
def ronLaneOff (k : Nat) (s : Dev) : Dev :=
  let l := s.rl k
  (s.setNat (Reg.ronLaneStatus k) 0).setRl k { heardAt := l.heardAt, peer := l.peer, lost := l.lost }

/-- Work of the block that lies in domain `d` has ended (R515): the MPE and the archive engine show IDLE, and the others drop what they hold
as their EN clears. -/
def domainIdle (s : Dev) (d : Nat) : Bool :=
  if d = 18 then s.mpe.egress.isEmpty && s.gdu.all (fun p => p.2.service.all (fun v => v.res != .mpe))
  else if d = 28 then (upTo 2).all (fun k => (s.sink k).jobs.isEmpty && (s.sink k).job.isNone && (s.sink k).fifo.isEmpty)
  else true

/-- The EN of the block in domain `d` is cleared (R515). -/
def blockDisable (d : Nat) (s : Dev) : Dev :=
  if d = 18 then mpeEnWrite false s
  else if d = 19 then secEnWrite false s
  else if d = 20 ∨ d = 21 then
    let g := (upTo 4).map (4 * (d - 20) + ·)
    g.foldl (fun s m => sdsEnWrite m false s) (g.foldl (fun s e => macEnWrite e false s) s)
  else if d = 22 ∨ d = 23 then ((upTo 8).map (8 * (d - 22) + ·)).foldl (fun s k => ronLaneOff k (sdsEnWrite (8 + k) false s)) s
  else if d = 27 then (upTo 8).foldl (fun s h => if s.rbit (Reg.tdmCfg h) 31 then tdmDisable h s else s) s
  else if d = 28 then arcEn false s
  else s

/-- The live conditions of the blocks in domain `d` end as it goes off. -/
def domainLive (d : Nat) : List Nat :=
  if d = 20 ∨ d = 21 then (upTo 4).map (0x348 + 4 * (d - 20) + ·) ++ (upTo 4).map (0x358 + 4 * (d - 20) + ·)
  else if d = 26 then [0x043, 0x044, 0x045, 0x047]
  else if d = 27 then (upTo 8).map (0x3C0 + ·) ++ (upTo 8).map (0x3C8 + ·)
  else []

/-- What the units of domain `d` hold beside their registers is lost as it goes off (R22, R512). -/
def domainLost (d : Nat) (s : Dev) : Dev :=
  if 1 ≤ d ∧ d ≤ 16 then clusterOff (d - 1) s
  else if d = 17 then { s with chans := [], gdu := [], consol := {}, epochs := {}, ledger := {} }
  else if d = 18 then
    let s := failResource 0 .mpe s
    { s with mpe := {}, chans := s.chans.map (fun p => (p.1, { p.2 with jb := { p.2.jb with pkts := [] } })), ron := { s.ron with replay := [] } }
  else if d = 20 ∨ d = 21 then
    { s with macs := s.macs.filter (fun p => netDomain p.1 != d), lanes := s.lanes.filter (fun p => !(decide (p.1 < 8) && netDomain p.1 == d)) }
  else if d = 22 ∨ d = 23 then { s with ron := { s.ron with lanes := s.ron.lanes.filter (fun p => p.1 / 8 + 22 != d) } }
  else if d = 24 then { s with pci := { s.pci with latchHost := [] } }
  else if d = 25 then
    { s with pci := { s.pci with cmds := [] }, flt := { s.flt with trapSince := [] } }
  else if d = 26 then { s with time := { s.time with running := false, slewLeft := 0, corr := none, corrWait := [], tsq := [], tsqGap := [] } }
  else if d = 27 then { s with tdm := [], chans := s.chans.map (fun p => (p.1, { p.2 with supplied := false })) }
  else if d = 28 then { s with arc := {} }
  else if d = 29 then { s with boot := { s.boot with nonce := none, pulling := false, owners := [], erased := [] } }
  else s

/-- The PCIe endpoint is reset (R471); a host boot in flight is refused through `back`. -/
def pcieReset (back : Dev → Dev) (s : Dev) : Dev :=
  let s := ringsReset s
  if s.boot.pulling then back (pullEnds s) else s

/-- Domain `d` goes off at once. -/
def domainDown (d : Nat) (s : Dev) : Dev :=
  if ¬ s.rbit Reg.pwrDomainOn d then s
  else
    let s := if d = 24 then ringsReset s else s
    let s := (domainLive d).foldl (fun s n => faultEnd n [] s) s
    let s := domainShow d false (domainLost d s)
    { s with pwr := { s.pwr with draining := kvDel s.pwr.draining d, waking := kvDel s.pwr.waking d, held := s.pwr.held.filter (· != d),
                                 halted := kvDel s.pwr.halted d } }

/-! ### Coming up -/

/-- Domain `d`, no cluster, has its first clock edge (R513, R514): its SRAM is zero and its RW, RWL and RWS fields hold their values. SEC stays off on
a worker and the reserve (R23). -/
def domainUp (d : Nat) (s : Dev) : Dev :=
  if s.rbit Reg.pwrDomainOn d ∨ s.rbit Reg.pwrDomainFail d ∨ (d = 19 ∧ 2 ≤ s.role) then s
  else
    let s := domainShow d true (s.powerUpRegs d)
    let s := { s with pwr := { s.pwr with waking := kvDel s.pwr.waking d } }
    if d = 18 then refreshPs (mpeIdle s) else if d = 28 then refreshRec s else s

/-- Wake times of R511 in cycles, from OFF to the first clock edge. -/
def wakeCycles (d : Nat) : Nat := usCycles (if d ≤ 17 ∨ d = 25 then 8 else if d = 18 then 30 else 5)

/-- The sets that tests and waiting channels of cluster `n` need are loaded as the cluster wakes (R228, R534, R535). -/
def wakeSets (n : Nat) (s : Dev) : Dev :=
  s.tests.foldl (fun s x =>
    if x.key.kind = 1 ∨ x.key.unit / 16 ≠ n then s
    else if x.key.kind = 2 then (match testSet s x.key.unit x.params with | some k => takeSet x.key.unit k s | none => s)
    else loadDue x.key.unit s) s

/-- The sets that migrations into cluster `n` wait for are loaded as it wakes (R127, R228). -/
def migrantSets (n : Nat) (s : Dev) : Dev :=
  s.chans.foldl (fun s p => match p.2.migrate with | some t => if t / 16 = n then loadDue t s else s | none => s) s

/-- Cluster `n` comes up from OFF (R513, R514, R519). -/
def clusterUp (n : Nat) (s : Dev) : Dev :=
  let s := (s.powerUpRegs (1 + n)).setBit Reg.pwrDomainOn (1 + n) true
  let s := setClFreq n (profClFreq s) s
  let s := (upTo 16).foldl (fun s j => faultEnd (0x100 + 16 * n + j) [] s) s
  refreshLoads n s

/-- A cluster's wake completes (R131): 20 ns from CLOCK_GATED, 2 µs from RETENTION, 8 µs from OFF. -/
def clusterWakeComplete (n : Nat) (s : Dev) : Dev :=
  match (s.cg n).waking with
  | none => s
  | some t =>
    if s.rbit Reg.pwrDomainFail (1 + n) then s
    else
      let st := s.clState n
      let s := s.elapseTo (t + (if st = 0 then usCycles 8 else if st = 1 then usCycles 2 else 10))
      let s := if st = 0 then clusterUp n s else s
      let s := (s.setFld Reg.gduClState (2 * n) 2 3).setCg n { s.cg n with waking := none }
      gateIfIdle n (finishOpens n (migrantSets n (wakeSets n s)))

/-! ### Domains by role (R25) -/

/-- The domains that are on through phases 1 to 8 of a boot, clusters aside: those that the role leaves on, those that it leaves to the
image, and PCI by its strap and its reference. -/
def roleDomains (s : Dev) : List Nat :=
  [0, 17, 18, 25, 26, 28, 29] ++ (if s.role ≤ 1 then [19, 20, 21, 27] else []) ++ (if s.role = 0 then [] else [22, 23]) ++
    (if s.boot.straps.pcieEn ∧ ¬ s.boot.pciRefBad then [24] else [])

/-- The domains that phases 9 and 10 keep (R56, R63). -/
def waitDomains (s : Dev) : List Nat := [0, 17, 26, 29] ++ (if s.boot.straps.pcieEn ∧ ¬ s.boot.pciRefBad then [24] else [])

/-- Of the domains other than clusters, those in `l` are on and the others off; EN of a domain that software switches follows. -/
def domainsSet (l : List Nat) (s : Dev) : Dev :=
  ((upTo 13).map (17 + ·)).foldl (fun s d =>
    let s := if l.contains d then domainUp d s else domainDown d s
    if stateBits.contains d then s else s.setBit Reg.pwrDomainEn d (s.rbit Reg.pwrDomainOn d)) s

/-- The domains of a boot: the clusters are the GDU's to wake. -/
def bootDomains (s : Dev) : Dev :=
  domainsSet (roleDomains s) ((upTo 16).foldl (fun s n => s.setBit Reg.pwrDomainEn (1 + n) true) s)

/-! ### The Ledger starts (R37) -/

/-- The Ledger starts, with the events that the BOOT block holds, in stamp order (R37). -/
def ledgerStart (s : Dev) : Dev :=
  if s.boot.ledgerOn then s
  else
    let l := sorted (fun a b => !keyLower b a) s.boot.held
    l.foldl (fun s e => pushEvent e s) { s with boot := { s.boot with ledgerOn := true, held := [] } }

/-! ### Phases 9 and 10 -/

/-- The device enters phase 9 (R56): no acceptable image, source 0x017 live. -/
def waitImage (s : Dev) : Dev :=
  let s := (upTo 16).foldl (fun s n => if s.clState n = 0 then s else clusterOff n s) s
  let s := domainsSet (waitDomains s) s
  let s := { s with boot := { s.boot with loading := 0, image := none, sections := [], ksets := [], limits := [], digest := [], sigBlock := [], signer := [] } }
  ledgerStart (occur 0x017 {} (s.setPhase 9))

/-- The device stops in phase 10 (R63). -/
def retired (s : Dev) : Dev :=
  let s := (upTo 16).foldl (fun s n => if s.clState n = 0 then s else clusterOff n s) s
  ledgerStart ((domainsSet (waitDomains s) s).setPhase 10)

/-- A reset of the PCIe endpoint refuses a host boot in flight: the device returns to phase 9 (R57, R471). -/
def endpointReset (s : Dev) : Dev := pcieReset waitImage s

/-! ### Switching by software (R515) -/

/-- Domains that drain and have no work left go off. -/
def drainsEnd (s : Dev) : Dev :=
  s.pwr.draining.foldl (fun s p => if domainIdle s p.1 then domainDown p.1 s else s) s

/-- A domain not idle 1 ms after its EN was cleared goes off with its work lost (R515). -/
def drainTimeout (d : Nat) (s : Dev) : Dev :=
  match kvGet s.pwr.draining d with
  | none => s
  | some t =>
    let s := s.elapseTo (t + usCycles 1000)
    domainDown d (if domainIdle s d then s else s.bump Reg.pwrDrainTimeout)

/-- The 1 ms of a drain begins. -/
def drainBegin (d : Nat) (s : Dev) : Dev :=
  let s := blockDisable d s
  drainsEnd { s with pwr := { s.pwr with draining := kvSet s.pwr.draining d s.cycles, waking := kvDel s.pwr.waking d } }

/-- A domain asked for by a write begins to power up (R511). -/
def wakeBegin (d : Nat) (s : Dev) : Dev :=
  if s.rbit Reg.pwrDomainOn d then { s with pwr := { s.pwr with draining := kvDel s.pwr.draining d } }
  else if (kvGet s.pwr.waking d).isSome then s
  else { s with pwr := { s.pwr with waking := kvSet s.pwr.waking d (s.cycles + wakeCycles d) } }

/-- A domain that was switched on reaches its first clock edge. -/
def domainWakeDone (d : Nat) (s : Dev) : Dev :=
  match kvGet s.pwr.waking d with
  | none => s
  | some t => domainUp d (s.elapseTo t)

/-- Channels or dossiers are homed in cluster `n` (R515). -/
def clusterUsed (s : Dev) (n : Nat) : Bool :=
  s.chans.any (fun p => p.2.home / 16 == n || (p.2.migrate.map (· / 16)) == some n) || (n == 15 && s.spare && !s.ron.dossiers.isEmpty) ||
    (s.role == 3 && !s.ron.dossiers.isEmpty)

/-- One bit of a write of `PWR.DOMAIN_EN` (R515); true when it is refused. Phases 9 and 10 keep the domains of R56 and R63 and no others, and SEC
stays off on a worker and the reserve (R23): a bit that asks otherwise is ignored, and so is the PCI bit of a write by firmware (R33), and every bit after a thermal shutdown (R528). -/
def domainBit (by_ : Option Requester) (d : Nat) (on : Bool) (s : Dev) : Bool × Dev :=
  if stateBits.contains d ∨ (d = 24 ∧ by_ = some .fw) ∨ s.pwr.shutdown then (false, s)
  else if d ≤ 16 then
    let n := d - 1
    let was := s.rbit Reg.pwrDomainEn d
    if on = was then (false, s)
    else if on then
      if s.rbit Reg.pwrDomainFail d then (false, s) else (false, (s.setBit Reg.pwrDomainEn d true).setBit Reg.gduClFence n false)
    else if clusterUsed s n then (true, s)
    else
      let s := (s.setBit Reg.pwrDomainEn d false).setBit Reg.gduClFence n true
      (false, if s.clState n = 0 then s else clusterOff n s)
  else if on then
    if s.rbit Reg.pwrDomainFail d ∨ (9 ≤ s.phase ∧ d ≠ 24) ∨ (d = 19 ∧ 2 ≤ s.role) then (false, s) else (false, wakeBegin d (s.setBit Reg.pwrDomainEn d true))
  else
    let s := s.setBit Reg.pwrDomainEn d false
    if s.rbit Reg.pwrDomainOn d then (false, if (kvGet s.pwr.draining d).isSome then s else drainBegin d s)
    else (false, { s with pwr := { s.pwr with waking := kvDel s.pwr.waking d } })

/-- A write of `PWR.DOMAIN_EN`: its bits are judged one by one, and CFG_ERR says that one was refused (R515, R531). -/
def domainEnWrite (by_ : Option Requester) (v : Word) (s : Dev) : Dev :=
  let (bad, s) := (upTo 30).foldl (fun (p : Bool × Dev) d =>
    let (r, s) := domainBit by_ d (bit v d) p.2
    (p.1 || r, s)) (false, s)
  fastOscRun (s.setBit Reg.pwrDomainEn 30 bad)

/-! ### A power fault of a cluster (R494) -/

/-- A cluster is switched off until the next chip reset, and each of its channels closes on error (R494). -/
def clusterFault (n : Nat) (s : Dev) : Dev :=
  let s := s.setBit Reg.pwrDomainFail (1 + n) true
  let s := (s.cg n).service.foldl (fun s v => setNodeState v.chan v.node .failed (endService n v s)) s
  let s := (homedIn s n).foldl (fun s q => closeOnError q.1 s) s
  clusterOff n s

/-! ### The Night Desk's switches (R481) -/

/-- Domain `d` carries channel `k`. -/
def carries (s : Dev) (d : Nat) (k : Channel) : Bool :=
  if 1 ≤ d ∧ d ≤ 16 then k.home / 16 == d - 1
  else if d = 18 then k.legs.session.isSome
  else if d = 19 ∨ d = 20 ∨ d = 21 then
    match (k.legs.session.bind (session? s)) with
    | none => false
    | some x => if d = 19 then x.suite != 0 else ((localAddr s x.addr).map (fun a => netDomain a.mac)) == some d
  else if d = 22 ∨ d = 23 then
    k.legs.session.isSome && decide (2 ≤ s.role) && !(upTo 16).any (fun l => l / 8 + 22 != d && ronState s l == 4)
  else if d = 26 then true
  else if d = 27 then k.legs.line.isSome
  else false

/-- Domain `d` goes off at once, and the calls that it carried drop (R481). -/
def domainCut (d : Nat) (s : Dev) : Dev :=
  if ¬ s.rbit Reg.pwrDomainOn d then s
  else
    let s := if d ≤ 16 then (s.cg (d - 1)).service.foldl (fun s v => setNodeState v.chan v.node .failed (endService (d - 1) v s)) s else s
    let s := (s.chans.filter (fun p => carries s d p.2)).foldl (fun s p => closeOnError p.1 s) s
    let s := if d = 24 then endpointReset s else s
    domainDown d s

/-- The Night Desk switches domain `d` on (R481): BOOT and PCI run; every other is held in reset until the next chip reset. After a thermal shutdown
every domain stays off (R528). -/
def domainForce (d : Nat) (s : Dev) : Dev :=
  if s.rbit Reg.pwrDomainOn d ∨ s.pwr.shutdown ∨ (d = 19 ∧ 2 ≤ s.role) then s
  else if d = 24 ∨ d = 29 then domainUp d s
  else
    let s := (s.powerUpRegs d).setBit Reg.pwrDomainOn d true
    { s.setBit Reg.pwrDomainFail d true with pwr := { s.pwr with held := d :: s.pwr.held } }

end Sys2Proof.Machine
end

