-- ==== Sys2Proof/Machine/Boot.lean ====
section
/-! DEFINITION. Resets, straps and the boot up to the image's verification (R29 to R51, R56 to R58), the life-cycle (R59 to R62), and the
resets' effect on what AON keeps (R574, R575). -/

namespace Sys2Proof.Machine

/-! ### Straps (R31 to R33) -/

/-- The straps as the device latches them from the levels of R30's pins, corrected by R31, and whether one was. -/
def correctStraps (p : StrapPins) : StrapPins × Bool :=
  let nvm := p.nvmMode == 3
  let spare := p.spareCl && p.role != 0
  ({ p with nvmMode := if nvm then 2 else p.nvmMode, spareCl := p.spareCl && !spare }, nvm || spare)

/-- `BOOT.STRAP`: R30's straps in the fields of R32. -/
def strapWord (p : StrapPins) (err : Bool) : Nat :=
  p.role.val + 4 * p.hid.val + 64 * p.nvmMode.val + 256 * p.mgmtMode.val + 1024 * p.refsel.toNat + 2048 * p.pcieEn.toNat +
    4096 * p.spareCl.toNat + 65536 * err.toNat

/-- `BOOT.LC` (R57). -/
def lcWord (f : Fuses) : Nat := f.state + 256 * f.rollback

/-- `CLn.INFO` bit 8 of CL15 and `GDU.CFG.SPARE_CL` (R33, R548). -/
def setSpare (on : Bool) (s : Dev) : Dev := (s.setBit Reg.gduCfg 1 on).setBit (Reg.clInfo 15) 8 on

/-- What the straps and the fuses set at a reset (R32, R33, R57, R463, R502, R549, R550). -/
def strapShow (f : Fuses) (s : Dev) : Dev :=
  let p := s.boot.straps
  let s := (s.setNat Reg.bootStrap (strapWord p s.boot.strapErr)).setNat Reg.bootLc (lcWord f)
  let s := (upTo 4).foldl (fun s i => s.setNat (Reg.glbSerial i) (f.serial.toNat / 2 ^ (32 * i) % 2 ^ 32)) s
  let s := s.setBit Reg.glbDbgStatus 0 (decide (f.state ≤ 1))
  let s := s.setBit Reg.fltCfg 2 (decide (f.state ≤ 1))
  let s := s.setFld Reg.ndkMode 0 2 p.mgmtMode.val
  let s := (setSpare p.spareCl s).setBit Reg.pwrClksel 0 p.refsel
  let s := s.setFld Reg.ronStatus 0 2 p.role.val
  { s with boot := { s.boot with identity := if f.identity = .present then some f.identityKey else none } }

/-! ### What a reset keeps (R34, R574, R575) -/

/-- The sources whose condition AON itself senses (R575). -/
def aonLive : List Nat := [0x001, 0x002, 0x004, 0x008, 0x009, 0x00A, 0x00B, 0x0D1]

/-- The bits of a register that a reset with AON running keeps. -/
def aonKeeps (a : Nat) : Nat :=
  match locate a with
  | some (.glb, _, o) => if o = 0x3C then 0 else 0xFFFFFFFF
  | some (.ndk, _, _) => 0xFFFFFFFF
  | some (.pwr, _, o) =>
    if o = 0xC ∨ (0x10 ≤ o ∧ o < 0x24) ∨ (0x140 ≤ o ∧ o < 0x194) then 0xFFFFFFFF else if 0x40 ≤ o ∧ o < 0x90 then 0xFFFF else 0
  | some (.flt, _, o) =>
    if o = 4 then 0xFF0D
    else if o = 0x18 ∨ (0x200 ≤ o ∧ o < 0x280) ∨ (0x400 ≤ o ∧ o < 0x500) then 0xFFFFFFFF
    else if o = 0x180 then 0xF16
    else if o = 0x180 + 4 * 6 then 2 ^ 17
    else 0
  | some (.src, n, o) => if o = 0 then 0 else if o = 4 ∧ ¬ aonLive.contains n then 0xFFFFFFFE else 0xFFFFFFFF
  | some (.boot, _, o) => if o = 8 then 0xFFFFFFFF else 0
  | _ => 0

/-- The register file after a reset with AON running. -/
def keptRegs (l : List (Nat × Word)) : List (Nat × Word) :=
  l.foldl (fun r p =>
    let k := aonKeeps p.1
    if k = 0 then r else regsPut r p.1 (BitVec.ofNat 32 ((p.2.toNat &&& k) ||| ((regReset p.1).toNat &&& (0xFFFFFFFF ^^^ k))))) []

/-- The fault collector through a reset with AON running (R574, R575). -/
def keptFlt (x : Flt) : Flt :=
  { second := x.second, entered := x.entered.filter (aonLive.contains ·), log := x.log, gasp := x.gasp, storm := x.storm,
    lastFaultReset := x.lastFaultReset }

/-- The boot unit at a reset: straps and strap error stay latched, and the AON copy of the life-cycle state while AON keeps running. -/
def keptBoot (cold : Bool) (b : Boot) : Boot :=
  { straps := b.straps, strapErr := b.strapErr, porstLow := b.porstLow, wrstLow := b.wrstLow, lcCopy := if cold then 0 else b.lcCopy,
    cold := cold, owners := if cold then [] else b.owners, erased := if cold then [] else b.erased,
    sizeA := if cold then 0x4000000 else b.sizeA, sizeB := if cold then 0x4000000 else b.sizeB }

/-- The device in reset. With `cold`, AON and the always-on SRAM are reset too (R34); elapsed cycles, free values and what has left the
device stay. -/
def resetCore (cold : Bool) (f : Fuses) (s : Dev) : Dev :=
  let base : Dev := { cycles := s.cycles, gcycle := s.gcycle, free := s.free, outbox := s.outbox, boot := keptBoot cold s.boot }
  if cold then
    let (o, s') := base.drawOctets 8
    strapShow f { s' with night := { bootId := o } }
  else
    let s' := { base with
      regs := keptRegs s.regs, flt := keptFlt s.flt,
      night := { s.night with queue := if s.night.testing then s.night.queue.drop 1 else s.night.queue, testing := false, testBody := none },
      pwr := { avsMiss := s.pwr.avsMiss, pmbMiss := s.pwr.pmbMiss, fastOsc := s.pwr.fastOsc },
      pci := { latchNd := s.pci.latchNd } }
    let s' := s'.setFld Reg.fltStatus 16 10 ((aonLive.filter (fun n => s'.rbit (Reg.srcStatus n) 0)).length)
    strapShow f s'

/-- The kinds of R34, by their bit of `BOOT.CAUSE`; the Night Desk latches the register at each reset (R479; DEDUCED, log entry 73). -/
def causeBit (kind : Nat) (s : Dev) : Dev :=
  let s := s.setBit Reg.bootCause kind true
  { s with night := { s.night with cause := (s.reg Reg.bootCause).toNat } }

/-- The outputs as a boot begins: the error pair shows its latch (R498, R499), and PPS_OUT is low (R556). -/
def outputsStart (s : Dev) : Dev := (pairDrive (!s.rbit Reg.fltStatus 0) s).emit (.pps false)

/-- The boot starts in phase `p`, with its domains on, the straps shown and the time base at zero (R35, R36). -/
def bootAt (p : Nat) (f : Fuses) (s : Dev) : Dev :=
  let s := outputsStart ((strapShow f (bootDomains s)).setPhase p)
  { s with time := { running := true } }

/-- A warm, fault, Night Desk or host reset (R34, R35): AON keeps running, and the boot starts at the wiring checks. -/
def warmReset (kind : Nat) (f : Fuses) (s : Dev) : Dev :=
  let s := resetCore false f s
  let s := if kind = 2 then s else { s with flt := { s.flt with storm := 0 } }
  bootAt 2 f (causeBit kind s)

/-- The life-cycle reset (R61): everything, AON and the always-on SRAM included. `BOOT.CAUSE` keeps the bits not yet read (R34: the kinds since it
was last read), though AON is reset; a power-on reset, after which nothing can have read it, drops them (DESIGN CHOICE, log entry 23). -/
def lifeCycleReset (f : Fuses) (s : Dev) : Dev :=
  let cause := s.reg Reg.bootCause
  bootAt 1 f (causeBit 5 ((resetCore true f s).setReg Reg.bootCause cause))

/-! ### The reset pins (R34, R559, R560) -/

/-- PORST_N goes low, or VDD_AON falls below 0.60 V: phase 0, every call dropped. -/
def porstLow (s : Dev) : Dev :=
  { cycles := s.cycles, gcycle := s.gcycle, free := s.free, outbox := s.outbox, boot := { porstLow := true, wrstLow := s.boot.wrstLow } }

/-- PORST_N rises (R29 to R31): the straps are latched and a power-on reset starts; with WRST_N still low the device stays in phase 0. -/
def porstRelease (pins : StrapPins) (f : Fuses) (s : Dev) : Dev :=
  if ¬ s.boot.porstLow then s
  else
    let (p, err) := correctStraps pins
    let s := { s with boot := { s.boot with straps := p, strapErr := err, porstLow := false } }
    let s := causeBit 0 (resetCore true f s)
    let s := if s.boot.wrstLow then { s with boot := { s.boot with coldHold := true } } else bootAt 1 f s
    if err then occur 0x010 {} s else s

/-- WRST_N goes low: phase 0 until it rises; ignored while PORST_N is low. -/
def wrstLow (f : Fuses) (s : Dev) : Dev :=
  if s.boot.porstLow ∨ s.boot.wrstLow then s
  else
    let s := resetCore false f s
    { s with boot := { s.boot with wrstLow := true } }

/-- WRST_N rises: a warm reset, or the power-on reset that waited for it. What AON recorded while it was low goes to the Ledger (R575). -/
def wrstRelease (f : Fuses) (s : Dev) : Dev :=
  if ¬ s.boot.wrstLow then s
  else
    let cold := s.boot.coldHold
    let s := { s with boot := { s.boot with wrstLow := false, coldHold := false } }
    if s.boot.porstLow then s
    else if cold then bootAt 1 f s
    else
      let r := warmReset 1 f s
      { r with boot := { r.boot with held := s.boot.held } }

/-! ### The reset that `GLB.RESET` asks for (R551) -/

/-- `GLB.RESET` is written: the host reset starts 10 µs later. -/
def resetWrite (v : Word) (s : Dev) : Dev :=
  if bit v 0 ∧ s.boot.resetAt.isNone then { s with boot := { s.boot with resetAt := some (s.cycles + usCycles 10) } } else s

/-- The 10 µs have passed. -/
def hostReset (f : Fuses) (s : Dev) : Dev :=
  match s.boot.resetAt with
  | none => s
  | some t => warmReset 4 f (s.elapseTo t)

/-! ### Phases 1 to 3 (R36, R39 to R41) -/

/-- The core PLL has locked. -/
def pllLocked (s : Dev) : Dev := if s.phase = 1 then (s.setBit Reg.pwrClksel 3 true).setPhase 2 else s

/-- The 32.768 kHz crystal is stable. -/
def crystalStable (s : Dev) : Dev := if s.phase = 0 then s else faultEnd 0x004 [] (s.setBit Reg.pwrClksel 4 true)

/-- The 32.768 kHz crystal fails (R486). -/
def crystalAbsent (s : Dev) : Dev := if s.phase = 0 then s else occur 0x004 {} (s.setBit Reg.pwrClksel 4 false)

/-- A reference as it was counted: its OK bit and its source (R517, R531). -/
def referenceIs (b : Bool) (ok : Bool) (s : Dev) : Dev :=
  follow (if b then 0x002 else 0x001) (!ok) {} (s.setBit Reg.pwrClksel (if b then 2 else 1) ok)

/-- The flash is seen or not (R39): its ID is read with command 0x9F where one is strapped. -/
def wiringFlash (r : WiringResult) (s : Dev) : Dev :=
  let s := { s with boot := { s.boot with flashSeen := !r.flashAbsent, tdmShort := r.tdmShort.map (·.val) } }
  if s.boot.straps.nvmMode = 2 then s
  else
    let s := s.emit (.flashCmd 0x9F .single)
    if r.flashAbsent then occur 0x013 {} s else s

/-- The references are counted (R39), and the PLL runs from the selected one. -/
def wiringRefs (r : WiringResult) (s : Dev) : Dev :=
  let s := referenceIs true (!r.refclkBBad) (referenceIs false (!r.refclkABad) s)
  (s.setBit Reg.pwrClksel 3 true).setBit Reg.pwrClksel 5 (if s.rbit Reg.pwrClksel 0 then r.refclkBBad else r.refclkABad)

/-- The lanes whose domains are on and that see no signal are recorded (R39). -/
def wiringLanes (r : WiringResult) (s : Dev) : Dev :=
  (upTo 24).foldl (fun s m =>
    let d := if m < 4 then 20 else if m < 8 then 21 else if m < 16 then 22 else 23
    if s.domainOn d ∧ ¬ r.laneSignal.any (fun l => l.val == m) then occur ((if m < 8 then 0x340 else 0x380) + m) {} s else s) s

/-- The PCIe reference, the lanes, the highways and the error pair are checked (R39). -/
def wiringPins (r : WiringResult) (s : Dev) : Dev :=
  let s :=
    if r.pcieRefAbsent ∧ s.boot.straps.pcieEn then
      (domainDown 24 (occur 0x0C8 {} { s with boot := { s.boot with pciRefBad := true } })).setBit Reg.pwrDomainEn 24 false
    else s
  let s := wiringLanes r s
  let s := if s.domainOn 27 then r.tdmShort.foldl (fun s h => occur (0x3C0 + h.val) {} s) s else s
  if r.pairMismatch then occur 0x011 {} (s.setBit Reg.fltStatus 2 true) else s

/-- The PHY of the side-band port is found or not (R39), at whatever address it answers. -/
def wiringPhy (r : WiringResult) (s : Dev) : Dev :=
  let side : Bool := s.boot.straps.mgmtMode != 0
  let (phy, s) := s.drawBelow 32
  let s := s.setFld Reg.ndkStatus 4 5 (if side && !r.phyAbsent then phy else 0)
  let s := { s with night := { s.night with phyFound := side && !r.phyAbsent } }
  if side && r.phyAbsent then occur 0x0D0 {} s else s

/-- The wiring checks end (R39): each failure is recorded, with its fallback, and the wipe starts. A highway found shorted stays disabled for this
boot. -/
def wiringDone (r : WiringResult) (s : Dev) : Dev :=
  if s.phase ≠ 2 then s else (wiringPhy r (wiringPins r (wiringRefs r (wiringFlash r s)))).setPhase 3

/-- The always-on SRAM is wiped, and the copy of the life-cycle state written anew (R41). -/
def aonWipe (f : Fuses) (s : Dev) : Dev :=
  let s := (upTo 64).foldl (fun s w => s.setNat (Reg.fltLg w) 0) (s.setBit Reg.fltStatus 3 false)
  { (s.setBit Reg.ndkStatus 3 false) with
      flt := { s.flt with log := [], gasp := [] }, night := { s.night with record := none, recordLost := false },
      boot := { s.boot with lcCopy := f.state } }

/-- The wipe ends (R40, R41): the always-on SRAM is wiped too after a power-on or life-cycle reset, or where its copy of the state differs; a bank that failed twice leaves its domain off; a RETIRED device stops in phase 10 (R63), one in a fault reset
storm (R497) or whose selected reference failed (R39) in phase 9. -/
def wipeDone (fails : List WipeFail) (f : Fuses) (s : Dev) : Dev :=
  if s.phase ≠ 3 then s
  else
    let s := fails.foldl (fun s x =>
      let s := occur 0x012 {} s
      if x.again then domainDown x.domain.val (s.setBit Reg.pwrDomainFail x.domain.val true) else s) s
    let s := if s.boot.lcCopy = f.state ∧ ¬ s.boot.cold then s else aonWipe f s
    if s.lc = 3 then retired s
    else if 4 ≤ s.flt.storm then waitImage (occur 0x01C {} s)
    else if s.rbit Reg.pwrClksel 5 then waitImage s
    else s.setPhase 4

/-! ### Phase 4: headers and selection (R42 to R48) -/

/-- A header of 4,096 octets (R47). -/
def parseHeader (o : Octets) : Header :=
  let n := le o 20 2
  { magic := le o 0 4, format := le o 4 2, version := le o 8 4, flags := le o 12 4, imageLen := le o 16 4, sectionCount := n,
    sigOffset := le o 24 4, crcOk := crc32c (putOcts (octs o 0 256) 28 (zeros 4)) == le o 28 4,
    entries := (upTo (min n 64)).map (fun i => let b := 256 + 16 * i; ⟨le o b 2, le o (b + 4) 4, le o (b + 8) 4, le o (b + 12) 4⟩),
    tailZero := allZero (octs o (256 + 16 * n) (1024 - 16 * n)), raw := octs o 0 4096 }

/-- The largest image, in octets. -/
def mib64 : Nat := 64 * 2 ^ 20

/-- The code of R46 for a header against R45: 0 for a candidate. -/
def headerCode (h : Header) (size : Nat) (s : Dev) : Nat :=
  if h.magic ≠ 0xAC107320 ∨ h.format ≠ 1 ∨ ¬ h.crcOk ∨ min size mib64 < h.imageLen ∨ h.sigOffset + 256 ≠ h.imageLen ∨
      h.sectionCount = 0 ∨ 64 < h.sectionCount then 2
  else if (s.lc = 1 ∨ s.lc = 2) ∧ h.version / 2 ^ 24 < s.rfld Reg.bootLc 8 8 then 3
  else 0

/-- The ULENGTH limits of R48, and the size of a section's entries. -/
def sectionRule (ty : Nat) : Nat × Nat :=
  match ty with
  | 1 => (2 ^ 20, 12) | 2 => (2 * 2 ^ 20, 1) | 3 => (4 * 2 ^ 20, 1) | 4 => (16 * 2 ^ 20, 1) | 5 => (8 * 2 ^ 20, 512) | 6 => (2 ^ 20, 1)
  | 7 => (8 * 2 ^ 20, 64) | 8 => (2 ^ 20, 1) | 9 => (2 ^ 20, 1) | 10 => (65536, 1) | 11 => (65536, 1) | 12 => (65536, 1)
  | _ => (2 * 2 ^ 20, 1)

/-- Two areas of the image overlap. -/
def overlaps (a n b m : Nat) : Bool := decide (a < b + m) && decide (b < a + n)

/-- The code of R46 for a section table against R48: SECTIONS before SIZE, 0 when it passes. -/
def tableCode (h : Header) : Nat :=
  let es := h.entries
  let tys : List Nat := es.map (·.type)
  let bad : Bool := es.any (fun e => e.type == 0 || decide (14 ≤ e.type) || e.off % 4096 != 0 || overlaps e.off e.len 0 4096 ||
    overlaps e.off e.len h.sigOffset 256 || e.ulen % (sectionRule e.type).2 != 0)
  let pairs : Bool := es.zipIdx.any (fun p => es.zipIdx.any (fun q => decide (p.2 < q.2) && overlaps p.1.off p.1.len q.1.off q.1.len))
  if bad || !h.tailZero || !decide tys.Nodup || !tys.contains 3 || !tys.contains 13 || pairs then 7
  else if es.any (fun e => decide ((sectionRule e.type).1 < e.ulen)) then 8
  else 0

/-- The refusal code of a slot (R57). -/
def setFail (slot code : Nat) (s : Dev) : Dev := s.setFld Reg.bootStatus (if slot = 1 then 8 else 16) 8 code

/-- The candidate to be read next (R46): the greater VERSION of those not tried, slot A on a tie. -/
def nextCand (s : Dev) : Option (Nat × Header) :=
  let a := if s.boot.tried.contains 1 then none else s.boot.hdrA
  let b := if s.boot.tried.contains 2 then none else s.boot.hdrB
  match a, b with
  | some x, some y => if x.version < y.version then some (2, y) else some (1, x)
  | some x, none => some (1, x)
  | none, some y => some (2, y)
  | none, none => none

/-- Selection goes on (R46): the next candidate whose section table passes is loaded, or phase 9 entered. -/
def selectSlot : Nat → Dev → Dev
  | 0, s => waitImage s
  | n + 1, s =>
    match nextCand s with
    | none => waitImage s
    | some (slot, h) =>
      let s := { s with boot := { s.boot with tried := slot :: s.boot.tried } }
      let c := tableCode h
      if c ≠ 0 then selectSlot n (setFail slot c s)
      else { s.setPhase 5 with boot := { s.boot with loading := slot, image := some h, sections := [], ksets := [], limits := [] } }

/-- The mode in which flash is read after discovery (R42, R43): as SFDP offers, and without valid SFDP one line at a time. -/
def flashModeOf (nvm : Nat) (f : FlashRead) : FlashMode :=
  if ¬ f.sfdpOk then .single else if nvm = 0 then .octal else if f.ddr then .quadDdr else .quad

/-- Flash is reset and SFDP is read, both at one line; then the headers are read in the operating mode (R42), which without SFDP is command 0x13
with four address octets (R43). The read commands of the other modes come from SFDP. -/
def flashDiscover (f : FlashRead) (s : Dev) : Dev :=
  let m := flashModeOf s.boot.straps.nvmMode.val f
  let s := [0x66, 0x99, 0x5A].foldl (fun s c => s.emit (.flashCmd c .single)) { s with boot := { s.boot with flashMode := m } }
  if m = .single then s.emit (.flashCmd 0x13 .single) else s

/-- Flash is discovered and the headers of both slots are read (R42 to R46). -/
def headersRead (r : Option FlashRead) (s : Dev) : Dev :=
  if s.phase ≠ 4 then s
  else if s.rbit Reg.pwrClksel 5 then waitImage s
  else if s.boot.straps.nvmMode = 2 ∨ ¬ s.boot.flashSeen then waitImage (setFail 1 1 (setFail 2 1 s))
  else match r with
    | none => waitImage (setFail 1 1 (setFail 2 1 s))
    | some f =>
      let s := flashDiscover f (if f.sfdpOk then s else occur 0x014 {} s)
      let offB := if f.sfdpOk then min (f.density / 2) 0x4000000 else 0x4000000
      let sizeB := if f.sfdpOk then f.density - offB else mib64
      let a := parseHeader f.hdrA
      let b := parseHeader f.hdrB
      let ca := headerCode a offB s
      let cb := headerCode b sizeB s
      let s := setFail 2 cb (setFail 1 ca s)
      selectSlot 2 { s with boot := { s.boot with sizeA := offB, sizeB := min sizeB mib64, hdrA := if ca = 0 then some a else none, hdrB := if cb = 0 then some b else none } }

/-! ### Refusal (R46, R52, R57) -/

/-- A host boot ends: BUSY clears and vector 7 is signalled (R469). -/
def hostBootEnds (err : Bool) (s : Dev) : Dev :=
  if s.rbit Reg.bootHbCtrl 1 then msix 7 ((s.setBit Reg.bootHbCtrl 1 false).setBit Reg.bootHbCtrl 2 err) else s

/-- What the loader drops with an image (R52): staging, the digest and the signature block with it. -/
def Boot.unload (b : Boot) : Boot :=
  { b with loading := 0, image := none, sections := [], ksets := [], limits := [], digest := [], sigBlock := [], signer := [], pulling := false }

/-- The image being loaded is refused: staging is wiped, and the other slot is tried or phase 9 entered. `BOOT.STATUS` has no field for the code of a
host's image (R57), which sets ERR and shows its code nowhere (DESIGN CHOICE, log entry 55). -/
def refuseImage (code : Nat) (s : Dev) : Dev :=
  let slot := s.boot.loading
  let s := { s with boot := s.boot.unload }
  if slot = 3 then waitImage (hostBootEnds true s) else selectSlot 2 (setFail slot code s)

/-! ### Phases 5 and 6 (R49 to R51) -/

/-- The sections of an image in flash order, which is the order of their reading (R46). -/
def flashOrder (h : Header) : List SecEntry := sorted (fun a b => decide (a.off ≤ b.off)) h.entries

/-- A section as the decompressor makes it from the image's octets (R49, R351): of blocks with its TYPE as stream ID, numbered from 0, whose
lengths sum to ULENGTH. A word of it that fails parity on its way in spoils a block (R361). -/
def sectionRead (img : Octets) (parity : Option Nat) (e : SecEntry) : Except FolioFail Octets :=
  if parity = some e.type then .error .crc
  else match folioDecode e.type (octs img e.off e.len) with
    | .error f => .error f
    | .ok o => if o.length = e.ulen then .ok o else .error .length

/-- The sections one after another, up to the first that fails. -/
def sectionsRead (img : Octets) (parity : Option Nat) : List SecEntry → Except FolioFail (List (Nat × Octets))
  | [] => .ok []
  | e :: r => match sectionRead img parity e with
    | .error f => .error f
    | .ok o => match sectionsRead img parity r with
      | .error f => .error f
      | .ok l => .ok (kvSet l e.type o)

/-- The code of R46 for a decompression that failed. -/
def folioBootCode : FolioFail → Nat
  | .crc => 4
  | _ => 5

/-- The body of the image has been read, `img` the image from its header to its signature block: its sections are decompressed into staging and the
digest of R51 is complete, or a block or the tone definitions (R299) refuse it. -/
def bodyRead (h : Header) (img : Octets) (parity : Option Nat) (s : Dev) : Dev :=
  let bad : Bool := match parity with | some ty => h.entries.any (fun e => e.type == ty) | none => false
  let s := if bad then occur 0x3E5 {} s else s
  match sectionsRead img parity (flashOrder h) with
  | .error f => refuseImage (folioBootCode f) (decodeJob (if bad ∧ f = .crc then none else some f) s)
  | .ok l =>
    let s := decodeJob none s
    match kvGet l 6 with
    | some o => if toneSectionOk o then go l s else refuseImage 7 s
    | none => go l s
where
  go (l : List (Nat × Octets)) (s : Dev) : Dev :=
    { s.setPhase 6 with boot := { s.boot with
      sections := l, ksets := (Config.kernelSets ((kvGet l 3).getD [])).take 32, limits := Config.limitRecord ((kvGet l 3).getD []),
      digest := sha384 (octs img 0 h.sigOffset), sigBlock := octs img h.sigOffset 256 } }

/-- The selected image's last octet is read: its octets behind the header that phase 4 read. -/
def imageRead (r : ImageRead) (s : Dev) : Dev :=
  match s.boot.image with
  | some h => if s.phase = 5 ∧ ¬ s.boot.pulling then bodyRead h (h.raw ++ r.octets) r.parity s else s
  | none => s

/-- The signer public key of a signature block (R50). -/
def sigKey (b : Octets) : Octets := octs b 4 97

/-- The signature block verifies over a digest (R50, R51): its magic is that of R50 (DEDUCED that another refuses it, log entry 54), and r and s are
an ECDSA P-384 signature by its key. -/
def sigVerifies (b digest : Octets) : Bool := le b 0 4 == 0x53190384 && ecdsaVerify (sigKey b) digest (be b 104 48) (be b 152 48)

/-- The signature and key-hash checks end (R51). -/
def signatureDone (f : Fuses) (s : Dev) : Dev :=
  let b := s.boot.sigBlock
  if s.phase ≠ 6 then s
  else if ¬ sigVerifies b s.boot.digest ∨ ((s.lc = 1 ∨ s.lc = 2) ∧ sha384 (sigKey b) ≠ f.rootHash) then refuseImage 6 s
  else
    let s := if s.lc = 0 then occur 0x018 {} s else s
    { s.setPhase 7 with boot := { s.boot with signer := sigKey b } }

/-! ### Host boot and boot retry (R57, R480, R518) -/

/-- The boot leaves phase 9: its domains come on again and source 0x017 ends. -/
def leaveWait (p : Nat) (s : Dev) : Dev := bootDomains (faultEnd 0x017 [] (s.setPhase p))

/-- `BOOT.HB_CTRL` is written (R57): GO is accepted in phase 9 alone, with no pull in flight and a reference that can carry a boot (R39). A GO whose HB_SRC_LO is not 4,096-aligned sets ERR and is ignored, and ERR
clears at an accepted GO and at the end of a good host boot (both DESIGN CHOICE, log entry 55). -/
def hostBootGo (v : Word) (s : Dev) : Dev :=
  if ¬ bit v 0 then s
  else if s.phase ≠ 9 ∨ s.rbit Reg.bootHbCtrl 1 ∨ s.rbit Reg.pwrClksel 5 ∨ (s.reg Reg.bootHbSrcLo).toNat % 4096 ≠ 0 then
    s.setBit Reg.bootHbCtrl 2 true
  else
    let s := leaveWait 5 ((s.setBit Reg.bootHbCtrl 1 true).setBit Reg.bootHbCtrl 2 false)
    { s with boot := { s.boot.unload with pulling := true, loading := 3, tried := [1, 2] } }

/-- The pull of a host image ends (R57): refused with HOST_DMA, or checked as a slot's image is, its slot taken to be as large as HB_LEN (DESIGN
CHOICE, log entry 55). -/
def hostPullDone (r : Option ImageRead) (s : Dev) : Dev :=
  if s.phase ≠ 5 ∨ ¬ s.boot.pulling then s
  else
    let s := { s with boot := { s.boot with pulling := false } }
    match r with
    | none => refuseImage 10 (occur 0x0CB {} s)
    | some x =>
      let h := parseHeader x.octets
      let c := headerCode h (s.reg Reg.bootHbLen).toNat s
      let c := if c ≠ 0 then c else tableCode h
      if c ≠ 0 then refuseImage c s else bodyRead h x.octets x.parity { s with boot := { s.boot with image := some h } }

/-- The boot restarts at phase 4 from phase 9 (R480, R518); the storm count clears (R497). -/
def bootRetry (s : Dev) : Dev :=
  let s := leaveWait 4 s
  { (setFail 1 0 (setFail 2 0 s)) with
      boot := { s.boot with tried := [], hdrA := none, hdrB := none, loading := 0 }, flt := { s.flt with storm := 0 } }

/-- `PWR.CLKSEL` is written (R518). -/
def clkselWrite (v : Word) (s : Dev) : Dev :=
  let ref := s.rbit Reg.pwrClksel 0
  if s.phase = 9 ∧ ¬ s.pwr.shutdown ∧ s.rbit (Reg.srcStatus (if ref then 0x002 else 0x001)) 0 then
    let ok := s.rbit Reg.pwrClksel (if bit v 0 then 2 else 1)
    bootRetry (((s.setBit Reg.pwrClksel 0 (bit v 0)).setBit Reg.pwrClksel 3 true).setBit Reg.pwrClksel 5 (!ok))
  else s.bump Reg.pwrOffWr

/-! ### The life-cycle (R59 to R62) -/

/-- The nonce is drawn (R60). -/
def newNonce (s : Dev) : Octets × Dev :=
  let (o, s) := s.drawOctets 16
  (o, { s with boot := { s.boot with nonce := some o } })

/-- A move to `target` is forward, and a transition of R60. -/
def lcMove (f : Fuses) (target : Nat) : Bool :=
  (f.state == 0 && target == 1) || (f.state == 1 && target == 2) || (f.state == 1 && target == 3) || (f.state == 2 && target == 3)

/-- The fuses that a transition blows (R60, R62): `key` is the identity key drawn from the on-die random source, and `a` and `b` tell which of the two
state fuses of the step read back as blown. RETIRED blows every fuse of the identity key. -/
def lcBlow (target : Nat) (root key : Octets) (a b : Bool) (f : Fuses) : Fuses :=
  match target with
  | 1 => { f with rootHash := root, identity := .present, identityKey := key, provA := f.provA || a, provB := f.provB || b }
  | 2 => { f with deplA := f.deplA || a, deplB := f.deplB || b }
  | _ => { f with identity := .destroyed, identityKey := List.replicate 48 0xFF, retdA := f.retdA || a, retdB := f.retdB || b }

/-- What a token signs (R60): the SHA-384 of the serial number, the target state and the nonce. The serial is most significant octet first and the
state one octet (DESIGN CHOICE, log entry 56). -/
def tokenDigest (f : Fuses) (target : Nat) (nonce : Octets) : Octets := sha384 (toBe 16 f.serial.toNat ++ [BitVec.ofNat 8 target] ++ nonce)

/-- The points of the curve with x coordinate `x`. -/
def curvePoints (x : Nat) : List EcPoint :=
  let c := (x * x * x + p384B + 3 * p384P * p384P - 3 * x) % p384P
  let y := powMod p384P c ((p384P + 1) / 4) 384
  if x < p384P ∧ y * y % p384P = c then [⟨x, y, 1⟩, ⟨x, (p384P - y) % p384P, 1⟩] else []

/-- The keys under which (r, s) can be a signature of a digest. -/
def signerKeys (digest : Octets) (r s : Nat) : List Octets :=
  let w := invMod p384N r
  (curvePoints r ++ curvePoints (r + p384N)).map (fun p =>
    ecOctets (ecAdd (ecMul (s * w % p384N) p 384) (ecMul ((p384N - beNat digest % p384N) * w % p384N) p384G 384)))

/-- A token of 96 octets, r and s, is a signature by a key whose hash is fused (R60). -/
def tokenValid (f : Fuses) (target : Nat) (nonce token : Octets) : Bool :=
  let d := tokenDigest f target nonce
  (signerKeys d (be token 0 48) (be token 48 48)).any (fun k => sha384 k == f.rootHash && ecdsaVerify k d (be token 0 48) (be token 48 48))

/-- The identity public key: free while there is no key, as before PROVISIONED and after its destruction. -/
def identityPublic (f : Fuses) : Octets :=
  match f.identity with
  | .present => ecOctets (ecMul (keyScalar f.identityKey) p384G 384)
  | .absent => padTo 97 (Config.identityKey f.serial 0)
  | .destroyed => padTo 97 (Config.identityKey f.serial 2)

/-- How a request for a transition ends. -/
inductive LcEnd where
  | refused
  | mismatch
  | accepted
deriving DecidableEq, Repr

/-- The request is authorised (R60): in BLANK it needs no token, and elsewhere one over the nonce that stands. -/
def lcAuthorised (f : Fuses) (target : Nat) (token : Octets) (s : Dev) : Bool :=
  f.state == 0 || (match s.boot.nonce with | none => false | some n => tokenValid f target n token)

/-- A request for a transition (R60 to R62) with its token; `fuseOk` is the readback. The nonce is used up by a request that carries a token. -/
def lcRequest (target : Nat) (root token : Octets) (fuseOk : Bool) (s : State) : LcEnd × State :=
  let ok : Bool := lcMove s.fuses target && lcAuthorised s.fuses target token s.dev
  let d := if s.fuses.state ≠ 0 then { s.dev with boot := { s.dev.boot with nonce := none } } else s.dev
  if ¬ ok then (.refused, { s with dev := occur 0x019 {} d })
  else
    let (key, d) := if target = 1 then d.drawOctets 48 else ([], d)
    if fuseOk then (.accepted, { s with dev := d, fuses := lcBlow target root key true true s.fuses })
    else
      let (n, d) := d.drawBelow 4
      (.mismatch, { s with dev := occur 0x01A {} d, fuses := lcBlow target root key (n.testBit 0) (n.testBit 1) s.fuses })

end Sys2Proof.Machine
end

