-- ==== Sys2Proof/Machine/Faults.lean ====
section
/-! DEFINITION. The fault collector's own operations (R485 to R504, R574): injection, the lock, the error pair, traps, the last-gasp record
and the fault reset. -/

namespace Sys2Proof.Machine

/-! ### Injection, CLEAR and LOCK (R496, R502, R510) -/

/-- `FLT.SRC[s].CTRL.FORCE` is written: the injection takes effect in the next cycle, where FORCE_EN lets it; a source that is not produced
ignores the write. -/
def forceSource (src : Nat) (s : Dev) : Dev :=
  if (sourceMask src).isNone then s
  else if s.rbit Reg.fltCfg 2 then { s with flt := { s.flt with forced := s.flt.forced.filter (· != src) ++ [src] } }
  else s.bump Reg.fltForceRefused

/-- `FLT.SRC[s].STATUS.CLEAR` is written: COUNT, FIRST and LAST are zero. -/
def clearSource (src : Nat) (s : Dev) : Dev :=
  let z (s : Dev) (a : Nat) : Dev := s.setNat a 0
  [Reg.srcFirstNs src, Reg.srcFirstSecLo src, Reg.srcFirstSecHi src, Reg.srcLastNs src, Reg.srcLastSecLo src, Reg.srcLastSecHi src].foldl z
    (s.setFld (Reg.srcStatus src) 8 8 0)

/-- `FLT.CFG.LOCK` is set. -/
def lockMasks (s : Dev) : Dev := s.setBit Reg.fltCfg 3 true

/-! ### The error pair (R498 to R501) -/

/-- Cycles of 500 MHz in 10 ms. -/
def kickHold : Nat := usCycles 10000

/-- The pair alternates: heartbeat mode, no latched fault, and a kick within the last 10 ms (R500). -/
def heartbeatRuns (s : Dev) : Bool :=
  s.rbit Reg.fltCfg 1 && !s.rbit Reg.fltStatus 0 && (match s.flt.kickAt with | none => false | some t => decide (s.cycles ≤ t + kickHold))

/-- `FLT.STATUS.HB_RUNNING` shows whether the pair alternates. -/
def pairShow (s : Dev) : Dev := s.setBit Reg.fltStatus 1 (heartbeatRuns s)

/-- `FLT.PAIR_CLEAR` is written (R499): ignored while a source whose mask holds PAIR is live. -/
def pairClear (s : Dev) : Dev :=
  if (upTo 1024).any (fun n => s.rbit (Reg.srcStatus n) 0 && (maskOf s n).testBit 4) then s
  else if s.rbit Reg.fltStatus 0 then pairDrive true { s.setBit Reg.fltStatus 0 false with flt := { s.flt with pairFlip := false } }
  else s

/-- `FLT.HB_KICK` is written (R500). -/
def pairKick (s : Dev) : Dev := pairShow { s with flt := { s.flt with kickAt := some s.cycles } }

/-- A half of the heartbeat ends (R500): the pair flips, or holds 1/0 when no kick came within 10 ms. -/
def pairHalf (s : Dev) : Dev :=
  if s.phase = 0 ∨ ¬ s.rbit Reg.fltCfg 1 ∨ s.rbit Reg.fltStatus 0 then s
  else
    let flip : Bool := heartbeatRuns s && !s.flt.pairFlip
    pairShow (pairDrive (!flip) { s with flt := { s.flt with pairFlip := flip } })

/-- A readback mismatch of 4 cycles of the 32.768 kHz clock (R501): the pins are released until a power-on reset. -/
def pairMismatch (s : Dev) : Dev :=
  if s.phase = 0 ∨ s.rbit Reg.fltStatus 2 then s else occur 0x011 {} (s.setBit Reg.fltStatus 2 true)

/-! ### Traps, the watchdog and the control SRAM (R487, R495, R506) -/

/-- Bits of `FLT.TRAP_PEND[k]` that have cleared are timed no longer (R495). -/
def trapForget (s : Dev) : Dev :=
  { s with flt := { s.flt with trapSince := s.flt.trapSince.filter (fun p => s.rbit (Reg.fltTrapPend (p.1 / 32)) (p.1 % 32)) } }

/-- A trap bit has stayed set for 1 ms (R495): once for each time it is set, and never for source 0x0C3's own bit. -/
def trapLate (src : Nat) (s : Dev) : Dev :=
  match kvGet s.flt.trapSince src with
  | none => s
  | some t =>
    if src = 0x0C3 ∨ ¬ s.domainOn 25 then s
    else
      let s := s.elapseTo (t + usCycles 1000)
      occur 0x0C3 {} { s with flt := { s.flt with trapSince := kvDel s.flt.trapSince src } }

/-- The firmware watchdog expires (R487), where it is armed (R553). -/
def firmwareWatchdog (s : Dev) : Dev := if s.domainOn 25 ∧ s.rbit Reg.ctlStatus 1 then occur 0x0C0 {} s else s

/-- A line of control SRAM fails parity (R506): rewritten from the other copy, or lost. -/
def controlParity (repaired : Bool) (s : Dev) : Dev :=
  if ¬ s.domainOn 25 ∨ ¬ s.rbit Reg.ctlStatus 0 then s
  else if repaired then occur 0x0C1 {} (s.bump Reg.ctlSramRepair)
  else occur 0x0C2 {} (s.setBit Reg.ctlStatus 2 false)

/-! ### The last-gasp record (R503) -/

/-- The produced sources that are live, lowest first. -/
def liveSources (s : Dev) : List Nat := (upTo 1024).filter (fun n => s.rbit (Reg.srcStatus n) 0)

/-- The SOURCE of the record that is held, or 0xFFFF. -/
def gaspPrev (s : Dev) : Nat := if s.rbit Reg.fltStatus 3 then le s.flt.gasp 8 2 else 0xFFFF

/-- The last-gasp record but for its CRC. -/
def gaspBody (kind src resets : Nat) (s : Dev) : Octets :=
  let t := s.now
  let live := liveSources s
  toLe 4 0x4C415354 ++ toLe 2 1 ++ toLe 1 kind ++ toLe 1 resets ++ toLe 2 (s.hid * 0x1000 + src) ++ toLe 2 0 ++ toLe 4 t.ns ++ toLe 6 t.sec ++
    toLe 1 (t.tepoch % 256) ++ toLe 1 0 ++ toLe 4 (s.reg Reg.bootVersion).toNat ++ toLe 1 s.phase ++ toLe 1 s.lc ++ toLe 2 0 ++
    toLe 4 (s.reg Reg.pwrDomainOn).toNat ++ toLe 4 (s.reg Reg.pwrDomainFail).toNat ++ toLe 2 (s.rfld Reg.pwrAvsTarget 0 16 / 10) ++
    toLe 2 (s.rfld Reg.pwrThermMax 0 16) ++ toLe 4 (s.reg Reg.gduClState).toNat ++ toLe 2 live.length ++ toLe 2 (gaspPrev s) ++ zeros 12 ++
    ((live.take 64).map (toLe 2)).flatten ++ List.replicate (2 * (64 - min 64 live.length)) 0xFF ++ zeros 60

/-- The last-gasp record is written, and shows in `FLT.LG`. -/
def gaspWrite (kind src : Nat) (s : Dev) : Dev :=
  let resets := sat 8 (s.rfld Reg.fltStatus 8 8 + 1)
  let b := gaspBody kind src resets s
  let o := b ++ toLe 4 (crc32c b)
  let s := (s.setFld Reg.fltStatus 8 8 resets).setBit Reg.fltStatus 3 true
  let s := (upTo 64).foldl (fun s w => s.setNat (Reg.fltLg w) (le o (4 * w) 4)) s
  { s with flt := { s.flt with gasp := o } }

/-! ### The fault reset (R34, R492, R497) -/

/-- The storm count at a fault reset (R497), on the clock that runs through it. -/
def stormCount (s : Dev) : Dev :=
  let near : Bool := match s.flt.lastFaultReset with | none => false | some t => decide (s.cycles < t + usCycles 10000000)
  { s with flt := { s.flt with storm := if near then s.flt.storm + 1 else 1, lastFaultReset := some s.cycles } }

/-- A fault reset that `src` caused: the record first, then the reset. -/
def faultReset (src : Nat) (f : Fuses) (s : Dev) : Dev := warmReset 2 f (stormCount (gaspWrite 0 src s))

end Sys2Proof.Machine
end

