-- ==== Sys2Proof/Machine/Power.lean ====
section
/-! DEFINITION. The power manager's loops (R516 to R529): reference checks, droop slowing, adaptive voltage, telemetry, temperatures,
throttling and the thermal shutdown. -/

namespace Sys2Proof.Machine

/-! ### Clocks (R516, R517) -/

/-- The AON fast oscillator stops after 1 ms without work (R516). -/
def fastOscStop (s : Dev) : Dev :=
  match s.pwr.fastOsc with
  | none => s
  | some t =>
    let s := s.elapseTo (t + usCycles 1000)
    { s with pwr := { s.pwr with fastOsc := none } }

/-- Both references have been counted against the internal oscillator (R517). -/
def referenceCheck (aOk bOk : Bool) (s : Dev) : Dev := if s.boot.porstLow then s else referenceIs true bOk (referenceIs false aOk s)

/-- The core PLL loses lock to its reference (R517). -/
def pllLost (s : Dev) : Dev :=
  if s.boot.porstLow ∨ ¬ s.rbit Reg.pwrClksel 3 ∨ s.rbit Reg.pwrClksel 5 then s else occur 0x003 {} (s.setBit Reg.pwrClksel 3 false)

/-- A rail leaves its window (R525): 0 VDD_CORE, 1 VDD_SRAM, 2 VDD_AON, 3 SerDes analogue. -/
def windowExit (rail : Nat) (s : Dev) : Dev := if s.boot.porstLow then s else occur (0x008 + rail) {} s

/-! ### Droop slowing (R521, R522) -/

/-- The domain of a droop sensor (R521). -/
def droopDomain (sensor : Nat) : Nat :=
  if sensor < 64 then 1 + sensor / 4 else [17, 17, 18, 18, 19, 25, 25, 28].getD (sensor - 64) 17

/-- HALVED of `PWR.CL_CLK` shows whether cluster `n`'s clock is halved, by droop or by want of slack (R524, R531). -/
def halvedShow (n : Nat) (s : Dev) : Dev :=
  s.setBit (Reg.pwrClClk n) 8 (s.clState n != 0 && ((kvGet s.pwr.halted (1 + n)).isSome || s.pwr.slackLow.contains n))

/-- HALVED follows for a domain, where it is a cluster's. -/
def halvedDomain (d : Nat) (s : Dev) : Dev := if 1 ≤ d ∧ d ≤ 16 then halvedShow (d - 1) s else s

/-- A droop sensor fires (R521, R529): the domain's clock halves, and the hold starts anew. -/
def droopFire (sensor : Nat) (s : Dev) : Dev :=
  let d := droopDomain sensor
  if ¬ s.domainOn d then s
  else
    let s := s.bump (if sensor < 64 then Reg.pwrClDroop (sensor / 4) else Reg.pwrDroopOther)
    let hold := 5 * profByte s 2
    halvedDomain d { s with pwr := { s.pwr with
      firings := kvSet s.pwr.firings d ((kvGet s.pwr.firings d).getD 0 + 1), droopAt := some s.cycles,
      halted := kvSet s.pwr.halted d (s.cycles + hold) } }

/-- DROOP_HOLD has passed since the domain's last firing (R521). -/
def droopEnd (d : Nat) (s : Dev) : Dev :=
  match kvGet s.pwr.halted d with
  | none => s
  | some t =>
    let s := s.elapseTo t
    halvedDomain d { s with pwr := { s.pwr with halted := kvDel s.pwr.halted d } }

/-- At a tick, each domain whose sensors fired DROOP_REPEAT times or more since the last one makes an occurrence, and the device one AVS
request (R522). Before the first tick there is no interval to count. -/
def droopRepeat (first : Bool) (s : Dev) : Dev :=
  let l := if first then [] else s.pwr.firings.filter (fun p => decide (profByte s 3 ≤ p.2))
  let s := l.foldl (fun s p => occur (if p.1 ≤ 16 then 0x205 + 16 * (p.1 - 1) else 0x026) {} s) s
  { s with pwr := { s.pwr with firings := [], droopReq := s.pwr.droopReq || !l.isEmpty } }

/-! ### Adaptive voltage and telemetry (R523 to R525) -/

/-- The slacks of the clusters that vote: those that are ON (R523). -/
def slackVotes (slack : List Int) (s : Dev) : List (Nat × Int) :=
  (upTo 16).filterMap (fun n => if s.clState n = 3 then (slack[n]?).map (fun x => (n, x)) else none)

/-- The least of a list of numbers. -/
def leastInt : List Int → Option Int
  | [] => none
  | a :: r => some (r.foldl min a)

/-- Clusters without timing slack run halved until their slack returns above SLACK_LOW (R524). -/
def slackHalving (votes : List (Nat × Int)) (s : Dev) : Dev :=
  let low : List Nat := (upTo 16).filter (fun n =>
    s.clState n != 0 &&
      (match votes.find? (fun p => p.1 == n) with
        | none => s.pwr.slackLow.contains n
        | some p => decide (p.2 < 0) || (s.pwr.slackLow.contains n && decide (p.2 ≤ (profByte s 8 : Int)))))
  (upTo 16).foldl (fun s n => halvedShow n s) { s with pwr := { s.pwr with slackLow := low } }

/-- The step that a run of the loop asks for, in 0.1 mV (R523): a droop request before the slack rules. -/
def avsStep (votes : List (Nat × Int)) (s : Dev) : Int :=
  if s.pwr.droopReq then 100
  else match leastInt (votes.map (·.2)) with
    | none => 0
    | some m =>
      let quiet : Bool := match s.pwr.droopAt with | none => true | some t => decide (t + usCycles 100000 ≤ s.cycles)
      if m < (profByte s 8 : Int) then 25 else if (profByte s 9 : Int) < m ∧ quiet then -25 else 0

/-- The target moves by a step, within AVS_MIN to AVS_MAX; a step that the limit stops is source 0x025, once per second (R523). -/
def avsMove (step : Int) (s : Dev) : Dev :=
  let old := s.rfld Reg.pwrAvsTarget 0 16
  let want : Int := (old : Int) + step
  let new := (max (10 * profWord s 4 : Int) (min (10 * profWord s 6 : Int) want)).toNat
  let s := if new = old then s else (s.setFld Reg.pwrAvsTarget 0 16 new).bump Reg.pwrAvsSteps
  let s := { s with pwr := { s.pwr with droopReq := false } }
  if step ≠ 0 ∧ (new : Int) ≠ want then oncePerSec 0x025 s else s

/-- One run of the AVS loop (R523, R524). A transaction that the regulator does not answer moves nothing; the third in a row is source 0x00C
and freezes the target. -/
def avsRun (slack : List Int) (answered : Bool) (s : Dev) : Dev :=
  if s.boot.porstLow ∨ s.pwr.shutdown then s
  else
    let votes := slackVotes slack s
    let s := slackHalving votes (fastOscRun s)
    if ¬ answered then
      let n := s.pwr.avsMiss + 1
      let s := { s with pwr := { s.pwr with avsMiss := n, frozen := s.pwr.frozen || decide (3 ≤ n) } }
      if n = 3 then occur 0x00C {} s else s
    else
      let s := { s with pwr := { s.pwr with avsMiss := 0 } }
      if s.pwr.frozen ∨ ¬ s.rbit Reg.pwrAvsCtrl 0 then s else avsMove (avsStep votes s) s

/-- PMBus telemetry (R525): three reads in a row without an answer are source 0x00D, and the registers read 0xFFFF. -/
def telemetry (core : Option (Nat × Nat)) (s : Dev) : Dev :=
  if s.boot.porstLow then s
  else match core with
    | some (v, i) =>
      let s := { s with pwr := { s.pwr with pmbMiss := 0 } }
      (s.setFld Reg.pwrVcoreMeas 0 16 (sat 16 v)).setFld Reg.pwrIcoreMeas 0 16 (sat 16 i)
    | none =>
      let n := s.pwr.pmbMiss + 1
      let s := { s with pwr := { s.pwr with pmbMiss := n } }
      if n < 3 then s
      else
        let s := (s.setFld Reg.pwrVcoreMeas 0 16 0xFFFF).setFld Reg.pwrIcoreMeas 0 16 0xFFFF
        if n = 3 then occur 0x00D {} s else s

/-! ### Temperature (R526 to R528) -/

/-- The domain that temperature sensor `i` lies in. -/
def tempDomain (i : Nat) : Nat := if i < 16 then 1 + i else [17, 18, 25, 0].getD (i - 16) 0

/-- Sensor `i`'s reading in 0.1 °C, as its register shows it. -/
def tempOf (s : Dev) (i : Nat) : Int := signed 16 (s.rfld (Reg.pwrTemp i) 0 16)

/-- Sensor `i` is excluded. -/
def tempOut (s : Dev) (i : Nat) : Bool := s.rbit (Reg.pwrTemp i) 31

/-- The powered sensors. -/
def powered (s : Dev) : List Nat := (upTo 20).filter (fun i => s.domainOn (tempDomain i))

/-- Sensor `i` reads more than 15 °C from every other powered sensor. -/
def tempStrange (s : Dev) (i : Nat) : Bool :=
  let l := (powered s).filter (· != i)
  !l.isEmpty && l.all (fun j => decide (150 < (tempOf s i - tempOf s j).natAbs))

/-- Sensor `i` is judged (R526): outside its range, or strange for 1 s, it is excluded until a chip reset. -/
def tempJudge (i : Nat) (s : Dev) : Dev :=
  if tempOut s i then s
  else
    let odd := tempStrange s i
    let since := if odd then (match kvGet s.pwr.strange i with | none => some s.cycles | some t => some t) else none
    let s := { s with pwr := { s.pwr with strange := match since with | none => kvDel s.pwr.strange i | some t => kvSet s.pwr.strange i t } }
    let long : Bool := match since with | none => false | some t => decide (t + usCycles 1000000 ≤ s.cycles)
    if tempOf s i < -550 ∨ 1500 < tempOf s i ∨ long then
      occur 0x022 {} { s.setBit (Reg.pwrTemp i) 31 true with pwr := { s.pwr with strange := kvDel s.pwr.strange i } }
    else s

/-- The readings that count: of powered sensors that are not excluded. -/
def tempCounts (s : Dev) : List Int := ((powered s).filter (fun i => !tempOut s i)).map (tempOf s)

/-- The thermal shutdown (R503, R528): the record with KIND 1, the error pair, and every domain but AON off. It prevails over a fault reset
of the same cycle (R529). -/
def shutdown (s : Dev) : Dev :=
  let s := gaspWrite 1 0x021 (occur 0x021 {} s)
  let s := pairLatch s
  let s := (upTo 16).foldl (fun s n => if s.rbit Reg.pwrDomainOn (1 + n) then clusterOff n s else s) s
  let s := ((upTo 13).map (17 + ·)).foldl (fun s d => domainDown d s) s
  { s with pwr := { s.pwr with shutdown := true, waking := [], held := [] }, flt := { s.flt with chip := none } }

/-- The sensors are read (R526). -/
def temperatureRead (readings : List Int) (s : Dev) : Dev :=
  if s.boot.porstLow then s
  else
    let s := (upTo 20).foldl (fun s i =>
      s.setFld (Reg.pwrTemp i) 0 16 (if s.domainOn (tempDomain i) then satInt 16 (readings.getD i 0) else 0x8000)) s
    let s := { s with pwr := { s.pwr with strange := s.pwr.strange.filter (fun p => (powered s).contains p.1) } }
    let s := (powered s).foldl (fun s i => tempJudge i s) s
    let l := tempCounts s
    let s := s.setFld Reg.pwrThermMax 0 16 (match l with | [] => 0x8000 | a :: r => satInt 16 (r.foldl max a))
    let s := if (upTo 16).any (fun n => s.rbit (Reg.pwrClClk n) 9) then s.bump Reg.pwrThrottleMs else s
    if l.any (fun v => decide (1150 ≤ v)) ∧ ¬ s.pwr.shutdown then shutdown s else s

/-- The temperature that throttling takes for cluster `n` (R527). -/
def clusterTemp (s : Dev) (n : Nat) : Int := if tempOut s n then signed 16 (s.rfld Reg.pwrThermMax 0 16) else tempOf s n

/-- A counting sensor of FAB, MPE or CTL reads THROTTLE_T or more: every cluster throttles (R527). -/
def chipHot (s : Dev) : Bool := [16, 17, 18].any (fun i => !tempOut s i && decide ((profWord s 10 : Int) ≤ tempOf s i))

/-- Every 10 ms the clusters at THROTTLE_T or more lower their clock (R527). -/
def throttleDown (s : Dev) : Dev :=
  let hot := chipHot s
  throttleLive ((upTo 16).foldl (fun s n =>
    let f := s.rfld (Reg.pwrClClk n) 0 6
    if f = 0 ∨ f ≤ profByte s 12 then s
    else if hot ∨ (profWord s 10 : Int) ≤ clusterTemp s n then setClFreq n (f - 1) s
    else s) s)

/-- Every 100 ms the clusters below THROTTLE_T less 3 °C raise their clock (R527); none while the chip's own sensors throttle every one. -/
def throttleUp (s : Dev) : Dev :=
  let hot := chipHot s
  throttleLive ((upTo 16).foldl (fun s n =>
    let f := s.rfld (Reg.pwrClClk n) 0 6
    if f = 0 ∨ profClFreq s ≤ f then s
    else if ¬ hot ∧ clusterTemp s n < (profWord s 10 : Int) - 30 then setClFreq n (f + 1) s
    else s) s)

end Sys2Proof.Machine
end

