-- ==== Sys2Proof/Machine/Hierarchy.lean ====
section
/-! DEFINITION. The hierarchy: lanes, bring-up and heartbeats (R429 to R440), received frames (R423 to R425, R432 to R434, R442 to R448), the
takeovers and their returns (R449 to R460), and time frames (R423). -/

namespace Sys2Proof.Machine

/-! ### The plan and the lanes (R429, R430) -/

/-- The HID that the plan puts at the far end of lane L(8 + k) (R429). -/
def laneHid (s : Dev) (k : Nat) : Option Nat :=
  match s.ron.plan with
  | none => none
  | some p =>
    if s.role = 1 then (if k ≠ s.hid ∧ p.devs.any (fun d => d.hid == k) then some k else none)
    else if 2 ≤ s.role then
      let ms := (p.devs.filter (fun d => d.role == 1)).map (·.hid)
      let low := leastOr 16 ms
      if k = 0 then (if ms.isEmpty then none else some low) else if k = 1 then ms.find? (· != low) else none
    else none

/-- Lane L(8 + k) may leave OFF: the plan names it and agrees with the straps, and Ronong is enabled. -/
def laneWanted (s : Dev) (k : Nat) : Bool := (laneHid s k).isSome && !s.ron.planBad && s.rbit Reg.ronCfg 0

/-- A lane's STATE is written. -/
def setRon (k v : Nat) (s : Dev) : Dev := s.setFld (Reg.ronLaneStatus k) 0 3 v

/-- A lane whose EN is set enters CALIB (R436). -/
def ronLaneOn (k : Nat) (s : Dev) : Dev :=
  if ronState s k = 0 ∧ laneWanted s k ∧ s.rbit (Reg.sdsCfg (8 + k)) 0 then setRon k 1 s else s

/-- `SDSm.CFG.EN` of any lane is written (R370, R436). -/
def laneEnWrite (m : Nat) (en : Bool) (s : Dev) : Dev :=
  let s := sdsEnWrite m en s
  if m < 8 then s else if en then ronLaneOn (m - 8) s else ronLaneOff (m - 8) s

/-- `RON.CFG` is written: without EN every lane is OFF. -/
def ronCfgWrite (v : Word) (s : Dev) : Dev :=
  let s := s.setNat Reg.ronCfg (v.toNat % 8)
  (upTo 16).foldl (fun s k => if bit v 0 then ronLaneOn k s else ronLaneOff k s) s

/-- RES_STATE of `RON.STATUS` (R449): 1 SYNCING, 2 READY, 3 SERVING, 4 HANDING_BACK. -/
def resState (s : Dev) : Nat := s.rfld Reg.ronStatus 4 3

/-- RES_STATE and the serving HID are written. -/
def setRes (v hid : Nat) (s : Dev) : Dev := (s.setFld Reg.ronStatus 4 3 v).setFld Reg.ronStatus 8 4 hid

/-- The hierarchy plan section reaches firmware (R430): a device without a plan is not active and leaves its lanes off; one whose role the plan
does not give keeps them out of UP. -/
def planLoad (o : Octets) (s : Dev) : Dev :=
  if s.standalone then s
  else if o.isEmpty then occur 0x3A7 {} s
  else
    let devs := (Config.planDevices o).map (fun d => (⟨d.1 % 16, d.2.1 % 4, d.2.2⟩ : PlanDev))
    let act := Config.planActive o % 16
    let bad : Bool := !devs.any (fun d => d.hid == s.hid && d.role == s.role)
    let me := s.role == 1 && act == s.hid && !bad
    let s := { s with ron := { s.ron with plan := some ⟨devs, act⟩, planBad := bad, active := me, activeHid := act } }
    let s := if bad then occur 0x3A7 {} s else s
    let s := if s.role = 1 then s.setFld Reg.ronStatus 2 2 (if me then 1 else 2) else if s.role = 3 then setRes 1 0 s else s
    let s := if me then s else setServo 5 [] s
    (upTo 16).foldl (fun s k => ronLaneOn k s) s

/-! ### Bring-up (R436, R437, R542) -/

/-- Loop calibration is done: within CAL_MAX the lane trains with its partner, else TEST_RESULT is recorded and CALIB repeats. -/
def calibDone (k : Nat) (residual : Int) (s : Dev) : Dev :=
  if ronState s k ≠ 1 ∨ (s.rl k).calBad then s
  else
    let s := s.setNat (Reg.ronLaneCal k) (satInt 32 residual)
    if residual.natAbs ≤ calMax s then laneWait (8 + k) (setRon k 2 s)
    else
      note (laneSource (8 + k)) 0x0900 none ([1, 1] ++ toLe 2 0x20) (s.setRl k { s.rl k with calBad := true, downAt := s.cycles })

/-- One second after a CALIB that exceeded CAL_MAX, it repeats. -/
def calibRepeat (k : Nat) (s : Dev) : Dev :=
  if ronState s k = 1 ∧ (s.rl k).calBad then
    let s := s.elapseTo ((s.rl k).downAt + usCycles 1000000)
    s.setRl k { s.rl k with calBad := false }
  else s

/-- The device can send a HELLO that its partner accepts (R439): in BLANK it has no identity key. -/
def helloCan (s : Dev) : Bool := !s.rbit Reg.ronCfg 1 || s.boot.identity.isSome

/-- Octets of a HELLO's contents (R436, R439): the HID and the plan digest, and for a key agreement the public key and the certificate. Their order is the
model's (DESIGN CHOICE, log entry 74). -/
def helloLen (enc : Bool) : Nat := if enc then 402 else 49

/-- The contents of this side's HELLO for an ECDH secret. -/
def helloContents (secret : Nat) (s : Dev) : Octets :=
  let o := [BitVec.ofNat 8 s.hid] ++ sha384 (sectionOf s 9)
  if ¬ s.rbit Reg.ronCfg 1 then o
  else o ++ ecOctets (ecMul secret p384G 384) ++ padTo 256 (Config.planCert (sectionOf s 9) s.hid)

/-- A fresh ECDH key for lane `k`, and the contents that carry it. -/
def helloFresh (k : Nat) (s : Dev) : Dev :=
  let (o, s) := if s.rbit Reg.ronCfg 1 then s.drawOctets 48 else ([], s)
  let d := if s.rbit Reg.ronCfg 1 then keyScalar o else 0
  s.setRl k { s.rl k with secret := d, mine := helloContents d s, theirs := [], helloSent := false }

/-- A HELLO is sent (R439): its contents, and for a key agreement the signature over this side's contents and the partner's, as far as those are known. -/
def helloSend (k : Nat) (s : Dev) : Dev :=
  if ¬ helloCan s then s
  else
    let l := s.rl k
    let s := s.setRl k { l with helloSent := true }
    if ¬ s.rbit Reg.ronCfg 1 then ronSend k 1 2 0 l.mine s
    else
      let (n, s) := s.drawOctets 48
      ronSend k 1 2 0 (l.mine ++ ecdsaSign (keyScalar (s.boot.identity.getD [])) (keyScalar n) (sha384 (l.mine ++ l.theirs))) s

/-- A lane whose training has ended goes to HELLO (R436). -/
def ronTrained (k : Nat) (s : Dev) : Dev :=
  if ronState s k = 2 ∧ trainState s (8 + k) = 4 then
    let s := (setRon k 3 s).setFld (Reg.ronLaneStatus k) 8 4 ((laneHid s k).getD 0)
    helloSend k (helloFresh k s)
  else s

/-- Source 0x3A3 is live while any detour stands (R448). -/
def detourLive (s : Dev) : Dev := follow 0x3A3 ((upTo 16).any (fun h => s.rbit (Reg.ronAlias h) 8)) {} s

/-- Octets of a TAKEOVER frame (R433). -/
def takeoverOctets (hid kind tick : Nat) : Octets := [BitVec.ofNat 8 hid, BitVec.ofNat 8 kind] ++ toBe 6 tick

/-- The lane enters UP (R436): a detour to the partner ends, and a device whose channels are served elsewhere is fenced (R448, R460). -/
def ronUp (k : Nat) (s : Dev) : Dev :=
  let h := ronPartner s k
  let s := (setRon k 4 s).setBit (Reg.ronLaneStatus k) 3 (s.rbit Reg.ronCfg 1)
  let limits := (upTo 8).map (fun v => s.rfld (Reg.ronCredit v) 0 13)
  let s := s.setRl k { s.rl k with heardAt := some s.cycles, lost := false, badRun := 0, limits := limits }
  let s := detourLive (s.setBit (Reg.ronAlias h) 8 false)
  let s := ronDrain k s
  if s.activeManager ∧ s.rfld (Reg.ronAlias h) 0 4 ≠ h then ronSend k 1 6 0 (takeoverOctets h 2 0) s else s

/-- The lane leaves UP or HELLO for DOWN (R436); a worker or the reserve has lost its Ledger link (R95). `tell` is whether the lane's source
has yet to be recorded. -/
def ronDown (k : Nat) (tell : Bool) (s : Dev) : Dev :=
  let up := ronState s k == 4
  let l := s.rl k
  let s := ((setRon k 5 s).setBit (Reg.ronLaneStatus k) 3 false).setBit (Reg.ronLaneStatus k) 4 false
  let s := s.setRl k { l with helloSent := false, badRun := 0, downAt := s.cycles, queue := [], keys := none, oldKeys := none, phaseAt := none }
  let s := if tell then occur (laneSource (8 + k)) {} s else s
  if up ∧ 2 ≤ s.role then occur 0x0B3 {} s else s

/-- After 1 ms in DOWN the lane returns to TRAIN. -/
def laneDownEnd (k : Nat) (s : Dev) : Dev :=
  if ronState s k = 5 then laneWait (8 + k) (setRon k 2 (s.elapseTo ((s.rl k).downAt + usCycles 1000))) else s

/-- Signal is lost on a lane (R370, R436). -/
def laneSignalLost (m : Nat) (s : Dev) : Dev :=
  let s := signalLost m s
  if m < 8 then s
  else
    let k := m - 8
    if ronState s k = 4 then ronDown k false s
    else if ronState s k = 3 then (setRon k 2 s).setRl k { s.rl k with downAt := s.cycles }
    else s

/-- Signal is detected on a lane, and one that does not train is trained. -/
def laneSignal (m : Nat) (s : Dev) : Dev :=
  let s := signalDetect m s
  if m < 8 then s else ronTrained (m - 8) s

/-- Training of a lane completes. -/
def laneTrained (m : Nat) (r : TrainOut) (s : Dev) : Dev :=
  let s := trainingComplete m r s
  if m < 8 then s else ronTrained (m - 8) s

/-- A refused lane tries again every second (R439). -/
def helloRetry (k : Nat) (s : Dev) : Dev := if ronState s k = 3 then helloSend k s else s

/-! ### Receiving (R432, R433, R435) -/

/-- A frame is dropped (R432, R433, R440). -/
def frameDrop (k : Nat) (why : RonDrop) (s : Dev) : Dev :=
  if ronState s k ≠ 3 ∧ ronState s k ≠ 4 then s
  else
    let l := s.rl k
    match why with
    | .tag =>
      if ¬ s.rbit (Reg.ronLaneStatus k) 3 then s
      else
        let s := (s.bump (Reg.ronLaneAuthFail k)).setRl k { l with badRun := 0 }
        let (first, s) := s.oncePer 0x3A5 s.now.sec
        if first then occur 0x3A5 {} s else s
    | .crc =>
      let s := ((s.bump (Reg.ronLaneCrcErr k)).bump (Reg.ronLaneDrop k)).setRl k { l with badRun := l.badRun + 1 }
      if 64 ≤ l.badRun + 1 ∧ ronState s k = 4 then ronDown k true s else s
    | .clear => if ronState s k = 4 ∧ s.rbit Reg.ronCfg 1 then (s.bump (Reg.ronLaneDrop k)).setRl k { l with badRun := 0 } else s
    | _ => (s.bump (Reg.ronLaneDrop k)).setRl k { l with badRun := 0 }

/-- The receiver holds keys for a frame's KEY_PHASE (R440): the present one, and for 1 ms after a change the one before. -/
def phaseOk (s : Dev) (k : Nat) (phase : Bool) : Bool :=
  let l := s.rl k
  if phase = s.rbit (Reg.ronLaneStatus k) 4 then l.keys.isSome
  else l.oldKeys.isSome && (match l.phaseAt with | some t => decide (s.cycles < t + usCycles 1000) | none => false)

/-- A frame that arrives, deciphered where it came enciphered (R432, R440): in UP every frame, in HELLO only HELLO and HEARTBEAT. `act` is what it does here; a frame for another device is
relayed by the standby on its own lane (R448), or dropped. -/
def ronTake (k : Nat) (hd : RonHdr) (vl type aux : Nat) (payload : Octets) (act : Dev → Dev) (s : Dev) : Dev :=
  let st := ronState s k
  if ¬ (st = 4 ∨ (st = 3 ∧ vl = 1 ∧ type ≤ 2)) then s
  else if st = 4 ∧ s.rbit Reg.ronCfg 1 ∧ ¬ hd.enc then frameDrop k .clear s
  else if st = 4 ∧ hd.enc ∧ ¬ phaseOk s k hd.phase then frameDrop k .tag s
  else if hd.length < 20 ∨ 2048 < hd.length then frameDrop k .length s
  else
    let l := s.rl k
    let fits := planFits s k vl
    let s := (s.setRl k { l with seen := l.seen.set vl ((hd.seq + cellsOf hd.length) % 2 ^ 32), badRun := 0 }).bump64 (Reg.ronLaneRxFrames k)
    if hd.dst.val = s.hid then (if fits then act s else s)
    else match (if s.role = 1 ∧ ¬ s.ron.active then directLane s hd.dst.val else none) with
      | some j => if j = k then s.bump (Reg.ronLaneDrop k) else ronPut j vl type hd.dst.val aux payload s
      | none => s.bump (Reg.ronLaneDrop k)

/-- An acknowledgement of a frame leaves (R433). -/
def ackSend (hd : RonHdr) (type : Nat) (s : Dev) : Dev := ronSendTo hd.src.val 1 7 0 ([BitVec.ofNat 8 type] ++ toBe 4 (hd.seq % 2 ^ 32)) s

/-- An ACK arrives: what waited for it waits no longer. -/
def ackTake (hd : RonHdr) (type seq : Nat) (s : Dev) : Dev :=
  let h := hd.src.val
  if ¬ s.ron.acks.contains ⟨h, type, seq⟩ then s
  else
    let s := { s with ron := { s.ron with acks := s.ron.acks.filter (fun a => !(a.hid == h && a.type == type)) } }
    if type = 5 then epochAcked h s
    else if type = 3 then s.modTime (fun t => { t with corrWait := t.corrWait.filter (· != h) })
    else s

/-- A Ronong certificate verifies under the key that signed the image in service, and its serial and HID match the plan (R439). -/
def certOk (s : Dev) (h : Nat) (cert : Octets) : Bool :=
  ecdsaVerify s.boot.signer (sha384 (cert.take 160)) (be cert 160 48) (be cert 208 48) && oct cert 16 == h &&
    (match s.ron.plan with | some p => p.devs.any (fun d => d.hid == h && be cert 0 16 == d.serial.toNat) | none => false)

/-- The signature of a partner's HELLO verifies under the key of its certificate over its contents and `with_`. -/
def helloSigned (o with_ : Octets) : Bool :=
  ecdsaVerify (octs o 166 97) (sha384 (o.take 402 ++ with_)) (be o 402 48) (be o 450 48)

/-- The keys that both sides derive (R439): from the shared secret, with the HID of the sender and of the receiver as the information for a direction
(DESIGN CHOICE, log entry 74). -/
def linkKeys (s : Dev) (k : Nat) (theirs : Octets) : Option LinkKeys :=
  (ecdh (s.rl k).secret (octs theirs 49 97)).map (fun z =>
    let one (a b : Nat) : Octets := hkdf384 z [BitVec.ofNat 8 a, BitVec.ofNat 8 b] 44
    let (tx, rx) := (one s.hid (ronPartner s k), one (ronPartner s k) s.hid)
    ⟨tx.take 32, tx.drop 32, rx.take 32, rx.drop 32⟩)

/-- A HELLO names the HID that the plan puts on the lane, and the plan (R436). -/
def helloPlan (k : Nat) (o : Octets) (s : Dev) : Bool := some (oct o 0) == laneHid s k && octs o 1 48 == sha384 (sectionOf s 9)

/-- A HELLO arrives (R439). With keys to agree, one that is signed over both sides' contents is accepted; one that is signed before this side's contents
were known is only answered. A refusal keeps the lane in HELLO. -/
def helloTake (k : Nat) (o : Octets) (s : Dev) : Dev :=
  if ronState s k ≠ 3 then s
  else if ¬ helloPlan k o s then occur 0x3A7 {} s
  else if ¬ s.rbit Reg.ronCfg 1 then
    let s := if (s.rl k).helloSent then s else helloSend k s
    ronUp k s
  else
    let both := helloSigned o (s.rl k).mine
    if s.boot.identity.isNone ∨ o.length ≠ 498 ∨ ¬ certOk s (oct o 0) (octs o 146 256) ∨ ¬ (both ∨ helloSigned o []) then occur 0x3A5 {} s
    else
      let known : Bool := (s.rl k).helloSent && (s.rl k).theirs == o.take 402
      let s := s.setRl k { s.rl k with theirs := o.take 402 }
      let s := if known then s else helloSend k s
      if ¬ both then s else ronUp k (s.setRl k { s.rl k with keys := linkKeys s k (o.take 402), keyedAt := s.cycles })

/-- The agreement of new keys is due (R440): `RON.REKEY` seconds after the last one, or now where a frame's extended SEQ is about to reach 2⁶³. -/
def rekeyDue (k : Nat) (s : Dev) : Dev :=
  let l := s.rl k
  if l.rolls.any (fun n => decide (2 ^ 31 ≤ n + 1)) then s else s.elapseTo (l.keyedAt + usCycles (1000000 * max 1 (s.rfld Reg.ronRekey 0 24)))

/-- REKEY (R440): both sides agree anew, this one with a fresh HELLO and the partner with the one given, and KEY_PHASE changes as the new keys take
effect. A refused agreement leaves the old keys. -/
def rekey (k : Nat) (o : Octets) (s : Dev) : Dev :=
  if ronState s k ≠ 4 ∨ ¬ s.rbit (Reg.ronLaneStatus k) 3 then s
  else
    let s := helloFresh k (rekeyDue k s)
    let s := helloSend k (s.setRl k { s.rl k with theirs := o.take 402 })
    if ¬ helloPlan k o s ∨ o.length ≠ 498 ∨ ¬ certOk s (oct o 0) (octs o 146 256) ∨ ¬ (helloSigned o (s.rl k).mine ∨ helloSigned o []) then occur 0x3A5 {} s
    else
      let l := s.rl k
      let s := s.setRl k { l with keys := linkKeys s k (o.take 402), oldKeys := l.keys, phaseAt := some s.cycles, keyedAt := s.cycles }
      s.setBit (Reg.ronLaneStatus k) 4 (!s.rbit (Reg.ronLaneStatus k) 4)

/-! ### Heartbeats (R438, R450) -/

/-- HB_TIMEOUT in cycles. -/
def hbTimeout (s : Dev) : Nat := usCycles (s.within Reg.ronHbTimeout 0 16 200 10000)

/-- A heartbeat came on lane `k` within HB_TIMEOUT. -/
def heardNow (s : Dev) (k : Nat) : Bool :=
  !(s.rl k).lost && (match (s.rl k).heardAt with | none => false | some t => decide (s.cycles ≤ t + hbTimeout s))

/-- The HIDs heard within HB_TIMEOUT, as bits. -/
def heardBits (s : Dev) : Nat :=
  (upTo 16).foldl (fun n k => if 3 ≤ ronState s k ∧ ronState s k ≤ 4 ∧ heardNow s k then n ||| 2 ^ ronPartner s k else n) 0

/-- The alias table as the active manager sends it: nibble h, the even HID in the upper half of its octet. -/
def aliasOctets (s : Dev) : Octets :=
  if ¬ s.activeManager then zeros 8
  else (upTo 8).map (fun i => BitVec.ofNat 8 (16 * s.rfld (Reg.ronAlias (2 * i)) 0 4 + s.rfld (Reg.ronAlias (2 * i + 1)) 0 4))

/-- A heartbeat's payload. -/
def heartbeatOctets (k : Nat) (s : Dev) : Octets :=
  let heard := heardBits s
  let serving : Bool := resState s == 3 || resState s == 4
  let flags := s.activeManager.toNat + 2 * (s.activeManager || heard.testBit s.ron.activeHid).toNat + 4 * (resState s == 2).toNat + 8 * serving.toNat
  let l := s.rl k
  [BitVec.ofNat 8 s.role, BitVec.ofNat 8 flags, BitVec.ofNat 8 s.epochs.cur.epoch, BitVec.ofNat 8 s.time.tepoch] ++ toBe 2 heard ++
    [BitVec.ofNat 8 (if serving then s.rfld Reg.ronStatus 8 4 else 0), BitVec.ofNat 8 (s.time.cadence % 64)] ++
    (l.sent.map (fun n => toBe 4 n)).flatten ++ (l.seen.map (fun n => toBe 4 n)).flatten ++ aliasOctets s ++
    padTo 48 (sha384 (sectionOf s 9))

/-- Every 50 µs a lane in HELLO or UP sends a heartbeat, where firmware has kicked within 200 µs (R438). -/
def heartbeatSend (k : Nat) (s : Dev) : Dev :=
  let kicked : Bool := match s.ron.hbKickAt with | none => false | some t => decide (s.cycles ≤ t + usCycles 200)
  if ¬ kicked ∨ (ronState s k ≠ 3 ∧ ronState s k ≠ 4) then s
  else (ronStart k 1 1 (ronPartner s k) 0 (heartbeatOctets k s) s).getD s

/-- `RON.HB_KICK` is written. -/
def ronKick (s : Dev) : Dev := { s with ron := { s.ron with hbKickAt := some s.cycles } }

/-- A device adopts the active manager's cadence offset when its lane to it first reaches UP (R69): the phases of its channels move with it. -/
def cadenceAdopt (c : Nat) (s : Dev) : Dev :=
  if s.time.adopted ∨ s.leads then s
  else
    let old := s.time.cadence
    let s := { s with chans := s.chans.map (fun (p : Nat × Channel) => (p.1, { p.2 with phase := (p.2.phase + 48 + old - c % 48) % max 1 p.2.frame_ })) }
    (s.modTime (fun t => { t with cadence := c % 48, adopted := true })).setFld Reg.tbTickStatus 17 6 (c % 48)

/-- A manager of the plan. -/
def isManager (s : Dev) (h : Nat) : Bool := (planManagers s).contains h

/-- What a heartbeat's octets tell (R438). -/
def hbParse (s : Dev) (o : Octets) : HbMsg :=
  let f := oct o 1
  { role := ⟨oct o 0 % 4, Nat.mod_lt _ (by decide)⟩, active := f.testBit 0, activeHeard := f.testBit 1, reserveReady := f.testBit 2, serving := f.testBit 3,
    epoch := oct o 2, tepoch := oct o 3, heard := BitVec.ofNat 16 (be o 4 2), servedHid := ⟨oct o 6 % 16, Nat.mod_lt _ (by decide)⟩,
    cadence := oct o 7 % 64, nextSeq := (upTo 8).map (fun v => be o (8 + 4 * v) 4), freed := (upTo 8).map (fun v => be o (40 + 4 * v) 4),
    aliases := (upTo 16).map (fun h => let b := oct o (72 + h / 2); if h % 2 = 0 then b / 16 else b % 16),
    digestOk := octs o 80 48 == sha384 (sectionOf s 9) }

/-- A HEARTBEAT arrives (R430, R435, R438, R456). -/
def heartbeatTake (k : Nat) (hd : RonHdr) (o : Octets) (s : Dev) : Dev :=
  let m := hbParse s o
  let l := s.rl k
  let seen := (upTo 8).map (fun v => let a := l.seen.getD v 0; let b := m.nextSeq.getD v 0; if pastMod 32 b a then b % 2 ^ 32 else a)
  let s := s.setRl k { l with heardAt := some s.cycles, peer := some m, lost := false, seen := seen, freed := (upTo 8).map (fun v => m.freed.getD v 0) }
  let s := if m.digestOk then s else occur 0x3A7 {} s
  let s := ronDrain k s
  if ronState s k ≠ 4 ∨ ¬ m.active ∨ ¬ isManager s hd.src.val ∨ s.activeManager then s
  else
    let s := cadenceAdopt m.cadence { s with ron := { s.ron with activeHid := hd.src.val } }
    if s.role ≠ 1 then s
    else (upTo 16).foldl (fun s h => match m.aliases[h]? with | some t => s.setFld (Reg.ronAlias h) 0 4 t | none => s) s

/-- The instant at which a lane's partner counts as lost (R450): HB_TIMEOUT after its last heartbeat, or LOS_TIMEOUT after the signal went, if earlier. -/
def lostFrom (k : Nat) (s : Dev) : Nat :=
  let l := s.rl k
  let silent := l.heardAt.getD 0 + hbTimeout s
  if s.rbit (Reg.sdsStatus (8 + k)) 0 then silent else min silent (l.downAt + usCycles (max 1 (s.rfld Reg.ronLosTimeout 0 8)))

/-- A lane partner is declared lost (R450); a lane that is UP goes DOWN (R436). -/
def partnerLost (k : Nat) (s : Dev) : Dev :=
  let l := s.rl k
  if l.lost ∨ l.heardAt.isNone ∨ ronState s k = 0 then s
  else
    let s := s.elapseTo (lostFrom k s)
    let s := (s.bump (Reg.ronLaneHbMiss k)).setRl k { l with lost := true, lostAt := s.cycles }
    if ronState s k = 4 then ronDown k true s else occur (laneSource (8 + k)) {} s

/-! ### Time frames (R423 to R425, R437) -/

/-- A time, in sixteenths of a ns, as time frames carry it (R433). -/
def sixteenthsOctets (n tepoch : Nat) : Octets :=
  toBe 6 (n / 16 / nsPerSec) ++ toBe 4 (n / 16 % nsPerSec) ++ [BitVec.ofNat 8 (n % 16), BitVec.ofNat 8 tepoch]

/-- A stamp with its sixteenths, as sixteenths of a ns. -/
def fineTotal (t : FineStamp) : Nat := 16 * stampNs t.stamp + t.sixteenths.val

/-- A stamp as a time frame carries it (R433): seconds, nanoseconds, sixteenths and the time epoch. -/
def fineOctets (t : FineStamp) : Octets := sixteenthsOctets (fineTotal t) t.stamp.tepoch

/-- The time at which a time frame leaves or arrives now, in sixteenths of a ns: the scale's, less the lane's calibration, with TB.LAT of the lane added
to a frame that leaves and taken from one that arrives (R403, R437). -/
def timeFrameAt (k : Nat) (leaves : Bool) (s : Dev) : Nat :=
  let lat := latOf s (8 + k)
  ((s.time.t / 2 ^ 28 : Nat) - signed 32 (s.reg (Reg.ronLaneCal k)).toNat + (if leaves then lat else -lat) : Int).toNat

/-- The octets of that time. -/
def timeFrameStamp (k : Nat) (leaves : Bool) (s : Dev) : Octets := sixteenthsOctets (timeFrameAt k leaves s) s.time.tepoch

/-- Each millisecond a follower sends T_SYNC to its master. -/
def timeFrameSend (k : Nat) (s : Dev) : Dev :=
  if s.leads ∨ ronState s k ≠ 4 ∨ ronPartner s k ≠ s.ron.activeHid then s else ronSend k 0 1 0 (timeFrameStamp k true s) s

/-- T_SYNC arrives: it is stamped and answered. -/
def tSyncTake (k : Nat) (hd : RonHdr) (t1 : Octets) (s : Dev) : Dev :=
  ronSendTo hd.src.val 0 2 0 (t1 ++ timeFrameStamp k false s ++ timeFrameStamp k true s) s

/-- What the follower is ahead of its master, in ns, by a two-way exchange that ends now (R423). -/
def followerOffset (k : Nat) (t1 t2 t3 : FineStamp) (s : Dev) : Int :=
  (((fineTotal t1 : Int) - fineTotal t2) + ((timeFrameAt k false s : Int) - fineTotal t3)) / 32

/-- T_REPLY arrives at a follower: firmware corrects the frequency by INCR (R423), by an amount that the manual leaves to its servo. -/
def tReplyTake (k : Nat) (hd : RonHdr) (t1 t2 t3 : FineStamp) (s : Dev) : Dev :=
  if s.leads ∨ hd.src.val ≠ s.ron.activeHid then s
  else
    let offset := followerOffset k t1 t2 t3 s
    let s := s.modTime (fun t => { t with lastSync := s.cycles, lastOffset := offset })
    let s := setServo 5 [] s
    let (n, s) := s.drawBelow (2 * incrLimit + 1)
    setIncr (incrNominal - incrLimit + n) s

/-- T_CORR arrives at a follower (R424): applied at A, or at once where A has passed. -/
def tCorrTake (hd : RonHdr) (c : Correction) (s : Dev) : Dev :=
  if s.leads then s
  else
    let s := ackSend hd 3 s
    if s.time.corr = some c ∨ (s.time.corr.isNone ∧ kvGet s.once 0x04A00 = some c.applyAt) then s
    else
      let s := { s with once := kvSet s.once 0x04A00 c.applyAt }
      if s.nowNs < c.applyAt then timeShow (s.modTime (fun t => { t with corr := some c })) else occur 0x04A {} (corrApply c s)

/-! ### Media (R434, R446, R447, R451) -/

/-- An egress record from a processing device (R176, R451): a packet of the channel's packet leg, under DSCP and TXQ of its catalogue record, dropped
while a takeover of its device is recent and its timestamp is not later than the last sent. A manager that became active after another sends by the
session that names the channel until a record reaches it (DEDUCED from R457, log entry 64). -/
def egressMedia (r : MediaRec) (s : Dev) : Dev :=
  let ts := be r.rtp 4 4
  let rec_ := kvGet s.ron.catalogue r.chan
  let leg := match packetLeg s r.chan with
    | (true, l) => l
    | (false, _) => if s.ron.inherited then (s.mpe.sessions.find? (fun p => p.2.chan == r.chan)).map (·.1) else none
  let last := (leg.bind (session? s)).bind (·.lastTs)
  match rtpHeader r.rtp with
  | none => s
  | some n =>
    let again : Bool := (kvGet s.ron.dedup (r.chan / 65536)).isSome && (match last with | some t => !pastMod 32 ts t | none => false)
    if again then s.bump Reg.ronDedup
    else
      let dscp := match rec_ with | some o => oct o 42 % 64 | none => 0
      let txq := match rec_ with | some o => txqOf (octs o 16 48) | none => 5
      handEgress ⟨leg, dscp, txq, oct r.rtp 1 % 128, ts, decide (128 ≤ oct r.rtp 1), r.rtp.drop n, stampNs r.stamp⟩ s

/-- A record for a channel of a device that is being taken over, whose restore has not come (R212, R451), waits for it. -/
def heldKeep (r : MediaRec) (s : Dev) : Dev := { s with ron := { s.ron with held := s.ron.held ++ [r] } }

/-- A media record arrives: egress at the active manager; ingress or replay where its channel is processed, or a copy at the standby (R447). -/
def mediaTake (r : MediaRec) (s : Dev) : Dev :=
  if r.kind = 1 then (if s.activeManager then itemTake r (egressMedia r) s else s)
  else
    let c := r.chan % 65536
    match (s.chan? c).filter (fun k => k.owner == r.chan / 65536), rtpHeader r.rtp with
    | some k, some n =>
      if k.awaits then heldKeep r s
      else
        let ssrc := be r.rtp 8 4
        let s := if k.jb.ssrc.isSome ∧ k.jb.ssrc ≠ some ssrc then newStream c (be r.rtp 2 2) s else s
        deliver c r.rtp (r.rtp.drop n) (stampNs r.stamp) (modJb c (fun j => { j with ssrc := some ssrc }) s)
    | _, _ =>
      if s.role = 1 ∧ ¬ s.ron.active ∧ r.kind = 0 then replayKeep (r.chan / 65536) r s
      else match s.ron.takeover with
        | some t => if t.hid = r.chan / 65536 then heldKeep r s else s
        | none => s

/-- The records that waited for a channel's restore are taken once it has come; a record whose device is taken over no longer is dropped. -/
def heldTake (s : Dev) : Dev :=
  let l := s.ron.held
  if l.isEmpty then s else l.foldl (fun s r => mediaTake r s) { s with ron := { s.ron with held := [] } }

/-- The records held for an epoch are taken once it is the device's (R82). -/
def itemsTick (s : Dev) : Dev :=
  let l := s.epochs.items
  if l.isEmpty ∨ s.epochs.sched.isSome then s
  else l.foldl (fun s r => mediaTake r s) (s.withEpochs { s.epochs with items := [] })

/-- The replay store of a device goes to device `dest` as KIND 2 records, oldest first (R451). -/
def replaySend (h dest : Nat) (s : Dev) : Dev :=
  ((kvGet s.ron.replay h).getD []).foldl (fun s p => mediaSend dest p.2.chan 2 p.2.stamp p.2.rtp s) s

/-! ### Dossiers and the catalogue (R442 to R446) -/

/-- The manager keeps a channel's catalogue record as it passes. -/
def recordNote (record : Octets) (s : Dev) : Dev :=
  if record.length < 80 then s
  else
    let g := le record 0 4 % 2 ^ 20
    { s with ron := { s.ron with catalogue := if oct record 66 = 0 then kvDel s.ron.catalogue g else kvSet s.ron.catalogue g record } }

/-- Where the active manager passes a dossier or a record of channel `g` on: to the reserve, or from the reserve to the channel's device. -/
def passTo (s : Dev) (hd : RonHdr) (g : Nat) : Option Nat :=
  match reserveHid s with
  | none => none
  | some r => if hd.src.val = r then some (g / 65536) else some r

/-- A dossier arrives (R443, R444). -/
def dossierTake (hd : RonHdr) (g spawn : Nat) (record o : Octets) (s : Dev) : Dev :=
  let keep (s : Dev) : Dev :=
    let s := dossierStage g spawn record o s
    { s with ron := { s.ron with got := g :: s.ron.got.filter (· != g) } }
  if s.activeManager then
    let s := recordNote record s
    match passTo s hd g with
    | none => s
    | some h => if h = s.hid then keep s else ronSendTo h 3 1 g (toBe 4 spawn ++ record ++ o) s
  else if s.role = 3 ∨ s.ron.takeover.isSome then keep s
  else s

/-- A catalogue record arrives (R442, R444). -/
def recordTake (hd : RonHdr) (record : Octets) (s : Dev) : Dev :=
  let g := le record 0 4 % 2 ^ 20
  if s.activeManager then
    let s := recordNote record s
    match passTo s hd g with
    | none => s
    | some h => if h = s.hid then recordStage record s else ronSendTo h 3 2 0 record s
  else if s.role = 3 ∨ s.ron.takeover.isSome then recordStage record s
  else if s.role = 1 then recordNote record s
  else s

/-- The catalogued channels of the reserve, those staged among them. -/
def catalogued (s : Dev) : List Nat :=
  let gone := (s.ron.stagedRecords.filter (fun p => oct p.2 66 == 0)).map (·.1)
  ((s.ron.catalogue.map (·.1)) ++ (s.ron.stagedRecords.map (·.1))).filter (fun g => !gone.contains g)

/-- At each full second of the tick index the reserve finds whether a dossier of every catalogued channel has come in it (R444). -/
def reserveReady (s : Dev) : Dev :=
  if s.role ≠ 3 ∨ (s.time.lastTick.getD 0) % 400 ≠ 0 then s
  else
    let all : Bool := s.ron.gotFull && (catalogued s).all (fun g => s.ron.got.contains g)
    let s := { s with ron := { s.ron with got := [], gotFull := true } }
    if resState s = 1 ∧ all then setRes 2 0 s else s

/-- Every 20 ms the clusters that hold staged entries wake, 2 µs each, and the entries are written (R444, R459). -/
def batchWrite (s : Dev) : Dev :=
  let gs := s.ron.stagedDossiers.map (·.1) ++ s.ron.stagedRecords.map (·.1)
  if gs.isEmpty ∨ ¬ (s.role = 3 ∨ s.spare) then s
  else
    let tile (g : Nat) : Nat := match kvGet s.ron.stagedRecords g with
      | some r => if s.spare then storeTile s g else nfld (le r 0 4) 20 8
      | none => storeTile s g
    let ns := (upTo 16).filter (fun n => gs.any (fun g => tile g / 16 == n))
    let s := ns.foldl (fun s n => if s.clState n = 0 ∧ ¬ s.rbit Reg.pwrDomainFail (1 + n) then (clusterUp n s).setFld Reg.gduClState (2 * n) 2 1 else s) s
    writeStaged (fun g => s.clState (tile g / 16) != 0) (s.elapse (usCycles 2 * ns.length))

/-! ### Ledger entries of other devices (R95) -/

/-- An entry's octets as the event they record, with REMOTE set. -/
def entryEvent (o : Octets) : LedgerEvent :=
  let f := le o 14 2
  let ch := le o 16 4
  { stamp := ⟨le o 4 6, le o 0 4, f % 256⟩, src := le o 10 2, code := le o 12 2, flags := (f &&& 0x3F00) ||| flagRemote,
    chan := if ch.testBit 31 then some (ch % 2 ^ 20) else none, data := octs o 20 12 }

/-- A manager merges received entries into its own Ledger. -/
def ledgerMerge (entries : List Octets) (s : Dev) : Dev := if s.role = 1 then entries.foldl (fun s o => pushEvent (entryEvent o) s) s else s

/-! ### Folio frames and completions (R78, R144, R345) -/

/-- A staged payload's piece (R78, R433): pieces join until LAST. -/
def stagePiece (ty : Nat) (last : Bool) (p : Octets) (s : Dev) : Dev :=
  let old : Octets := match s.ron.staging with
    | some (t, q, done) => if t = ty ∧ ¬ done then q else []
    | none => []
  { s with ron := { s.ron with staging := some (ty, old ++ p, last) } }

/-- A Folio block, or part of one, arrives for the manager's recording sink (R345): parts join, lane by lane, until LAST. -/
def blockPiece (k : Nat) (last : Bool) (o : Octets) (s : Dev) : Dev :=
  let all := (kvGet s.ron.pieces k).getD [] ++ o
  if last then blockArrived all { s with ron := { s.ron with pieces := kvDel s.ron.pieces k } }
  else { s with ron := { s.ron with pieces := kvSet s.ron.pieces k all } }

/-- A COMPLETION arrives (R144): it goes to the ring of the command that this device forwarded. A channel that another device has closed owes
its sessions a BYE here. -/
def completionTake (hd : RonHdr) (o : Octets) (aux : Nat) (s : Dev) : Dev :=
  let id := aux % 2 ^ 30
  match findCmd s id with
  | none => s
  | some c =>
    if c.origin.isSome ∨ c.done.isSome then s
    else if c.opcode = 0x1B then stageAnswer id hd.src.val (le o 4 2 == 0) (oct o 16) s
    else
      let s := flushDone (modCmd id (fun c => { c with done := some (padTo 32 o) }) s)
      if c.opcode = 5 ∧ le o 4 2 = 0 then
        let g := le o 12 4 % 2 ^ 20
        { s with mpe := { s.mpe with byes := s.mpe.byes ++ (s.mpe.sessions.filter (fun p => p.2.chan == g)).map (·.1) } }
      else s

/-! ### Worker takeover (R449 to R453) -/

/-- The other manager's lane, when UP. -/
def otherManager (s : Dev) : Option Nat := (planManagers s).findSome? (directLane s)

/-- The active manager waits for the standby's first heartbeat after a loss, at most 60 µs (R450). -/
def standbyWait (lostAt : Nat) (s : Dev) : Dev :=
  match otherManager s with
  | none => s
  | some j =>
    let heard : Bool := match (s.rl j).heardAt with | some t => decide (lostAt < t) | none => false
    if heard then s else s.elapseTo (lostAt + usCycles 60)

/-- The standby's heartbeat after the loss shows the device in HEARD (R448). -/
def standbyHears (lostAt h : Nat) (s : Dev) : Bool :=
  match otherManager s with
  | none => false
  | some j =>
    (match (s.rl j).heardAt with | some t => decide (lostAt < t) | none => false) &&
      (match (s.rl j).peer with | some m => m.heard.toNat.testBit h | none => false)

/-- A device's failure has no protection (R449). -/
def unprotected (h : Nat) (s : Dev) : Dev := occur 0x3A4 {} (s.setBit (Reg.ronAlias h) 9 true)

/-- Device `h` is taken over by the reserve (R451 steps 1 and 2). -/
def takeDevice (h : Nat) (s : Dev) : Dev :=
  match reserveHid s with
  | none => unprotected h s
  | some r =>
    let back : Bool := match s.ron.takeover with | some t => t.handback.isSome | none => false
    let free : Bool := s.ron.takeover.isNone && (match (laneTo s r).bind (fun k => (s.rl k).peer) with
      | some m => m.reserveReady && !m.serving
      | none => false)
    if (laneTo s r).isNone ∨ ¬ (back ∨ free) then unprotected h s
    else
      let s := occur 0x3A1 {} ((s.setFld (Reg.ronAlias h) 0 4 r).setBit (Reg.ronAlias h) 8 false)
      let s := ronSendTo r 1 6 0 (takeoverOctets h 0 0) s
      let s := (planManagers s).foldl (fun s m => if m = h then s else ronSendTo m 1 6 0 (takeoverOctets h 0 0) s) s
      let s := match directLane s h with | some k => ronPut k 1 6 h 0 (takeoverOctets h 2 0) s | none => s
      let s := match otherManager s with | some j => if ronPartner s j = h then s else ronPut j 1 6 h 0 (takeoverOctets h 2 0) s | none => s
      let s := replaySend h r (detourLive s)
      let t : Takeover := ⟨h, none, false, none⟩
      { s with ron := { s.ron with takeover := if back then s.ron.takeover else some t, queued := if back then s.ron.queued ++ [h] else s.ron.queued,
                                   dedup := kvSet s.ron.dedup h 0 } }

/-- WORKER_TAKEOVER: after a lane partner's loss the active manager detours, or takes the device over (R448, R450, R451). -/
def workerTakeover (h : Nat) (s : Dev) : Dev :=
  let l := s.rl h
  if ¬ s.activeManager ∨ h = s.hid ∨ ¬ l.lost ∨ s.rbit (Reg.ronAlias h) 9 ∨ s.rfld (Reg.ronAlias h) 0 4 ≠ h then s
  else
    let s := standbyWait l.lostAt s
    match (planOthers s).find? (fun d => d.hid == h) with
    | none => s
    | some d =>
      if standbyHears l.lostAt h s ∧ s.rbit Reg.ronCfg 2 ∧ d.role ≠ 1 then detourLive (s.setBit (Reg.ronAlias h) 8 true)
      else if d.role = 2 then takeDevice h s
      else detourLive (s.setBit (Reg.ronAlias h) 8 false)

/-- 2 s after S the manager deduplicates no longer (R451). -/
def dedupEnd (h : Nat) (s : Dev) : Dev :=
  match kvGet s.ron.dedup h with
  | none => s
  | some 0 => s
  | some t =>
    let s := s.elapseTo (t + usCycles 2000000)
    { s with ron := { s.ron with dedup := kvDel s.ron.dedup h } }

/-- The reserve wakes every cluster, writes what is staged of device `h` and loads the kernel sets of its tiles (R451 step 3). -/
def restoreBegin (h : Nat) (s : Dev) : Dev :=
  let s := testAbandon (fun k => k.kind == 3) 2 s
  let s := (upTo 16).foldl (fun s n => clusterWakeComplete n (wakeRequest n s)) s
  let s := writeStaged (fun g => g / 65536 == h) s
  let s := s.ron.catalogue.foldl (fun s p => if p.1 / 65536 = h then takeSet (nfld (le p.2 0 4) 20 8) (oct p.2 65 % 32) s else s) s
  setRes 3 h { s with ron := { s.ron with takeover := some ⟨h, none, true, none⟩ } }

/-- TAKEOVER of kind 0 arrives (R451, R460). -/
def takeoverTake (hd : RonHdr) (h : Nat) (s : Dev) : Dev :=
  let s := ackSend hd 6 s
  if s.role = 3 then
    match s.ron.takeover with
    | none => restoreBegin h s
    | some t => if t.handback.isSome then { s with ron := { s.ron with queued := s.ron.queued ++ [h] } } else s
  else if s.role = 1 then (match reserveHid s with | some r => s.setFld (Reg.ronAlias h) 0 4 r | none => s)
  else s

/-- `GDU.CFG.EN` is written (R122). -/
def gduEnWrite (en : Bool) (s : Dev) : Dev := drained (s.setBit Reg.gduCfg 0 en)

/-- The device is fenced (R451): no instance spawns, and nothing leaves but heartbeats and Ledger entries. -/
def fenceSelf (s : Dev) : Dev := gduEnWrite false { s with ron := { s.ron with fenced := true } }

/-- FENCE arrives. -/
def fenceTake (h : Nat) (s : Dev) : Dev := if h = s.hid then fenceSelf s else s

/-- A channel that this device processes no longer leaves its tile, with what its flow has listed or in service. -/
def dropChannel (c : Nat) (s : Dev) : Dev :=
  match s.chan? c with
  | none => s
  | some k =>
    let s := (upTo 16).foldl (fun s n => ((s.cg n).service.filter (fun v => v.chan == c)).foldl (fun s v => endService n v s) (unlist n c s)) s
    refreshPs (refreshRec (refreshLoads (k.home / 16) { s with chans := kvDel s.chans c }))

/-- The channels of device `h` that the catalogue names come to this device (R451 step 3, R452); one whose record fails parity closes on error
(R508). -/
def insertChannels (h : Nat) (bad : List Nat) (s : Dev) : Dev :=
  s.ron.catalogue.foldl (fun s p =>
    if p.1 / 65536 ≠ h then s
    else match catalogueChannel s p.2 with
      | none => s
      | some (c, k) =>
        let s := refreshRec (refreshLoads (k.home / 16) (s.setChan c k))
        if bad.contains c then closeOnError c s else s) s

/-! ### Hand-back (R454) and switch-over (R458) -/

/-- `RON.CTRL` answers a write (R463): 0 OK, 1 NOT_ROLE, 2 BUSY, 3 NOT_READY. -/
def ctrlStatus (v : Nat) (s : Dev) : Dev := s.setFld Reg.ronCtrl 0 4 v

/-- HANDBACK of device `h`: S′ is the first tick at least 200 ms ahead. -/
def handbackWrite (h : Nat) (s : Dev) : Dev :=
  if ¬ s.activeManager then ctrlStatus 1 s
  else
    let other : Bool := match otherManager s with | none => true | some j => (match (s.rl j).peer with | some m => m.heard.toNat.testBit h | none => false)
    match reserveHid s with
    | none => ctrlStatus 3 s
    | some r =>
      if s.rfld (Reg.ronAlias h) 0 4 ≠ r ∨ h = r then ctrlStatus 3 s
      else if (s.ron.takeover.any (fun t => t.handback.isSome || t.hid != h)) || s.ron.switchAt.isSome then ctrlStatus 2 s
      else if h ≠ s.hid ∧ ((directLane s h).isNone ∨ ¬ other) then ctrlStatus 3 s
      else
        let n := s.tickNow + 81
        let s := { s with ron := { s.ron with takeover := some ⟨h, none, h == s.hid, some (s.target n)⟩ } }
        let s := ronSendTo r 1 6 0 (takeoverOctets h 1 n) s
        ctrlStatus 0 (if h = s.hid then s else ronSendTo h 1 6 0 (takeoverOctets h 1 n) s)

/-- TAKEOVER of kind 1 arrives: the reserve sends the dossiers of every channel of the device, and the device waits for S′. -/
def handBackTake (hd : RonHdr) (h tick : Nat) (s : Dev) : Dev :=
  let s := ackSend hd 6 s
  if s.role = 3 then
    match s.ron.takeover with
    | some t =>
      if t.hid ≠ h then s
      else
        let s := { s with chans := s.chans.map (fun (p : Nat × Channel) => (p.1, if p.2.owner = h then { p.2 with rotateDue := true } else p.2)) }
        setRes 4 h { s with ron := { s.ron with takeover := some { t with handback := some (s.target tick) } } }
    | none => s
  else if h = s.hid then { s with ron := { s.ron with takeover := some ⟨h, none, true, some (s.target tick)⟩ } }
  else s

/-- SWITCHOVER: the role passes at the second tick after the write. -/
def switchoverWrite (s : Dev) : Dev :=
  if ¬ s.activeManager then ctrlStatus 1 s
  else if s.ron.switchAt.isSome || s.ron.takeover.any (fun t => t.handback.isSome) then ctrlStatus 2 s
  else if (otherManager s).isNone then ctrlStatus 3 s
  else ctrlStatus 0 { s with ron := { s.ron with switchAt := some (s.time.ticks + 2) } }

/-- `RON.CTRL` is written. -/
def ronCtrlWrite (v : Word) (s : Dev) : Dev :=
  if bit v 0 then switchoverWrite s else if bit v 1 then handbackWrite (fld v 8 4) s else s

/-- The tick of a switch-over (R458, R460): a final mirror, and the old active manager fences itself; a loss of the peer prevails. -/
def switchTick (s : Dev) : Dev :=
  match s.ron.switchAt with
  | none => s
  | some n =>
    if s.time.ticks < n then s
    else
      let s := { s with ron := { s.ron with switchAt := none } }
      if (otherManager s).isNone ∨ ¬ s.activeManager then s
      else
        let s := s.mpe.sessions.foldl (fun s p => mirrorSession p.1 s) s
        let s := (fenceSelf { s with ron := { s.ron with active := false } }).setFld Reg.ronStatus 2 2 2
        { s with ron := { s.ron with activeHid := ((planManagers s).headD s.hid) } }

/-! ### Manager takeover (R455 to R457) -/

/-- The standby has declared its peer lost; when. -/
def peerLostAt (s : Dev) : Option Nat :=
  (planManagers s).findSome? (fun h => if (s.rl h).lost then some (s.rl h).lostAt else none)

/-- More than half of the workers and reserve whose lanes are UP no longer hear the active manager (R455). -/
def quorum (lostAt : Nat) (s : Dev) : Bool :=
  let ks := ((planOthers s).filter (fun d => d.role != 1)).filterMap (fun d => directLane s d.hid)
  let n := (ks.filter (fun k =>
    (match (s.rl k).heardAt with | some t => decide (lostAt < t) | none => false) &&
      (match (s.rl k).peer with | some m => !m.activeHeard | none => false))).length
  ks.isEmpty || decide (ks.length < 2 * n)

/-- The active manager has handed its role over: its heartbeat no longer shows it ACTIVE (R458). -/
def peerYielded (s : Dev) : Bool :=
  match otherManager s with
  | none => false
  | some j => ronPartner s j == s.ron.activeHid && (match (s.rl j).peer with | some m => !m.active | none => false)

/-- One gratuitous ARP or unsolicited Neighbor Advertisement frame leaves for every VALID local address (R456 step 3). -/
def announceOnce (s : Dev) : Dev :=
  (upTo 16).foldl (fun s a =>
    match localAddr s a with
    | none => s
    | some l =>
      let me := macAddress s l.mac
      let f := if l.v6 then advertise s l (multicastMac 1) 0xFF020000000000000000000000000001 false
        else etherHeader s l broadcast 0 0x0806 ++ arpPacket 1 me l.ip (zeros 6) l.ip
      sendFrame l.mac (rtcpTxq s) f s) s

/-- The announcements of R456 step 3: three of each frame, 1 ms apart. -/
def announce (s : Dev) : Dev :=
  (upTo 2).foldl (fun s _ => announceOnce (s.elapse (usCycles 1000))) (announceOnce s)

/-- The steps of R456; `lost` is whether the old manager was lost, whose own channels are then taken over. -/
def managerBegin (lost : Bool) (s : Dev) : Dev :=
  let old := s.ron.activeHid
  let s := { s with ron := { s.ron with active := true, activeHid := s.hid, inherited := true } }
  let s := announce (guardApply (occur 0x3A2 {} (s.setFld Reg.ronStatus 2 2 1)))
  setServo 3 [] (if lost ∧ old ≠ s.hid then takeDevice old s else s)

/-- MANAGER_TAKEOVER (R455, R456, R458). -/
def managerTakeover (s : Dev) : Dev :=
  if s.role ≠ 1 ∨ s.ron.active ∨ s.ron.plan.isNone ∨ s.ron.fenced then s
  else match peerLostAt s with
    | some t => if quorum t s then managerBegin true s else s
    | none => if peerYielded s then managerBegin false s else s

/-- SPLIT_LANE (R455). -/
def splitLane (s : Dev) : Dev :=
  if s.role ≠ 1 ∨ s.ron.active then s
  else match peerLostAt s with
    | none => s
    | some t => if quorum t s then s else occur 0x3AB {} s

/-! ### Spare-cluster mode (R459) -/

/-- A channel's context as at open, its packets kept: what a move to CL15 leaves until the dossier restores it. -/
def contextFresh (k : Channel) : Channel :=
  { k with active := none, deferred := none, migrate := none, migrateBack := none, jb := { pkts := k.jb.pkts }, pulled := {}, media := {}, echo := {},
           rfeIn := {}, rfeOut := {}, tonesOn := [], ears := [], speech := none, tail := [], linkConv := [], mute := (false, false), silent := true,
           genLine := none, genNet := none, lineNext := .keep, netNext := .keep, rxEvent := none, rxLast := none, netEvent := none, txEvents := [],
           resetDec := true, resetEnc := true, agcLevel := none, frame := none, noise := false, ring := [], awaits := k.st == .running && k.frame_ != 0 && k.template.holds 0x13 }

/-- Cluster `n` has failed in spare-cluster mode: its channels move to CL15; while CL15 serves, a second cluster's calls drop. -/
def clusterTakeover (n : Nat) (s : Dev) : Dev :=
  let s := testAbandon (fun k => k.kind == 3 && k.unit / 16 == n) 2 (s.setBit Reg.gduClFence n true)
  if s.ron.takeover.isSome ∨ n = 15 then
    occur 0x3A4 {} ((homedIn s n).foldl (fun s q => closeOnError q.1 s) s)
  else
    let s := writeStaged (fun _ => true) s
    let cs := homedIn s n
    let s := cs.foldl (fun s q =>
      let s := (s.cg n).service.foldl (fun s v => if v.chan = q.1 then endService n v s else s) (unlist n q.1 (tonesRestore q.1 s))
      s.modChan q.1 (fun k => { contextFresh k with home := 240 + k.home % 16 })) s
    let s := refreshLoads 15 (refreshLoads n s)
    wakeRequest 15 { s with ron := { s.ron with takeover := some ⟨s.hid, some n, true, none⟩ } }

/-- A failed cluster whose tiles have all passed their return-to-service tests gets its channels back (R459). -/
def clusterReturn (s : Dev) : Dev :=
  match s.ron.takeover.bind (fun t => if t.restoring then none else t.cluster) with
  | none => s
  | some n =>
    if s.rbit Reg.pwrDomainFail (1 + n) ∨ (upTo 16).any (fun j => tileState s (16 * n + j) != 0) then s
    else
      let s := s.setBit Reg.gduClFence n false
      (homedIn s 15).foldl (fun s q => (migrateGo q.1 (16 * n + q.2.home % 16) s).getD s) s

/-! ### The tick (R451 to R454, R458, R459) -/

/-- At a tick: the hand-backs that are due, the takeover instances, a switch-over, and what the manager and the reserve note. -/
def hierarchyTick (bad : List Nat) (s : Dev) : Dev :=
  let s := reserveReady (switchTick s)
  let due := (s.ron.dedup.filter (fun p => p.2 == 0)).length
  let s := { s with ron := { s.ron with dedup := s.ron.dedup.map (fun (p : Nat × Nat) => if p.2 = 0 then (p.1, s.cycles) else p) } }
  let s := if s.activeManager then s.bump Reg.ronTakeovers due else s
  match s.ron.takeover with
  | none => s
  | some t =>
    match t.cluster, t.handback with
    | some _, _ =>
      if ¬ t.restoring then (if (homedIn s 15).isEmpty then { s with ron := { s.ron with takeover := none } } else s)
      else if s.clState 15 ≠ 3 then s
      else
        let s := ({ s with ron := { s.ron with takeover := some { t with restoring := false } } }).bump Reg.ronTakeovers
        takeoverSpawn (fun _ k => k.home / 16 == 15) s
    | none, none =>
      if s.role ≠ 3 ∨ ¬ t.restoring then s
      else
        let s := ({ s with ron := { s.ron with takeover := some { t with restoring := false } } }).bump Reg.ronTakeovers
        takeoverSpawn (fun _ k => k.owner == t.hid) (insertChannels t.hid bad s)
    | none, some n =>
      if ¬ s.reached n then s
      else if s.role = 3 then
        let s := (s.chans.filter (fun p => p.2.owner == t.hid)).foldl (fun s p => dropChannel p.1 s) s
        let s := setRes 1 0 { s with ron := { s.ron with takeover := none, got := [], gotFull := false } }
        match s.ron.queued with
        | [] => s
        | h :: rest => restoreBegin h { s with ron := { s.ron with queued := rest } }
      else
        let s := if s.activeManager then
            let s := replaySend t.hid t.hid (s.setFld (Reg.ronAlias t.hid) 0 4 t.hid)
            occur 0x3A8 {} s
          else s
        let next : Option Takeover := match s.ron.queued with | [] => none | h :: _ => some ⟨h, none, false, none⟩
        let s := { s with ron := { s.ron with takeover := next, queued := s.ron.queued.drop 1 } }
        if t.restoring ∧ t.hid = s.hid then
          let s := writeStaged (fun g => g / 65536 == s.hid) s
          takeoverSpawn (fun _ k => k.owner == s.hid) (insertChannels s.hid bad s)
        else s

end Sys2Proof.Machine
end

