-- ==== Sys2Proof/Machine/Blocks.lean ====
section
/-! DEFINITION. The block resets of the fault collector and of the Night Desk (R493, R479), and the SRAM copies that a fault leaves to them. -/

namespace Sys2Proof.Machine

/-- Tile `t` is reset: its test is abandoned, its node in service FAILED, and it passes through TESTING, with its source live, unless it is OUT
or reloads (R117, R229, R487, R543). -/
def tileReset (t : Nat) (s : Dev) : Dev :=
  if s.clState (t / 16) = 0 then s
  else
    let s := testAbandon (tileKey t) 1 s
    let s := failResource (t / 16) (.tile ⟨t % 16, Nat.mod_lt _ (by decide)⟩) s
    if tileState s t = 0 then occur (0x100 + t) {} (s.setFld (Reg.tileState t) 0 2 2) else s

/-- Engine `k` of cluster `n` is reset: 0 the Echo Engine, 1 the RFE, 2 the Tone Detector (R117). -/
def engineReset (n k : Nat) (s : Dev) : Dev := failResource n (if k = 0 then .ee else if k = 1 then .rfe else .td) s

/-- The tiles and engines of cluster `n` are reset; in spare-cluster mode the cluster is taken over (R459, R493). -/
def clusterReset (n : Nat) (s : Dev) : Dev :=
  if s.spare then clusterTakeover n s
  else
    let s := (upTo 16).foldl (fun s j => tileReset (16 * n + j) s) s
    (upTo 3).foldl (fun s k => engineReset n k s) s

/-- The MPE is reset: packets in its pipeline are dropped and its nodes in service FAILED. -/
def mpeReset (s : Dev) : Dev := mpeIdle (failResource 0 .mpe { s with mpe := { s.mpe with egress := [] } })

/-- The SRTP engine is reset: the packets of sessions with a suite that stand in the pipeline are dropped. -/
def srtpReset (s : Dev) : Dev :=
  let secured (p : EgPkt) : Bool := match p.session.bind (session? s) with | some x => x.suite != 0 | none => false
  mpeIdle { s with mpe := { s.mpe with egress := s.mpe.egress.filter (fun p => !secured p) } }

/-- MAC `e` is reset: its link goes down (R377). -/
def macReset (e : Nat) (s : Dev) : Dev := if s.domainOn (netDomain e) then linkGone e false false s else s

/-- Lane `m` is reset: a network lane takes its port's link down and retrains, a Ronong lane leaves UP. -/
def laneReset (m : Nat) (s : Dev) : Dev :=
  let s := testAbandon (fun k => k.kind == 1 && k.unit == m) 1 s
  if m < 8 then
    let s := match macOfLane s m with | some e => macReset e s | none => s
    laneWait m s
  else
    let k := m - 8
    if ronState s k = 4 then ronDown k false s
    else if 1 ≤ ronState s k ∧ ronState s k ≤ 3 then laneWait m (setRon k 2 s)
    else s

/-- The Ronong frame logic is reset: the frames in flight are lost, and the lanes stay UP. -/
def ronReset (s : Dev) : Dev :=
  { s with ron := { s.ron with lanes := s.ron.lanes.map (fun (p : Nat × RonLane) => (p.1, { p.2 with queue := [] })), pieces := [], staging := none } }

/-- Highway `h` is disabled and enabled (R339). -/
def highwayReset (h : Nat) (s : Dev) : Dev := if tdmOn s h then tdmEnable h (tdmDisable h s) else s

/-- The blocks of sink `k` stop, and its FIFOs are emptied. -/
def sinkReset (k : Nat) (s : Dev) : Dev :=
  let x := s.sink k
  let jobs := x.jobs ++ x.job.toList
  let s := s.setSink k { x with jobs := [], job := none, fifo := [], waiting := [], marked := 0, markLost := false, heldAt := none }
  let s := if k = 1 then s.bump Reg.arcLdgLost ((jobs.map (fun j => j.octets.length / 32)).sum) else s
  let s := jobs.foldl (fun s j => match j.chan with
    | some c => recGap c j.content (j.octets.length / 2) 4 (((s.chan? c).map (·.owner)).getD s.hid) s
    | none => s) s
  sinkShow k s

/-- The archive engine is reset: its jobs stop as when EN is cleared, and its FIFOs are emptied. -/
def archiveReset (s : Dev) : Dev :=
  if ¬ s.domainOn 28 then s
  else
    let en := s.rbit Reg.arcCfg 0
    f1Status (sinkReset 1 (sinkReset 0 ((arcEn false s).setBit Reg.arcCfg 0 en)))

/-- The Night Desk core is reset: the requests it holds are lost. -/
def nightReset (s : Dev) : Dev := { s with night := { s.night with queue := [], testing := false, testBody := none } }

/-- The block reset of a source (R493); `res` is the resource of a real occurrence of 0x084 or 0x086. -/
def blockReset (b : BlockDue) (s : Dev) : Dev :=
  let n := b.src
  if n = 0x084 ∨ n = 0x086 then
    match b.res with
    | none => s
    | some (c, .tile t) => tileReset (16 * c + t.val) s
    | some (c, r) => if r = .fab then s else failResource c r s
  else if 0x0C9 ≤ n ∧ n ≤ 0x0CC then endpointReset s
  else if n = 0x0D4 then nightReset s
  else if n < 0x100 then s
  else if n < 0x200 then tileReset (n - 0x100) s
  else if n < 0x300 then
    let c := (n - 0x200) / 16
    if n % 16 < 3 then engineReset c (n % 16) s else if n % 16 = 3 then clusterReset c s else s
  else if n = 0x30D then srtpReset s
  else if n < 0x340 then mpeReset s
  else if n < 0x348 then laneReset (n - 0x340) s
  else if n < 0x368 then macReset ((n - 0x340) % 8) s
  else if n < 0x388 then s
  else if n < 0x398 then laneReset (n - 0x380) s
  else if n = 0x3A0 then ronReset s
  else if n < 0x3C0 then s
  else if n < 0x3D8 then highwayReset ((n - 0x3C0) % 8) s
  else if n = 0x3D8 then (upTo 8).foldl (fun s h => highwayReset h s) s
  else if n < 0x3E7 then archiveReset s
  else s

/-- The block resets asked for are taken, and those that they ask for in turn. -/
def blockResets : Nat → Dev → Dev
  | 0, s => s
  | n + 1, s =>
    if s.flt.due.isEmpty then s
    else blockResets n (s.flt.due.foldl (fun s b => blockReset b s) { s with flt := { s.flt with due := [] } })

/-- The sources whose blocks make up a domain, for the Night Desk's RESET (R479): the blocks that R493 names. FAB, CTL, TIME and BOOT have none. -/
def domainSources (d : Nat) : List Nat :=
  if 1 ≤ d ∧ d ≤ 16 then [0x203 + 16 * (d - 1)]
  else if d = 18 then [0x300]
  else if d = 19 then [0x30D]
  else if d = 20 ∨ d = 21 then (upTo 4).map (0x348 + 4 * (d - 20) + ·) ++ (upTo 4).map (0x340 + 4 * (d - 20) + ·)
  else if d = 22 ∨ d = 23 then (upTo 8).map (0x388 + 8 * (d - 22) + ·) ++ [0x3A0]
  else if d = 24 then [0x0C9]
  else if d = 27 then (upTo 8).map (0x3C0 + ·)
  else if d = 28 then [0x3E0]
  else []

/-- The block reset of domain `d`. -/
def domainReset (d : Nat) (s : Dev) : Dev := (domainSources d).foldl (fun s n => blockReset ⟨n, none⟩ s) s

end Sys2Proof.Machine
end

