-- ==== Sys2Proof/Machine/Flash.lean ====
section
/-! DEFINITION. Writes of the flash slots (R58, R148, R480, R482) and the life-cycle commands of the rings (R60 to R62, R148). -/

namespace Sys2Proof.Machine

/-! ### Slots -/

/-- The size of a slot: as discovered, and 64 MiB before. -/
def slotSize (s : Dev) (slot : Nat) : Nat := if slot = 0 then s.boot.sizeA else s.boot.sizeB

/-- The slot is being read (R58): its header in phase 4, its body in phase 5. -/
def slotRead (s : Dev) (slot : Nat) : Bool := s.phase == 4 || (s.phase == 5 && s.boot.loading == slot + 1)

/-- Another writer owns the slot (R482). -/
def slotOwned (s : Dev) (slot : Nat) (night : Bool) : Bool :=
  s.boot.owners.any (fun o => o.slot == slot && o.night != night && decide (s.cycles < o.until_))

/-- There is a flash to write. -/
def flashPresent (s : Dev) : Bool := s.boot.straps.nvmMode != 2 && s.boot.flashSeen

/-- The writer owns the slot for 10 s from now. -/
def slotOwn (slot : Nat) (night : Bool) (s : Dev) : Dev :=
  { s with boot := { s.boot with owners := ⟨slot, night, s.cycles + usCycles 10000000⟩ :: s.boot.owners.filter (fun o => o.slot != slot) } }

/-- Octets of a slot are programmed, and are erased no longer. -/
def slotProgram (slot off : Nat) (o : Octets) (s : Dev) : Dev :=
  let s := s.emit (.flash slot off o)
  { s with boot := { s.boot with erased := s.boot.erased.map (fun e =>
      if e.slot == slot then { e with programmed := (off, o.length) :: e.programmed } else e) } }

/-- The octets lie in an area erased since IMAGE_BEGIN. -/
def slotErased (s : Dev) (slot off n : Nat) : Bool :=
  s.boot.erased.any (fun e => e.slot == slot && decide (off + n ≤ slotSize s slot) && !e.programmed.any (fun p => overlaps off n p.1 p.2))

/-- IMAGE_WRITE on a ring (R58, R148). -/
def imageWriteCmd (d : Desc) (payload : Option Octets) (flashOk : Bool) (id : Nat) (s : Dev) : Dev :=
  let slot := d.arg 0 1
  let off := d.arg 4 4
  let n := d.arg 16 4
  if ¬ descClean d ∨ d.aux ≠ 0 ∨ 1 < slot ∨ ¬ d.zeroFrom 1 3 ∨ ¬ d.zeroFrom 20 47 ∨ n = 0 ∨ slotSize s slot < off + n ∨ ¬ flashPresent s then
    completeWith id .badParam s
  else if slotRead s slot || slotOwned s slot false then completeWith id .busy s
  else match payload with
    | none => completeWith id .dmaError (occur 0x0CB {} s)
    | some o =>
      let s := slotOwn slot false s
      if flashOk then complete id .ok (toLe 4 n) (slotProgram slot off (padTo n o) s) else complete id .refused (toLe 4 0) s

/-! ### The life-cycle on a ring -/

/-- LC_NONCE on a ring (R60). -/
def lcNonceCmd (d : Desc) (id : Nat) (s : Dev) : Dev :=
  if ¬ descClean d ∨ d.aux ≠ 0 ∨ ¬ d.zeroFrom 0 47 then completeWith id .badParam s
  else
    let (o, s) := newNonce s
    complete id .ok o s

/-- LC_TRANSITION once it has been taken (R60 to R62): accepted, it ends in a life-cycle reset. -/
def lcTransitionRun (d : Desc) (token : Option Octets) (fuseOk : Bool) (id : Nat) (s : State) : State :=
  let target := fld d.aux 0 2
  let dev (f : Dev → Dev) (s : State) : State := { s with dev := f s.dev }
  if ¬ descClean d ∨ d.aux.toNat / 4 ≠ 0 ∨ (target ≠ 1 ∧ ¬ d.zeroFrom 8 47) then dev (completeWith id .badParam) s
  else if lcMove s.fuses target ∧ s.fuses.state ≠ 0 ∧ token.isNone then dev (fun x => completeWith id .dmaError (occur 0x0CB {} x)) s
  else match lcRequest target (d.octs 0 48) (token.getD []) fuseOk s with
    | (.accepted, s) => dev (fun x => lifeCycleReset s.fuses (complete id .ok [0] x)) s
    | (_, s) => dev (complete id .refused [1]) s

/-- LC_TRANSITION on a ring: taken as every command, then run on the fuses. -/
def lcTransitionRing (r : Nat) (d : Desc) (token : Option Octets) (fuseOk : Bool) (s : State) : State :=
  let id := s.dev.pci.nextId
  let s := { s with dev := takeRing r 0x18 d (fun _ => none) (fun _ x => x) s.dev }
  match findCmd s.dev id with
  | none => s
  | some _ => lcTransitionRun d token fuseOk id s

end Sys2Proof.Machine
end

