-- ==== Sys2Proof/Machine/Night.lean ====
section
/-! DEFINITION. The Night Desk (R473 to R483): its port, its protocol and its functions. A response is handed to the port as a frame whose
addresses are those of the request. -/

namespace Sys2Proof.Machine

/-! ### The port (R473 to R475) -/

/-- The side-band port can carry traffic: its mode is not off, a PHY answered, and the reference is present. -/
def nightPort (s : Dev) : Bool :=
  s.phase != 0 && s.rfld Reg.ndkMode 0 2 != 0 && s.night.phyFound && !s.rbit (Reg.srcStatus 0x0D1) 0

/-- The port's link goes down: nothing is deferred or backed off, and no pause stands. -/
def nightLinkDown (s : Dev) : Dev :=
  let s := s.setBit Reg.ndkStatus 0 false
  { s with night := { s.night with attempts := 0, defer := none, deferred := false, backoff := none,
                                   mac := { s.night.mac with tx := [], pauseUntil := none, xoffAt := none } } }

/-- The PHY's register 1 is polled (R473). -/
def phyPoll (link full speed100 : Bool) (s : Dev) : Dev :=
  if s.phase = 0 then s
  else
    let mode := s.rfld Reg.ndkMode 0 2
    let s := s.setBit Reg.ndkStatus 9 (!s.rbit (Reg.srcStatus 0x0D1) 0)
    if ¬ nightPort s ∨ ¬ link then nightLinkDown s
    else
      let s := (s.setBit Reg.ndkStatus 1 (mode == 1 || (mode == 2 && full))).setBit Reg.ndkStatus 2 (mode == 1 || (mode == 2 && speed100))
      s.setBit Reg.ndkStatus 0 true

/-- NDK_REFCLK has been missing for 10 µs (R473). -/
def rmiiMissing (s : Dev) : Dev :=
  if s.phase = 0 ∨ s.rfld Reg.ndkMode 0 2 = 0 then s else occur 0x0D1 {} (nightLinkDown (s.setBit Reg.ndkStatus 9 false))

/-- The port runs half duplex. -/
def nightHalf (s : Dev) : Bool := linkIs s 8 && !fullDuplex s 8

/-- `n` bit times of the port in cycles. -/
def bitCycles (s : Dev) (n : Nat) : Nat := n * 500 / portRate s 8

/-- The frame that the MAC tries next leaves its queue. -/
def nightDropHead (s : Dev) : Dev :=
  let s := match nextTx s.night.mac.tx with
    | none => s
    | some f => { s with night := { s.night with mac := { s.night.mac with tx := s.night.mac.tx.erase f } } }
  { s with night := { s.night with attempts := 0, deferred := false, backoff := none } }

/-- A frame collides after `bits` of its bits (R475): jam and back-off, or its end. -/
def collision (bits : Nat) (s : Dev) : Dev :=
  if ¬ nightHalf s ∨ ¬ s.rbit Reg.ndkCfg 0 ∨ s.night.mac.tx.isEmpty ∨ s.night.defer.isSome ∨ s.night.backoff.isSome then s
  else
    let s := s.bump64 Reg.ndkCollisions
    let s := { s with night := { s.night with defer := some (s.cycles + bitCycles s 128) } }
    if 512 < bits then nightDropHead (s.bump64 Reg.ndkLateColl)
    else
      let n := s.night.attempts + 1
      if 16 ≤ n then nightDropHead (s.bump64 Reg.ndkExcessColl)
      else
        let (r, s) := s.drawBelow (2 ^ min n 10)
        { s with night := { s.night with attempts := n, backoff := some (s.cycles + bitCycles s (32 + 512 * r)) } }

/-- The back-off ends (R475). -/
def backoffExpiry (s : Dev) : Dev :=
  match s.night.backoff with
  | none => s
  | some t => let s := s.elapseTo t; { s with night := { s.night with backoff := none } }

/-- 96 bit times after carrier the deferral ends (R475); a frame that waited has deferred, and counts once. -/
def deferEnd (s : Dev) : Dev :=
  match s.night.defer with
  | none => s
  | some t =>
    let s := s.elapseTo t
    let waits : Bool := !s.night.mac.tx.isEmpty
    let s := if waits ∧ ¬ s.night.deferred then s.bump64 Reg.ndkDeferred else s
    { s with night := { s.night with defer := none, deferred := s.night.deferred || waits } }

/-- The Night Desk's MAC has received a frame (R474): in half duplex it defers for 96 bit times after it. -/
def nightReceive (f : RxFrame) (s : Dev) : Dev :=
  let s := macReceive 8 f s
  if nightHalf s then { s with night := { s.night with defer := some (s.cycles + bitCycles s 96) } } else s

/-- The Night Desk's MAC starts its next frame, unless it defers or backs off. -/
def nightTransmit (sixteenths : Nat) (s : Dev) : Dev :=
  if s.night.defer.isSome ∨ s.night.backoff.isSome then s
  else
    let s := transmitFrame 8 true sixteenths s
    { s with night := { s.night with attempts := 0, deferred := false } }

/-! ### The settings record (R476, R507) -/

/-- A field of the settings record; zero while none is held. -/
def nightField (s : Dev) (off n : Nat) : Nat := match s.night.record with | some r => le r off n | none => 0

/-- KEY, when one is held. -/
def nightKey (s : Dev) : Option Octets :=
  match s.night.record with
  | some r => if allZero (octs r 0 32) then none else some (octs r 0 32)
  | none => none

/-- ALLOW (R476). -/
def nightAllow (s : Dev) : Nat := let v := nightField s 64 2; if v = 0 then 0xFFFE else v

/-- RATE (R476). -/
def nightRate (s : Dev) : Nat := let v := nightField s 66 2; if v = 0 then 200 else v

/-- The settings section is copied into the always-on SRAM (R53, R476); a change of KEY redraws BOOT_ID, and requests under the old key get no
response (R482). -/
def nightSettings (o : Octets) (s : Dev) : Dev :=
  let old := nightKey s
  let s := { s with night := { s.night with record := some (padTo 72 o), recordLost := false } }
  let s := s.setBit Reg.ndkStatus 3 (nightKey s).isSome
  if nightKey s = old then s
  else
    let (b, s) := s.drawOctets 8
    { s with night := { s.night with bootId := b, lastSeq := none, queue := s.night.queue.filter (fun q => !q.auth) } }

/-! ### Messages (R477, R478) -/

/-- The Night Desk's own addresses (R476): those of the settings, and the IPv6 link-local address of its MAC address (RFC 4291, PRESUMED). -/
def nightLocals (s : Dev) : List LocalAddr :=
  let m := macAddress s 8
  let vlan := if (nightField s 59 1).testBit 0 then some (nightField s 60 2 % 4096) else none
  let at_ (v6 : Bool) (ip : Nat) : LocalAddr := { mac := 8, vlan := vlan, ttl := Config.nightHops % 256, v6 := v6, ip := ip }
  let r := (s.night.record.getD [])
  let v4 := be r 32 4
  let v6 := be r 42 16
  at_ true (0xFE80 * 2 ^ 112 + (oct m 0 ^^^ 2) * 2 ^ 56 + be m 1 2 * 2 ^ 40 + 0xFFFE * 2 ^ 24 + be m 3 3) ::
    ((if v4 = 0 then [] else [at_ false (v4Prefix + v4)]) ++ (if v6 = 0 then [] else [at_ true v6]))

/-- The UDP port (R476). -/
def nightUdp (s : Dev) : Nat := let p := nightField s 62 2; if p = 0 then 17320 else p

/-- A frame of the Night Desk's own leaves by the side-band port. -/
def nightFrame (o : Octets) (s : Dev) : Dev := (enqueue 8 0 o none false s).2

/-- A response (R477, R478): the message, with its TAG where the request was authenticated, back to where the request came from. -/
def nightRespond (q : NdReq) (status : Nat) (body : Octets) (s : Dev) : Dev :=
  let s := s.emit (.night status q.opcode q.seq q.auth body)
  let msg := toBe 2 0x4E44 ++ [1, BitVec.ofNat 8 q.opcode, BitVec.ofNat 8 (1 + 2 * q.auth.toNat), 0] ++ toBe 2 status ++ padTo 8 q.bootId ++
    toBe 4 q.seq ++ toBe 2 body.length ++ [0, 0] ++ body
  let msg := if q.auth then msg ++ hmacSha256 ((nightKey s).getD []) msg else msg
  let l : LocalAddr := { mac := 8, vlan := q.peer.vlan, ttl := Config.nightHops % 256, v6 := q.peer.v6, ip := q.peer.own }
  nightFrame (etherHeader s l q.peer.mac 0 (etherType l) ++ ipPacket l q.peer.ip 0 17 l.ttl (udpPacket l q.peer.ip (nightUdp s) q.peer.port msg)) s

/-- The opcode needs an authenticated request (R479). -/
def nightKeyed (op : Nat) : Bool := op != 1 && decide (1 ≤ op) && decide (op < 16)

/-- The opcodes that are accepted without authentication in phase 9 while no key is held (R479). -/
def nightOpen (op : Nat) (s : Dev) : Bool := (op == 9 || op == 10 || op == 11) && (nightKey s).isNone && !s.night.recordLost && s.phase == 9

/-- The request stands in the queue. -/
def nightQueue (q : NdReq) (s : Dev) : Dev := { s with night := { s.night with queue := s.night.queue ++ [q] } }

/-- What a well-formed request may do (R478, R479), after its authentication: it is queued, or refused without its function. -/
def nightAdmit (q : NdReq) (s : Dev) : Dev :=
  let auth := q.auth
  let plain := { q with auth := false }
  if q.opcode = 0 ∨ 16 ≤ q.opcode then nightQueue q s
  else if s.night.recordLost ∧ nightKeyed q.opcode then nightRespond plain 4 [] s
  else if ¬ (nightAllow s).testBit q.opcode then nightRespond q 4 [] s
  else if nightKeyed q.opcode ∧ ¬ auth ∧ ¬ nightOpen q.opcode s then nightRespond plain 4 [] s
  else nightQueue q s

/-- A message of the right form from `peer` (R477). -/
def nightRequest (peer : NdPeer) (o : Octets) : Option NdReq :=
  let flags := oct o 4
  let n := be o 20 2
  if be o 0 2 ≠ 0x4E44 ∨ oct o 2 ≠ 1 ∨ flags.testBit 0 ∨ 1280 < n ∨ o.length ≠ 24 + n + (if flags.testBit 1 then 32 else 0) then none
  else some { peer := peer, opcode := oct o 3, auth := flags.testBit 1, bootId := octs o 8 8, seq := be o 16 4, body := octs o 24 n }

/-- The TAG of a message is that of R478 under a key. -/
def nightTagOk (key o : Octets) : Bool := let n := 24 + be o 20 2; hmacSha256 key (o.take n) == o.drop n

/-- A datagram at the Night Desk's UDP port (R476 to R479, R482). -/
def nightDatagram (peer : NdPeer) (o : Octets) (s : Dev) : Dev :=
  match nightRequest peer o with
  | none => s
  | some q =>
    let s := fastOscRun s
    let sec := s.cycles / usCycles 1000000
    let count := if s.night.sec = sec then s.night.count else 0
    if nightRate s ≤ count ∨ 5 ≤ s.night.queue.length then s.bump64 Reg.ndkRateDrop
    else
      let s := { s with night := { s.night with sec := sec, count := count + 1 } }
      if ¬ q.auth then nightAdmit q s
      else if s.night.recordLost then nightAdmit q s
      else if ¬ ((nightKey s).map (fun k => nightTagOk k o)).getD false then
        let s := s.bump64 Reg.ndkAuthFail
        let (first, s) := s.oncePer 0x0D2 (s.cycles / usCycles 1000000)
        if first then occur 0x0D2 {} s else s
      else if q.bootId ≠ s.night.bootId ∨ s.night.lastSeq.any (fun l => decide (q.seq ≤ l)) then
        nightRespond q 3 [] (s.bump64 Reg.ndkStale)
      else nightAdmit q { s with night := { s.night with lastSeq := some q.seq } }

/-- What the Night Desk does with a frame (R476): it answers ARP and Neighbor Discovery for its own addresses, and takes datagrams at its port. Any
other frame, one of another VLAN among them, has no effect. -/
def nightTake (f : Octets) (s : Dev) : Dev :=
  let tagged := be f 12 2 == 0x8100
  let vlan := if tagged then some (be f 14 2 % 4096) else none
  let h := if tagged then 18 else 14
  let type := be f (h - 2) 2
  let p := f.drop h
  let own (v6 : Bool) (ip : Nat) : Option LocalAddr := (nightLocals s).find? (fun l => l.v6 == v6 && l.ip == ip && l.vlan == vlan)
  if type = 0x0806 then
    match own false (v4Prefix + be p 24 4) with
    | some l => if be p 6 2 = 1 then nightFrame (advertise s l (octs p 8 6) (v4Prefix + be p 14 4) true) s else s
    | none => s
  else if type ≠ 0x0800 ∧ type ≠ 0x86DD then s
  else
    let v6 := type == 0x86DD
    match ipFields v6 p with
    | none => s
    | some i =>
      let o := i.payload
      if i.frag then s
      else if v6 ∧ i.proto = 58 then
        match own true (be o 8 16) with
        | some l => if oct o 0 = 135 then nightFrame (advertise s l (if oct o 24 = 1 then octs o 26 6 else octs f 6 6) i.src true) s else s
        | none => s
      else if i.proto ≠ 17 then s
      else match own v6 i.dst with
        | none => s
        | some _ =>
          let n := be o 4 2
          let u := o.take n
          let c := be u 6 2
          if o.length < 8 ∨ n < 8 ∨ o.length < n ∨ be u 2 2 ≠ nightUdp s then s
          else if (c = 0 ∧ v6) ∨ (c ≠ 0 ∧ ¬ sumOk (pseudoHeader v6 i.src i.dst 17 n ++ u)) then s
          else nightDatagram { mac := octs f 6 6, vlan := vlan, v6 := v6, own := i.dst, ip := i.src, port := be u 0 2 } (u.drop 8) s

/-- The Night Desk takes the oldest frame of the port's receive FIFO (R474). -/
def ndDatagram (s : Dev) : Dev :=
  if ¬ nightPort s then s
  else match s.night.mac.rx with
    | [] => s
    | h :: r => nightTake h.octets (watermarks 8 { s with night := { s.night with mac := { s.night.mac with rx := r } } })

/-! ### Serving the head of the queue (R479 to R482)

The functions that the Night Desk powers BOOT for (R481) answer DOMAIN_OFF after a thermal shutdown, which leaves every domain but AON off until
a reset (R528). -/

/-- The request at the head of the queue, when its opcode is one of `ops` and it is not a test in service. -/
def nightHead (s : Dev) (ok : Nat → Bool) : Option NdReq :=
  match s.night.queue with
  | [] => none
  | q :: _ => if ok q.opcode ∧ ¬ s.night.testing ∧ s.phase ≠ 0 then some q else none

/-- The request at the head leaves the queue with its response. -/
def nightEnd (q : NdReq) (status : Nat) (body : Octets) (s : Dev) : Dev :=
  nightRespond q status body { s with night := { s.night with queue := s.night.queue.drop 1 } }

/-- A function without parameters that answers OK with a body. -/
def nightGet (op : Nat) (body : Dev → Octets) (s : Dev) : Dev :=
  match nightHead s (· == op) with
  | none => s
  | some q => if q.body.isEmpty then nightEnd q 0 (body s) (fastOscRun s) else nightEnd q 2 [] s

/-- The serial number, as `GLB.SERIAL` shows it, most significant octet first. -/
def nightSerial (s : Dev) : Octets := toBe 16 ((upTo 4).map (fun i => (s.reg (Reg.glbSerial i)).toNat * 2 ^ (32 * i))).sum

/-- A register in network order. -/
def nightReg (s : Dev) (a : Nat) : Octets := toBe 4 (s.reg a).toNat

/-- HELLO. -/
def ndHello (s : Dev) : Dev :=
  nightGet 1 (fun s => padTo 8 s.night.bootId ++ nightSerial s ++ nightReg s Reg.bootLc ++ nightReg s Reg.bootStatus ++
    [BitVec.ofNat 8 (nightKey s).isSome.toNat]) s

/-- IDENTITY. -/
def ndIdentity (f : Fuses) (s : Dev) : Dev :=
  nightGet 2 (fun s => nightSerial s ++ nightReg s Reg.bootStrap ++ nightReg s Reg.bootVersion ++ toBe 4 s.night.cause ++
    identityPublic f) s

/-- POWER. -/
def ndPower (s : Dev) : Dev :=
  nightGet 3 (fun s => nightReg s Reg.pwrDomainOn ++ nightReg s Reg.pwrDomainFail ++
    ((upTo 20).map (fun i => toBe 2 (if s.domainOn (tempDomain i) then s.rfld (Reg.pwrTemp i) 0 16 else 0x8000))).flatten ++
    toBe 2 (s.rfld Reg.pwrAvsTarget 0 16 / 10)) s

/-- A bitmap over the block sources: source n is bit n mod 8 of octet n / 8. -/
def sourceMap (p : Nat → Bool) : Octets :=
  (upTo 128).map (fun i => BitVec.ofNat 8 ((upTo 8).map (fun j => if p (8 * i + j) then 2 ^ j else 0)).sum)

/-- FAULTS. -/
def ndFaults (s : Dev) : Dev :=
  nightGet 4 (fun s => sourceMap (fun n => s.rbit (Reg.srcStatus n) 0) ++
    sourceMap (fun n => s.rbit (Reg.srcStatus n) 1 || s.rbit (Reg.srcStatus n) 2)) s

/-- LAST_GASP. -/
def ndLastGasp (s : Dev) : Dev := nightGet 5 (fun s => padTo 256 s.flt.gasp) s

/-- FAULT_LOG (R504): a record that fails parity as it is read returns every octet as 0xFF, and the error is source 0x01B (R507). -/
def ndFaultLog (bad : List Nat) (s : Dev) : Dev :=
  match nightHead s (· == 6) with
  | none => s
  | some q =>
    let first := oct q.body 0
    let n := oct q.body 1
    if q.body.length ≠ 2 ∨ n = 0 ∨ 32 < n then nightEnd q 2 [] s
    else
      let recs := ((s.flt.log.drop first).take n).zipIdx first
      let s := recs.foldl (fun s p => if bad.contains p.2 then occur 0x01B {} s else s) (fastOscRun s)
      nightEnd q 0 ((recs.map (fun p => if bad.contains p.2 then List.replicate 32 0xFF else p.1)).flatten) s

/-- The Night Desk's DOMAIN, RESET and image actions are recorded (R483). -/
def nightAction (op : Nat) (s : Dev) : Dev := occur 0x0D3 { data := [BitVec.ofNat 8 op] } (fastOscRun s)

/-- DOMAIN (R481). -/
def ndDomain (s : Dev) : Dev :=
  match nightHead s (· == 7) with
  | none => s
  | some q =>
    let d := oct q.body 0
    let on := oct q.body 1
    if q.body.length ≠ 2 ∨ d = 0 ∨ 29 < d ∨ 1 < on then nightEnd q 2 [] s
    else
      let s := nightAction 7 s
      nightEnd q 0 [] (if on = 1 then domainForce d s else domainCut d s)

/-- RESET (R479, R482): the chip, with a host reset that falls together with it, or the blocks of a domain. -/
def ndReset (f : Fuses) (s : Dev) : Dev :=
  match nightHead s (· == 8) with
  | none => s
  | some q =>
    let d := oct q.body 0
    if q.body.length ≠ 1 ∨ 29 < d then nightEnd q 2 [] s
    else
      let s := nightAction 8 s
      if d ≠ 0 then nightEnd q 0 [] (domainReset d s)
      else
        let both : Bool := match s.boot.resetAt with | some t => decide (t ≤ s.cycles) | none => false
        let s := warmReset 3 f (nightEnd q 0 [] s)
        if both then causeBit 4 s else s

/-- IMAGE_BEGIN (R480): the whole slot is erased. -/
def ndImageBegin (flashOk : Bool) (s : Dev) : Dev :=
  match nightHead s (· == 9) with
  | none => s
  | some q =>
    let slot := oct q.body 0
    if q.body.length ≠ 1 ∨ 1 < slot then nightEnd q 2 [] s
    else if s.pwr.shutdown then nightEnd q 6 [] s
    else if slotRead s slot || slotOwned s slot true then nightEnd q 5 [] s
    else
      let s := slotOwn slot true (nightAction 9 s)
      if ¬ flashPresent s ∨ ¬ flashOk then nightEnd q 8 [] s
      else
        let s := s.emit (.erase slot)
        nightEnd q 0 [] { s with boot := { s.boot with erased := ⟨slot, []⟩ :: s.boot.erased.filter (fun e => e.slot != slot) } }

/-- IMAGE_WRITE (R480). -/
def ndImageWrite (flashOk : Bool) (s : Dev) : Dev :=
  match nightHead s (· == 10) with
  | none => s
  | some q =>
    let slot := oct q.body 0
    let off := be q.body 1 4
    let n := be q.body 5 4
    if q.body.length < 9 ∨ 1 < slot ∨ n = 0 ∨ 1024 < n ∨ q.body.length ≠ 9 + n ∨ off % 4 ≠ 0 ∨ ¬ slotErased s slot off n then nightEnd q 2 [] s
    else if s.pwr.shutdown then nightEnd q 6 [] s
    else if slotRead s slot || slotOwned s slot true then nightEnd q 5 [] s
    else
      let s := slotOwn slot true (nightAction 10 s)
      if ¬ flashPresent s ∨ ¬ flashOk then nightEnd q 8 [] s
      else nightEnd q 0 (toBe 4 n) (slotProgram slot off (q.body.drop 9) s)

/-- BOOT_RETRY (R480). -/
def ndBootRetry (s : Dev) : Dev :=
  match nightHead s (· == 11) with
  | none => s
  | some q =>
    if ¬ q.body.isEmpty then nightEnd q 2 [] s
    else if s.pwr.shutdown then nightEnd q 6 [] s
    else if s.phase ≠ 9 then nightEnd q 7 [0] s
    else bootRetry (nightEnd q 0 [] (fastOscRun s))

/-- TIME_STEP (R409, R479). -/
def ndTimeStep (s : Dev) : Dev :=
  match nightHead s (· == 12) with
  | none => s
  | some q =>
    if q.body.length ≠ 9 ∨ 1 < oct q.body 8 then nightEnd q 2 [] s
    else if ¬ s.domainOn 26 ∨ ¬ s.domainOn 25 then nightEnd q 6 [] s
    else
      let (code, s) := correct (signed 64 (be q.body 0 8)) (oct q.body 8 == 1) 2 (fastOscRun s)
      nightEnd q (if code ≤ 1 then 0 else 7) [BitVec.ofNat 8 code] s

/-- LC_NONCE (R60). -/
def ndLcNonce (s : Dev) : Dev :=
  match nightHead s (· == 13) with
  | none => s
  | some q =>
    if ¬ q.body.isEmpty then nightEnd q 2 [] s
    else if s.pwr.shutdown then nightEnd q 6 [] s
    else
      let (o, s) := newNonce s
      nightEnd q 0 o (fastOscRun s)

/-- LC_TRANSITION (R60 to R62). -/
def ndLcTransition (fuseOk : Bool) (s : State) : State :=
  match nightHead s.dev (· == 14) with
  | none => s
  | some q =>
    let target := oct q.body 0
    let n := q.body.length
    if 3 < target ∨ n ≠ (if target = 1 then 49 else 97) then { s with dev := nightEnd q 2 [] s.dev }
    else if s.dev.pwr.shutdown then { s with dev := nightEnd q 6 [] s.dev }
    else match lcRequest target (octs q.body 1 48) (octs q.body 1 96) fuseOk s with
      | (.accepted, s) => { s with dev := lifeCycleReset s.fuses (nightEnd q 0 [0] s.dev) }
      | (_, s) => { s with dev := nightEnd q 7 [1] (fastOscRun s.dev) }

/-- SELF_TEST (R539, R540): the request stays at the head until the test ends. -/
def ndSelfTest (kinds : Nat → Bool) (m : TestMeasure) (s : Dev) : Dev :=
  match nightHead s (· == 15) with
  | none => s
  | some q =>
    let p := padTo 48 q.body
    let key : TestKey := ⟨oct p 0, oct p 1⟩
    if ¬ kinds key.kind then s
    else if q.body.length ≠ 28 ∨ ¬ testParamsOk p then nightEnd q 2 [] s
    else if ¬ (testDomains key).all s.domainOn then nightEnd q 6 [] s
    else match testAsk p s with
      | .ok => let s := testBegin p m none true (fastOscRun s); { s with night := { s.night with testing := true } }
      | .refused c => nightEnd q 7 [BitVec.ofNat 8 c] s
      | .admission => nightEnd q 7 [0] (testRefused s)
      | .badParam | .noTemplate => nightEnd q 2 [] s

/-- A SELF_TEST in service whose test has ended is answered with its record (R539). -/
def nightTestEnd (s : Dev) : Dev :=
  match s.night.testBody with
  | none => s
  | some r =>
    let s := { s with night := { s.night with testBody := none } }
    match s.night.testing, s.night.queue with
    | true, q :: _ => nightEnd q 0 r { s with night := { s.night with testing := false } }
    | _, _ => s

/-- A request with a reserved opcode. -/
def ndBadOpcode (s : Dev) : Dev :=
  match nightHead s (fun op => op == 0 || decide (16 ≤ op)) with
  | none => s
  | some q => nightEnd q 1 [] s

end Sys2Proof.Machine
end

