-- ==== Sys2Proof/Machine/Registers.lean ====
section
/-! DEFINITION. Reads and writes of BAR0 (R11 to R14, R472, R514, R544 to R553): the registers whose write does more than set a field, the reads
that have an effect, and the two windows; and the release of a shorted output (R570). -/

namespace Sys2Proof.Machine

/-! ### Writes that act -/

/-- A write of a register's fields but for the bits of `mask`, which keep their value. -/
def writeRest (a mask : Nat) (v : Word) (s : Dev) : Dev :=
  writeFields a ((v.toNat &&& (0xFFFFFFFF ^^^ mask)) ||| ((s.reg a).toNat &&& mask)) s

/-- `FLT.CFG` is written (R496, R500, R502): without PAIR_HB the pair holds 1/0. -/
def fltCfgWrite (v : Word) (s : Dev) : Dev :=
  let s := writeFields Reg.fltCfg v.toNat s
  if s.flt.pairFlip ∧ ¬ s.rbit Reg.fltCfg 1 ∧ ¬ s.rbit Reg.fltStatus 0 then
    pairDrive true { s with flt := { s.flt with pairFlip := false } }
  else s

/-- `FLT.SRC[n].CTRL` is written; a source that is not produced ignores it (R485, R496, R502). -/
def srcCtrlWrite (n : Nat) (v : Word) (s : Dev) : Dev :=
  if (sourceMask n).isNone then s
  else
    let s := writeFields (Reg.srcCtrl n) v.toNat s
    if bit v 8 then forceSource n s else s

/-- `FLT.SRC[n].STATUS` is written (R489, R510). -/
def srcStatusWrite (n : Nat) (v : Word) (s : Dev) : Dev :=
  let s := stickyUpdate n (writeFields (Reg.srcStatus n) v.toNat s)
  if bit v 7 then clearSource n s else s

/-- `GDU.CFG.SPARE_CL` is written (R33): by the register list (a write without a requester) or the host, while no channel is open. -/
def spareWrite (by_ : Option Requester) (on : Bool) (s : Dev) : Dev :=
  if ¬ s.chans.isEmpty ∨ (by_ ≠ none ∧ by_ ≠ some .host) then s else setSpare on s

/-- `GDU.CFG` is written (R33, R122, R125). -/
def gduCfgWrite (by_ : Option Requester) (v : Word) (s : Dev) : Dev :=
  let s := spareWrite by_ (bit v 1) (writeRest Reg.gduCfg 3 v s)
  if bit v 0 = s.rbit Reg.gduCfg 0 then s else gduEnWrite (bit v 0) s

/-- `CLn.RFE.BANK_CMD` is written (R283). -/
def bankCmdWrite (n : Nat) (v : Word) (s : Dev) : Dev :=
  let p := fld v 0 6
  match fld v 9 3 with
  | 1 => bankCommit n p (bit v 8) s
  | 2 => bankRead n p (bit v 8) s
  | 3 => bankSwap n p (fld v 16 7) s
  | 4 => bankSettle n p (bit v 8) s
  | _ => bankStatus n 5 s

/-- A word of the MSI-X table is written: a vector that is unmasked with its pending bit set is signalled (R469). -/
def msixWrite (i : Nat) (v : Word) (s : Dev) : Dev :=
  let s := s.setReg (Reg.pciMsixTable i) v
  let n := i / 4
  if i % 4 = 3 ∧ ¬ bit v 0 ∧ s.rbit (Reg.pciMsixPba (n / 32)) (n % 32) then msix n (s.setBit (Reg.pciMsixPba (n / 32)) (n % 32) false) else s

/-- A ring's base is written, which an enabled ring ignores (R468). -/
def ringBaseWrite (ctrl a mask : Nat) (v : Word) (s : Dev) : Dev := if s.rbit ctrl 0 then s else s.setNat a (v.toNat &&& mask)

/-- `ARC.SINK[k].CTRL` is written (R353): enabling the sink again clears ERR. -/
def sinkCtrlWrite (k : Nat) (v : Word) (s : Dev) : Dev :=
  let was := s.rbit (Reg.arcSinkCtrl k) 0
  let s := writeFields (Reg.arcSinkCtrl k) v.toNat s
  sinkGo k (if bit v 0 ∧ ¬ was then s.setBit (Reg.arcSinkStatus k) 0 false else s)

/-- `NDK.MODE` is written (R33, R473), by the register list, the host or the Night Desk: the link is down until the next poll. -/
def nightModeWrite (by_ : Option Requester) (v : Word) (s : Dev) : Dev :=
  if by_ = some .fw then s
  else if fld v 0 2 = s.rfld Reg.ndkMode 0 2 then s
  else nightLinkDown (s.setFld Reg.ndkMode 0 2 (fld v 0 2))

/-- `PWR.CLKSEL` is written: by the host or the Night Desk (R33, R518). -/
def clkselBy (by_ : Option Requester) (v : Word) (s : Dev) : Dev := if by_ = some .fw ∧ s.phase = 9 then s else clkselWrite v s

/-- What a write of a register does beyond setting its fields; none for a register that has no such effect. A write of the register initialisation
list has no requester. -/
def regAct (by_ : Option Requester) (b : RegBlock) (u o : Nat) : Option (Word → Dev → Dev) :=
  match b with
  | .glb => if o = 0x2C then some resetWrite else none
  | .pwr => if o = 4 then some (domainEnWrite by_) else if o = 0xC then some (clkselBy by_) else none
  | .flt =>
    if o = 0 then some fltCfgWrite
    else if o = 8 then some (fun v s => if bit v 0 then pairClear s else s)
    else if o = 0xC then some (fun _ s => pairKick s)
    else if 0x100 ≤ o ∧ o < 0x180 then some (fun v s => trapForget (writeFields (Reg.fltTrapPend ((o - 0x100) / 4)) v.toNat s))
    else none
  | .src => if o = 0 then some (srcCtrlWrite u) else if o = 4 then some (srcStatusWrite u) else none
  | .ldg => none
  | .tb =>
    if o = 0x28 then some incrWrite
    else if o = 0x38 then some adjGo
    else if o = 0x100 then some ppsOutWrite
    else if o = 0x108 then some ppsInWrite
    else if o = 0x210 then some tickCtrl
    else if 0x300 ≤ o ∧ o < 0x380 ∧ o % 16 = 0 then some (synthWrite ((o - 0x300) / 16))
    else none
  | .gdu =>
    if o = 0 then some (gduCfgWrite by_)
    else if o = 0x80C then some (fun v s => if bit v 0 then epochGo s else s)
    else none
  | .boot => if o = 0x2C then some hostBootGo else none
  | .ctl => none
  | .cl => none
  | .tile => none
  | .ee => if o = 0 then some (fun v s => eeEnWrite u (bit v 0) s) else none
  | .rfe =>
    if o = 0 then some (fun v s => rfeEnWrite u (bit v 0) s)
    else if o = 0xC then some (bankCmdWrite u)
    else if o = 0x18 then some (fun v s => if bit v 0 then syncGo u s else s)
    else if o = 0x1C then some (lvlSel u)
    else none
  | .td => if o = 0 then some (fun v s => tdEnWrite u (bit v 0) s) else none
  | .mpe =>
    if o = 0 then some (fun v s => mpeEnWrite (bit v 0) (writeRest Reg.mpeCfg 1 v s))
    else if o = 8 then some (fun v s => refreshPs (writeFields Reg.mpePsReplay v.toNat s))
    else none
  | .sec =>
    if o = 0 then some (fun v s => secEnWrite (bit v 0) s)
    else none
  | .mac =>
    if o = 0 then some (fun v s => macEnWrite u (bit v 0) (writeRest (Reg.macCfg u) 1 v s))
    else if o = 0xC then some (groupWrite u)
    else if o = 0x14 then some (wmWrite u)
    else if o = 0x20 then some (partWrite u false)
    else if o = 0x24 then some (partWrite u true)
    else none
  | .sds =>
    if o = 0 then some (fun v s => laneEnWrite u (bit v 0) (sdsLoopWrite u (fld v 10 2) (writeRest (Reg.sdsCfg u) 0xC01 v s))) else none
  | .ron =>
    if o = 0 then some ronCfgWrite
    else if o = 0x10 then some ronCtrlWrite
    else if o = 0x20 then some (fun _ s => ronKick s)
    else if 0x80 ≤ o ∧ o < 0xA0 then
      some (fun v s => (upTo 16).foldl (fun s k => ronDrain k s) (writeFields (Reg.ronCredit ((o - 0x80) / 4)) v.toNat s))
    else none
  | .pci =>
    let r := o % 0x100 / 0x20
    if 0x100 ≤ o ∧ o < 0x180 then
      if o % 0x20 = 0 then some (ringBaseWrite (Reg.pciCrCtrl r) (Reg.pciCrBaseLo r) 0xFFFFF000)
      else if o % 0x20 = 4 then some (ringBaseWrite (Reg.pciCrCtrl r) (Reg.pciCrBaseHi r) 0xFFFFFFFF)
      else if o % 0x20 = 8 then some (crCtrlWrite r)
      else none
    else if 0x200 ≤ o ∧ o < 0x280 then
      if o % 0x20 = 0 then some (ringBaseWrite (Reg.pciErCtrl r) (Reg.pciErBaseLo r) 0xFFFFF000)
      else if o % 0x20 = 4 then some (ringBaseWrite (Reg.pciErCtrl r) (Reg.pciErBaseHi r) 0xFFFFFFFF)
      else if o % 0x20 = 8 then some (erCtrlWrite r)
      else none
    else if 0x8000 ≤ o ∧ o < 0x8400 then some (msixWrite ((o - 0x8000) / 4))
    else none
  | .tdm =>
    if o = 0 then some (tdmCfgWrite u)
    else if o = 8 then some (idleWrite u)
    else if o = 0x28 then some (fun v s => if bit v 0 then rearm u s else s)
    else none
  | .arc =>
    if o = 0 then some (fun v s => arcEn (bit v 0) (writeRest Reg.arcCfg 1 v s))
    else if o = 0x10 then some (fun v s =>
      if s.chans.any (fun p => !p.2.recs.isEmpty) then s else refreshRec (refreshPs (writeFields Reg.arcRecPool v.toNat s)))
    else if 0x20 ≤ o ∧ o < 0x60 ∧ o % 0x20 = 0x10 then some (fun v s => sinkTail ((o - 0x20) / 0x20) (fld v 0 16) [] s)
    else if 0x20 ≤ o ∧ o < 0x60 ∧ o % 0x20 = 0x14 then some (sinkCtrlWrite ((o - 0x20) / 0x20))
    else if 0x200 ≤ o ∧ o < 0x260 ∧ o % 16 = 0 then some (fun v s => fifoCfg ((o - 0x200) / 16) (fld v 0 10) s)
    else none
  | .ndk => if o = 0 then some (nightModeWrite by_) else none

/-- One aligned 32-bit write of a register that its requester reaches and its block serves. -/
def wordWrite (by_ : Requester) (a : Nat) (v : Word) (s : Dev) : Dev :=
  gated by_ a (fun s => match locate a with
    | none => s
    | some (b, u, o) => match regAct (some by_) b u o with
      | some act => act v s
      | none => writeFields a v.toNat s) s

/-! ### The debug window (R552) -/

/-- `GLB.DBG_STATUS` after a window access. -/
def debugStatus (denied parity : Bool) (s : Dev) : Dev := (s.setBit Reg.glbDbgStatus 1 denied).setBit Reg.glbDbgStatus 2 parity

/-- A window access is refused. -/
def debugRefuse (s : Dev) : Dev := debugStatus true false (s.bump Reg.glbBadAccess)

/-- The tile that the window shows. -/
def debugTile (s : Dev) : Nat := s.rfld Reg.glbDbgPage 0 8

/-- The device is DEPLOYED or RETIRED, whose window is shut (R59). -/
def debugShut (s : Dev) : Bool := !s.rbit Reg.glbDbgStatus 0

/-- The tile's cluster is ACTIVE or CLOCK_GATED. -/
def debugAwake (s : Dev) : Bool := decide (2 ≤ s.clState (debugTile s / 16))

/-- The window shows data SRAM at an offset. -/
def debugData (off : Nat) : Bool := decide (off < 0x280000)

/-- The window shows instruction SRAM at an offset. -/
def debugInstr (off : Nat) : Bool := decide (0x400000 ≤ off) && decide (off < 0x420000)

/-- Octets of the resident area (R220). -/
def residentSize : Nat := 272 * 1024

/-- The octet of tile memory at an address as the window last wrote it, where it is listed. -/
def tileOctet (m : List Host.Cell) (a : Nat) : Option Byte := kvGet m a

/-- An octet written in tile memory through the window: a zero in a tile that is as it was wiped is not listed. -/
def tilePut (used : List Nat) (m : List Host.Cell) (a : Nat) (v : Byte) : List Host.Cell :=
  if v = 0 ∧ ¬ used.contains (a / 0x800000) then kvDel m a else kvSet m a v

/-- An entry says something. -/
def Memory.cellOk (used : List Nat) (c : Host.Cell) : Bool := c.2 != 0 || used.contains (c.1 / 0x800000)

/-- The canonical form of tile memory: one entry per address, in strictly rising order, and no zero in a tile that is as it was wiped (R40), where
an octet that is not listed reads zero. In a tile that kernels have used, an octet that is not listed reads as a free value. -/
def Memory.wf (used : List Nat) (m : List Host.Cell) : Bool :=
  match m with
  | [] => true
  | [c] => Memory.cellOk used c
  | c :: d :: r => Memory.cellOk used c && decide (c.1 < d.1) && Memory.wf used (d :: r)

/-- The octets of tile `t` at a window offset that are not listed are zero, as the wipe left them (R22, R40): no kernel set has been loaded into its
instruction SRAM and resident area, and nothing has worked above it. -/
def tileBlank (s : Dev) (t off : Nat) : Bool :=
  if debugInstr off then !s.rbit (Reg.tileState t) 31
  else !s.tileUsed.contains t && (decide (residentSize ≤ off) || !s.rbit (Reg.tileState t) 31)

/-- The address in tile memory of a window offset. -/
def tileAddr (t off : Nat) : Nat := t * 0x800000 + off

/-- The word of tile memory at a window offset: as written through the window, zero as wiped, and free where kernels, engines and firmware write. -/
def debugWord (off : Nat) (s : Dev) : Word × Dev :=
  let a := tileAddr (debugTile s) (off / 4 * 4)
  let l := (upTo 4).map (fun i => match tileOctet s.tileMem (a + i) with
    | some b => some b
    | none => if tileBlank s (debugTile s) off then some 0 else none)
  if l.all Option.isSome then (BitVec.ofNat 32 (leNat (l.map (·.getD 0))), s) else s.drawWord

/-- A read of the window (R552). -/
def debugRead (by_ : Requester) (off : Nat) (bad : Bool) (s : Dev) : Dev :=
  let a := 0x800000 + off / 4 * 4
  if ¬ reaches by_ s then s
  else if debugShut s then (debugStatus false false s).emit (.read by_ a 0)
  else if ¬ debugAwake s then (debugRefuse s).emit (.read by_ a 0)
  else if ¬ (debugData off || debugInstr off) then (debugStatus false false s).emit (.read by_ a 0)
  else
    let (w, s) := debugWord off s
    (debugStatus false bad s).emit (.read by_ a w.toNat)

/-- A write of the window (R552): data SRAM above the resident area, of a tile that is fenced and holds no channel. -/
def debugWrite (by_ : Requester) (off : Nat) (v : Word) (s : Dev) : Dev :=
  let t := debugTile s
  if ¬ reaches by_ s then s
  else if debugShut s then debugStatus false false s
  else if ¬ debugAwake s then debugRefuse s
  else if debugInstr off then debugRefuse s
  else if ¬ debugData off then debugStatus false false s
  else if off < residentSize ∨ ¬ s.rbit (Reg.tileCtrl t) 0 ∨ s.rfld (Reg.tileChCount t) 0 16 ≠ 0 then debugRefuse s
  else
    let a := tileAddr t (off / 4 * 4)
    debugStatus false false { s with tileMem := (upTo 4).foldl (fun m i => tilePut s.tileUsed m (a + i) (BitVec.ofNat 8 (v.toNat / 2 ^ (8 * i)))) s.tileMem }

/-! ### REGISTER_WRITE (R545) -/

/-- One 32-bit write within BAR0. -/
def bar0Word (by_ : Requester) (a : Nat) (v : Word) (s : Dev) : Dev :=
  if 0x400000 ≤ a ∧ a < 0x600000 then s.bump Reg.glbBadAccess
  else if 0x800000 ≤ a then debugWrite by_ (a - 0x800000) v s
  else wordWrite by_ a v s

/-- A write of `size` octets: 4 aligned octets, or 8 as two writes with the lower address first; any other is discarded and counted. -/
def registerWrite (by_ : Requester) (a size : Nat) (v : BitVec 64) (s : Dev) : Dev :=
  if ¬ reaches by_ s then s
  else if size = 4 ∧ a % 4 = 0 then bar0Word by_ a (BitVec.ofNat 32 v.toNat) s
  else if size = 8 ∧ a % 8 = 0 then bar0Word by_ (a + 4) (BitVec.ofNat 32 (v.toNat / 2 ^ 32)) (bar0Word by_ a (BitVec.ofNat 32 v.toNat) s)
  else s.bump Reg.glbBadAccess

/-- The address of a source's STATUS, whose bits a write clears (R510). -/
def clearsSource (a : Nat) : Bool :=
  match regInfo (a / 4 * 4) with
  | some i => decide (i.block = .src) && decide (i.off = 4)
  | none => false

/-- REGISTER_WRITE with the injections that are due (R491, R502): a write that clears a source's STATUS falls in the cycle of the injection, any
other in the cycle after it. -/
def registerStep (by_ : Requester) (a size : Nat) (v : BitVec 64) (s : Dev) : Dev :=
  if clearsSource a then takeInjections (registerWrite by_ a size v s) else registerWrite by_ a size v (takeInjections s)

/-! ### Reads with an effect (R11, R401, R514, R546) -/

/-- What a read of the register at `a` returns to its requester. -/
def readAs (by_ : Requester) (a v : Nat) (s : Dev) : Dev := s.emit (.read by_ a v)

/-- A requester's latch of a counter's high word. -/
def latchOf (by_ : Requester) (s : Dev) : List (Nat × Word) :=
  match by_ with
  | .fw => s.pci.latchFw
  | .host => s.pci.latchHost
  | .nd => s.pci.latchNd

/-- A requester's latch is written. -/
def setLatch (by_ : Requester) (a : Nat) (w : Word) (s : Dev) : Dev :=
  match by_ with
  | .fw => { s with pci := { s.pci with latchFw := kvSet s.pci.latchFw a w } }
  | .host => { s with pci := { s.pci with latchHost := kvSet s.pci.latchHost a w } }
  | .nd => { s with pci := { s.pci with latchNd := kvSet s.pci.latchNd a w } }

/-- The low word of a 64-bit counter is read (R546): it returns, the high word is latched for this requester, and the counter clears, unless its
block is off (R514). -/
def counterRead (by_ : Requester) (a : Nat) (s : Dev) : Dev :=
  match regInfo a with
  | none => s
  | some i =>
    if ¬ reaches by_ s ∨ ¬ i.row.rc64 ∨ i.row.isHigh i.off then s
    else
      let s' := setLatch by_ a (s.reg (a + 4)) (readAs by_ a (s.reg a).toNat s)
      if s.served i then (s'.setNat a 0).setNat (a + 4) 0 else s'

/-- A register with fields that a read clears is read (R11); the high word of a 64-bit counter returns this requester's latch (R546). -/
def rcRead (by_ : Requester) (a : Nat) (s : Dev) : Dev :=
  match regInfo a with
  | none => s
  | some i =>
    if ¬ reaches by_ s then s
    else if i.row.rc64 then
      (if i.row.isHigh i.off then readAs by_ a ((kvGet (latchOf by_ s) (a - 4)).getD 0).toNat s else s)
    else if ¬ i.row.rc then s
    else
      let s' := readAs by_ a (s.reg a).toNat s
      if s.served i then s'.setNat a 0 else s'

/-- A read of one of the registers that latch or pop (R69, R401, R406, R418): `f` gives the value and the effect; with its block off the held
value returns and nothing else happens. -/
def readWith (by_ : Requester) (a : Nat) (f : Dev → Nat × Dev) (s : Dev) : Dev :=
  if ¬ reaches by_ s then s
  else if s.domainOn 26 then
    let (v, s) := f s
    readAs by_ a v s
  else readAs by_ a (s.reg a).toNat s

/-! ### Shorted outputs (R570, R571) -/

/-- A CMOS output reads back wrong for 1 µs: it is released until the next reset. -/
def outputShort (p : OutPin) (s : Dev) : Dev :=
  if s.phase = 0 ∨ s.shorts.contains p then s else occur 0x028 {} { s with shorts := p :: s.shorts }

end Sys2Proof.Machine
end

