-- ==== Sys2Proof/Machine/Apply.lean ====
section
/-! DEFINITION. Phase 7: the image is applied (R53, R54), with the power-on self-test (R541) and the channel plan (R158, R159). -/

namespace Sys2Proof.Machine

/-! ### The register initialisation list (R54) -/

/-- The entries of a register initialisation list. -/
def listEntries (o : Octets) : List Octets := (upTo (o.length / 12)).map (fun i => octs o (12 * i) 12)

/-- A block whose power is the GDU's to switch: the image is applied to it before the GDU does. -/
def clusterBlock : RegBlock → Bool
  | .cl | .tile | .ee | .rfe | .td => true
  | _ => false

/-- An entry addresses the BOOT block. -/
def entryBoot (e : Octets) : Bool := match locate (le e 0 4) with | some (.boot, _, _) => true | _ => false

/-- One entry is applied: its mask's bits take the value's, and the other bits of a register that holds fields keep theirs. -/
def applyEntry (e : Octets) (s : Dev) : Dev :=
  let a := le e 0 4
  let mask := le e 4 4
  match regInfo a with
  | none => occur 0x015 {} s
  | some i =>
    let kept := (s.reg a).toNat &&& i.row.kept &&& (0xFFFFFFFF ^^^ mask)
    let v : Word := BitVec.ofNat 32 (kept ||| (le e 8 4 &&& mask))
    let write (s : Dev) : Dev := match regAct none i.block i.unit i.off with
      | some act => act v s
      | none => writeFields a v.toNat s
    if clusterBlock i.block then write s else gated .fw a write s

/-- The entries before one that addresses the BOOT block, of which those at reserved addresses have been recorded. -/
def listRefused (l : List Octets) (s : Dev) : Dev :=
  (l.takeWhile (fun e => !entryBoot e)).foldl (fun s e => if (regInfo (le e 0 4)).isNone then occur 0x015 {} s else s) s

/-! ### The power-on self-test (R541) -/

/-- The test of tile `t` with the `i`-th draw: its set, its record and its entry. A tile whose cluster is barred runs none. -/
def postTile (i t : Nat) (m : TestMeasure) (s : Dev) : Dev :=
  let n := t / 16
  let sets := (kernelSets s).length
  if s.rbit Reg.pwrDomainFail (1 + n) ∨ sets = 0 then s
  else
    let s := if s.clState n = 0 then (clusterUp n s).setFld Reg.gduClState (2 * n) 2 2 else s
    let k := i % sets
    let s := takeSet t k s
    let x : Test := { key := ⟨2, t⟩, m := m, params := padTo 48 [2, BitVec.ofNat 8 t, BitVec.ofNat 8 k], start := s.now, abandon := 0,
                      cmd := none, night := false }
    let fail := testFail s x
    let s := testFinish x (if fail = 0 then 0 else 1) fail 0 s
    if fail = 0 then s else tileOut t s

/-- The test of lane `m` before training: a lane that fails stays OFF. -/
def postLane (m : Nat) (t : TestMeasure) (s : Dev) : Dev :=
  if ¬ s.domainOn (netDomain m) then s
  else
    let x : Test := { key := ⟨1, m⟩, m := t, params := padTo 48 [1, BitVec.ofNat 8 m], start := s.now, abandon := 0, cmd := none, night := false }
    let en := s.rbit (Reg.sdsCfg m) 0
    let loop := s.rfld (Reg.sdsCfg m) 10 2
    let fail := testFail s x
    let s := testFinish x (if fail = 0 then 0 else 1) fail 0 (laneRead x s)
    let s := ((s.setBit (Reg.sdsCfg m) 0 en).setFld (Reg.sdsCfg m) 10 2 loop)
    if fail = 0 then s else { sdsEnWrite m false s with boot := { s.boot with badLanes := m :: s.boot.badLanes.filter (· != m) } }

/-- The tiles that the test draws: one of a cluster, up to POST_TILES. -/
def postDrawn (n : Nat) (l : List (Fin 256 × TestMeasure)) : List (Nat × TestMeasure) :=
  (l.foldl (fun (acc : List (Nat × TestMeasure)) p =>
    if acc.any (fun q => q.1 / 16 == p.1.val / 16) then acc else acc ++ [(p.1.val, p.2)]) []).take n

/-- The power-on self-test: POST_TILES tiles, and lanes L0 to L7 where POST_LANES asks for them. -/
def postRun (tiles : List (Fin 256 × TestMeasure)) (lanes : List (Fin 8 × TestMeasure)) (s : Dev) : Dev :=
  let s := ((postDrawn (limitOf s 12 1 4) tiles).zipIdx).foldl (fun s p => postTile p.2 p.1.1 p.1.2 s) s
  if limitOf s 13 1 0 % 2 = 1 then
    (upTo 8).foldl (fun s m => match lanes.find? (fun p => p.1.val == m) with
      | some p => postLane m p.2 s
      | none => s) s
  else s

/-! ### The sections (R53, R76, R96, R274, R299, R430) -/

/-- What the epoch bank of epoch 0 takes from the image. -/
def applyBank (s : Dev) : Dev :=
  let p := sectionProfiles (sectionOf s 5)
  let b : Bank := { codecTables := sectionOf s 4, profiles := p.1, cost := sectionOf s 10, power := sectionOf s 11 }
  let s := powerProfile (sectionOf s 11) (loadImageTemplates (sectionOf s 2) { s with epochs := { s.epochs with cur := b } })
  let s := p.2.foldl (fun s x => (upTo 16).foldl (fun s n =>
    if s.rbit Reg.pwrDomainFail (1 + n) then s else note (rfeSource n) 0x0507 none [0, 0, 0, 0, BitVec.ofNat 8 x] s) s) s
  let t := if (sectionOf s 6).isEmpty then ([], []) else toneRefusals (sectionOf s 6)
  let s := t.1.foldl (fun s x => note 0x202 0x0606 none [0, 0, 0, 0, BitVec.ofNat 8 x] s) s
  t.2.foldl (fun s x => note 0x202 0x0607 none [0, 0, 0, 0, BitVec.ofNat 8 x] s) s

/-- The sessions that the network settings define (R159). -/
def applySessions (s : Dev) : Dev :=
  if 2 ≤ s.role then s
  else (Config.imageSessions (sectionOf s 8)).foldl (fun s p =>
    if sessionCount ≤ p.1 then s
    else
      let x := sessionFrom (padTo 32 p.2.1) p.2.2
      let (nb, s) := neighbourOf x.addr x.remoteIp s
      mapPorts p.1 x.addr x.localPort x.rtcpMux (setSession p.1 { x with neigh := nb } s)) s

/-- The local addresses that the network settings write (R165). -/
def applyAddrs (s : Dev) : Dev :=
  if 2 ≤ s.role then s
  else (Config.imageAddrs (sectionOf s 8)).foldl (fun s p =>
    if 16 ≤ p.1 then s
    else (p.2.take 6).zipIdx.foldl (fun s w => writeFields (Reg.mpeAddrIp0 p.1 + 4 * w.2) w.1.toNat s) s) s

/-- The sections that firmware and the Night Desk take. -/
def applySections (s : Dev) : Dev :=
  let s := planLoad (sectionOf s 9) (applySessions (applyAddrs (applyBank s)))
  match kvGet s.boot.sections 12 with
  | none => s
  | some o => nightSettings o s

/-! ### The channel plan (R158, R159) -/

/-- An entry is skipped: its index, the failing step (0 open, 1 line, 2 session, 3 partner) and the status. -/
def planSkip (i step : Nat) (st : Status) (s : Dev) : Dev :=
  occur 0x0C4 { data := toLe 4 i ++ [BitVec.ofNat 8 step, 0] ++ toLe 2 st.code } s

/-- A pair of the plan is joined as a CONNECT without AUTO_MIGRATE would (R154). -/
def planPair (c p : Nat) (s : Dev) : Status × Dev :=
  match s.chan? c, s.chan? p with
  | some k, some q =>
    if p = c then (.pairRule, s)
    else if k.legs.line.isSome ∨ q.legs.line.isSome ∨ hasPair k ∨ hasPair q then (.legConflict, s)
    else if ¬ pairRule k q ∨ k.home / 16 ≠ q.home / 16 ∨ 1024 ≤ pairsIn s (k.home / 16) then (.pairRule, s)
    else (.ok, catalogueNow c (catalogueNow p (pairJoin c p s)))
  | _, _ => (.pairRule, s)

/-- The local ID of an entry's partner, where the entry names one. -/
def planPartner (s : Dev) (e : Octets) : Option Nat :=
  let v := le e 12 4
  if v / 2 ^ 31 = 1 ∧ v / 2 ^ 20 % 2048 = 0 ∧ v / 65536 % 16 = s.hid then some (v % 65536) else none

/-- The line and session legs of an entry. -/
def planLegs (i c : Nat) (e : Octets) (s : Dev) : Bool × Dev :=
  let r := if le e 4 4 = 0xFFFFFFFF then (.ok, s) else connectLine c (le e 4 4) s
  if r.1 ≠ .ok then (false, planSkip i 1 r.1 r.2)
  else
    let q := if le e 8 4 = 0xFFFFFFFF then (.ok, r.2) else connectPacket c (le e 8 4) r.2
    if q.1 ≠ .ok then (false, planSkip i 2 q.1 q.2) else (true, catalogueNow c q.2)

/-- An entry that has not failed opened channel `p`. -/
def planHas (done : List (Nat × Octets)) (p : Nat) : Bool := done.any (fun q => le q.2 0 4 % 65536 == p)

/-- One entry: `done` are the entries before it that have not failed. An entry that fails at its line or its session is skipped from there on: its
channel stays open, and its pair is not joined. -/
def planEntry (i : Nat) (e : Octets) (done : List (Nat × Octets)) (s : Dev) : Bool × Dev :=
  let v := le e 0 4
  let c := v % 65536
  if v / 2 ^ 20 ≠ 0 ∨ v / 65536 % 16 ≠ s.hid then (false, planSkip i 0 .badParam s)
  else if (s.chan? c).isSome then (false, planSkip i 0 .inUse s)
  else
    let (st, s) := openChannel c s.hid (octs e 16 48) s
    if st ≠ .ok then (false, planSkip i 0 st s)
    else
      let (ok, s) := planLegs i c e s
      if ¬ ok then (false, s)
      else
        let own : List (Nat × Nat) := match planPartner s e with
          | some p => if p = c ∨ planHas done p then [(i, p)] else []
          | none => []
        let later : List (Nat × Nat) := (done.filter (fun q => planPartner s q.2 == some c && !own.any (fun o => o.2 == le q.2 0 4 % 65536))).map
          (fun q => (q.1, le q.2 0 4 % 65536))
        let s := (own ++ later).foldl (fun s o =>
          let r := planPair c o.2 s
          if r.1 = .ok then r.2 else planSkip o.1 3 r.1 r.2) s
        (true, s)

/-- The channel plan opens in array order; an entry whose partner no entry has opened, or one that failed, fails at its end. -/
def planOpen (o : Octets) (s : Dev) : Dev :=
  let es := ((upTo (o.length / 64)).map (fun i => octs o (64 * i) 64)).zipIdx
  let r := es.foldl (fun (acc : List (Nat × Octets) × Dev) p =>
    let (ok, s) := planEntry p.2 p.1 acc.1 acc.2
    (if ok then acc.1 ++ [(p.2, p.1)] else acc.1, s)) ([], s)
  r.1.foldl (fun s q =>
    if le q.2 12 4 / 2 ^ 31 ≠ 1 then s
    else match planPartner s q.2 with
      | none => planSkip q.1 3 .badParam s
      | some p => if p = le q.2 0 4 % 65536 ∨ planHas r.1 p then s else planSkip q.1 3 .pairRule s) r.2

/-! ### APPLY (R53) -/

/-- Firmware runs: its version, and both copies of its data (R553). -/
def firmwareStart (s : Dev) : Dev :=
  let (w, s) := s.drawWord
  refreshPs ((s.setReg Reg.ctlFwVersion w).setNat Reg.ctlStatus 5)

/-- The tick generator is enabled, and firmware's watchdog armed. -/
def ticksStart (s : Dev) : Dev := (tickCtrl 1 s).setBit Reg.ctlStatus 1 true

/-- The image is in service: SLOT and VERSION. -/
def imageShow (s : Dev) : Dev :=
  (s.setFld Reg.bootStatus 4 2 s.boot.loading).setNat Reg.bootVersion ((s.boot.image.map (·.version)).getD 0)

/-- Phase 7 (R53): firmware and kernels, the register list, the lock of RWL fields, the self-test, the sections, the Ledger, the channel plan, the
ticks. A list that addresses the BOOT block refuses the image. -/
def applyRun (tiles : List (Fin 256 × TestMeasure)) (lanes : List (Fin 8 × TestMeasure)) (s : Dev) : Dev :=
  if s.phase ≠ 7 ∨ s.boot.rwlLocked then s
  else
    let l := listEntries (sectionOf s 1)
    if l.any entryBoot then refuseImage 9 (listRefused l s)
    else
      let s := l.foldl (fun s e => applyEntry e s) (firmwareStart s)
      let s := postRun tiles lanes { s with boot := { s.boot with rwlLocked := true } }
      let s := planOpen (sectionOf s 7) (ledgerStart (applySections s))
      imageShow (ticksStart s)

end Sys2Proof.Machine
end

