-- ==== Sys2Proof/Machine/Tick.lean ====
section
/-! DEFINITION. The frame tick (R65): what every unit does at it, the end of boot at the first one (R25, R36), and the rollback raise (R55). -/

namespace Sys2Proof.Machine

/-- The reserve's clusters in RETENTION (R25). -/
def clustersRetained (s : Dev) : Dev :=
  (upTo 16).foldl (fun s n =>
    if s.rbit Reg.pwrDomainFail (1 + n) then s
    else (if s.clState n = 0 then clusterUp n s else s).setFld Reg.gduClState (2 * n) 2 1) s

/-- The domains that the role leaves on at the end of boot, clusters and those of the image aside (R25): a worker's two lanes and the reserve's, L8
and L9, lie in RONA (R429). -/
def endOn (s : Dev) : List Nat :=
  [17, 18, 25, 26, 29] ++ (if s.role = 1 then [19, 22, 23] else if s.role = 0 then [] else [22])

/-- The domains that the role leaves off at the end of boot (R25). -/
def endOff (s : Dev) : List Nat :=
  (if s.role = 0 then [22, 23] else []) ++ (if 2 ≤ s.role then [19, 20, 21, 27, 23] else []) ++ (if s.boot.straps.pcieEn then [] else [24])

/-- The boot ends at the first tick (R25, R36): phase 8, with each domain on or off as its role lays down; a host boot signals its end. -/
def bootEnd (s : Dev) : Dev :=
  let s := (endOff s).foldl (fun s d => (domainDown d s).setBit Reg.pwrDomainEn d false) s
  let s := (endOn s).foldl (fun s d => (domainUp d s).setBit Reg.pwrDomainEn d true) s
  let s := if s.role = 3 then clustersRetained s else s
  hostBootEnds false (s.setPhase 8)

/-- This tick is the first after phase 7 has applied the image. -/
def bootTick (s : Dev) : Bool := s.phase == 7 && s.boot.rwlLocked

/-- `CTL.CORE_LOAD` shows the last second's busy share of each control core in percent (R553): free values, since the cores' programs are outside the
spec (log entry 82). -/
def coreLoads (s : Dev) : Dev := (upTo 4).foldl (fun s c => let (n, s) := s.drawBelow 101; s.setFld Reg.ctlCoreLoad (8 * c) 8 n) s

/-- Firmware counts the tick that it has handled, and once a second shows its load (R553). -/
def tickHandled (s : Dev) : Dev :=
  if s.domainOn 25 ∧ 7 ≤ s.phase ∧ s.phase ≤ 8 then
    let s := s.setNat Reg.ctlTicks (((s.reg Reg.ctlTicks).toNat + 1) % 2 ^ 32)
    if s.time.ticks % 400 = 0 then coreLoads s else s
  else s

/-- What the units do at a delivered tick, in this order: the GDU's records are read (R115), the epoch switches (R80, R83), its announcement
is repeated (R79) and the items held for it are taken (R82), swaps and resets of the filter chains start (R284, R287), the hierarchy acts (R451 to R459), instances spawn (R102), night
consolidation moves on (R129), and the droops since the last tick are judged (R522). -/
def tickWork (par : List (Nat × RecPar)) (bad : List Nat) (first : Bool) (s : Dev) : Dev :=
  let s := par.foldl (fun s p => if (s.chan? p.1).isSome then (recordParity p.1 p.2 s).2 else s) s
  let s := itemsTick (epochResend (epochSwitch s))
  let s := (upTo 16).foldl (fun s n => syncTick n (swapTick n s)) ((upTo 8).foldl (fun s e => fecQuiet e s) s)
  let s := consolTick (spawnAll (hierarchyTick bad s))
  droopRepeat first (tickHandled s)

/-- The frame tick on the device. -/
def frameTickDev (par : List (Nat × RecPar)) (bad : List Nat) (s : Dev) : Dev :=
  match tickFire s with
  | none => s
  | some t => tickWork par bad (decide (s.time.ticks = 0)) (if bootTick s then bootEnd t else t)

/-- The rollback level of the image in service, where R55 raises the fused counter to it. -/
def raiseLevel (s : Dev) : Option Nat :=
  match s.boot.image with
  | none => none
  | some h => if h.flags.testBit 0 && (s.lc == 1 || s.lc == 2) then some (h.version / 2 ^ 24) else none

/-- The fused rollback counter raised to a level; it never falls (R55). -/
def rollbackRaise (v : Nat) (f : Fuses) : Fuses := { f with rollback := max f.rollback (min 255 v) }

/-- The frame tick (R65). After the first one of a boot the rollback counter follows the image (R55). -/
def frameTickRun (par : List (Nat × RecPar)) (bad : List Nat) (s : State) : State :=
  let d := frameTickDev par bad s.dev
  if (tickFire s.dev).isSome ∧ bootTick s.dev then
    match raiseLevel s.dev with
    | none => { s with dev := d }
    | some v =>
      let f := rollbackRaise v s.fuses
      { s with dev := d.setFld Reg.bootLc 8 8 f.rollback, fuses := f }
  else { s with dev := d }

end Sys2Proof.Machine
end

