-- ==== Sys2Proof/Machine/Settle.lean ====
section
/-! DEFINITION. How every command ends: the tests, resets and transfers that it leaves due (R174, R492, R493, R515, R543), and the status
fields that follow the state. -/

namespace Sys2Proof.Machine

/-! ### Tests that end with their unit (R543) -/

/-- A domain that a test needs is off, and not waking. -/
def testCut (s : Dev) (k : TestKey) : Bool :=
  let cluster : Bool := k.kind != 1 && s.clState (k.unit / 16) == 0 && (s.cg (k.unit / 16)).waking.isNone
  cluster || !(testDomains k).all s.domainOn

/-- Tests whose domain is off end with cause 3; without spawning, MIRROR tests end with cause 2. -/
def testsEnd (s : Dev) : Dev :=
  if s.tests.isEmpty then s
  else
    let s := testAbandon (testCut s) 3 s
    if s.rbit Reg.gduCfg 0 then s else testAbandon (fun k => k.kind == 3) 2 s

/-! ### Tile memory behind the debug window (R552) -/

/-- Kernels or firmware work in tile `t`'s memory: it holds a channel, a test or dossiers. -/
def tileWorks (s : Dev) (t : Nat) : Bool :=
  s.chans.any (fun p => p.2.home == t || p.2.migrate == some t) || s.tests.any (fun x => tileKey t x.key) || !s.ron.dossiers.isEmpty

/-- The tiles in which something works and has not before. -/
def tilesNew (s : Dev) : List Nat := (upTo 256).filter (fun t => tileWorks s t && !s.tileUsed.contains t)

/-- A tile in which kernels work is as wiped no longer, and what the window wrote into it is known no longer. -/
def tileForget (s : Dev) : Dev :=
  { s with tileUsed := tilesNew s ++ s.tileUsed, tileMem := s.tileMem.filter (fun c => !tileWorks s (c.1 / 0x800000)) }

/-! ### Status -/

/-- The status of the engines of cluster `n`, and its margins of the last second. -/
def engineShow (n : Nat) (s : Dev) : Dev :=
  let s := showMargin n s
  if s.domainServed (1 + n) then tdStatus n (rfeStatus n (eeStatus n s)) else s

/-- The status fields that follow the state. -/
def showAll (s : Dev) : Dev :=
  let s := (upTo 16).foldl (fun s n => engineShow n s) s
  let s := if s.domainOn 18 then mpeIdle s else s
  let s := if s.domainOn 26 then timeShow s else s
  pairShow s

/-! ### The end of a command -/

/-- Transfers that have become possible or due: BYEs, Ledger frames, drains that have ended, and a Night Desk test's response. -/
def sendDue (s : Dev) : Dev := nightTestEnd (drainsEnd (ledgerSend (sendByes s)))

/-- Block resets, at most four deep, and what follows them. -/
def settleDev (s : Dev) : Dev := showAll (tileForget (sendDue (heldTake (blockResets 4 (testsEnd s)))))

/-- A command ends: nothing in reset; else what it leaves due, and the chip reset that a source has asked for (R492). -/
def settle (s : State) : State :=
  if s.dev.phase = 0 then s
  else
    let d := settleDev s.dev
    match d.flt.chip with
    | none => { s with dev := d }
    | some src => { s with dev := showAll (faultReset src s.fuses { d with flt := { d.flt with chip := none } }) }

/-- A command that acts on the device: the injections due take effect in the cycle before it (R502), then it acts, and ends. -/
def finish (f : Dev → Dev) (s : State) : State := settle { s with dev := f (takeInjections s.dev) }

/-- A command that acts on the fuses too. -/
def finishFuses (f : State → State) (s : State) : State := settle (f { s with dev := takeInjections s.dev })

/-- The outcome of a command that acts on the device. -/
def run (f : Dev → Dev) (s : State) : Host.Outcome State Fault Refusal := .next (finish f s)

/-- The outcome of a command that acts on the fuses too. -/
def runFuses (f : State → State) (s : State) : Host.Outcome State Fault Refusal := .next (finishFuses f s)

/-- The PARAMS of a descriptor are 48 octets (R141). -/
def Desc.whole (d : Sys2Proof.Desc) : Bool := d.params.length == 48

/-- The outcome of a descriptor on a ring. -/
def runRing (r : Fin 4) (op : Nat) (d : Sys2Proof.Desc) (body : Nat → Dev → Dev) (s : State) : Host.Outcome State Fault Refusal :=
  if Desc.whole d then run (takeRing r.val op d (fun _ => none) body) s else .fault .malformedDescriptor

/-- The outcome of a descriptor that this device tests before it forwards it. -/
def runRingPre (r : Fin 4) (op : Nat) (d : Sys2Proof.Desc) (pre : Dev → Option (Status × Octets)) (body : Nat → Dev → Dev)
    (s : State) : Host.Outcome State Fault Refusal :=
  if Desc.whole d then run (takeRing r.val op d pre body) s else .fault .malformedDescriptor

end Sys2Proof.Machine
end

