-- ==== Sys2Proof/Machine/ExecBoot.lean ====
section
/-! DEFINITION. What the commands of reset and boot do (spec/02, spec/22). Each meaning is one call of its operation: `run`
runs it on the device and ends the command. -/

namespace Sys2Proof.Machine

/-- PORST_N_RELEASE (R34). Release of PORST_N starts a power-on reset and the boot sequence from phase 1. -/
def execPorstNRelease (pins : StrapPins) (s : State) : Host.Outcome State Fault Refusal :=
  run (porstRelease pins s.fuses) s

/-- WRST_N_RELEASE (R34). Release of WRST_N starts a warm reset that keeps AON and the always-on SRAM. -/
def execWrstNRelease (s : State) : Host.Outcome State Fault Refusal :=
  run (wrstRelease s.fuses) s

/-- VDD_AON_LOW_HOLD (R559). While VDD_AON is below 0.60 V the internal detector holds the device as if PORST_N were low. -/
def execVddAonLowHold (s : State) : Host.Outcome State Fault Refusal :=
  run porstLow s

/-- GLB_RESET_WRITE (R551). Writing GLB.RESET bit 0 requests a host reset that starts 10 µs later. -/
def execGlbResetWrite (by_ : Requester) (value : Word) (s : State) : Host.Outcome State Fault Refusal :=
  run (gated by_ Reg.glbReset (resetWrite value)) s

/-- HOST_RESET (R34). 10 µs after the GLB.RESET write the host reset takes effect, and the host sees a link-down. -/
def execHostReset (s : State) : Host.Outcome State Fault Refusal :=
  run (hostReset s.fuses) s

/-- CORE_PLL_LOCKED (R36). The core PLL locks to the selected reference or the internal oscillator, and the boot moves to the wiring
checks. -/
def execCorePllLocked (s : State) : Host.Outcome State Fault Refusal :=
  run pllLocked s

/-- CRYSTAL_STABLE (R36). The AON domain switches from its internal oscillator to the 32.768 kHz crystal once the crystal is stable. -/
def execCrystalStable (s : State) : Host.Outcome State Fault Refusal :=
  run crystalStable s

/-- WIRING_CHECKS_DONE (R39). The parallel interface wiring checks complete, each failure is recorded with its fallback, and the wipe
starts. -/
def execWiringChecksDone (r : WiringResult) (s : State) : Host.Outcome State Fault Refusal :=
  run (wiringDone r) s

/-- WIPE_COMPLETE (R40). Every SRAM has been written to zero with correct parity, with one retry per failing bank, and flash discovery
starts. -/
def execWipeComplete (fails : List WipeFail) (s : State) : Host.Outcome State Fault Refusal :=
  run (wipeDone fails s.fuses) s

/-- FLASH_HEADERS_READ (R46). Flash is reset and discovered, both slot headers are read, and a candidate slot is selected or phase 9
entered. -/
def execFlashHeadersRead (r : Option FlashRead) (s : State) : Host.Outcome State Fault Refusal :=
  run (headersRead r) s

/-- IMAGE_READ_DONE (R49). The last octet of the selected image is read and decompressed, and its SHA-384 hash is complete. -/
def execImageReadDone (r : ImageRead) (s : State) : Host.Outcome State Fault Refusal :=
  run (imageRead r) s

/-- SIGNATURE_VERIFIED (R51). The ECDSA P-384 signature and key-hash checks end in acceptance, or in a refusal that leads to the other
slot or to phase 9. -/
def execSignatureVerified (s : State) : Host.Outcome State Fault Refusal :=
  run (signatureDone s.fuses) s

/-- APPLY (R53). Firmware and kernels are loaded, the register list is written, RWL fields are locked, sections are handed to firmware and
staging is wiped. -/
def execApply (tiles : List (Fin 256 × TestMeasure)) (lanes : List (Fin 8 × TestMeasure)) (s : State) : Host.Outcome State Fault Refusal :=
  run (applyRun tiles lanes) s

/-- HOST_BOOT_GO (R57). Writing GO to BOOT.HB_CTRL in phase 9 starts the DMA pull of a host image, and elsewhere sets ERR. -/
def execHostBootGo (by_ : Requester) (value : Word) (s : State) : Host.Outcome State Fault Refusal :=
  run (gated by_ Reg.bootHbCtrl (hostBootGo value)) s

/-- HOST_BOOT_PULL_DONE (R57). The host image pull ends, and the device runs phases 5 to 8 on it, or refuses it with HOST_DMA. -/
def execHostBootPullDone (r : Option ImageRead) (s : State) : Host.Outcome State Fault Refusal :=
  run (hostPullDone r) s

/-- PORST_N_LOW (R560). PORST_N going low puts the device into phase 0 (RESET), dropping every call, and holds it there while low. -/
def execPorstNLow (s : State) : Host.Outcome State Fault Refusal :=
  run porstLow s

/-- WRST_N_LOW (R560). WRST_N going low puts the device into phase 0 until it rises, unless PORST_N is already low. -/
def execWrstNLow (s : State) : Host.Outcome State Fault Refusal :=
  run (wrstLow s.fuses) s

/-- CRYSTAL_ABSENT (R486). The 32.768 kHz crystal fails and the AON domain falls back to its internal oscillator while source 0x004 is
live. -/
def execCrystalAbsent (s : State) : Host.Outcome State Fault Refusal :=
  run crystalAbsent s

end Sys2Proof.Machine
end

