-- ==== Sys2Proof/Machine/Sources.lean ====
section
/-! DEFINITION. An occurrence of a source as its block reports it, and the end of a live condition (R488 to R494). -/

namespace Sys2Proof.Machine

/-- The counter that a block keeps of a source's occurrences beside the collector. -/
def sourceCounter (src : Nat) : Option Nat :=
  if src = 0x0A1 ∨ src = 0x0A3 then some Reg.gduEpochStale
  else if src = 0x3E0 then some Reg.arcIntParity
  else if 0x200 ≤ src ∧ src < 0x300 then
    match src % 16 with
    | 0 => some (Reg.eeIntParity ((src - 0x200) / 16))
    | 1 => some (Reg.rfeIntParity ((src - 0x200) / 16))
    | 2 => some (Reg.tdIntParity ((src - 0x200) / 16))
    | 3 => some (Reg.clFabErr ((src - 0x200) / 16))
    | _ => none
  else none

/-- A power fault of a cluster switches it off, or, in spare-cluster mode, hands it to CL15 (R459, R494). -/
def sourceEffect (src : Nat) (s : Dev) : Dev :=
  if 0x200 ≤ src ∧ src < 0x300 ∧ src % 16 = 4 then
    let n := (src - 0x200) / 16
    if s.spare then clusterTakeover n s else clusterFault n s
  else s

/-- The collector can meet the source now: it runs, and in phase 0 meets only what AON itself senses (R575). -/
def sourceSensed (src : Nat) (s : Dev) : Bool := !s.boot.porstLow && (s.phase != 0 || aonLive.contains src) && (sourceMask src).isSome

/-- A real occurrence that falls in the cycle of an injection makes one occurrence with it (R491). -/
def occurMerged (src : Nat) (o : OccData) (s : Dev) : Dev :=
  let s := { s with flt := { s.flt with forced := s.flt.forced.filter (· != src) } }
  occurWith pushEvent src o true true s.now none (if hasLive src then setLive src true s else s)

/-- FAULT_OCCURRENCE on the device as it stands before the injections that are due. A rise of a condition that is present already is none; a
readback mismatch releases the pair's pins first (R501). -/
def faultOccur (src : Nat) (o : OccData) (s : Dev) : Dev :=
  if ¬ sourceSensed src s ∨ (hasLive src ∧ s.rbit (Reg.srcStatus src) 0) then takeInjections s
  else
    let s := if src = 0x011 then s.setBit Reg.fltStatus 2 true else s
    let s := if s.flt.forced.contains src then takeInjections (occurMerged src o s) else occur src o (takeInjections s)
    let s := match sourceCounter src with | some a => s.bump a | none => s
    sourceEffect src s

/-- FAULT_CLEAR: a live condition ends (R490). -/
def faultClear (src : Nat) (s : Dev) : Dev := if sourceSensed src s then faultEnd src [] s else s

end Sys2Proof.Machine
end

