-- ==== Sys2Proof/Machine/ExecFaults.lean ====
section
/-! DEFINITION. What the fault collector, the error pair and the outputs do (spec/18, spec/22). Each meaning is one call of its operation: `run`
runs it on the device and ends the command. -/

namespace Sys2Proof.Machine

/-- FAULT_OCCURRENCE (R492). A source occurrence updates status, writes a Ledger entry and record, and takes its reactions. -/
def execFaultOccurrence (src : Fin 1024) (o : OccData) (s : State) : Host.Outcome State Fault Refusal :=
  .next (settle { s with dev := faultOccur src.val o s.dev })

/-- FAULT_CLEAR (R490). The end of a live condition writes FAULT_CLEAR. -/
def execFaultClear (src : Fin 1024) (s : State) : Host.Outcome State Fault Refusal :=
  run (faultClear src.val) s

/-- FORCE (R502). Writing FLT.SRC[s].CTRL.FORCE injects one occurrence next cycle, or is refused. -/
def execForce (by_ : Requester) (src : Fin 1024) (s : State) : Host.Outcome State Fault Refusal :=
  run (gated by_ (Reg.srcCtrl src.val) (forceSource src.val)) s

/-- CLEAR (R510). Writing FLT.SRC[s].STATUS.CLEAR zeroes COUNT, FIRST and LAST. -/
def execClear (by_ : Requester) (src : Fin 1024) (s : State) : Host.Outcome State Fault Refusal :=
  .next (settle { s with dev := takeInjections (gated by_ (Reg.srcStatus src.val) (clearSource src.val) s.dev) })

/-- LOCK (R496). Writing FLT.CFG.LOCK locks every source's reaction mask. -/
def execLock (by_ : Requester) (s : State) : Host.Outcome State Fault Refusal :=
  run (gated by_ Reg.fltCfg lockMasks) s

/-- PAIR_CLEAR (R499). Writing FLT.PAIR_CLEAR clears the error-pair latch when no PAIR source is live. -/
def execPairClear (by_ : Requester) (s : State) : Host.Outcome State Fault Refusal :=
  run (gated by_ Reg.fltPairClear pairClear) s

/-- FLT_HB_KICK (R500). A write to FLT.HB_KICK keeps the error-pair heartbeat alternating for 10 ms. -/
def execFltHbKick (by_ : Requester) (s : State) : Host.Outcome State Fault Refusal :=
  run (gated by_ Reg.fltHbKick pairKick) s

/-- TRAP_NOT_ANSWERED (R495). A TRAP_PEND bit set for 1 ms is an occurrence of source 0x0C3. -/
def execTrapNotAnswered (src : Fin 1024) (s : State) : Host.Outcome State Fault Refusal :=
  run (trapLate src.val) s

/-- PAIR_READBACK_MISMATCH (R501). A pair mismatch for 4 cycles releases both pins. -/
def execPairReadbackMismatch (s : State) : Host.Outcome State Fault Refusal :=
  run pairMismatch s

/-- FIRMWARE_WATCHDOG (R487). The firmware watchdog expires and source 0x0C0 occurs. -/
def execFirmwareWatchdog (s : State) : Host.Outcome State Fault Refusal :=
  run firmwareWatchdog s

/-- CONTROL_SRAM_PARITY (R506). A control SRAM line is repaired from its copy, or is unrepairable. -/
def execControlSramParity (repaired : Bool) (s : State) : Host.Outcome State Fault Refusal :=
  run (controlParity repaired) s

/-- OUTPUT_SHORT (R570). A CMOS output whose readback mismatches for 1 µs is released until the next reset and source 0x028 is recorded.
-/
def execOutputShort (pin : OutPin) (s : State) : Host.Outcome State Fault Refusal :=
  run (outputShort pin) s

/-- PAIR_HEARTBEAT_HALF (R500). In heartbeat mode the error pair flips between 1/0 and 0/1 after each 16 or 17 cycles of the 32.768 kHz
clock, or holds 1/0 when no kick came within 10 ms. -/
def execPairHeartbeatHalf (s : State) : Host.Outcome State Fault Refusal :=
  run pairHalf s

end Sys2Proof.Machine
end

