-- ==== Sys2Proof/Machine/Frames.lean ====
section
/-! DEFINITION. Commands that arrive in Ronong COMMAND frames (R78, R144), and the FOLIO frames that carry what they stage (R78, R345). -/

namespace Sys2Proof.Machine

/-- A SECTION that the active manager has sent (R78): it runs when its payload has arrived whole, and else waits for it. -/
def sectionForwarded (d : Desc) (id : Nat) (s : Dev) : Dev :=
  let ty := d.arg 12 2
  match s.ron.staging with
  | some (t, p, true) =>
    if t = ty then epochStage 0 1 d (stageSection ty (some p)) 14 id { s with ron := { s.ron with staging := none } }
    else wait ty s
  | _ => wait ty s
where
  wait (ty : Nat) (s : Dev) : Dev :=
    if ¬ descClean d ∨ d.aux.toNat ≠ 1 ∨ ¬ d.zeroFrom 14 47 ∨ (sectionLimit ty).isNone then epochStage 0 1 d (stageSection ty none) 14 id s
    else modCmd id (fun c => { c with addr := ty }) s

/-- An EPOCH_STAGE step that the active manager has sent. -/
def stageForwarded (d : Desc) (id : Nat) (s : Dev) : Dev :=
  match d.aux.toNat with
  | 0 => epochStage 0 0 d stageBegin 0 id s
  | 1 => sectionForwarded d id s
  | 2 => epochStage 0 2 d stageEnd 0 id s
  | 3 => epochStage 0 3 d stageAbort 0 id s
  | _ => completeWith id .badParam s

/-- A CONNECT by its LEG. -/
def connectByLeg (d : Desc) (id : Nat) (s : Dev) : Dev :=
  match oct d.params 0 with
  | 0 => connectLineCmd d id s
  | 1 => connectPacketCmd d id s
  | 2 => connectPairCmd d id s
  | _ => onChannel d id false false (fun _ _ s => s) s

/-- A DISCONNECT by its LEG. -/
def disconnectByLeg (d : Desc) (id : Nat) (s : Dev) : Dev :=
  match oct d.params 0 with
  | 0 => disconnectCmd 0 d id s
  | 1 => disconnectCmd 1 d id s
  | 2 => disconnectPairCmd d id s
  | _ => onChannel d id false false (fun _ _ s => s) s

/-- What a forwarded command does where it is processed; of the opcodes that name no channel, the active manager sends EPOCH_STAGE alone. -/
def frameBody (op : Nat) (d : Desc) (dmaOk : Bool) (id : Nat) (s : Dev) : Dev :=
  match op with
  | 0x01 => openCmd d id s
  | 0x02 => modifyCmd d id s
  | 0x03 => connectByLeg d id s
  | 0x04 => disconnectByLeg d id s
  | 0x05 => closeCmd d dmaOk id s
  | 0x06 => queryCmd d dmaOk id s
  | 0x07 => statsCmd d dmaOk id s
  | 0x08 => tonePlayCmd d id s
  | 0x09 => toneStopCmd d id s
  | 0x0A => recordStartCmd d id s
  | 0x0B => recordStopCmd d id s
  | 0x12 => migrateCmd d id s
  | 0x1B => stageForwarded d id s
  | _ => completeWith id .badParam s

/-- A COMMAND frame (R144). -/
def commandTake (k : Nat) (hd : RonHdr) (op : Nat) (d : Desc) (aux : Nat) (dmaOk : Bool) (s : Dev) : Dev :=
  ronTake k hd 1 3 aux (descOctets op d) (takeFrame k op d aux (frameBody op d dmaOk)) s

/-- The SECTION command that waits for a payload of a TYPE. -/
def sectionWaits (s : Dev) (ty : Nat) : Option PendingCmd :=
  s.pci.cmds.find? (fun c => c.opcode == 0x1B && c.origin.isSome && c.done.isNone && c.addr == ty)

/-- A staged payload's piece arrives, and with its last the SECTION that waits for it runs. -/
def stageArrives (ty : Nat) (last : Bool) (p : Octets) (s : Dev) : Dev :=
  let s := stagePiece ty last p s
  match s.ron.staging, sectionWaits s ty with
  | some (_, q, true), some c => stageComplete c.id (stageSection ty (some q) { s with ron := { s.ron with staging := none } })
  | _, _ => s

/-- A FOLIO frame (R78, R345): AUX tells a staged payload from a block for the recording sink. -/
def folioTake (k : Nat) (hd : RonHdr) (aux : Word) (block : Octets) (s : Dev) : Dev :=
  ronTake k hd 5 1 aux.toNat block (fun s =>
    if bit aux 30 then stageArrives (fld aux 0 16) (bit aux 31) block s else blockPiece k (bit aux 31) block s) s

/-- A TAKEOVER frame of kind 0, 1 or 2 (R451, R454). -/
def takeoverFrame (k : Nat) (hd : RonHdr) (hid kind tick : Nat) (act : Dev → Dev) (s : Dev) : Dev :=
  ronTake k hd 1 6 0 (takeoverOctets hid kind tick) act s

end Sys2Proof.Machine
end

