-- ==== Sys2Proof/Machine/ExecHelp.lean ====
section
/-! DEFINITION. Small operations that tie a row of the opcode table to the operations of its block: which of several forms a descriptor, a
port or a test's origin selects, and what a free payload or a failed DMA read does. -/

namespace Sys2Proof.Machine

/-! ### The Ledger and the rings -/

/-- LEDGER_RELEASE (R89): the lowest-keyed event whose wait has expired is written; where none has, time runs to the first expiry. -/
def ledgerRelease (s : Dev) : Dev :=
  match s.ledger.buf with
  | [] => s
  | h :: r =>
    let due := r.foldl (fun m x => min m x.due) h.due
    let s := if due ≤ s.cycles then s else s.elapseTo due
    let ready := (h :: r).filter (fun x => decide (x.due ≤ s.cycles))
    match ready[lowestIdx ready]? with
    | none => s
    | some x => ledgerCount (ledgerWrite x.ev (ledgerCount { s with ledger := { s.ledger with buf := s.ledger.buf.erase x } }))

/-- RING_CTRL_WRITE (R468): of an event ring or of a command ring. -/
def ringCtrl (event : Bool) (ring : Nat) (v : Word) (s : Dev) : Dev :=
  if event then gated .host (Reg.pciErCtrl ring) (erCtrlWrite ring v) s else gated .host (Reg.pciCrCtrl ring) (crCtrlWrite ring v) s

/-- What the active manager tests of a CONNECT before it forwards it (R182). -/
def connectPre (d : Desc) (s : Dev) : Option (Status × Octets) := if oct d.params 0 = 1 then connectPacketPre d s else none

/-- KEY_ROTATE by its DIR (R180). -/
def keyRotateByDir (d : Desc) (id : Nat) (s : Dev) : Dev := if fld d.aux 20 2 = 2 then keySetCmd d id s else keyRotateCmd d id s

/-- CONSOLIDATE with neither NOW nor STOP: consolidation starts where every charge has stayed low for CONSOL_HOLD (DESIGN CHOICE). -/
def consolidatePlain (d : Desc) (id : Nat) (s : Dev) : Dev :=
  if ¬ descClean d ∨ d.aux ≠ 0 ∨ ¬ d.zeroFrom 0 47 then completeWith id .badParam s
  else
    let held : Bool := match s.consol.lowSince with | some t => decide (t + usCycles (1000000 * profWord s 14) ≤ s.cycles) | none => false
    complete id .ok [BitVec.ofNat 8 (sat 8 s.consol.emptied)] (if held ∧ consolLow s then consolStart s else s)

/-- CONSOLIDATE by its bits (R129, R148): both NOW and STOP is out of range. -/
def consolidateByBits (d : Desc) (id : Nat) (s : Dev) : Dev :=
  match oct d.params 0 with
  | 0 => consolidatePlain d id s
  | 1 => consolidateNowCmd d id s
  | 2 => consolidateStopCmd d id s
  | _ => completeWith id .badParam s

/-- A command with a reserved opcode (R148). An opcode that R148 defines is another row's command, and this row does nothing with it. -/
def badOpcodeTake (r opcode : Nat) (d : Desc) (s : Dev) : Dev :=
  if opcode = 0 ∨ 0x1C ≤ opcode then takeRing r opcode d (fun _ => none) (fun _ s => s) s else s

/-! ### Tests -/

/-- A test's descriptor, where it has one, is whole. -/
def testWhole (o : TestOrigin) : Bool :=
  match o with
  | .ring _ d => Desc.whole d
  | _ => true

/-- A test of `kind` is asked for, from its origin (R534, R539). A request for another kind is another row's command; a reserved KIND of
MIRROR_TEST is refused whichever row brings it. -/
def testFrom (kind : Nat) (o : TestOrigin) (m : TestMeasure) (s : Dev) : Dev :=
  match o with
  | .ring r d =>
    let k := oct d.params 0
    if k = kind ∨ k = 0 ∨ 3 < k then takeRing r.val 0x11 d (fun _ => none) (testCmd d m) s else s
  | .nd => ndSelfTest (fun k => k == kind || k == 0 || decide (3 < k)) m s
  | .service t => if kind = 2 then serviceTest t.val m s else s

/-! ### The Radio Front End -/

/-- BANK_CMD with a reserved OP answers status 5 (R283); OPs 1 to 4 are other rows' commands. -/
def bankOther (n op : Nat) (s : Dev) : Dev := if 1 ≤ op ∧ op ≤ 4 then s else bankStatus n 5 s

/-! ### Ports -/

/-- A port's number: E0 to E7, and 8 for the Night Desk. -/
def portNum (p : MacPort) : Nat := match p with | .mac e => e.val | .nd => 8

/-- A frame has arrived at a port. -/
def portReceive (p : MacPort) (f : RxFrame) (s : Dev) : Dev :=
  match p with
  | .mac e => macReceive e.val f s
  | .nd => nightReceive f s

/-- A port starts its next frame. -/
def portTransmit (p : MacPort) (parityOk : Bool) (sixteenths : Nat) (s : Dev) : Dev :=
  match p with
  | .mac e => transmitFrame e.val parityOk sixteenths s
  | .nd => nightTransmit sixteenths s

/-- Firmware sends a PTP message (R404, R405): on TXQ7, a Sync with an insert request or a stamp request, a Delay_Req with a stamp request. -/
def ptpSend (mac : Nat) (kind : PtpKind) (oneStep : Bool) (id : Nat) (frame : Octets) (s : Dev) : Dev :=
  if ¬ s.domainOn 25 then s
  else
    let stamped : Bool := match kind with | .sync => !oneStep | .delayReq => true | .announce | .followUp => false
    (enqueue mac 7 frame (if stamped then some id else none) (kind == .sync && oneStep) s).2

/-! ### Ronong frames -/

/-- An EPOCH frame for this device: an announcement is acknowledged (R79, R433). -/
def epochReceive (hd : RonHdr) (m : EpochMsg) (s : Dev) : Dev :=
  let s := epochFrame hd.src.val m s
  match m with
  | .announce _ _ => ackSend hd 5 s
  | .switched _ _ | .released => s

/-- A MIRROR frame updates the standby manager's copies (R184). -/
def mirrorReceive (m : MirrorMsg) (s : Dev) : Dev := if s.role = 1 ∧ ¬ s.ron.active then mirrorTake m s else s

/-- The payload of a MEDIA frame (R434). -/
def mediaOctets (recs : List MediaRec) : Octets := (recs.map (fun r => mediaRecord r.chan r.kind r.stamp r.rtp)).flatten

/-! ### The PCIe endpoint -/

/-- The link goes down, or a function-level reset arrives (R471). -/
def endpointDown (src : Nat) (s : Dev) : Dev := if s.domainOn 24 then endpointReset (occur src {} s) else s

/-- A DMA read fails (R470): a ring fetch stops its ring (R467), a pull in flight ends without data, and any other read is recorded. -/
def dmaReadError (ch : Nat) (s : Dev) : Dev :=
  if ¬ s.domainOn 24 then s
  else if 1 ≤ ch ∧ ch ≤ 4 then
    (if s.rbit (Reg.pciCrCtrl (ch - 1)) 0 then occur 0x0CB {} (s.setBit (Reg.pciCrStatus (ch - 1)) 0 true) else s)
  else if ch = 0 then (if s.phase = 5 ∧ s.boot.pulling then hostPullDone none s else occur 0x0CB {} s)
  else if 9 ≤ ch ∧ ch ≤ 11 then occur 0x0CB {} s
  else s

end Sys2Proof.Machine
end

