-- ==== Sys2Proof/Machine/ExecGraph.lean ====
section
/-! DEFINITION. What the commands of the tick, the GDU, the epochs and the Ledger do (spec/03, spec/04). Each meaning is one call of its operation: `run`
runs it on the device and ends the command. -/

namespace Sys2Proof.Machine

/-- FRAME_TICK (R65). The time base fires the 2.5 ms frame tick with its number and cadence, which paces spawning, epoch switches and per-
tick work. -/
def execFrameTick (par : List (Nat × RecPar)) (bad : List Nat) (s : State) : Host.Outcome State Fault Refusal :=
  runFuses (frameTickRun par bad) s

/-- TICK_CTRL_WRITE (R69). Writing TB.TICK_CTRL.EN starts the tick generator, or stops the ticks and all spawning. -/
def execTickCtrlWrite (by_ : Requester) (value : Word) (s : State) : Host.Outcome State Fault Refusal :=
  run (gated by_ Reg.tbTickCtrl (tickCtrl value)) s

/-- NODE_DISPATCH (R112). An idle resource takes the next dispatchable listed node by class priority and the P3 share, or retires it as
cancelled. -/
def execNodeDispatch (cluster : Fin 16) (r : Resource) (par : RecPar) (s : State) : Host.Outcome State Fault Refusal :=
  run (nodeDispatch cluster.val r par) s

/-- NODE_COMPLETE (R106). A node finishes service, successors become ready or cancelled, the next flow node is listed, and the instance
may retire. -/
def execNodeComplete (cluster : Fin 16) (r : Resource) (chan : Nat) (out : NodeOutcome) (par : RecPar) (s : State) :
    Host.Outcome State Fault Refusal :=
  run (nodeComplete cluster.val r chan out par) s

/-- INSTANCE_LATE (R72). An instance not retired by its deadline is counted late and records source 0x081. -/
def execInstanceLate (chan : Nat) (deferred : Bool) (s : State) : Host.Outcome State Fault Refusal :=
  run (instanceLate chan deferred) s

/-- INSTANCE_ABORT (R116). At the abort time, the GDU cancels the instance's unserved nodes and the instance becomes ABORTED when the node
in service ends. -/
def execInstanceAbort (chan : Nat) (deferred : Bool) (s : State) : Host.Outcome State Fault Refusal :=
  run (instanceAbort chan deferred) s

/-- NODE_WATCHDOG (R117). A node in service longer than GDU.NODE_WDOG is stopped and FAILED, its instance aborted, and the resource block-
reset by mask. -/
def execNodeWatchdog (cluster : Fin 16) (r : Resource) (chan : Nat) (s : State) : Host.Outcome State Fault Refusal :=
  run (nodeWatchdog cluster.val r chan) s

/-- GDU_CFG_EN_WRITE (R122). Writing GDU.CFG.EN = 0 stops all spawning at the next tick while existing instances run to completion. -/
def execGduCfgEnWrite (by_ : Requester) (en : Bool) (s : State) : Host.Outcome State Fault Refusal :=
  run (gated by_ Reg.gduCfg (fun d => if en = d.rbit Reg.gduCfg 0 then d else gduEnWrite en d)) s

/-- GDU_SPARE_CL_WRITE (R33). Writing GDU.CFG.SPARE_CL takes effect only while no channel is open. -/
def execGduSpareClWrite (by_ : Requester) (spare : Bool) (s : State) : Host.Outcome State Fault Refusal :=
  run (gated by_ Reg.gduCfg (spareWrite (some by_) spare)) s

/-- CLUSTER_RETENTION (R131). A CLOCK_GATED cluster whose next spawn lies beyond GDU.RET_MIN enters RETENTION. -/
def execClusterRetention (cluster : Fin 16) (s : State) : Host.Outcome State Fault Refusal :=
  run (clusterRetention cluster.val) s

/-- CLUSTER_RET_LEAD_WAKE (R131). GDU.RET_LEAD before a cluster's next spawn, a RETENTION cluster is asked to wake. -/
def execClusterRetLeadWake (cluster : Fin 16) (s : State) : Host.Outcome State Fault Refusal :=
  run (clusterRetLeadWake cluster.val) s

/-- CLUSTER_WAKE_COMPLETE (R131). A cluster finishes waking, its entries become dispatchable, a late epoch switch applies and pending
opens complete. -/
def execClusterWakeComplete (cluster : Fin 16) (s : State) : Host.Outcome State Fault Refusal :=
  run (clusterWakeComplete cluster.val) s

/-- CLUSTER_WAKE_TIMEOUT (R131). A cluster wake not completed within 10 µs records source 0x087. -/
def execClusterWakeTimeout (cluster : Fin 16) (s : State) : Host.Outcome State Fault Refusal :=
  run (clusterWakeTimeout cluster.val) s

/-- CONSOLIDATION_START (R129). After every awake cluster has stayed below CONSOL_LOW for CONSOL_HOLD, firmware fences and empties the
least loaded cluster. -/
def execConsolidationStart (s : State) : Host.Outcome State Fault Refusal :=
  run consolHeld s

/-- EPOCH_CMD_GO (R77). Writing GO to GDU.EPOCH_CMD schedules the epoch held in the EPOCH_SCHED registers under R77. -/
def execEpochCmdGo (by_ : Requester) (value : Word) (s : State) : Host.Outcome State Fault Refusal :=
  run (gated by_ Reg.gduEpochCmd (fun d => if bit value 0 then epochGo d else d)) s

/-- EPOCH_BANK_RELEASE (R84). A unit releases its previous bank once no item or unretired instance of that epoch remains, and reports it.
-/
def execEpochBankRelease (s : State) : Host.Outcome State Fault Refusal :=
  run epochRelease s

/-- EPOCH_INCOMPLETE_TIMEOUT (R85). 8 ticks after the manager's own release with a device unreported, the state becomes INCOMPLETE and
source 0x0A2 is recorded. -/
def execEpochIncompleteTimeout (s : State) : Host.Outcome State Fault Refusal :=
  run epochIncomplete s

/-- LEDGER_EVENT_ARRIVAL (R90). An event enters the Ledger reorder buffer with its computed wait, or is written at once when the buffer is
full. -/
def execLedgerEventArrival (e : LedgerEvent) (s : State) : Host.Outcome State Fault Refusal :=
  run (pushEvent e) s

/-- LEDGER_RELEASE (R89). A held event's wait expires and it is written in key order, out of order, or lost under FULL. -/
def execLedgerRelease (s : State) : Host.Outcome State Fault Refusal :=
  run ledgerRelease s

/-- LEDGER_EXPORT_FLUSH (R362). LDG_FLUSH ms after its first entry, a Ledger export block closes with END. -/
def execLedgerExportFlush (s : State) : Host.Outcome State Fault Refusal :=
  run exportFlush s

end Sys2Proof.Machine
end

