-- ==== Sys2Proof/Machine/ExecHierarchy.lean ====
section
/-! DEFINITION. What the Ronong link and the hierarchy do (spec/16). Each meaning is one call of its operation: `run`
runs it on the device and ends the command. -/

namespace Sys2Proof.Machine

/-- CALIB_DONE (R437). A Ronong lane finishes loop calibration within CAL_MAX and moves to TRAIN, or repeats CALIB a second later. -/
def execCalibDone (k : Fin 16) (residual : Int) (s : State) : Host.Outcome State Fault Refusal :=
  run (calibDone k.val residual) s

/-- HELLO (R439). A received Ronong HELLO is checked for HID, plan and certificate, and keys are agreed. -/
def execHello (k : Fin 16) (hd : RonHdr) (payload : Octets) (s : State) : Host.Outcome State Fault Refusal :=
  run (ronTake k.val hd 1 2 0 payload (helloTake k.val payload)) s

/-- HELLO_RETRY (R439). A lane refused in HELLO retries every second. -/
def execHelloRetry (k : Fin 16) (s : State) : Host.Outcome State Fault Refusal :=
  run (helloRetry k.val) s

/-- LANE_DOWN_END (R436). After 1 ms in DOWN the lane returns to TRAIN. -/
def execLaneDownEnd (k : Fin 16) (s : State) : Host.Outcome State Fault Refusal :=
  run (laneDownEnd k.val) s

/-- HEARTBEAT_SEND (R438). Every 50 µs a lane in HELLO or UP sends a heartbeat if firmware has kicked. -/
def execHeartbeatSend (k : Fin 16) (s : State) : Host.Outcome State Fault Refusal :=
  run (heartbeatSend k.val) s

/-- HB_KICK (R438). A write to RON.HB_KICK keeps heartbeats flowing for 200 µs. -/
def execHbKick (by_ : Requester) (s : State) : Host.Outcome State Fault Refusal :=
  run (gated by_ Reg.ronHbKick ronKick) s

/-- HEARTBEAT (R438). A received heartbeat updates credits, HEARD and role state. -/
def execHeartbeat (k : Fin 16) (hd : RonHdr) (payload : Octets) (s : State) : Host.Outcome State Fault Refusal :=
  run (ronTake k.val hd 1 1 0 payload (heartbeatTake k.val hd payload)) s

/-- PARTNER_LOST (R450). No heartbeat for HB_TIMEOUT, or no signal for LOS_TIMEOUT, declares the partner lost. -/
def execPartnerLost (k : Fin 16) (s : State) : Host.Outcome State Fault Refusal :=
  run (partnerLost k.val) s

/-- WORKER_TAKEOVER (R451). After the standby's heartbeat, or at once, the active manager aliases a failed device to the reserve. -/
def execWorkerTakeover (h : Fin 16) (s : State) : Host.Outcome State Fault Refusal :=
  run (workerTakeover h.val) s

/-- REKEY (R440). Every RON.REKEY seconds, firmware re-agrees keys and flips KEY_PHASE. -/
def execRekey (k : Fin 16) (payload : Octets) (s : State) : Host.Outcome State Fault Refusal :=
  run (rekey k.val payload) s

/-- RONONG_FRAME_DROP (R432). A received Ronong frame with bad CRC, length, DST, VL, TYPE or tag is dropped and counted. -/
def execRonongFrameDrop (k : Fin 16) (why : RonDrop) (s : State) : Host.Outcome State Fault Refusal :=
  run (frameDrop k.val why) s

/-- T_SYNC (R423). A received T_SYNC is stamped and answered with T_REPLY. -/
def execTSync (k : Fin 16) (hd : RonHdr) (t1 : FineStamp) (s : State) : Host.Outcome State Fault Refusal :=
  run (ronTake k.val hd 0 1 0 (fineOctets t1) (tSyncTake k.val hd (fineOctets t1))) s

/-- T_REPLY (R423). A received T_REPLY gives the follower its servo measurement. -/
def execTReply (k : Fin 16) (hd : RonHdr) (t1 t2 t3 : FineStamp) (s : State) : Host.Outcome State Fault Refusal :=
  run (ronTake k.val hd 0 2 0 (fineOctets t1 ++ fineOctets t2 ++ fineOctets t3) (tReplyTake k.val hd t1 t2 t3)) s

/-- T_CORR (R424). A received T_CORR schedules a correction at A, or applies it late. -/
def execTCorr (k : Fin 16) (hd : RonHdr) (c : Correction) (s : State) : Host.Outcome State Fault Refusal :=
  run (ronTake k.val hd 0 3 0 (corrOctets c) (tCorrTake hd c)) s

/-- COMMAND_FRAME (R144). A received forwarded COMMAND is executed on the processing device. -/
def execCommandFrame (k : Fin 16) (hd : RonHdr) (opcode : Byte) (d : Desc) (aux : Word) (dmaOk : Bool) (s : State) : Host.Outcome State Fault Refusal :=
  if Desc.whole d then run (commandTake k.val hd opcode.toNat d aux.toNat dmaOk) s else .fault .malformedDescriptor

/-- COMPLETION_FRAME (R144). A received COMPLETION is posted to the original ring. -/
def execCompletionFrame (k : Fin 16) (hd : RonHdr) (octets : Octets) (aux : Word) (s : State) : Host.Outcome State Fault Refusal :=
  run (ronTake k.val hd 1 4 aux.toNat (padTo 32 octets) (completionTake hd octets aux.toNat)) s

/-- EPOCH_FRAME (R79). A received EPOCH frame holds an announcement or a switch or release report. -/
def execEpochFrame (k : Fin 16) (hd : RonHdr) (m : EpochMsg) (s : State) : Host.Outcome State Fault Refusal :=
  run (ronTake k.val hd 1 5 0 (Config.epochPayload m) (epochReceive hd m)) s

/-- TAKEOVER (R451). A received TAKEOVER of kind 0 starts the reserve's restore. -/
def execTakeover (k : Fin 16) (hd : RonHdr) (hid : Fin 16) (tick : Nat) (s : State) : Host.Outcome State Fault Refusal :=
  run (takeoverFrame k.val hd hid.val 0 tick (takeoverTake hd hid.val)) s

/-- HAND_BACK (R454). A received TAKEOVER of kind 1 starts the reserve's hand-back. -/
def execHandBack (k : Fin 16) (hd : RonHdr) (hid : Fin 16) (tick : Nat) (s : State) : Host.Outcome State Fault Refusal :=
  run (takeoverFrame k.val hd hid.val 1 tick (handBackTake hd hid.val tick)) s

/-- FENCE (R451). A received FENCE sets GDU.CFG.EN = 0 and silences all but heartbeats and Ledger. -/
def execFence (k : Fin 16) (hd : RonHdr) (hid : Fin 16) (s : State) : Host.Outcome State Fault Refusal :=
  run (takeoverFrame k.val hd hid.val 2 0 (fenceTake hid.val)) s

/-- ACK (R433). A received ACK stops the resending of the acknowledged frame. -/
def execAck (k : Fin 16) (hd : RonHdr) (type : Nat) (seq : Nat) (s : State) : Host.Outcome State Fault Refusal :=
  run (ronTake k.val hd 1 7 0 ([BitVec.ofNat 8 type] ++ toBe 4 (seq % 2 ^ 32)) (ackTake hd type seq)) s

/-- MIRROR (R184). A received MIRROR updates the standby's session and crypto copies. -/
def execMirror (k : Fin 16) (hd : RonHdr) (m : MirrorMsg) (s : State) : Host.Outcome State Fault Refusal :=
  run (ronTake k.val hd 1 8 0 (Config.mirrorPayload m) (mirrorReceive m)) s

/-- MEDIA (R434). A received MEDIA frame delivers ingress, egress or replay records. -/
def execMedia (k : Fin 16) (hd : RonHdr) (recs : List MediaRec) (s : State) : Host.Outcome State Fault Refusal :=
  run (ronTake k.val hd 2 1 recs.length (mediaOctets recs) (fun d => recs.foldl (fun d r => mediaTake r d) d)) s

/-- DOSSIER (R444). A received DOSSIER is forwarded by the manager or staged by the reserve. -/
def execDossier (k : Fin 16) (hd : RonHdr) (chan : Nat) (spawn : Word) (record : Octets) (dossier : Octets) (s : State) :
    Host.Outcome State Fault Refusal :=
  run (ronTake k.val hd 3 1 chan (toBe 4 spawn.toNat ++ record ++ dossier) (dossierTake hd chan spawn.toNat record dossier)) s

/-- CATALOGUE (R442). A received CATALOGUE record updates or deletes a channel's entry. -/
def execCatalogue (k : Fin 16) (hd : RonHdr) (record : Octets) (s : State) : Host.Outcome State Fault Refusal :=
  run (ronTake k.val hd 3 2 0 record (recordTake hd record)) s

/-- LEDGER_FRAME (R95). Received LEDGER entries are merged with REMOTE set. -/
def execLedgerFrame (k : Fin 16) (hd : RonHdr) (entries : List Octets) (s : State) : Host.Outcome State Fault Refusal :=
  run (ronTake k.val hd 4 1 entries.length entries.flatten (ledgerMerge entries)) s

/-- FOLIO_FRAME (R345). A received FOLIO block goes to the recording sink or to epoch staging. -/
def execFolioFrame (k : Fin 16) (hd : RonHdr) (aux : Word) (block : Octets) (s : State) :
    Host.Outcome State Fault Refusal :=
  run (folioTake k.val hd aux block) s

/-- DOSSIER_BATCH_WRITE (R444). Every 20 ms the reserve or CL15 wakes clusters and writes the staged dossiers. -/
def execDossierBatchWrite (s : State) : Host.Outcome State Fault Refusal :=
  run batchWrite s

/-- DEDUP_END (R451). 2 s after S the manager stops deduplicating egress. -/
def execDedupEnd (h : Fin 16) (s : State) : Host.Outcome State Fault Refusal :=
  run (dedupEnd h.val) s

/-- HANDBACK (R454). RON.CTRL HANDBACK schedules the return of a device's channels. -/
def execHandback (by_ : Requester) (h : Fin 16) (s : State) : Host.Outcome State Fault Refusal :=
  run (gated by_ Reg.ronCtrl (handbackWrite h.val)) s

/-- SWITCHOVER (R458). RON.CTRL SWITCHOVER hands the active role to the standby at the second tick. -/
def execSwitchover (by_ : Requester) (s : State) : Host.Outcome State Fault Refusal :=
  run (gated by_ Reg.ronCtrl switchoverWrite) s

/-- MANAGER_TAKEOVER (R456). A standby with peer loss and quorum becomes the active manager. -/
def execManagerTakeover (s : State) : Host.Outcome State Fault Refusal :=
  run managerTakeover s

/-- SPLIT_LANE (R455). A peer loss without quorum records source 0x3AB and stops mirroring. -/
def execSplitLane (s : State) : Host.Outcome State Fault Refusal :=
  run splitLane s

/-- TIME_FRAME_SEND (R423). Each millisecond a follower and its master exchange a two-way time frame, a T_SYNC stamped and sent on the
time virtual lane. -/
def execTimeFrameSend (k : Fin 16) (s : State) : Host.Outcome State Fault Refusal :=
  run (timeFrameSend k.val) s

/-- CALIB_REPEAT (R542). One second after a CALIB whose residual exceeded CAL_MAX, the Ronong lane repeats its loop calibration. -/
def execCalibRepeat (k : Fin 16) (s : State) : Host.Outcome State Fault Refusal :=
  run (calibRepeat k.val) s

end Sys2Proof.Machine
end

