-- ==== Sys2Proof/Machine/ExecMedia.lean ====
section
/-! DEFINITION. What packets, jitter buffers, echo cancellers, filter chains and tone detectors do (spec/06, spec/07, spec/09 to spec/11). Each meaning is one call of its operation: `run`
runs it on the device and ends the command. -/

namespace Sys2Proof.Machine

/-- INGRESS_FRAME (R166). The MPE parses, classifies, checks and decrypts an accepted frame and stores, forwards, punts or drops it. -/
def execIngressFrame (mac : Fin 8) (x : EntryCheck) (s : State) : Host.Outcome State Fault Refusal :=
  run (ingressFrame mac.val x) s

/-- ROTATION_RELEASE (R180). A rotation entry is freed when S_L passes FROM + 64 or 400 ticks after promotion. -/
def execRotationRelease (entry : Nat) (s : State) : Host.Outcome State Fault Refusal :=
  run (rotationRelease entry) s

/-- RTCP_SEND_TIMER (R174). At each randomised RTCP interval, firmware sends a compound SR or RR with SDES and optional XR for a running
channel. -/
def execRtcpSendTimer (session : Nat) (x : EntryCheck) (s : State) : Host.Outcome State Fault Refusal :=
  run (rtcpTimer session x) s

/-- EGRESS_PACKET (R176). The MPE numbers, protects, wraps and queues a packet from a packetise node. -/
def execEgressPacket (x : EntryCheck) (s : State) : Host.Outcome State Fault Refusal :=
  run (egressPacket x) s

/-- CRYPTO_FETCH_DONE (R183). The context fetch from the standby's mirror completes, and the session's packets pass again. -/
def execCryptoFetchDone (session : Nat) (c : CryptoCtx) (s : State) : Host.Outcome State Fault Refusal :=
  run (cryptoFetchDone session c) s

/-- MPE_CFG_EN_WRITE (R187). Writing MPE.CFG.EN = 0 drops new ingress and egress while the pipeline drains. -/
def execMpeCfgEnWrite (by_ : Requester) (en : Bool) (s : State) : Host.Outcome State Fault Refusal :=
  run (gated by_ Reg.mpeCfg (mpeEnWrite en)) s

/-- SEC_CFG_EN_WRITE (R187). Writing SEC.CFG.EN = 0 treats every keyed session as KEY_LOST until EN returns. -/
def execSecCfgEnWrite (by_ : Requester) (en : Bool) (s : State) : Host.Outcome State Fault Refusal :=
  run (gated by_ Reg.secCfg (secEnWrite en)) s

/-- HISTOGRAM_DECAY (R200). Once per second the depth histogram bins decay by (WINDOW − 1) / WINDOW. -/
def execHistogramDecay (chan : Nat) (s : State) : Host.Outcome State Fault Refusal :=
  run (histogramDecay chan) s

/-- DRIFT_FIT (R210). Once per second the pull node fits the drift slope and moves the RFE-out trim. -/
def execDriftFit (chan : Nat) (s : State) : Host.Outcome State Fault Refusal :=
  run (driftFit chan) s

/-- ALIGN_STALE (R204). With no sender report for 30 s, an ALIGNED channel keeps its mapping and records ALIGN_STALE. -/
def execAlignStale (chan : Nat) (s : State) : Host.Outcome State Fault Refusal :=
  run (alignStale chan) s

/-- ECHO_COPY (R243). When P_b stays COPY_MARGIN below P_f for COPY_HOLD, the foreground takes the background's taps or a move starts its
fade. -/
def execEchoCopy (chan : Nat) (s : State) : Host.Outcome State Fault Refusal :=
  run (echoCopy chan) s

/-- DIVERGE (R243). When P_b stays RESET_MARGIN above P_f for COPY_HOLD, the background takes the foreground and any shadow is abandoned.
-/
def execDiverge (chan : Nat) (excess : Nat) (s : State) : Host.Outcome State Fault Refusal :=
  run (diverge chan excess) s

/-- PLACEMENT_RUN (R246). Every 10 ms of samples the placement loop proposes a start and may start a shadow. -/
def execPlacementRun (chan : Nat) (s : State) : Host.Outcome State Fault Refusal :=
  run (placementRun chan) s

/-- WINDOW_MOVE (R248). At the end of the FADE, the foreground holds the new window and WINDOW_MOVE is recorded. -/
def execWindowMove (chan : Nat) (s : State) : Host.Outcome State Fault Refusal :=
  run (windowMove chan) s

/-- MOVE_ABANDON (R249). A shadow that exceeds SHADOW_MAX, or meets a reset, tone, span or parity case, is abandoned. -/
def execMoveAbandon (chan : Nat) (cause : AbandonCause) (s : State) : Host.Outcome State Fault Refusal :=
  run (moveAbandon chan cause) s

/-- DOUBLE_TALK_CLEAR (R244). DT_HOLD after both double-talk tests stop firing, double-talk is cleared. -/
def execDoubleTalkClear (chan : Nat) (s : State) : Host.Outcome State Fault Refusal :=
  run (doubleTalkClear chan) s

/-- TONE_RELEASE (R254). After RELEASE_HOLD of quiet signals, the canceller returns to ENABLED. -/
def execToneRelease (chan : Nat) (s : State) : Host.Outcome State Fault Refusal :=
  run (toneRelease chan) s

/-- EE_CFG_EN_WRITE (R257). Writing CLn.EE.CFG.EN makes echo nodes pass through, or resumes cancellation. -/
def execEeCfgEnWrite (by_ : Requester) (cluster : Fin 16) (en : Bool) (s : State) : Host.Outcome State Fault Refusal :=
  run (gated by_ (Reg.eeCfg cluster.val) (eeEnWrite cluster.val en)) s

/-- COMMIT (R283). BANK_CMD COMMIT copies BANK_WIN into the named bank. -/
def execCommit (by_ : Requester) (cluster : Fin 16) (profile : Fin 64) (bank : Bool) (s : State) : Host.Outcome State Fault Refusal :=
  run (gated by_ (Reg.rfeBankCmd cluster.val) (bankCommit cluster.val profile.val bank)) s

/-- READ (R283). BANK_CMD READ copies the named bank into BANK_WIN. -/
def execRead (by_ : Requester) (cluster : Fin 16) (profile : Fin 64) (bank : Bool) (s : State) : Host.Outcome State Fault Refusal :=
  run (gated by_ (Reg.rfeBankCmd cluster.val) (bankRead cluster.val profile.val bank)) s

/-- SWAP (R284). BANK_CMD SWAP makes the inactive bank active over FADE ms from the next tick, or latches or discards it. -/
def execSwap (by_ : Requester) (cluster : Fin 16) (profile : Fin 64) (fade : Fin 128) (s : State) : Host.Outcome State Fault Refusal :=
  run (gated by_ (Reg.rfeBankCmd cluster.val) (bankSwap cluster.val profile.val fade.val)) s

/-- SETTLE (R283). BANK_CMD SETTLE sets the named bank's settle count from BANK_WIN. -/
def execSettle (by_ : Requester) (cluster : Fin 16) (profile : Fin 64) (bank : Bool) (s : State) : Host.Outcome State Fault Refusal :=
  run (gated by_ (Reg.rfeBankCmd cluster.val) (bankSettle cluster.val profile.val bank)) s

/-- BANK_CMD_RESERVED_OP (R283). A reserved BANK_CMD operation returns RANGE. -/
def execBankCmdReservedOp (by_ : Requester) (cluster : Fin 16) (op : Fin 8) (s : State) : Host.Outcome State Fault Refusal :=
  run (gated by_ (Reg.rfeBankCmd cluster.val) (bankOther cluster.val op.val)) s

/-- SWAP_END (R285). At H, the first qualifying tick with no node of the profile in service, the swap ends and any latched swap starts. -/
def execSwapEnd (cluster : Fin 16) (profile : Fin 64) (s : State) : Host.Outcome State Fault Refusal :=
  run (swapEnd cluster.val profile.val) s

/-- SYNC_CMD_GO (R287). Writing GO to CLn.RFE.SYNC_CMD schedules a synchronising reset at a target tick. -/
def execSyncCmdGo (by_ : Requester) (cluster : Fin 16) (value : Word) (s : State) : Host.Outcome State Fault Refusal :=
  run (gated by_ (Reg.rfeSyncCmd cluster.val) (fun d => if bit value 0 then syncGo cluster.val d else d)) s

/-- LVL_SEL_WRITE (R290). Writing CLn.RFE.LVL_SEL copies one channel node's detector values into the LVL registers. -/
def execLvlSelWrite (by_ : Requester) (cluster : Fin 16) (value : Word) (s : State) : Host.Outcome State Fault Refusal :=
  run (gated by_ (Reg.rfeLvlSel cluster.val) (lvlSel cluster.val value)) s

/-- RFE_CFG_EN_WRITE (R293). Writing CLn.RFE.CFG.EN bypasses the cascades, or restarts them from zero history. -/
def execRfeCfgEnWrite (by_ : Requester) (cluster : Fin 16) (en : Bool) (s : State) : Host.Outcome State Fault Refusal :=
  run (gated by_ (Reg.rfeCfg cluster.val) (rfeEnWrite cluster.val en)) s

/-- VBD_QUIET (R310). Both signals below VBD_END_LEVEL for VBD_END_HOLD end the data call and return the channel to its codec. -/
def execVbdQuiet (chan : Nat) (s : State) : Host.Outcome State Fault Refusal :=
  run (vbdQuiet chan) s

/-- EVENT_RX_END_TIMEOUT (R314). 60 ms after the last reported duration with no update, a received telephone event ends. -/
def execEventRxEndTimeout (chan : Nat) (s : State) : Host.Outcome State Fault Refusal :=
  run (eventTimeout chan) s

/-- TD_CFG_EN_WRITE (R321). Writing CLn.TD.CFG.EN stops or resumes tone detection. -/
def execTdCfgEnWrite (by_ : Requester) (cluster : Fin 16) (en : Bool) (s : State) : Host.Outcome State Fault Refusal :=
  run (gated by_ (Reg.tdCfg cluster.val) (tdEnWrite cluster.val en)) s

end Sys2Proof.Machine
end

