-- ==== Sys2Proof/Machine/ExecNight.lean ====
section
/-! DEFINITION. What the PCIe endpoint and the Night Desk do (spec/17). Each meaning is one call of its operation: `run`
runs it on the device and ends the command. -/

namespace Sys2Proof.Machine

/-- PCIE_LINK_DOWN (R471). A link-down, hot reset or PCIE_PERST_N disables the rings and abandons DMA. -/
def execPcieLinkDown (s : State) : Host.Outcome State Fault Refusal :=
  run (endpointDown 0x0C9) s

/-- FUNCTION_LEVEL_RESET (R471). A function-level reset has the effects of R471. -/
def execFunctionLevelReset (s : State) : Host.Outcome State Fault Refusal :=
  run (endpointDown 0x0CC) s

/-- DMA_READ_ERROR (R470). A failed DMA read records source 0x0CB. -/
def execDmaReadError (ch : Fin 16) (s : State) : Host.Outcome State Fault Refusal :=
  run (dmaReadError ch.val) s

/-- ND_DATAGRAM (R478). A Night Desk datagram is validated, authenticated and rate-limited. -/
def execNdDatagram (s : State) : Host.Outcome State Fault Refusal :=
  run ndDatagram s

/-- ND_HELLO (R479). Night Desk HELLO returns BOOT_ID, serial and state. -/
def execNdHello (s : State) : Host.Outcome State Fault Refusal :=
  run ndHello s

/-- ND_IDENTITY (R479). Night Desk IDENTITY returns identity data. -/
def execNdIdentity (s : State) : Host.Outcome State Fault Refusal :=
  run (ndIdentity s.fuses) s

/-- ND_POWER (R479). Night Desk POWER returns domain and sensor data. -/
def execNdPower (s : State) : Host.Outcome State Fault Refusal :=
  run ndPower s

/-- ND_FAULTS (R479). Night Desk FAULTS returns the LIVE and sticky bitmaps. -/
def execNdFaults (s : State) : Host.Outcome State Fault Refusal :=
  run ndFaults s

/-- ND_LAST_GASP (R479). Night Desk LAST_GASP returns the last-gasp record. -/
def execNdLastGasp (s : State) : Host.Outcome State Fault Refusal :=
  run ndLastGasp s

/-- ND_FAULT_LOG (R479). Night Desk FAULT_LOG returns fault records. -/
def execNdFaultLog (badRecords : List Nat) (s : State) : Host.Outcome State Fault Refusal :=
  run (ndFaultLog badRecords) s

/-- ND_DOMAIN (R481). Night Desk DOMAIN switches a domain on or off at once. -/
def execNdDomain (s : State) : Host.Outcome State Fault Refusal :=
  run ndDomain s

/-- ND_RESET (R479). Night Desk RESET starts a chip reset or a block reset of a domain. -/
def execNdReset (s : State) : Host.Outcome State Fault Refusal :=
  run (ndReset s.fuses) s

/-- ND_IMAGE_BEGIN (R480). Night Desk IMAGE_BEGIN erases a flash slot. -/
def execNdImageBegin (flashOk : Bool) (s : State) : Host.Outcome State Fault Refusal :=
  run (ndImageBegin flashOk) s

/-- ND_IMAGE_WRITE (R480). Night Desk IMAGE_WRITE programs data into an erased slot area. -/
def execNdImageWrite (flashOk : Bool) (s : State) : Host.Outcome State Fault Refusal :=
  run (ndImageWrite flashOk) s

/-- ND_BOOT_RETRY (R480). Night Desk BOOT_RETRY restarts the boot at phase 4 from phase 9. -/
def execNdBootRetry (s : State) : Host.Outcome State Fault Refusal :=
  run ndBootRetry s

/-- ND_TIME_STEP (R409). Night Desk TIME_STEP requests a correction. -/
def execNdTimeStep (s : State) : Host.Outcome State Fault Refusal :=
  run ndTimeStep s

/-- ND_LC_NONCE (R60). Night Desk LC_NONCE issues a nonce. -/
def execNdLcNonce (s : State) : Host.Outcome State Fault Refusal :=
  run ndLcNonce s

/-- ND_LC_TRANSITION (R60). Night Desk LC_TRANSITION requests a life-cycle transition. -/
def execNdLcTransition (fuseOk : Bool) (s : State) : Host.Outcome State Fault Refusal :=
  runFuses (ndLcTransition fuseOk) s

/-- ND_SELF_TEST (R539). Night Desk SELF_TEST runs one test and returns its record. -/
def execNdSelfTest (m : TestMeasure) (s : State) : Host.Outcome State Fault Refusal :=
  run (ndSelfTest (fun _ => true) m) s

/-- ND_BAD_OPCODE (R479). A Night Desk request with a reserved opcode gets BAD_OPCODE. -/
def execNdBadOpcode (s : State) : Host.Outcome State Fault Refusal :=
  run ndBadOpcode s

/-- PHY_POLL (R473). Every 100 ms the Night Desk polls PHY register 1 for link. -/
def execPhyPoll (link full speed100 : Bool) (s : State) : Host.Outcome State Fault Refusal :=
  run (phyPoll link full speed100) s

/-- RMII_REFERENCE_MISSING (R473). NDK_REFCLK missing for 10 µs takes the side-band port down. -/
def execRmiiReferenceMissing (s : State) : Host.Outcome State Fault Refusal :=
  run rmiiMissing s

/-- COLLISION (R475). A half-duplex collision sends jam and starts back-off, or discards the frame. -/
def execCollision (bits : Nat) (s : State) : Host.Outcome State Fault Refusal :=
  run (collision bits) s

/-- BACKOFF_EXPIRY (R475). The back-off ends and the frame is retried. -/
def execBackoffExpiry (s : State) : Host.Outcome State Fault Refusal :=
  run backoffExpiry s

/-- DEFER_END (R475). In half duplex, 96 bit times after carrier (CRS_DV) drops, the Night Desk MAC ends its deferral and may start a
frame. -/
def execDeferEnd (s : State) : Host.Outcome State Fault Refusal :=
  run deferEnd s

end Sys2Proof.Machine
end

