-- ==== Sys2Proof/Machine/ExecPorts.lean ====
section
/-! DEFINITION. What the TDM highways, the archive engine and the network ports do (spec/12 to spec/14). Each meaning is one call of its operation: `run`
runs it on the device and ends the command. -/

namespace Sys2Proof.Machine

/-- TDM_CFG_WRITE (R339). Writing TDM.H[h].CFG enables a highway, or disables it after the current frame. -/
def execTdmCfgWrite (by_ : Requester) (h : Fin 8) (value : Word) (s : State) : Host.Outcome State Fault Refusal :=
  run (gated by_ (Reg.tdmCfg h.val) (tdmCfgWrite h.val value)) s

/-- REARM (R337). Writing TDM.H[h].REARM re-arms released pins. -/
def execRearm (by_ : Requester) (h : Fin 8) (value : Word) (s : State) : Host.Outcome State Fault Refusal :=
  run (gated by_ (Reg.tdmRearm h.val) (fun d => if bit value 0 then rearm h.val d else d)) s

/-- SLIP (R329). A slave highway's slip buffer repeats or deletes one whole frame and recentres. -/
def execSlip (h : Fin 8) (receive repeated : Bool) (s : State) : Host.Outcome State Fault Refusal :=
  run (slip h.val receive repeated) s

/-- CLK_LOSS (R335). A missing or off-frequency CLK on a slave highway declares CLK_LOSS. -/
def execClkLoss (h : Fin 8) (s : State) : Host.Outcome State Fault Refusal :=
  run (tdmLoss h.val 1) s

/-- FS_LOSS (R335). No FS within two frames declares FS_LOSS. -/
def execFsLoss (h : Fin 8) (s : State) : Host.Outcome State Fault Refusal :=
  run (tdmLoss h.val 2) s

/-- TDM_CLOCK_RECOVERED (R335). CLK and FS good for 1 ms clear the loss and restart the slip buffers. -/
def execTdmClockRecovered (h : Fin 8) (s : State) : Host.Outcome State Fault Refusal :=
  run (tdmRecovered h.val) s

/-- FALLBACK (R336). A loss lasting 10 ms makes the highway drive CLK and FS from its synthesiser. -/
def execFallback (h : Fin 8) (s : State) : Host.Outcome State Fault Refusal :=
  run (tdmFallback h.val) s

/-- FIGHT (R337). Four readback mismatches in 16 driven bits release the pin. -/
def execFight (h : Fin 8) (pin : TdmPin) (s : State) : Host.Outcome State Fault Refusal :=
  run (fight h.val pin) s

/-- UNDERRUN (R333). A span not supplied by its first sample's instant is sent as silence and counted. -/
def execUnderrun (h : Fin 8) (chan : Nat) (s : State) : Host.Outcome State Fault Refusal :=
  run (underrun h.val chan) s

/-- BLOCK_COMPRESSED (R350). The compressor finishes a Folio block and writes it to its output FIFO. -/
def execBlockCompressed (sink : Fin 2) (r : CompressOut) (s : State) : Host.Outcome State Fault Refusal :=
  run (blockCompressed sink.val r) s

/-- SINK_TAIL_WRITE (R353). Advancing ARC.SINK[k].TAIL posts buffers. -/
def execSinkTailWrite (by_ : Requester) (sink : Fin 2) (tail : Word) (bufs : List (Nat × Nat)) (s : State) :
    Host.Outcome State Fault Refusal :=
  run (gated by_ (Reg.arcSinkTail sink.val) (sinkTail sink.val (fld tail 0 16) bufs)) s

/-- SINK_IDLE_CLOSE (R353). After SINK_IDLE with no octet following a block, the sink closes the current buffer. -/
def execSinkIdleClose (sink : Fin 2) (s : State) : Host.Outcome State Fault Refusal :=
  run (sinkIdle sink.val) s

/-- SINK_DMA_ERROR (R353). A sink DMA error closes the buffer with ERR and disables the sink. -/
def execSinkDmaError (sink : Fin 2) (s : State) : Host.Outcome State Fault Refusal :=
  run (sinkError sink.val) s

/-- OUTPUT_EXHAUSTED (R355). After EXH_WAIT with no room, the job stops and the output FIFO rewinds to the block's mark. -/
def execOutputExhausted (sink : Fin 2) (s : State) : Host.Outcome State Fault Refusal :=
  run (outputExhausted sink.val) s

/-- ARC_CFG_EN_WRITE (R364). Writing ARC.CFG.EN = 0 stops new blocks and Ledger export. -/
def execArcCfgEnWrite (by_ : Requester) (en : Bool) (s : State) : Host.Outcome State Fault Refusal :=
  run (gated by_ Reg.arcCfg (arcEn en)) s

/-- FIFO_CFG_WRITE (R356). Writing a packing FIFO DEPTH is accepted only while the engine is off and the depths fit. -/
def execFifoCfgWrite (by_ : Requester) (f : Fin 6) (value : Word) (s : State) : Host.Outcome State Fault Refusal :=
  run (gated by_ (Reg.arcFifoCfg f.val) (fifoCfg f.val (fld value 0 10))) s

/-- GROUP_WRITE (R368). Writing MACn.GROUP sets a group's port mode while its MACs and lanes are disabled. -/
def execGroupWrite (by_ : Requester) (groupB : Bool) (value : Word) (s : State) : Host.Outcome State Fault Refusal :=
  run (gated by_ (Reg.macGroup (if groupB then 4 else 0)) (groupWrite (if groupB then 4 else 0) value)) s

/-- MAC_CFG_EN_WRITE (R393). Writing MACn.CFG.EN disables or resumes a MAC. -/
def execMacCfgEnWrite (by_ : Requester) (mac : Fin 8) (en : Bool) (s : State) : Host.Outcome State Fault Refusal :=
  run (gated by_ (Reg.macCfg mac.val) (macEnWrite mac.val en)) s

/-- SDS_CFG_EN_WRITE (R394). Writing SDSm.CFG.EN starts a lane's bring-up or takes it OFF. -/
def execSdsCfgEnWrite (by_ : Requester) (lane : Fin 24) (en : Bool) (s : State) : Host.Outcome State Fault Refusal :=
  run (gated by_ (Reg.sdsCfg lane.val) (laneEnWrite lane.val en)) s

/-- SDS_LOOP_WRITE (R376). Writing SDSm.CFG.LOOP sets a near-end or far-end loop. -/
def execSdsLoopWrite (by_ : Requester) (lane : Fin 24) (loop : Fin 4) (s : State) : Host.Outcome State Fault Refusal :=
  run (gated by_ (Reg.sdsCfg lane.val) (sdsLoopWrite lane.val loop.val)) s

/-- SIGNAL_DETECT (R370). A lane in WAIT_SIGNAL detects signal and moves to AN or TRAIN. -/
def execSignalDetect (lane : Fin 24) (s : State) : Host.Outcome State Fault Refusal :=
  run (laneSignal lane.val) s

/-- AN_RESOLVED (R370). Clause 73 auto-negotiation resolves the mode and the lanes train. -/
def execAnResolved (lane : Fin 24) (s : State) : Host.Outcome State Fault Refusal :=
  run (anResolved lane.val) s

/-- TRAINING_COMPLETE (R370). Training completes and the lane enters DATA. -/
def execTrainingComplete (lane : Fin 24) (r : TrainOut) (s : State) : Host.Outcome State Fault Refusal :=
  run (laneTrained lane.val r) s

/-- TRAINING_FAIL (R371). A failed training attempt enters FAILED_WAIT and may flip transmit polarity. -/
def execTrainingFail (lane : Fin 24) (s : State) : Host.Outcome State Fault Refusal :=
  run (trainingFail lane.val) s

/-- FAILED_WAIT_END (R370). 100 ms after a training failure the lane returns to WAIT_SIGNAL. -/
def execFailedWaitEnd (lane : Fin 24) (s : State) : Host.Outcome State Fault Refusal :=
  run (failedWaitEnd lane.val) s

/-- RX_POLARITY_FLIP (R372). Without lock for 10 ms, an untrained lane inverts its receive polarity. -/
def execRxPolarityFlip (lane : Fin 24) (s : State) : Host.Outcome State Fault Refusal :=
  run (polarityFlip lane.val) s

/-- SIGNAL_LOST (R370). Signal loss in DATA returns the lane to WAIT_SIGNAL. -/
def execSignalLost (lane : Fin 24) (s : State) : Host.Outcome State Fault Refusal :=
  run (laneSignalLost lane.val) s

/-- EYE_MEASURE (R375). Every 10 ms each lane in DATA measures its eyes and SNR. -/
def execEyeMeasure (lane : Fin 24) (eyes : List (Nat × Nat)) (snr : Nat) (s : State) : Host.Outcome State Fault Refusal :=
  run (eyeMeasure lane.val eyes snr) s

/-- LINK_UP (R377). A MAC's link comes up when every lane is in DATA with lock and no fault. -/
def execLinkUp (mac : Fin 8) (laneMap : Byte) (s : State) : Host.Outcome State Fault Refusal :=
  run (linkUp mac.val laneMap) s

/-- LINK_DOWN (R377). A MAC's link goes down, queues are discarded and source 0x348 + e becomes live. -/
def execLinkDown (mac : Fin 8) (localFault remoteFault : Bool) (s : State) : Host.Outcome State Fault Refusal :=
  run (linkDown mac.val localFault remoteFault) s

/-- MAC_RECEIVE_FRAME (R378). The MAC tests a received frame and drops it, passes it to the MPE, or to pause handling. -/
def execMacReceiveFrame (port : MacPort) (f : RxFrame) (s : State) : Host.Outcome State Fault Refusal :=
  run (portReceive port f) s

/-- PAUSE_TIMER_EXPIRY (R386). The pause timer expires and transmission resumes. -/
def execPauseTimerExpiry (port : MacPort) (s : State) : Host.Outcome State Fault Refusal :=
  run (pauseExpiry (portNum port)) s

/-- XOFF_RESEND (R385). Half the PAUSE_QUANTA time after the last XOFF, with occupancy above LOW, XOFF is resent. -/
def execXoffResend (port : MacPort) (s : State) : Host.Outcome State Fault Refusal :=
  run (xoffResend (portNum port)) s

/-- TRANSMIT_FRAME (R388). The MAC starts the highest-priority queued frame when the wire is free and not paused. -/
def execTransmitFrame (port : MacPort) (parityOk : Bool) (sixteenths : Fin 16) (s : State) : Host.Outcome State Fault Refusal :=
  run (portTransmit port parityOk sixteenths.val) s

/-- SLAVE_FS_EDGE (R335). A captured FS edge on a slave highway is stamped, and one arriving other than one frame after the last counts in
FS_ERR, realigning after two edges one frame apart. -/
def execSlaveFsEdge (h : Fin 8) (onTime : Bool) (s : State) : Host.Outcome State Fault Refusal :=
  run (slaveFsEdge h.val onTime) s

end Sys2Proof.Machine
end

