-- ==== Sys2Proof/Machine/ExecPower.lean ====
section
/-! DEFINITION. What the power manager does (spec/01, spec/19). Each meaning is one call of its operation: `run`
runs it on the device and ends the command. -/

namespace Sys2Proof.Machine

/-- DOMAIN_EN_WRITE (R515). Writing PWR.DOMAIN_EN switches domains bit by bit, draining before switch-off. -/
def execDomainEnWrite (by_ : Requester) (value : Word) (s : State) : Host.Outcome State Fault Refusal :=
  run (gated by_ Reg.pwrDomainEn (domainEnWrite (some by_) value)) s

/-- DRAIN_TIMEOUT (R515). A domain not idle within 1 ms is switched off with its work lost. -/
def execDrainTimeout (domain : Fin 30) (s : State) : Host.Outcome State Fault Refusal :=
  run (drainTimeout domain.val) s

/-- CLKSEL_WRITE (R518). Writing PWR.CLKSEL.REF in phase 9 relocks the PLL and restarts boot. -/
def execClkselWrite (by_ : Requester) (value : Word) (s : State) : Host.Outcome State Fault Refusal :=
  run (gated by_ Reg.pwrClksel (clkselWrite value)) s

/-- REFERENCE_CHECK (R517). Every 100 µs each reference is counted against the oscillator. -/
def execReferenceCheck (aOk bOk : Bool) (s : State) : Host.Outcome State Fault Refusal :=
  run (referenceCheck aOk bOk) s

/-- PLL_LOCK_LOSS (R517). 10 µs after the reference stops, the core PLL loses lock. -/
def execPllLockLoss (s : State) : Host.Outcome State Fault Refusal :=
  run pllLost s

/-- DROOP_FIRE (R521). A droop sensor fires and its domain's clock halves. -/
def execDroopFire (sensor : Fin 72) (s : State) : Host.Outcome State Fault Refusal :=
  run (droopFire sensor.val) s

/-- DROOP_HOLD_END (R521). DROOP_HOLD after the last firing, the clock returns. -/
def execDroopHoldEnd (domain : Fin 30) (s : State) : Host.Outcome State Fault Refusal :=
  run (droopEnd domain.val) s

/-- AVS_RUN (R523). Every millisecond the AVS loop moves the VDD_CORE target. -/
def execAvsRun (slack : List Int) (answered : Bool) (s : State) : Host.Outcome State Fault Refusal :=
  run (avsRun slack answered) s

/-- TELEMETRY_READ (R525). Every 100 ms the PMBus telemetry is read. -/
def execTelemetryRead (core : Option (Nat × Nat)) (s : State) : Host.Outcome State Fault Refusal :=
  run (telemetry core) s

/-- SUPPLY_WINDOW_EXIT (R525). A rail leaves its window and its supply source becomes live. -/
def execSupplyWindowExit (rail : Fin 4) (s : State) : Host.Outcome State Fault Refusal :=
  run (windowExit rail.val) s

/-- TEMPERATURE_READ (R526). Every millisecond each temperature sensor is read. -/
def execTemperatureRead (readings : List Int) (s : State) : Host.Outcome State Fault Refusal :=
  run (temperatureRead readings) s

/-- THROTTLE_STEP_DOWN (R527). Every 10 ms a hot cluster lowers its clock by 25 MHz. -/
def execThrottleStepDown (s : State) : Host.Outcome State Fault Refusal :=
  run throttleDown s

/-- THROTTLE_STEP_UP (R527). Every 100 ms a cool cluster raises its clock by 25 MHz. -/
def execThrottleStepUp (s : State) : Host.Outcome State Fault Refusal :=
  run throttleUp s

/-- AON_FAST_OSCILLATOR_STOP (R516). The AON fast oscillator stops after 1 ms without work. -/
def execAonFastOscillatorStop (s : State) : Host.Outcome State Fault Refusal :=
  run fastOscStop s

/-- DOMAIN_WAKE_DONE (R511). A non-cluster domain switched on reaches its first clock edge after its wipe, and its held RW, RWL and RWS
fields are restored. -/
def execDomainWakeDone (domain : Fin 30) (s : State) : Host.Outcome State Fault Refusal :=
  run (domainWakeDone domain.val) s

end Sys2Proof.Machine
end

