-- ==== Sys2Proof/Machine/ExecRegisters.lean ====
section
/-! DEFINITION. What the register accesses without a row of their own do (spec/01, spec/21). Each meaning is one call of its operation: `run`
runs it on the device and ends the command. -/

namespace Sys2Proof.Machine

/-- DEBUG_WINDOW_READ (R552). A read of the tile-memory debug window is served or refused. -/
def execDebugWindowRead (by_ : Requester) (off : Nat) (parityBad : Bool) (s : State) : Host.Outcome State Fault Refusal :=
  run (debugRead by_ off parityBad) s

/-- DEBUG_WINDOW_WRITE (R552). A write to the tile-memory debug window is accepted or refused. -/
def execDebugWindowWrite (by_ : Requester) (off : Nat) (value : Word) (s : State) : Host.Outcome State Fault Refusal :=
  run (debugWrite by_ off value) s

/-- COUNTER_LOW_WORD_READ (R546). Reading a 64-bit counter's low word latches its high word and clears it. -/
def execCounterLowWordRead (by_ : Requester) (addr : Nat) (s : State) : Host.Outcome State Fault Refusal :=
  run (counterRead by_ addr) s

/-- RC_REGISTER_READ (R11). Reading an RC field returns it and clears it. -/
def execRcRegisterRead (by_ : Requester) (addr : Nat) (s : State) : Host.Outcome State Fault Refusal :=
  run (rcRead by_ addr) s

/-- REGISTER_WRITE (R11). A write to a register without its own row applies by field access type. -/
def execRegisterWrite (by_ : Requester) (addr : Nat) (size : Nat) (value : BitVec 64) (s : State) : Host.Outcome State Fault Refusal :=
  .next (settle { s with dev := registerStep by_ addr size value s.dev })

end Sys2Proof.Machine
end

