-- ==== Sys2Proof/Machine/ExecRings.lean ====
section
/-! DEFINITION. What the ring registers and the opcodes of the command rings do (spec/05, spec/06, spec/17). Each meaning is one call of its operation: `run`
runs it on the device and ends the command. -/

namespace Sys2Proof.Machine

/-- COMMAND_RING_TAIL_DOORBELL (R465). A host write to a command ring tail doorbell makes new descriptors available for firmware to take
in ring turn. -/
def execCommandRingTailDoorbell (ring : Fin 4) (tail : Word) (s : State) : Host.Outcome State Fault Refusal :=
  run (tailDoorbell ring.val tail) s

/-- EVENT_RING_HEAD_DOORBELL (R467). A host write to an event ring head doorbell frees event slots, which may unblock command taking. -/
def execEventRingHeadDoorbell (ring : Fin 4) (head : Word) (s : State) : Host.Outcome State Fault Refusal :=
  run (headDoorbell ring.val head) s

/-- RING_CTRL_WRITE (R468). Writing a ring's CTRL enables the ring with HEAD, TAIL and PHASE reset, or disables it and discards its
reserved slots. -/
def execRingCtrlWrite (event : Bool) (ring : Fin 4) (value : Word) (s : State) : Host.Outcome State Fault Refusal :=
  run (ringCtrl event ring.val value) s

/-- EVENT_RING_COALESCE_TIMER (R469). COAL_US after the first unsignalled record, the event ring's MSI-X vector fires. -/
def execEventRingCoalesceTimer (ring : Fin 4) (s : State) : Host.Outcome State Fault Refusal :=
  run (coalesceTimer ring.val) s

/-- OPEN (R151). OPEN checks and admits a channel, places it, chooses its phase and completes, at once or after a cluster wake. -/
def execOpen (ring : Fin 4) (d : Desc) (s : State) : Host.Outcome State Fault Refusal :=
  runRing ring 0x01 d (openCmd d) s

/-- MODIFY (R152). MODIFY re-admits the masked parameter changes, which take effect at the next spawn. -/
def execModify (ring : Fin 4) (d : Desc) (s : State) : Host.Outcome State Fault Refusal :=
  runRing ring 0x02 d (modifyCmd d) s

/-- CONNECT_LINE (R153). CONNECT with LEG 0 joins the channel to a slot group on a TDM highway. -/
def execConnectLine (ring : Fin 4) (d : Desc) (s : State) : Host.Outcome State Fault Refusal :=
  runRingPre ring 0x03 d (connectPre d) (connectByLeg d) s

/-- CONNECT_PACKET (R182). CONNECT with LEG 1 joins the channel to a VALID session that names it. -/
def execConnectPacket (ring : Fin 4) (d : Desc) (s : State) : Host.Outcome State Fault Refusal :=
  runRingPre ring 0x03 d (connectPre d) (connectByLeg d) s

/-- CONNECT_PAIR (R154). CONNECT with LEG 2 joins two transcoding channels, migrating the partner first when AUTO_MIGRATE is set. -/
def execConnectPair (ring : Fin 4) (d : Desc) (s : State) : Host.Outcome State Fault Refusal :=
  runRingPre ring 0x03 d (connectPre d) (connectByLeg d) s

/-- DISCONNECT_LINE (R153). DISCONNECT of the line leg removes it from the first instance that spawns after completion. -/
def execDisconnectLine (ring : Fin 4) (d : Desc) (s : State) : Host.Outcome State Fault Refusal :=
  runRing ring 0x04 d (disconnectByLeg d) s

/-- DISCONNECT_PACKET (R153). DISCONNECT of the packet leg removes it from the first instance that spawns after completion. -/
def execDisconnectPacket (ring : Fin 4) (d : Desc) (s : State) : Host.Outcome State Fault Refusal :=
  runRing ring 0x04 d (disconnectByLeg d) s

/-- DISCONNECT_PAIR (R154). DISCONNECT of the pair leg removes it from both channels at their first common spawn tick. -/
def execDisconnectPair (ring : Fin 4) (d : Desc) (s : State) : Host.Outcome State Fault Refusal :=
  runRing ring 0x04 d (disconnectByLeg d) s

/-- CLOSE (R120). CLOSE stops spawning, cancels undispatched nodes, waits for the node in service, wipes the context and releases the
channel. -/
def execClose (ring : Fin 4) (d : Desc) (dmaOk : Bool) (s : State) : Host.Outcome State Fault Refusal :=
  runRing ring 0x05 d (closeCmd d dmaOk) s

/-- QUERY (R149). QUERY returns the channel's state and optionally writes the 64-octet query block. -/
def execQuery (ring : Fin 4) (d : Desc) (dmaOk : Bool) (s : State) : Host.Outcome State Fault Refusal :=
  runRing ring 0x06 d (queryCmd d dmaOk) s

/-- STATS (R157). STATS marks the channel so that its next statistics node writes the statistics block, or writes it at once on an OPEN
channel. -/
def execStats (ring : Fin 4) (d : Desc) (dmaOk : Bool) (s : State) : Host.Outcome State Fault Refusal :=
  runRing ring 0x07 d (statsCmd d dmaOk) s

/-- TONE_PLAY (R316). TONE_PLAY plays a tone definition in the named direction from the next spawn. -/
def execTonePlay (ring : Fin 4) (d : Desc) (s : State) : Host.Outcome State Fault Refusal :=
  runRing ring 0x08 d (tonePlayCmd d) s

/-- TONE_STOP (R316). TONE_STOP ends the tone in the named direction at the next spawn. -/
def execToneStop (ring : Fin 4) (d : Desc) (s : State) : Host.Outcome State Fault Refusal :=
  runRing ring 0x09 d (toneStopCmd d) s

/-- RECORD_START (R342). RECORD_START starts recording streams for one or two directions, subject to the archive limits. -/
def execRecordStart (ring : Fin 4) (d : Desc) (s : State) : Host.Outcome State Fault Refusal :=
  runRingPre ring 0x0A d recordStartPre (recordStartCmd d) s

/-- RECORD_STOP (R346). RECORD_STOP closes the open blocks as END and completes once they are written or discarded. -/
def execRecordStop (ring : Fin 4) (d : Desc) (s : State) : Host.Outcome State Fault Refusal :=
  runRing ring 0x0B d (recordStopCmd d) s

/-- KEY_SET (R179). KEY_SET installs a master key and suite in one direction of a session. -/
def execKeySet (ring : Fin 4) (d : Desc) (s : State) : Host.Outcome State Fault Refusal :=
  runRing ring 0x0C d (keySetCmd d) s

/-- KEY_ROTATE_RECEIVE (R180). KEY_ROTATE with DIR 1 places a PENDING receive key in a rotation cache entry. -/
def execKeyRotateReceive (ring : Fin 4) (d : Desc) (s : State) : Host.Outcome State Fault Refusal :=
  runRing ring 0x0D d (keyRotateByDir d) s

/-- KEY_ROTATE_TRANSMIT (R180). KEY_ROTATE with DIR 2 acts as a transmit KEY_SET. -/
def execKeyRotateTransmit (ring : Fin 4) (d : Desc) (s : State) : Host.Outcome State Fault Refusal :=
  runRing ring 0x0D d (keyRotateByDir d) s

/-- SESSION_SET (R178). SESSION_SET creates, replaces or removes a session entry and its port mappings. -/
def execSessionSet (ring : Fin 4) (d : Desc) (s : State) : Host.Outcome State Fault Refusal :=
  runRing ring 0x0E d (sessionSetCmd d) s

/-- EPOCH_SCHEDULE (R77). EPOCH_SCHEDULE accepts and announces the staged next epoch for a target tick, or refuses with a status. -/
def execEpochSchedule (ring : Fin 4) (d : Desc) (s : State) : Host.Outcome State Fault Refusal :=
  runRing ring 0x0F d (epochSchedule d) s

/-- EPOCH_STAGE_BEGIN (R78). EPOCH_STAGE BEGIN copies the current epoch-scoped settings into the free bank and enters STAGING. -/
def execEpochStageBegin (ring : Fin 4) (d : Desc) (s : State) : Host.Outcome State Fault Refusal :=
  runRing ring 0x1B d (epochStage ring.val 0 d stageBegin 0) s

/-- EPOCH_STAGE_SECTION (R78). EPOCH_STAGE SECTION reads a Folio section from the host into the free bank. -/
def execEpochStageSection (ring : Fin 4) (d : Desc) (payload : Option Octets) (s : State) : Host.Outcome State Fault Refusal :=
  runRing ring 0x1B d (epochStage ring.val 1 d (stageSectionSend (d.arg 12 2) (payload.map (·.take (d.arg 8 4)))) 14) s

/-- EPOCH_STAGE_END (R78). EPOCH_STAGE END checks the staged bank and enters STAGED. -/
def execEpochStageEnd (ring : Fin 4) (d : Desc) (s : State) : Host.Outcome State Fault Refusal :=
  runRing ring 0x1B d (epochStage ring.val 2 d stageEnd 0) s

/-- EPOCH_STAGE_ABORT (R78). EPOCH_STAGE ABORT writes the free bank to zero and returns to IDLE. -/
def execEpochStageAbort (ring : Fin 4) (d : Desc) (s : State) : Host.Outcome State Fault Refusal :=
  runRing ring 0x1B d (epochStage ring.val 3 d stageAbort 0) s

/-- TEMPLATE_LOAD (R99). TEMPLATE_LOAD checks one template and writes it into the free bank while STAGING. -/
def execTemplateLoad (ring : Fin 4) (d : Desc) (payload : Option Octets) (s : State) : Host.Outcome State Fault Refusal :=
  runRing ring 0x10 d (templateLoad d payload) s

/-- MIGRATE (R127). MIGRATE charges the target tile and appends a migrate node to the channel's next instance. -/
def execMigrate (ring : Fin 4) (d : Desc) (s : State) : Host.Outcome State Fault Refusal :=
  runRing ring 0x12 d (migrateCmd d) s

/-- CONSOLIDATE_NOW (R129). CONSOLIDATE with NOW starts night consolidation at once, ignoring CONSOL_HOLD. -/
def execConsolidateNow (ring : Fin 4) (d : Desc) (s : State) : Host.Outcome State Fault Refusal :=
  runRing ring 0x13 d (consolidateByBits d) s

/-- CONSOLIDATE_STOP (R148). CONSOLIDATE with STOP ends night consolidation. -/
def execConsolidateStop (ring : Fin 4) (d : Desc) (s : State) : Host.Outcome State Fault Refusal :=
  runRing ring 0x13 d (consolidateByBits d) s

/-- IMAGE_WRITE (R58). The host's IMAGE_WRITE writes host data into a flash slot, unless that slot is being read or owned by the Night
Desk. -/
def execImageWrite (ring : Fin 4) (d : Desc) (payload : Option Octets) (flashOk : Bool) (s : State) : Host.Outcome State Fault Refusal :=
  runRing ring 0x14 d (imageWriteCmd d payload flashOk) s

/-- LEDGER_READ (R148). LEDGER_READ copies a range of Ledger entries to host memory. -/
def execLedgerRead (ring : Fin 4) (d : Desc) (dmaOk : Bool) (bad : List Nat) (s : State) : Host.Outcome State Fault Refusal :=
  runRing ring 0x15 d (ledgerReadCmd d dmaOk bad) s

/-- TIME_STEP (R409). The host's TIME_STEP requests a time correction judged under R409. -/
def execTimeStep (ring : Fin 4) (d : Desc) (s : State) : Host.Outcome State Fault Refusal :=
  runRing ring 0x16 d (timeStepCmd d) s

/-- LC_NONCE (R60). LC_NONCE issues a 16-octet nonce for a life-cycle token. -/
def execLcNonce (ring : Fin 4) (d : Desc) (s : State) : Host.Outcome State Fault Refusal :=
  runRing ring 0x17 d (lcNonceCmd d) s

/-- LC_TRANSITION (R60). LC_TRANSITION authorises a forward life-cycle move, blows its fuses and ends in a life-cycle reset, or is
refused. -/
def execLcTransition (ring : Fin 4) (d : Desc) (token : Option Octets) (fuseOk : Bool) (s : State) :
    Host.Outcome State Fault Refusal :=
  if Desc.whole d then runFuses (lcTransitionRing ring.val d token fuseOk) s else .fault .malformedDescriptor

/-- NOP (R148). NOP completes with no effect. -/
def execNop (ring : Fin 4) (d : Desc) (s : State) : Host.Outcome State Fault Refusal :=
  runRing ring 0x19 d (nopCmd d) s

/-- EVENT_TEST (R148). EVENT_TEST posts one event of source 0x0C6 with the given data after its completion. -/
def execEventTest (ring : Fin 4) (d : Desc) (s : State) : Host.Outcome State Fault Refusal :=
  runRing ring 0x1A d (eventTestCmd d) s

/-- BAD_OPCODE (R148). A command with a reserved opcode completes with BAD_OPCODE. -/
def execBadOpcode (ring : Fin 4) (opcode : Byte) (d : Desc) (s : State) : Host.Outcome State Fault Refusal :=
  if Desc.whole d then run (badOpcodeTake ring.val opcode.toNat d) s else .fault .malformedDescriptor

end Sys2Proof.Machine
end

