-- ==== Sys2Proof/Machine/ExecTests.lean ====
section
/-! DEFINITION. What tests and tile reloads do (spec/08, spec/20). Each meaning is one call of its operation: `run`
runs it on the device and ends the command. -/

namespace Sys2Proof.Machine

/-- LANE_TEST (R533). A LANE test, from MIRROR_TEST or SELF_TEST, trains an OFF lane in near-end loop and measures residual, SNR and eye.
-/
def execLaneTest (o : TestOrigin) (m : TestMeasure) (s : State) : Host.Outcome State Fault Refusal :=
  if testWhole o then run (testFrom 1 o m) s else .fault .malformedDescriptor

/-- TILE_TEST (R534). A TILE test, from MIRROR_TEST, SELF_TEST or return to service, runs every stored kernel vector bit-exactly. -/
def execTileTest (o : TestOrigin) (m : TestMeasure) (s : State) : Host.Outcome State Fault Refusal :=
  if testWhole o then run (testFrom 2 o m) s else .fault .malformedDescriptor

/-- MIRROR_PAIR_TEST (R535). A MIRROR test opens near and far test channels with emulators and drives the stimulus schedule. -/
def execMirrorPairTest (o : TestOrigin) (m : TestMeasure) (s : State) : Host.Outcome State Fault Refusal :=
  if testWhole o then run (testFrom 3 o m) s else .fault .malformedDescriptor

/-- TEST_RESULT (R538). A test ends with a result record, a TEST_RESULT entry and the completion or response. -/
def execTestResult (t : TestKey) (s : State) : Host.Outcome State Fault Refusal :=
  run (testResult t) s

/-- KERNEL_RELOAD (R229). An instruction parity error fails the node, and firmware rewrites the tile's instruction SRAM from the reserve.
-/
def execKernelReload (cluster : Fin 16) (tile : Fin 16) (addr : Word) (reserveOk : Bool) (s : State) : Host.Outcome State Fault Refusal :=
  run (kernelReload (16 * cluster.val + tile.val) addr.toNat reserveOk) s

/-- RELOAD_DONE (R229). The reload completes and the tile enters its return-to-service test. -/
def execReloadDone (cluster : Fin 16) (tile : Fin 16) (s : State) : Host.Outcome State Fault Refusal :=
  run (reloadDone (16 * cluster.val + tile.val)) s

/-- KSET_LOAD (R228). Firmware loads a kernel set into an empty tile, and the waiting open completes. -/
def execKsetLoad (cluster : Fin 16) (tile : Fin 16) (s : State) : Host.Outcome State Fault Refusal :=
  run (ksetLoad (16 * cluster.val + tile.val)) s

end Sys2Proof.Machine
end

