-- ==== Sys2Proof/Machine/ExecTime.lean ====
section
/-! DEFINITION. What the time base does (spec/03, spec/15). Each meaning is one call of its operation: `run`
runs it on the device and ends the command. -/

namespace Sys2Proof.Machine

/-- TSQ_W3_READ (R406). A read of TB.TSQ[e].W3 pops the head stamp entry. -/
def execTsqW3Read (by_ : Requester) (mac : Fin 8) (s : State) : Host.Outcome State Fault Refusal :=
  run (readWith by_ (Reg.tbTsqW3 mac.val) (tsqRead mac.val)) s

/-- INCR_INT_WRITE (R400). Writing TB.INCR_INT applies the new increment, clamped to ±500 ppm. -/
def execIncrIntWrite (by_ : Requester) (value : Word) (s : State) : Host.Outcome State Fault Refusal :=
  run (gated by_ Reg.tbIncrInt (incrWrite value)) s

/-- TIME_NS_READ (R401). Reading TB.TIME_NS latches seconds, fraction and time epoch of that cycle. -/
def execTimeNsRead (by_ : Requester) (s : State) : Host.Outcome State Fault Refusal :=
  run (readWith by_ Reg.tbTimeNs timeNsRead) s

/-- ADJ_CMD_GO (R409). Writing GO to TB.ADJ_CMD requests a correction judged as slew, step or refusal. -/
def execAdjCmdGo (by_ : Requester) (value : Word) (s : State) : Host.Outcome State Fault Refusal :=
  run (gated by_ Reg.tbAdjCmd (adjGo value)) s

/-- SLEW_END (R410). The remaining slew reaches zero and SLEWING clears. -/
def execSlewEnd (s : State) : Host.Outcome State Fault Refusal :=
  run slewEnd s

/-- CORRECTION_APPLY (R424). At apply instant A, or at once on a standalone device, the accepted correction is applied. -/
def execCorrectionApply (s : State) : Host.Outcome State Fault Refusal :=
  run correctionApply s

/-- PTP_MESSAGE (R404). A PTP frame reaches the time base and firmware runs the servo exchange. -/
def execPtpMessage (m : PtpExchange) (s : State) : Host.Outcome State Fault Refusal :=
  run (servoExchange m) s

/-- HOLDOVER_TIMEOUT (R414). No Sync within the announce receipt timeout enters HOLDOVER. -/
def execHoldoverTimeout (s : State) : Host.Outcome State Fault Refusal :=
  run holdoverTimeout s

/-- SERVO_LOCKED (R413). An offset below LOCK_TH for 16 s moves the servo to LOCKED. -/
def execServoLocked (s : State) : Host.Outcome State Fault Refusal :=
  run servoLocked s

/-- PPS_OUT_EDGE (R417). PPS_OUT rises at each second plus offset, or the edge is skipped. -/
def execPpsOutEdge (s : State) : Host.Outcome State Fault Refusal :=
  run ppsOutEdge s

/-- PPS_OUT_FALL (R417). WIDTH ms after its rise, PPS_OUT falls. -/
def execPpsOutFall (s : State) : Host.Outcome State Fault Refusal :=
  run ppsOutFall s

/-- PPS_IN_EDGE (R418). An active PPS_IN edge is stamped, or ignored as a glitch. -/
def execPpsInEdge (width : Nat) (sixteenths : Fin 16) (s : State) : Host.Outcome State Fault Refusal :=
  run (ppsInEdge width sixteenths.val) s

/-- PPS_IN_MISSING (R418). No PPS_IN edge for 1.5 s makes source 0x047 live. -/
def execPpsInMissing (s : State) : Host.Outcome State Fault Refusal :=
  run ppsInMissing s

/-- PPS_IN_NS_READ (R418). Reading TB.PPS_IN_NS clears NEW. -/
def execPpsInNsRead (by_ : Requester) (s : State) : Host.Outcome State Fault Refusal :=
  run (readWith by_ Reg.tbPpsInNs ppsNsRead) s

/-- SYNTH_CFG_WRITE (R420). Writing TB.SYNTH[s].CFG sets MULT and enables the synthesiser, or is refused. -/
def execSynthCfgWrite (by_ : Requester) (n : Fin 8) (value : Word) (s : State) : Host.Outcome State Fault Refusal :=
  run (gated by_ (Reg.tbSynthCfg n.val) (synthWrite n.val value)) s

/-- TIME_MASTER_LOST (R425). A follower without time frames for 10 ms enters HOLDOVER. -/
def execTimeMasterLost (s : State) : Host.Outcome State Fault Refusal :=
  run timeMasterLost s

/-- TICK_LO_READ (R69). Reading TB.TICK_LO latches the tick number bits 55:32 into TB.TICK_HI. -/
def execTickLoRead (by_ : Requester) (s : State) : Host.Outcome State Fault Refusal :=
  run (readWith by_ Reg.tbTickLo tickLoRead) s

/-- GRID_SLEW_END (R422). The frame-grid residual left by a step reaches zero at a grid frame boundary and TB.STATUS.GRID_SLEW clears. -/
def execGridSlewEnd (s : State) : Host.Outcome State Fault Refusal :=
  run gridSlewEnd s

/-- CORRECTION_RESEND (R424). Each millisecond the active manager resends an unacknowledged correction (A, Δ, kind, time epoch) to every
follower that has not acknowledged. -/
def execCorrectionResend (s : State) : Host.Outcome State Fault Refusal :=
  run correctionResend s

/-- PTP_TRANSMIT (R404). At the profile's message rates, firmware sends Sync, Announce or Delay_Req on TXQ7 with a stamp request or one-
step insert. -/
def execPtpTransmit (mac : Fin 8) (kind : PtpKind) (oneStep : Bool) (id : Fin 65536) (frame : Octets) (s : State) :
    Host.Outcome State Fault Refusal :=
  run (ptpSend mac.val kind oneStep id.val frame) s

end Sys2Proof.Machine
end

