-- ==== Sys2Proof/Machine/Dispatch.lean ====
section
/-! DEFINITION. What each command does: one arm per constructor of `Instr`, each a direct call of the command's meaning. -/

namespace Sys2Proof.Machine

/-- The effect of a command on everything but the queue. -/
def exec (i : Instr) (s : State) : Host.Outcome State Fault Refusal :=
  match i with
  | .porstNRelease pins => Sys2Proof.Machine.execPorstNRelease pins s
  | .wrstNRelease => Sys2Proof.Machine.execWrstNRelease s
  | .vddAonLowHold => Sys2Proof.Machine.execVddAonLowHold s
  | .glbResetWrite by_ value => Sys2Proof.Machine.execGlbResetWrite by_ value s
  | .hostReset => Sys2Proof.Machine.execHostReset s
  | .corePllLocked => Sys2Proof.Machine.execCorePllLocked s
  | .crystalStable => Sys2Proof.Machine.execCrystalStable s
  | .wiringChecksDone r => Sys2Proof.Machine.execWiringChecksDone r s
  | .wipeComplete fails => Sys2Proof.Machine.execWipeComplete fails s
  | .flashHeadersRead r => Sys2Proof.Machine.execFlashHeadersRead r s
  | .imageReadDone r => Sys2Proof.Machine.execImageReadDone r s
  | .signatureVerified => Sys2Proof.Machine.execSignatureVerified s
  | .apply tiles lanes => Sys2Proof.Machine.execApply tiles lanes s
  | .hostBootGo by_ value => Sys2Proof.Machine.execHostBootGo by_ value s
  | .hostBootPullDone r => Sys2Proof.Machine.execHostBootPullDone r s
  | .frameTick par bad => Sys2Proof.Machine.execFrameTick par bad s
  | .tickCtrlWrite by_ value => Sys2Proof.Machine.execTickCtrlWrite by_ value s
  | .nodeDispatch cluster r par => Sys2Proof.Machine.execNodeDispatch cluster r par s
  | .nodeComplete cluster r chan out par => Sys2Proof.Machine.execNodeComplete cluster r chan out par s
  | .instanceLate chan deferred => Sys2Proof.Machine.execInstanceLate chan deferred s
  | .instanceAbort chan deferred => Sys2Proof.Machine.execInstanceAbort chan deferred s
  | .nodeWatchdog cluster r chan => Sys2Proof.Machine.execNodeWatchdog cluster r chan s
  | .gduCfgEnWrite by_ en => Sys2Proof.Machine.execGduCfgEnWrite by_ en s
  | .gduSpareClWrite by_ spare => Sys2Proof.Machine.execGduSpareClWrite by_ spare s
  | .clusterRetention cluster => Sys2Proof.Machine.execClusterRetention cluster s
  | .clusterRetLeadWake cluster => Sys2Proof.Machine.execClusterRetLeadWake cluster s
  | .clusterWakeComplete cluster => Sys2Proof.Machine.execClusterWakeComplete cluster s
  | .clusterWakeTimeout cluster => Sys2Proof.Machine.execClusterWakeTimeout cluster s
  | .consolidationStart => Sys2Proof.Machine.execConsolidationStart s
  | .commandRingTailDoorbell ring tail => Sys2Proof.Machine.execCommandRingTailDoorbell ring tail s
  | .eventRingHeadDoorbell ring head => Sys2Proof.Machine.execEventRingHeadDoorbell ring head s
  | .ringCtrlWrite event ring value => Sys2Proof.Machine.execRingCtrlWrite event ring value s
  | .eventRingCoalesceTimer ring => Sys2Proof.Machine.execEventRingCoalesceTimer ring s
  | .open_ ring d => Sys2Proof.Machine.execOpen ring d s
  | .modify ring d => Sys2Proof.Machine.execModify ring d s
  | .connectLine ring d => Sys2Proof.Machine.execConnectLine ring d s
  | .connectPacket ring d => Sys2Proof.Machine.execConnectPacket ring d s
  | .connectPair ring d => Sys2Proof.Machine.execConnectPair ring d s
  | .disconnectLine ring d => Sys2Proof.Machine.execDisconnectLine ring d s
  | .disconnectPacket ring d => Sys2Proof.Machine.execDisconnectPacket ring d s
  | .disconnectPair ring d => Sys2Proof.Machine.execDisconnectPair ring d s
  | .close ring d dmaOk => Sys2Proof.Machine.execClose ring d dmaOk s
  | .query ring d dmaOk => Sys2Proof.Machine.execQuery ring d dmaOk s
  | .stats ring d dmaOk => Sys2Proof.Machine.execStats ring d dmaOk s
  | .tonePlay ring d => Sys2Proof.Machine.execTonePlay ring d s
  | .toneStop ring d => Sys2Proof.Machine.execToneStop ring d s
  | .recordStart ring d => Sys2Proof.Machine.execRecordStart ring d s
  | .recordStop ring d => Sys2Proof.Machine.execRecordStop ring d s
  | .keySet ring d => Sys2Proof.Machine.execKeySet ring d s
  | .keyRotateReceive ring d => Sys2Proof.Machine.execKeyRotateReceive ring d s
  | .keyRotateTransmit ring d => Sys2Proof.Machine.execKeyRotateTransmit ring d s
  | .sessionSet ring d => Sys2Proof.Machine.execSessionSet ring d s
  | .epochSchedule ring d => Sys2Proof.Machine.execEpochSchedule ring d s
  | .epochCmdGo by_ value => Sys2Proof.Machine.execEpochCmdGo by_ value s
  | .epochStageBegin ring d => Sys2Proof.Machine.execEpochStageBegin ring d s
  | .epochStageSection ring d payload => Sys2Proof.Machine.execEpochStageSection ring d payload s
  | .epochStageEnd ring d => Sys2Proof.Machine.execEpochStageEnd ring d s
  | .epochStageAbort ring d => Sys2Proof.Machine.execEpochStageAbort ring d s
  | .templateLoad ring d payload => Sys2Proof.Machine.execTemplateLoad ring d payload s
  | .migrate ring d => Sys2Proof.Machine.execMigrate ring d s
  | .consolidateNow ring d => Sys2Proof.Machine.execConsolidateNow ring d s
  | .consolidateStop ring d => Sys2Proof.Machine.execConsolidateStop ring d s
  | .imageWrite ring d payload flashOk => Sys2Proof.Machine.execImageWrite ring d payload flashOk s
  | .ledgerRead ring d dmaOk bad => Sys2Proof.Machine.execLedgerRead ring d dmaOk bad s
  | .timeStep ring d => Sys2Proof.Machine.execTimeStep ring d s
  | .lcNonce ring d => Sys2Proof.Machine.execLcNonce ring d s
  | .lcTransition ring d token fuseOk => Sys2Proof.Machine.execLcTransition ring d token fuseOk s
  | .nop ring d => Sys2Proof.Machine.execNop ring d s
  | .eventTest ring d => Sys2Proof.Machine.execEventTest ring d s
  | .badOpcode ring opcode d => Sys2Proof.Machine.execBadOpcode ring opcode d s
  | .laneTest o m => Sys2Proof.Machine.execLaneTest o m s
  | .tileTest o m => Sys2Proof.Machine.execTileTest o m s
  | .mirrorPairTest o m => Sys2Proof.Machine.execMirrorPairTest o m s
  | .testResult t => Sys2Proof.Machine.execTestResult t s
  | .epochBankRelease => Sys2Proof.Machine.execEpochBankRelease s
  | .epochIncompleteTimeout => Sys2Proof.Machine.execEpochIncompleteTimeout s
  | .ledgerEventArrival e => Sys2Proof.Machine.execLedgerEventArrival e s
  | .ledgerRelease => Sys2Proof.Machine.execLedgerRelease s
  | .ledgerExportFlush => Sys2Proof.Machine.execLedgerExportFlush s
  | .ingressFrame mac x => Sys2Proof.Machine.execIngressFrame mac x s
  | .rotationRelease entry => Sys2Proof.Machine.execRotationRelease entry s
  | .rtcpSendTimer session x => Sys2Proof.Machine.execRtcpSendTimer session x s
  | .egressPacket x => Sys2Proof.Machine.execEgressPacket x s
  | .cryptoFetchDone session c => Sys2Proof.Machine.execCryptoFetchDone session c s
  | .mpeCfgEnWrite by_ en => Sys2Proof.Machine.execMpeCfgEnWrite by_ en s
  | .secCfgEnWrite by_ en => Sys2Proof.Machine.execSecCfgEnWrite by_ en s
  | .histogramDecay chan => Sys2Proof.Machine.execHistogramDecay chan s
  | .driftFit chan => Sys2Proof.Machine.execDriftFit chan s
  | .alignStale chan => Sys2Proof.Machine.execAlignStale chan s
  | .echoCopy chan => Sys2Proof.Machine.execEchoCopy chan s
  | .diverge chan excess => Sys2Proof.Machine.execDiverge chan excess s
  | .placementRun chan => Sys2Proof.Machine.execPlacementRun chan s
  | .windowMove chan => Sys2Proof.Machine.execWindowMove chan s
  | .moveAbandon chan cause => Sys2Proof.Machine.execMoveAbandon chan cause s
  | .doubleTalkClear chan => Sys2Proof.Machine.execDoubleTalkClear chan s
  | .toneRelease chan => Sys2Proof.Machine.execToneRelease chan s
  | .eeCfgEnWrite by_ cluster en => Sys2Proof.Machine.execEeCfgEnWrite by_ cluster en s
  | .commit by_ cluster profile bank => Sys2Proof.Machine.execCommit by_ cluster profile bank s
  | .read by_ cluster profile bank => Sys2Proof.Machine.execRead by_ cluster profile bank s
  | .swap by_ cluster profile fade => Sys2Proof.Machine.execSwap by_ cluster profile fade s
  | .settle by_ cluster profile bank => Sys2Proof.Machine.execSettle by_ cluster profile bank s
  | .bankCmdReservedOp by_ cluster op => Sys2Proof.Machine.execBankCmdReservedOp by_ cluster op s
  | .swapEnd cluster profile => Sys2Proof.Machine.execSwapEnd cluster profile s
  | .syncCmdGo by_ cluster value => Sys2Proof.Machine.execSyncCmdGo by_ cluster value s
  | .lvlSelWrite by_ cluster value => Sys2Proof.Machine.execLvlSelWrite by_ cluster value s
  | .rfeCfgEnWrite by_ cluster en => Sys2Proof.Machine.execRfeCfgEnWrite by_ cluster en s
  | .vbdQuiet chan => Sys2Proof.Machine.execVbdQuiet chan s
  | .eventRxEndTimeout chan => Sys2Proof.Machine.execEventRxEndTimeout chan s
  | .tdCfgEnWrite by_ cluster en => Sys2Proof.Machine.execTdCfgEnWrite by_ cluster en s
  | .kernelReload cluster tile addr reserveOk => Sys2Proof.Machine.execKernelReload cluster tile addr reserveOk s
  | .reloadDone cluster tile => Sys2Proof.Machine.execReloadDone cluster tile s
  | .ksetLoad cluster tile => Sys2Proof.Machine.execKsetLoad cluster tile s
  | .tdmCfgWrite by_ h value => Sys2Proof.Machine.execTdmCfgWrite by_ h value s
  | .rearm by_ h value => Sys2Proof.Machine.execRearm by_ h value s
  | .slip h receive repeated => Sys2Proof.Machine.execSlip h receive repeated s
  | .clkLoss h => Sys2Proof.Machine.execClkLoss h s
  | .fsLoss h => Sys2Proof.Machine.execFsLoss h s
  | .tdmClockRecovered h => Sys2Proof.Machine.execTdmClockRecovered h s
  | .fallback h => Sys2Proof.Machine.execFallback h s
  | .fight h pin => Sys2Proof.Machine.execFight h pin s
  | .underrun h chan => Sys2Proof.Machine.execUnderrun h chan s
  | .blockCompressed sink r => Sys2Proof.Machine.execBlockCompressed sink r s
  | .sinkTailWrite by_ sink tail bufs => Sys2Proof.Machine.execSinkTailWrite by_ sink tail bufs s
  | .sinkIdleClose sink => Sys2Proof.Machine.execSinkIdleClose sink s
  | .sinkDmaError sink => Sys2Proof.Machine.execSinkDmaError sink s
  | .outputExhausted sink => Sys2Proof.Machine.execOutputExhausted sink s
  | .arcCfgEnWrite by_ en => Sys2Proof.Machine.execArcCfgEnWrite by_ en s
  | .fifoCfgWrite by_ f value => Sys2Proof.Machine.execFifoCfgWrite by_ f value s
  | .groupWrite by_ groupB value => Sys2Proof.Machine.execGroupWrite by_ groupB value s
  | .macCfgEnWrite by_ mac en => Sys2Proof.Machine.execMacCfgEnWrite by_ mac en s
  | .sdsCfgEnWrite by_ lane en => Sys2Proof.Machine.execSdsCfgEnWrite by_ lane en s
  | .sdsLoopWrite by_ lane loop => Sys2Proof.Machine.execSdsLoopWrite by_ lane loop s
  | .signalDetect lane => Sys2Proof.Machine.execSignalDetect lane s
  | .anResolved lane => Sys2Proof.Machine.execAnResolved lane s
  | .trainingComplete lane r => Sys2Proof.Machine.execTrainingComplete lane r s
  | .trainingFail lane => Sys2Proof.Machine.execTrainingFail lane s
  | .failedWaitEnd lane => Sys2Proof.Machine.execFailedWaitEnd lane s
  | .rxPolarityFlip lane => Sys2Proof.Machine.execRxPolarityFlip lane s
  | .signalLost lane => Sys2Proof.Machine.execSignalLost lane s
  | .eyeMeasure lane eyes snr => Sys2Proof.Machine.execEyeMeasure lane eyes snr s
  | .linkUp mac laneMap => Sys2Proof.Machine.execLinkUp mac laneMap s
  | .linkDown mac localFault remoteFault => Sys2Proof.Machine.execLinkDown mac localFault remoteFault s
  | .macReceiveFrame port f => Sys2Proof.Machine.execMacReceiveFrame port f s
  | .pauseTimerExpiry port => Sys2Proof.Machine.execPauseTimerExpiry port s
  | .xoffResend port => Sys2Proof.Machine.execXoffResend port s
  | .transmitFrame port parityOk sixteenths => Sys2Proof.Machine.execTransmitFrame port parityOk sixteenths s
  | .tsqW3Read by_ mac => Sys2Proof.Machine.execTsqW3Read by_ mac s
  | .incrIntWrite by_ value => Sys2Proof.Machine.execIncrIntWrite by_ value s
  | .timeNsRead by_ => Sys2Proof.Machine.execTimeNsRead by_ s
  | .adjCmdGo by_ value => Sys2Proof.Machine.execAdjCmdGo by_ value s
  | .slewEnd => Sys2Proof.Machine.execSlewEnd s
  | .correctionApply => Sys2Proof.Machine.execCorrectionApply s
  | .ptpMessage m => Sys2Proof.Machine.execPtpMessage m s
  | .holdoverTimeout => Sys2Proof.Machine.execHoldoverTimeout s
  | .servoLocked => Sys2Proof.Machine.execServoLocked s
  | .ppsOutEdge => Sys2Proof.Machine.execPpsOutEdge s
  | .ppsOutFall => Sys2Proof.Machine.execPpsOutFall s
  | .ppsInEdge width sixteenths => Sys2Proof.Machine.execPpsInEdge width sixteenths s
  | .ppsInMissing => Sys2Proof.Machine.execPpsInMissing s
  | .ppsInNsRead by_ => Sys2Proof.Machine.execPpsInNsRead by_ s
  | .synthCfgWrite by_ n value => Sys2Proof.Machine.execSynthCfgWrite by_ n value s
  | .timeMasterLost => Sys2Proof.Machine.execTimeMasterLost s
  | .calibDone k residual => Sys2Proof.Machine.execCalibDone k residual s
  | .hello k hd payload => Sys2Proof.Machine.execHello k hd payload s
  | .helloRetry k => Sys2Proof.Machine.execHelloRetry k s
  | .laneDownEnd k => Sys2Proof.Machine.execLaneDownEnd k s
  | .heartbeatSend k => Sys2Proof.Machine.execHeartbeatSend k s
  | .hbKick by_ => Sys2Proof.Machine.execHbKick by_ s
  | .heartbeat k hd payload => Sys2Proof.Machine.execHeartbeat k hd payload s
  | .partnerLost k => Sys2Proof.Machine.execPartnerLost k s
  | .workerTakeover h => Sys2Proof.Machine.execWorkerTakeover h s
  | .rekey k payload => Sys2Proof.Machine.execRekey k payload s
  | .ronongFrameDrop k why => Sys2Proof.Machine.execRonongFrameDrop k why s
  | .tSync k hd t1 => Sys2Proof.Machine.execTSync k hd t1 s
  | .tReply k hd t1 t2 t3 => Sys2Proof.Machine.execTReply k hd t1 t2 t3 s
  | .tCorr k hd c => Sys2Proof.Machine.execTCorr k hd c s
  | .commandFrame k hd opcode d aux dmaOk => Sys2Proof.Machine.execCommandFrame k hd opcode d aux dmaOk s
  | .completionFrame k hd octets aux => Sys2Proof.Machine.execCompletionFrame k hd octets aux s
  | .epochFrame k hd m => Sys2Proof.Machine.execEpochFrame k hd m s
  | .takeover k hd hid tick => Sys2Proof.Machine.execTakeover k hd hid tick s
  | .handBack k hd hid tick => Sys2Proof.Machine.execHandBack k hd hid tick s
  | .fence k hd hid => Sys2Proof.Machine.execFence k hd hid s
  | .ack k hd type seq => Sys2Proof.Machine.execAck k hd type seq s
  | .mirror k hd m => Sys2Proof.Machine.execMirror k hd m s
  | .media k hd recs => Sys2Proof.Machine.execMedia k hd recs s
  | .dossier k hd chan spawn record dossier => Sys2Proof.Machine.execDossier k hd chan spawn record dossier s
  | .catalogue k hd record => Sys2Proof.Machine.execCatalogue k hd record s
  | .ledgerFrame k hd entries => Sys2Proof.Machine.execLedgerFrame k hd entries s
  | .folioFrame k hd aux block => Sys2Proof.Machine.execFolioFrame k hd aux block s
  | .dossierBatchWrite => Sys2Proof.Machine.execDossierBatchWrite s
  | .dedupEnd h => Sys2Proof.Machine.execDedupEnd h s
  | .handback by_ h => Sys2Proof.Machine.execHandback by_ h s
  | .switchover by_ => Sys2Proof.Machine.execSwitchover by_ s
  | .managerTakeover => Sys2Proof.Machine.execManagerTakeover s
  | .splitLane => Sys2Proof.Machine.execSplitLane s
  | .pcieLinkDown => Sys2Proof.Machine.execPcieLinkDown s
  | .functionLevelReset => Sys2Proof.Machine.execFunctionLevelReset s
  | .dmaReadError ch => Sys2Proof.Machine.execDmaReadError ch s
  | .ndDatagram => Sys2Proof.Machine.execNdDatagram s
  | .ndHello => Sys2Proof.Machine.execNdHello s
  | .ndIdentity => Sys2Proof.Machine.execNdIdentity s
  | .ndPower => Sys2Proof.Machine.execNdPower s
  | .ndFaults => Sys2Proof.Machine.execNdFaults s
  | .ndLastGasp => Sys2Proof.Machine.execNdLastGasp s
  | .ndFaultLog badRecords => Sys2Proof.Machine.execNdFaultLog badRecords s
  | .ndDomain => Sys2Proof.Machine.execNdDomain s
  | .ndReset => Sys2Proof.Machine.execNdReset s
  | .ndImageBegin flashOk => Sys2Proof.Machine.execNdImageBegin flashOk s
  | .ndImageWrite flashOk => Sys2Proof.Machine.execNdImageWrite flashOk s
  | .ndBootRetry => Sys2Proof.Machine.execNdBootRetry s
  | .ndTimeStep => Sys2Proof.Machine.execNdTimeStep s
  | .ndLcNonce => Sys2Proof.Machine.execNdLcNonce s
  | .ndLcTransition fuseOk => Sys2Proof.Machine.execNdLcTransition fuseOk s
  | .ndSelfTest m => Sys2Proof.Machine.execNdSelfTest m s
  | .ndBadOpcode => Sys2Proof.Machine.execNdBadOpcode s
  | .phyPoll link full speed100 => Sys2Proof.Machine.execPhyPoll link full speed100 s
  | .rmiiReferenceMissing => Sys2Proof.Machine.execRmiiReferenceMissing s
  | .collision bits => Sys2Proof.Machine.execCollision bits s
  | .backoffExpiry => Sys2Proof.Machine.execBackoffExpiry s
  | .faultOccurrence src o => Sys2Proof.Machine.execFaultOccurrence src o s
  | .faultClear src => Sys2Proof.Machine.execFaultClear src s
  | .force by_ src => Sys2Proof.Machine.execForce by_ src s
  | .clear by_ src => Sys2Proof.Machine.execClear by_ src s
  | .lock by_ => Sys2Proof.Machine.execLock by_ s
  | .pairClear by_ => Sys2Proof.Machine.execPairClear by_ s
  | .fltHbKick by_ => Sys2Proof.Machine.execFltHbKick by_ s
  | .trapNotAnswered src => Sys2Proof.Machine.execTrapNotAnswered src s
  | .pairReadbackMismatch => Sys2Proof.Machine.execPairReadbackMismatch s
  | .firmwareWatchdog => Sys2Proof.Machine.execFirmwareWatchdog s
  | .controlSramParity repaired => Sys2Proof.Machine.execControlSramParity repaired s
  | .domainEnWrite by_ value => Sys2Proof.Machine.execDomainEnWrite by_ value s
  | .drainTimeout domain => Sys2Proof.Machine.execDrainTimeout domain s
  | .clkselWrite by_ value => Sys2Proof.Machine.execClkselWrite by_ value s
  | .referenceCheck aOk bOk => Sys2Proof.Machine.execReferenceCheck aOk bOk s
  | .pllLockLoss => Sys2Proof.Machine.execPllLockLoss s
  | .droopFire sensor => Sys2Proof.Machine.execDroopFire sensor s
  | .droopHoldEnd domain => Sys2Proof.Machine.execDroopHoldEnd domain s
  | .avsRun slack answered => Sys2Proof.Machine.execAvsRun slack answered s
  | .telemetryRead core => Sys2Proof.Machine.execTelemetryRead core s
  | .supplyWindowExit rail => Sys2Proof.Machine.execSupplyWindowExit rail s
  | .temperatureRead readings => Sys2Proof.Machine.execTemperatureRead readings s
  | .throttleStepDown => Sys2Proof.Machine.execThrottleStepDown s
  | .throttleStepUp => Sys2Proof.Machine.execThrottleStepUp s
  | .aonFastOscillatorStop => Sys2Proof.Machine.execAonFastOscillatorStop s
  | .debugWindowRead by_ off parityBad => Sys2Proof.Machine.execDebugWindowRead by_ off parityBad s
  | .debugWindowWrite by_ off value => Sys2Proof.Machine.execDebugWindowWrite by_ off value s
  | .counterLowWordRead by_ addr => Sys2Proof.Machine.execCounterLowWordRead by_ addr s
  | .rcRegisterRead by_ addr => Sys2Proof.Machine.execRcRegisterRead by_ addr s
  | .registerWrite by_ addr size value => Sys2Proof.Machine.execRegisterWrite by_ addr size value s
  | .porstNLow => Sys2Proof.Machine.execPorstNLow s
  | .wrstNLow => Sys2Proof.Machine.execWrstNLow s
  | .crystalAbsent => Sys2Proof.Machine.execCrystalAbsent s
  | .tickLoRead by_ => Sys2Proof.Machine.execTickLoRead by_ s
  | .gridSlewEnd => Sys2Proof.Machine.execGridSlewEnd s
  | .timeFrameSend k => Sys2Proof.Machine.execTimeFrameSend k s
  | .correctionResend => Sys2Proof.Machine.execCorrectionResend s
  | .calibRepeat k => Sys2Proof.Machine.execCalibRepeat k s
  | .outputShort pin => Sys2Proof.Machine.execOutputShort pin s
  | .pairHeartbeatHalf => Sys2Proof.Machine.execPairHeartbeatHalf s
  | .deferEnd => Sys2Proof.Machine.execDeferEnd s
  | .slaveFsEdge h onTime => Sys2Proof.Machine.execSlaveFsEdge h onTime s
  | .ptpTransmit mac kind oneStep id frame => Sys2Proof.Machine.execPtpTransmit mac kind oneStep id frame s
  | .domainWakeDone domain => Sys2Proof.Machine.execDomainWakeDone domain s

end Sys2Proof.Machine
end

