-- ==== Sys2Proof/Machine/Step.lean ====
section
/-! DEFINITION. One step of the machine: the command at the front of the queue, or one cycle of the time base when none waits. -/

namespace Sys2Proof.Machine

/-- One cycle of the 500 MHz clock with no command waiting (DESIGN CHOICE, log entry 1): the injections due take effect, and what is due is sent. -/
def idle (s : State) : State := finish (fun d => d.elapse 1) s

/-- One step: the effect of the command at the front of the queue on the device with the queue's rest; with an empty queue, one cycle. -/
def step (s : State) : Host.Outcome State Fault Refusal :=
  match s.pending with
  | [] => .next (idle s)
  | c :: rest => exec c { s with pending := rest }

/-- `s` with the command that a table word spells at the front of its queue; `s` itself where the word spells none. -/
def State.withFetchWord (s : State) (nbits w : Nat) : State :=
  match decodeTableWord nbits w with
  | none => s
  | some c => { s with pending := c :: s.pending }

end Sys2Proof.Machine
end

