-- ==== Sys2Proof/WellFormed.lean ====
section
/-! DEFINITION. The commands that a sender can make: what the manual's formats and address spaces bound in a command's operands. The
machine takes other commands too; only a descriptor that is not whole stops it. -/

namespace Sys2Proof

/-- A descriptor has 48 PARAMS octets (R141). -/
def Desc.wf (d : Desc) : Bool := d.params.length == 48

/-- The descriptor of a test that MIRROR_TEST asks for (R532). -/
def TestOrigin.desc? (o : TestOrigin) : Option Desc :=
  match o with
  | .ring _ d => some d
  | .nd | .service _ => none

/-- A test's descriptor, where it has one, is whole. -/
def TestOrigin.wf (o : TestOrigin) : Bool := o.desc?.all Desc.wf

/-- The stamp of R86: 48 bits of seconds, nanoseconds below 10⁹, and an 8-bit time epoch (R93). -/
def Stamp.wf (t : Stamp) : Bool := decide (t.sec < 2 ^ 48) && decide (t.ns < 1000000000) && decide (t.tepoch < 256)

/-- The fields of a Ledger entry (R88): 16-bit source number, code and flags, and 12 data octets at most. -/
def LedgerEvent.wf (e : LedgerEvent) : Bool :=
  e.stamp.wf && decide (e.src < 2 ^ 16) && decide (e.code < 2 ^ 16) && decide (e.flags < 2 ^ 16) && decide (e.data.length ≤ 12)

/-- LENGTH of a Ronong header is a 16-bit number and SEQ a 32-bit number (R432). -/
def RonHdr.wf (h : RonHdr) : Bool := decide (h.length < 2 ^ 16) && decide (h.seq < 2 ^ 32)

/-- The headers of both slots are 4,096 octets (R44). -/
def FlashRead.wf (r : FlashRead) : Bool := r.hdrA.length == 4096 && r.hdrB.length == 4096

/-- An entry has twelve data octets (R88). -/
def OccData.wf (o : OccData) : Bool := decide (o.data.length ≤ 12)

/-- A fine stamp's stamp is one. -/
def FineStamp.wf (t : FineStamp) : Bool := t.stamp.wf

/-- A local channel ID is 0 to 65,535 (R7). -/
def chanOk (chan : Nat) : Bool := decide (chan < 2 ^ 16)

/-- A global channel ID is 20 bits (R7). -/
def globalOk (chan : Nat) : Bool := decide (chan < 2 ^ 20)

/-- The session table has 491,520 entries (R160). -/
def sessionOk (i : Nat) : Bool := decide (i < 491520)

/-- BAR0 is 16 MiB (R544). -/
def barOk (addr : Nat) : Bool := decide (addr < 0x1000000)

/-- The sizes of an access (R545). -/
def sizeOk (size : Nat) : Bool := size == 1 || size == 2 || size == 4 || size == 8

/-- The command descriptor that a command brings, if it brings one. -/
def Instr.desc? (i : Instr) : Option Desc :=
  match i with
  | .open_ _ d | .modify _ d | .connectLine _ d | .connectPacket _ d | .connectPair _ d | .disconnectLine _ d | .disconnectPacket _ d |
    .disconnectPair _ d | .close _ d _ | .query _ d _ | .stats _ d _ | .tonePlay _ d | .toneStop _ d | .recordStart _ d |
    .recordStop _ d | .keySet _ d | .keyRotateReceive _ d | .keyRotateTransmit _ d | .sessionSet _ d | .epochSchedule _ d |
    .epochStageBegin _ d | .epochStageSection _ d _ | .epochStageEnd _ d | .epochStageAbort _ d | .templateLoad _ d _ | .migrate _ d |
    .consolidateNow _ d | .consolidateStop _ d | .imageWrite _ d _ _ | .ledgerRead _ d _ _ | .timeStep _ d | .lcNonce _ d |
    .lcTransition _ d _ _ | .nop _ d | .eventTest _ d | .badOpcode _ _ d | .commandFrame _ _ _ d _ _ => some d
  | .laneTest o _ | .tileTest o _ | .mirrorPairTest o _ => o.desc?
  | .porstNRelease .. | .wrstNRelease | .vddAonLowHold | .glbResetWrite .. | .hostReset | .corePllLocked | .crystalStable |
    .wiringChecksDone .. | .wipeComplete .. | .flashHeadersRead .. | .imageReadDone .. | .signatureVerified | .apply .. |
    .hostBootGo .. | .hostBootPullDone .. | .frameTick .. | .tickCtrlWrite .. | .nodeDispatch .. | .nodeComplete .. | .instanceLate .. |
    .instanceAbort .. | .nodeWatchdog .. | .gduCfgEnWrite .. | .gduSpareClWrite .. | .clusterRetention .. | .clusterRetLeadWake .. |
    .clusterWakeComplete .. | .clusterWakeTimeout .. | .consolidationStart | .commandRingTailDoorbell .. | .eventRingHeadDoorbell .. |
    .ringCtrlWrite .. | .eventRingCoalesceTimer .. | .epochCmdGo .. | .testResult .. | .epochBankRelease | .epochIncompleteTimeout |
    .ledgerEventArrival .. | .ledgerRelease | .ledgerExportFlush | .ingressFrame .. | .rotationRelease .. | .rtcpSendTimer .. |
    .egressPacket .. | .cryptoFetchDone .. | .mpeCfgEnWrite .. | .secCfgEnWrite .. | .histogramDecay .. | .driftFit .. | .alignStale .. |
    .echoCopy .. | .diverge .. | .placementRun .. | .windowMove .. | .moveAbandon .. | .doubleTalkClear .. | .toneRelease .. |
    .eeCfgEnWrite .. | .commit .. | .read .. | .swap .. | .settle .. | .bankCmdReservedOp .. | .swapEnd .. | .syncCmdGo .. |
    .lvlSelWrite .. | .rfeCfgEnWrite .. | .vbdQuiet .. | .eventRxEndTimeout .. | .tdCfgEnWrite .. | .kernelReload .. | .reloadDone .. |
    .ksetLoad .. | .tdmCfgWrite .. | .rearm .. | .slip .. | .clkLoss .. | .fsLoss .. | .tdmClockRecovered .. | .fallback .. | .fight .. |
    .underrun .. | .blockCompressed .. | .sinkTailWrite .. | .sinkIdleClose .. | .sinkDmaError .. | .outputExhausted .. |
    .arcCfgEnWrite .. | .fifoCfgWrite .. | .groupWrite .. | .macCfgEnWrite .. | .sdsCfgEnWrite .. | .sdsLoopWrite .. | .signalDetect .. |
    .anResolved .. | .trainingComplete .. | .trainingFail .. | .failedWaitEnd .. | .rxPolarityFlip .. | .signalLost .. | .eyeMeasure .. |
    .linkUp .. | .linkDown .. | .macReceiveFrame .. | .pauseTimerExpiry .. | .xoffResend .. | .transmitFrame .. | .tsqW3Read .. |
    .incrIntWrite .. | .timeNsRead .. | .adjCmdGo .. | .slewEnd | .correctionApply | .ptpMessage .. | .holdoverTimeout | .servoLocked |
    .ppsOutEdge | .ppsOutFall | .ppsInEdge .. | .ppsInMissing | .ppsInNsRead .. | .synthCfgWrite .. | .timeMasterLost | .calibDone .. |
    .hello .. | .helloRetry .. | .laneDownEnd .. | .heartbeatSend .. | .hbKick .. | .heartbeat .. | .partnerLost .. |
    .workerTakeover .. | .rekey .. | .ronongFrameDrop .. | .tSync .. | .tReply .. | .tCorr .. | .completionFrame .. | .epochFrame .. |
    .takeover .. | .handBack .. | .fence .. | .ack .. | .mirror .. | .media .. | .dossier .. | .catalogue .. | .ledgerFrame .. |
    .folioFrame .. | .dossierBatchWrite | .dedupEnd .. | .handback .. | .switchover .. | .managerTakeover | .splitLane | .pcieLinkDown |
    .functionLevelReset | .dmaReadError .. | .ndDatagram | .ndHello | .ndIdentity | .ndPower | .ndFaults | .ndLastGasp | .ndFaultLog .. |
    .ndDomain | .ndReset | .ndImageBegin .. | .ndImageWrite .. | .ndBootRetry | .ndTimeStep | .ndLcNonce | .ndLcTransition .. |
    .ndSelfTest .. | .ndBadOpcode | .phyPoll .. | .rmiiReferenceMissing | .collision .. | .backoffExpiry | .faultOccurrence .. |
    .faultClear .. | .force .. | .clear .. | .lock .. | .pairClear .. | .fltHbKick .. | .trapNotAnswered .. | .pairReadbackMismatch |
    .firmwareWatchdog | .controlSramParity .. | .domainEnWrite .. | .drainTimeout .. | .clkselWrite .. | .referenceCheck .. |
    .pllLockLoss | .droopFire .. | .droopHoldEnd .. | .avsRun .. | .telemetryRead .. | .supplyWindowExit .. | .temperatureRead .. |
    .throttleStepDown | .throttleStepUp | .aonFastOscillatorStop | .debugWindowRead .. | .debugWindowWrite .. | .counterLowWordRead .. |
    .rcRegisterRead .. | .registerWrite .. | .porstNLow | .wrstNLow | .crystalAbsent | .tickLoRead .. | .gridSlewEnd |
    .timeFrameSend .. | .correctionResend | .calibRepeat .. | .outputShort .. | .pairHeartbeatHalf | .deferEnd | .slaveFsEdge .. |
    .ptpTransmit .. | .domainWakeDone .. => none

/-- The operands other than a descriptor lie within the manual's formats. -/
def Instr.bounded (i : Instr) : Bool :=
  match i with
  | .flashHeadersRead r => r.all FlashRead.wf
  | .frameTick par bad => par.all (fun p => chanOk p.1) && bad.all chanOk
  | .nodeComplete _ _ chan _ _ | .instanceLate chan _ | .instanceAbort chan _ | .nodeWatchdog _ _ chan | .histogramDecay chan |
    .driftFit chan | .alignStale chan | .echoCopy chan | .diverge chan _ | .placementRun chan | .windowMove chan | .moveAbandon chan _ |
    .doubleTalkClear chan | .toneRelease chan | .vbdQuiet chan | .eventRxEndTimeout chan | .underrun _ chan => chanOk chan
  | .ledgerEventArrival e => e.wf
  | .rotationRelease entry => decide (entry < 2048)
  | .rtcpSendTimer session _ | .cryptoFetchDone session _ => sessionOk session
  | .hello _ hd _ | .tCorr _ hd _ | .commandFrame _ hd _ _ _ _ | .epochFrame _ hd _ | .takeover _ hd _ _ | .handBack _ hd _ _ |
    .fence _ hd _ | .ack _ hd _ _ | .mirror _ hd _ | .media _ hd _ | .folioFrame _ hd _ _ => hd.wf
  | .heartbeat _ hd payload => hd.wf && payload.length == 128
  | .tSync _ hd t1 => hd.wf && t1.wf
  | .tReply _ hd t1 t2 t3 => hd.wf && t1.wf && t2.wf && t3.wf
  | .completionFrame _ hd octets _ => hd.wf && octets.length == 32
  | .dossier _ hd chan _ record _ => hd.wf && globalOk chan && record.length == 80
  | .catalogue _ hd record => hd.wf && record.length == 80
  | .ledgerFrame _ hd entries => hd.wf && entries.all (fun e => e.length == 32)
  | .faultOccurrence _ o => o.wf
  | .avsRun slack _ => slack.length == 16
  | .temperatureRead readings => readings.length == 20
  | .debugWindowRead _ off _ | .debugWindowWrite _ off _ => decide (off < 0x800000)
  | .counterLowWordRead _ addr | .rcRegisterRead _ addr => barOk addr
  | .registerWrite _ addr size _ => barOk addr && sizeOk size
  | .porstNRelease .. | .wrstNRelease | .vddAonLowHold | .glbResetWrite .. | .hostReset | .corePllLocked | .crystalStable |
    .wiringChecksDone .. | .wipeComplete .. | .imageReadDone .. | .signatureVerified | .apply .. | .hostBootGo .. |
    .hostBootPullDone .. | .tickCtrlWrite .. | .nodeDispatch .. | .gduCfgEnWrite .. | .gduSpareClWrite .. | .clusterRetention .. |
    .clusterRetLeadWake .. | .clusterWakeComplete .. | .clusterWakeTimeout .. | .consolidationStart | .commandRingTailDoorbell .. |
    .eventRingHeadDoorbell .. | .ringCtrlWrite .. | .eventRingCoalesceTimer .. | .open_ .. | .modify .. | .connectLine .. |
    .connectPacket .. | .connectPair .. | .disconnectLine .. | .disconnectPacket .. | .disconnectPair .. | .close .. | .query .. |
    .stats .. | .tonePlay .. | .toneStop .. | .recordStart .. | .recordStop .. | .keySet .. | .keyRotateReceive .. |
    .keyRotateTransmit .. | .sessionSet .. | .epochSchedule .. | .epochCmdGo .. | .epochStageBegin .. | .epochStageSection .. |
    .epochStageEnd .. | .epochStageAbort .. | .templateLoad .. | .migrate .. | .consolidateNow .. | .consolidateStop .. |
    .imageWrite .. | .ledgerRead .. | .timeStep .. | .lcNonce .. | .lcTransition .. | .nop .. | .eventTest .. | .badOpcode .. |
    .laneTest .. | .tileTest .. | .mirrorPairTest .. | .testResult .. | .epochBankRelease | .epochIncompleteTimeout | .ledgerRelease |
    .ledgerExportFlush | .ingressFrame .. | .egressPacket .. | .mpeCfgEnWrite .. | .secCfgEnWrite .. | .eeCfgEnWrite .. | .commit .. |
    .read .. | .swap .. | .settle .. | .bankCmdReservedOp .. | .swapEnd .. | .syncCmdGo .. | .lvlSelWrite .. | .rfeCfgEnWrite .. |
    .tdCfgEnWrite .. | .kernelReload .. | .reloadDone .. | .ksetLoad .. | .tdmCfgWrite .. | .rearm .. | .slip .. | .clkLoss .. |
    .fsLoss .. | .tdmClockRecovered .. | .fallback .. | .fight .. | .blockCompressed .. | .sinkTailWrite .. | .sinkIdleClose .. |
    .sinkDmaError .. | .outputExhausted .. | .arcCfgEnWrite .. | .fifoCfgWrite .. | .groupWrite .. | .macCfgEnWrite .. |
    .sdsCfgEnWrite .. | .sdsLoopWrite .. | .signalDetect .. | .anResolved .. | .trainingComplete .. | .trainingFail .. |
    .failedWaitEnd .. | .rxPolarityFlip .. | .signalLost .. | .eyeMeasure .. | .linkUp .. | .linkDown .. | .macReceiveFrame .. |
    .pauseTimerExpiry .. | .xoffResend .. | .transmitFrame .. | .tsqW3Read .. | .incrIntWrite .. | .timeNsRead .. | .adjCmdGo .. |
    .slewEnd | .correctionApply | .ptpMessage .. | .holdoverTimeout | .servoLocked | .ppsOutEdge | .ppsOutFall | .ppsInEdge .. |
    .ppsInMissing | .ppsInNsRead .. | .synthCfgWrite .. | .timeMasterLost | .calibDone .. | .helloRetry .. | .laneDownEnd .. |
    .heartbeatSend .. | .hbKick .. | .partnerLost .. | .workerTakeover .. | .rekey .. | .ronongFrameDrop .. | .dossierBatchWrite |
    .dedupEnd .. | .handback .. | .switchover .. | .managerTakeover | .splitLane | .pcieLinkDown | .functionLevelReset |
    .dmaReadError .. | .ndDatagram | .ndHello | .ndIdentity | .ndPower | .ndFaults | .ndLastGasp | .ndFaultLog .. | .ndDomain |
    .ndReset | .ndImageBegin .. | .ndImageWrite .. | .ndBootRetry | .ndTimeStep | .ndLcNonce | .ndLcTransition .. | .ndSelfTest .. |
    .ndBadOpcode | .phyPoll .. | .rmiiReferenceMissing | .collision .. | .backoffExpiry | .faultClear .. | .force .. | .clear .. |
    .lock .. | .pairClear .. | .fltHbKick .. | .trapNotAnswered .. | .pairReadbackMismatch | .firmwareWatchdog | .controlSramParity .. |
    .domainEnWrite .. | .drainTimeout .. | .clkselWrite .. | .referenceCheck .. | .pllLockLoss | .droopFire .. | .droopHoldEnd .. |
    .telemetryRead .. | .supplyWindowExit .. | .throttleStepDown | .throttleStepUp | .aonFastOscillatorStop | .porstNLow | .wrstNLow |
    .crystalAbsent | .tickLoRead .. | .gridSlewEnd | .timeFrameSend .. | .correctionResend | .calibRepeat .. | .outputShort .. |
    .pairHeartbeatHalf | .deferEnd | .slaveFsEdge .. | .ptpTransmit .. | .domainWakeDone .. => true

/-- A command that a sender can make. -/
def Instr.wf (i : Instr) : Bool := i.desc?.all Desc.wf && i.bounded

end Sys2Proof
end

