-- ==== Sys2Proof/Safety.lean ====
section
/-! DEFINITION. The terms in which statements speak of the machine: when a command is accepted and how it ends, when nothing is left due,
what a safe queue is, and what the fuses may do. -/

namespace Sys2Proof.Machine

/-! ### How a command ends -/

/-- No forced occurrence waits for the next cycle (R502). -/
abbrev noInjection (s : State) : Prop := s.dev.flt.forced = []

/-- The state in which a command ends that has left the device at `d`: what it leaves due is done, and the status registers follow. -/
def ended (s : State) (d : Dev) : State := settle { s with dev := d }

/-- A write of the register at `a` by `by_` reaches its block (R472, R514): it is not the host's write of a register that firmware owns, and
the block's domain is served. -/
abbrev accepts (by_ : Requester) (a : Nat) (s : State) : Prop := (gate by_ a s.dev).1 = true

/-! ### Descriptors -/

/-- The command that descriptor `d` with opcode `op` makes on ring `r` once it is taken (R142, R143). -/
def newCmd (r op : Nat) (d : Sys2Proof.Desc) (s : Dev) : PendingCmd :=
  { id := s.pci.nextId, ring := r, evr := d.evr.toNat % 4, opcode := op, tag := d.tag, slot := true,
    chan := if channelOp op then some (descGid d) else none, field := descGid d, aux := d.aux.toNat }

/-- The device with descriptor `d` taken: HEAD has moved past it and a slot of its event ring is reserved (R143). -/
def taken (r op : Nat) (d : Sys2Proof.Desc) (s : Dev) : Dev :=
  addCmd (newCmd r op d s) (crAdvance r (s.setEr (d.evr.toNat % 4)
    { s.er (d.evr.toNat % 4) with reserved := (s.er (d.evr.toNat % 4)).reserved + 1 }))

/-- The descriptor is the next of a ring that is enabled, its PHASE is the ring's, and its event ring has an unreserved slot (R143, R467). -/
abbrev takes (r : Nat) (d : Sys2Proof.Desc) (s : Dev) : Prop :=
  Desc.whole d = true ∧ ringReady r d s = true ∧ d.flags.toNat.testBit 0 = crPhase s r ∧ erFree s (d.evr.toNat % 4) ≠ 0

/-- The descriptor is taken, and this device executes it (R137, R150). -/
abbrev takesHere (r op : Nat) (d : Sys2Proof.Desc) (s : Dev) : Prop := takes r d s ∧ route op d false (taken r op d s) = .here

/-- The descriptor names open channel `c`, whose record is `k`, in a state in which a command acts on it, and its reserved fields are clear
(R137, R148). -/
abbrev onOpen (d : Sys2Proof.Desc) (c : Nat) (k : Channel) (s : Dev) : Prop :=
  c = fld d.channel 0 16 ∧ chanState d false s = none ∧ s.chan? c = some k ∧ descClean d = true

/-- The descriptor names a session of the table, on a device that leads, and its session is `i` (R178 to R180). -/
abbrev onEntry (d : Sys2Proof.Desc) (i : Nat) (s : Dev) : Prop := i = d.aux.toNat % 2 ^ 19 ∧ s.leads = true ∧ i < sessionCount

/-! ### Ronong frames -/

/-- A frame of `vl` and `type` with header `hd` is for this device, and its lane is UP, or in HELLO with a frame of R439 or R438 (R432, R436); on
an UP lane it is enciphered where ENC_REQ asks for it, and its PHASE is one whose key the lane holds (R440); media and dossiers come from a partner
of the same plan (R430). -/
abbrev framesHere (k : Nat) (hd : RonHdr) (vl type : Nat) (s : Dev) : Prop :=
  (ronState s k = 4 ∨ (ronState s k = 3 ∧ vl = 1 ∧ type ≤ 2)) ∧ 20 ≤ hd.length ∧ hd.length ≤ 2048 ∧ hd.dst.val = s.hid ∧
    (ronState s k = 4 → s.rbit Reg.ronCfg 1 = true → hd.enc = true) ∧ (ronState s k = 4 → hd.enc = true → phaseOk s k hd.phase = true) ∧
    planFits s k vl = true

/-- The device with a frame counted and its cells noted on its lane (R432, R435). -/
def counted (k : Nat) (hd : RonHdr) (vl : Nat) (s : Dev) : Dev :=
  (s.setRl k { s.rl k with seen := (s.rl k).seen.set vl ((hd.seq + cellsOf hd.length) % 2 ^ 32), badRun := 0 }).bump64 (Reg.ronLaneRxFrames k)

/-! ### Nothing left due -/

/-- The device outside reset with nothing left due at the end of a command: no test, block reset or chip reset, no record that waits for its
channel's restore, no BYE, no Ledger frame, no drain and no Night Desk test to answer. -/
def quiet (s : Dev) : Prop :=
  s.phase ≠ 0 ∧ s.tests = [] ∧ s.flt.due = [] ∧ s.flt.chip = none ∧ s.ron.held = [] ∧ s.mpe.byes = [] ∧ s.ledger.out = [] ∧
    s.pwr.draining = [] ∧ s.night.testBody = none

/-- The registers with fields that follow the state at the end of every command. -/
def shownRegs : List Nat :=
  (upTo 16).map Reg.gduClMargin ++ (upTo 16).map Reg.eeStatus ++ (upTo 16).map Reg.rfeStatus ++ (upTo 16).map Reg.tdStatus ++
    [Reg.mpeStatus, Reg.tbStatus, Reg.tbAdjRemain, Reg.tbAdjCmd, Reg.fltStatus]

/-! ### Safe queues -/

/-- Every command that waits is one that a sender can make. -/
def safe (s : State) : Prop := ∀ c ∈ s.pending, c.wf = true

/-! ### Fuses -/

/-- `g` has every fuse blown that `f` has, the same serial number, a rollback counter no lower, and, once past BLANK, the same root hash
and an identity key that stays destroyed. -/
structure Fuses.upTo (f g : Fuses) : Prop where
  serial : g.serial = f.serial
  root : f.state ≠ 0 → g.rootHash = f.rootHash
  identity : f.state ≠ 0 → f.identity = .destroyed → g.identity = .destroyed
  state : f.state ≤ g.state
  provA : f.provA = true → g.provA = true
  provB : f.provB = true → g.provB = true
  deplA : f.deplA = true → g.deplA = true
  deplB : f.deplB = true → g.deplB = true
  retdA : f.retdA = true → g.retdA = true
  retdB : f.retdB = true → g.retdB = true
  rollback : f.rollback ≤ g.rollback

end Sys2Proof.Machine
end

