-- ==== Sys2Proof/Certificates/Slice0/Obligations.lean ====
section
/-! DEFINITION. The statements for the provers. A statement that a command completes names the state in which it ends by the operations of
the model: `ended s d` is the device `d` with what the command leaves due done, and `SettlingShowsStatusOnly` says what that is when nothing is. -/

open Sys2Proof Sys2Proof.Machine


/-- A step runs the command at the front of the queue on the state with the queue's rest. -/
def Obligations.StepRunsFrontCommand : Prop :=
  ∀ (c : Instr) (rest : List Instr) (s : State), s.pending = c :: rest → step s = exec c { s with pending := rest }

/-- With no command waiting a step is one cycle of the 500 MHz clock. The model's choice: log entry 1. -/
def Obligations.EmptyQueueStepIsOneCycle : Prop :=
  ∀ s : State, s.pending = [] → noInjection s → step s = .next (ended s (s.dev.elapse 1))

/-- Reset (R34, R36, R134): power-on reset holds the device in phase 0, every register has its reset value, every channel ID is FREE, tile
memory and the queue are empty, and no fuse is blown. That PORST_N is low and that the fuses are as made is the model's choice (log entry 2). -/
def Obligations.ResetLeavesEverythingAtReset : Prop :=
  (∀ a, State.reset.dev.reg a = regReset a) ∧ State.reset.dev.phase = 0 ∧ State.reset.dev.boot.porstLow = true ∧
    (∀ c, State.reset.dev.chan? c = none) ∧ State.reset.dev.tileMem = [] ∧ State.reset.pending = [] ∧ State.reset.fuses.state = 0 ∧
    State.reset.fuses.rollback = 0

/-- The straps are sampled at the rising edge of PORST_N and corrected (R31): NVM_MODE 0b11 is taken as 0b10 and SPARE_CL as 0 on any role
but standalone, either sets STRAP_ERR, which BOOT.STRAP shows, and a set STRAP_ERR is an occurrence of source 0x010. -/
def Obligations.StrapsAreCorrectedAndReported : Prop :=
  ∀ (pins : StrapPins) (s : State), noInjection s → s.dev.boot.porstLow = true → s.dev.boot.wrstLow = false →
    let p : StrapPins := { pins with nvmMode := if pins.nvmMode = 3 then 2 else pins.nvmMode
                                     spareCl := pins.spareCl && decide (pins.role = 0) }
    let err : Bool := decide (pins.nvmMode = 3) || (pins.spareCl && decide (pins.role ≠ 0))
    let d : Dev := bootAt 1 s.fuses (causeBit 0 (resetCore true s.fuses
      { s.dev with boot := { s.dev.boot with straps := p, strapErr := err, porstLow := false } }))
    exec (.porstNRelease pins) s = .next (ended s (if err then occur 0x010 {} d else d)) ∧ d.boot.straps = p ∧ d.boot.strapErr = err ∧
      d.rbit Reg.bootStrap 16 = err ∧ d.phase = 1

/-- The pins of reset (R34, R560, R559): PORST_N low, and VDD_AON below its limit, hold the device in phase 0 with every register at its reset value
and every call dropped; WRST_N low holds it with AON kept, and its release starts the boot at phase 2 with the events held for the Ledger. The host
reset (R551, R34): a write of GLB.RESET with bit 0 set asks for it 10 µs later, a second write changes nothing, nor does one with bit 0 clear; and
then it comes, with its bit in BOOT.CAUSE and every call dropped. -/
def Obligations.ResetsHoldAndRestart : Prop :=
  (∀ s : State, noInjection s → ∃ t, exec .porstNLow s = .next t ∧ t.dev.phase = 0 ∧ t.dev.boot.porstLow = true ∧ t.dev.chans = [] ∧
      t.dev.regs = [] ∧ t.dev.cycles = s.dev.cycles ∧ t.fuses = s.fuses ∧ t.pending = s.pending) ∧
  (∀ s : State, noInjection s → ∃ t, exec .vddAonLowHold s = .next t ∧ t.dev.phase = 0 ∧ t.dev.boot.porstLow = true ∧ t.dev.chans = [] ∧
      t.dev.regs = [] ∧ t.dev.cycles = s.dev.cycles ∧ t.fuses = s.fuses ∧ t.pending = s.pending) ∧
  (∀ s : State, noInjection s → s.dev.boot.porstLow = false → s.dev.boot.wrstLow = false →
      let r := resetCore false s.fuses s.dev
      exec .wrstNLow s = .next (ended s { r with boot := { r.boot with wrstLow := true } }) ∧ r.chans = []) ∧
  (∀ s : State, noInjection s → s.dev.boot.porstLow = false → s.dev.boot.wrstLow = true → s.dev.boot.coldHold = false →
      let r := warmReset 1 s.fuses { s.dev with boot := { s.dev.boot with wrstLow := false, coldHold := false } }
      exec .wrstNRelease s = .next (ended s { r with boot := { r.boot with held := s.dev.boot.held } }) ∧ r.chans = [] ∧ r.phase = 2) ∧
  (∀ (by_ : Requester) (v : Word) (s : State), noInjection s → accepts by_ Reg.glbReset s → bit v 0 = true →
      s.dev.boot.resetAt = none →
      exec (.glbResetWrite by_ v) s =
        .next (ended s { s.dev with boot := { s.dev.boot with resetAt := some (s.dev.cycles + 5000) } })) ∧
  (∀ (by_ : Requester) (v : Word) (s : State) (t : Nat), noInjection s → accepts by_ Reg.glbReset s → s.dev.boot.resetAt = some t →
      exec (.glbResetWrite by_ v) s = .next (ended s s.dev)) ∧
  (∀ (by_ : Requester) (v : Word) (s : State), noInjection s → accepts by_ Reg.glbReset s → bit v 0 = false →
      exec (.glbResetWrite by_ v) s = .next (ended s s.dev)) ∧
  (∀ (s : State) (t : Nat), noInjection s → s.dev.boot.resetAt = some t →
      let r := warmReset 4 s.fuses (s.dev.elapseTo t)
      exec .hostReset s = .next (ended s r) ∧ r.chans = [] ∧ r.phase = 2)

/-- The clocks of phases 1 to 3 (R36, R486): the PLL's lock leads to the wiring checks, the crystal's stability selects it and ends source 0x004,
and its failure is an occurrence of 0x004. Phases 2 to 4 (R39, R40, R41, R42, R46): wiring checks that find nothing wrong lead to the wipe, with
flash seen, both references OK, the PLL locked and the PHY found where one is strapped; a wipe with no bad bank and with the always-on copy of the
life cycle equal to the fuses leads to flash discovery; and slot headers read lead to the selected slot, their codes shown in BOOT.STATUS. -/
def Obligations.BootReachesTheImage : Prop :=
  (∀ s : State, noInjection s → s.dev.phase = 1 →
      exec .corePllLocked s = .next (ended s ((s.dev.setBit Reg.pwrClksel 3 true).setPhase 2))) ∧
  (∀ s : State, noInjection s → s.dev.phase ≠ 0 →
      exec .crystalStable s = .next (ended s (faultEnd 0x004 [] (s.dev.setBit Reg.pwrClksel 4 true)))) ∧
  (∀ s : State, noInjection s → s.dev.phase ≠ 0 →
      exec .crystalAbsent s = .next (ended s (occur 0x004 {} (s.dev.setBit Reg.pwrClksel 4 false)))) ∧
  (∀ (r : WiringResult) (s : State), noInjection s → s.dev.phase = 2 → r.flashAbsent = false →
      r.refclkABad = false → r.refclkBBad = false → r.pcieRefAbsent = false → (∀ m : Fin 24, m ∈ r.laneSignal) → r.tdmShort = [] →
      r.pairMismatch = false → r.phyAbsent = false →
      s.dev.rbit (Reg.srcStatus 1) 0 = false → s.dev.rbit (Reg.srcStatus 2) 0 = false →
      ∃ d : Dev, exec (.wiringChecksDone r) s = .next (ended s (d.setPhase 3)) ∧
        d.boot = { s.dev.boot with flashSeen := true, tdmShort := [] } ∧
        d.night = { s.dev.night with phyFound := s.dev.boot.straps.mgmtMode != 0 } ∧ d.chans = s.dev.chans ∧
        d.rbit Reg.pwrClksel 1 = true ∧ d.rbit Reg.pwrClksel 2 = true ∧ d.rbit Reg.pwrClksel 3 = true ∧ d.rbit Reg.pwrClksel 5 = false) ∧
  (∀ s : State, noInjection s → s.dev.phase = 3 → s.dev.boot.lcCopy = s.fuses.state → s.dev.boot.cold = false → s.dev.lc ≠ 3 →
      s.dev.flt.storm < 4 → s.dev.rbit Reg.pwrClksel 5 = false → exec (.wipeComplete []) s = .next (ended s (s.dev.setPhase 4))) ∧
  (∀ (r : FlashRead) (s : State), noInjection s → s.dev.phase = 4 → s.dev.rbit Reg.pwrClksel 5 = false →
      s.dev.boot.straps.nvmMode ≠ 2 → s.dev.boot.flashSeen = true → r.sfdpOk = true →
      let offB := min (r.density / 2) 0x4000000
      let a := parseHeader r.hdrA
      let b := parseHeader r.hdrB
      let u := flashDiscover r s.dev
      let ca := headerCode a offB u
      let cb := headerCode b (r.density - offB) u
      let d := (u.setFld Reg.bootStatus 8 8 ca).setFld Reg.bootStatus 16 8 cb
      exec (.flashHeadersRead (some r)) s = .next (ended s (selectSlot 2 { d with boot := { d.boot with
        sizeA := offB, sizeB := min (r.density - offB) 0x4000000, hdrA := if ca = 0 then some a else none
        hdrB := if cb = 0 then some b else none } })))

/-- Phases 5 to 7 (R49, R51, R53): an image whose sections all decompress is staged with its digest and its signature block, a signature that
verifies over the digest with the key that the life cycle asks for accepts the image and keeps its signer, one that does not verify refuses it, and
applying it starts firmware, writes the register list, locks RWL fields and hands the sections over. In BLANK any key is taken, and source 0x018
occurs. Host boot (R57): GO in phase 9 with an aligned source and no pull under way starts the pull, and GO outside phase 9 sets ERR and no more; a
pull that ends with a good header and sections that decompress stages the image as one read from flash, and one that fails is refused with HOST_DMA.
-/
def Obligations.ImagesAreReadVerifiedAndApplied : Prop :=
  (∀ (r : ImageRead) (h : Header) (l : List (Nat × Octets)) (s : State), noInjection s → s.dev.phase = 5 → s.dev.boot.pulling = false →
      s.dev.boot.image = some h → r.parity = none → sectionsRead (h.raw ++ r.octets) none (flashOrder h) = .ok l →
      (∀ o ∈ kvGet l 6, toneSectionOk o = true) →
      let d := (decodeJob none s.dev).setPhase 6
      let lib := (kvGet l 3).getD []
      exec (.imageReadDone r) s = .next (ended s { d with boot := { d.boot with
        sections := l, ksets := (Config.kernelSets lib).take 32, limits := Config.limitRecord lib
        digest := sha384 (octs (h.raw ++ r.octets) 0 h.sigOffset), sigBlock := octs (h.raw ++ r.octets) h.sigOffset 256 } })) ∧
  (∀ s : State, noInjection s → s.dev.phase = 6 → sigVerifies s.dev.boot.sigBlock s.dev.boot.digest = true →
      (s.dev.lc = 1 ∨ s.dev.lc = 2) → sha384 (sigKey s.dev.boot.sigBlock) = s.fuses.rootHash →
      exec .signatureVerified s =
        .next (ended s { s.dev.setPhase 7 with boot := { s.dev.boot with signer := sigKey s.dev.boot.sigBlock } })) ∧
  (∀ s : State, noInjection s → s.dev.phase = 6 → sigVerifies s.dev.boot.sigBlock s.dev.boot.digest = true → s.dev.lc = 0 →
      let d := (occur 0x018 {} s.dev).setPhase 7
      exec .signatureVerified s =
        .next (ended s { d with boot := { d.boot with signer := sigKey s.dev.boot.sigBlock } })) ∧
  (∀ s : State, noInjection s → s.dev.phase = 6 → sigVerifies s.dev.boot.sigBlock s.dev.boot.digest = false →
      exec .signatureVerified s = .next (ended s (refuseImage 6 s.dev))) ∧
  (∀ (tiles : List (Fin 256 × TestMeasure)) (lanes : List (Fin 8 × TestMeasure)) (s : State), noInjection s → s.dev.phase = 7 →
      s.dev.boot.rwlLocked = false → (listEntries (sectionOf s.dev 1)).any entryBoot = false →
      let d := (listEntries (sectionOf s.dev 1)).foldl (fun d e => applyEntry e d) (firmwareStart s.dev)
      let p := postRun tiles lanes { d with boot := { d.boot with rwlLocked := true } }
      exec (.apply tiles lanes) s =
        .next (ended s (imageShow (ticksStart (planOpen (sectionOf p 7) (ledgerStart (applySections p))))))) ∧
  (∀ (by_ : Requester) (v : Word) (s : State), noInjection s → accepts by_ Reg.bootHbCtrl s → bit v 0 = true → s.dev.phase = 9 →
      s.dev.rbit Reg.bootHbCtrl 1 = false → s.dev.rbit Reg.pwrClksel 5 = false → (s.dev.reg Reg.bootHbSrcLo).toNat % 4096 = 0 →
      let d := leaveWait 5 ((s.dev.setBit Reg.bootHbCtrl 1 true).setBit Reg.bootHbCtrl 2 false)
      exec (.hostBootGo by_ v) s = .next (ended s { d with boot := { d.boot.unload with
        pulling := true, loading := 3, tried := [1, 2] } })) ∧
  (∀ (by_ : Requester) (v : Word) (s : State), noInjection s → accepts by_ Reg.bootHbCtrl s → bit v 0 = true → s.dev.phase ≠ 9 →
      exec (.hostBootGo by_ v) s = .next (ended s (s.dev.setBit Reg.bootHbCtrl 2 true))) ∧
  (∀ (x : ImageRead) (l : List (Nat × Octets)) (s : State), noInjection s → s.dev.phase = 5 → s.dev.boot.pulling = true →
      let d := { s.dev with boot := { s.dev.boot with pulling := false } }
      let h := parseHeader x.octets
      headerCode h (s.dev.reg Reg.bootHbLen).toNat d = 0 → tableCode h = 0 → x.parity = none →
      sectionsRead x.octets none (flashOrder h) = .ok l → (∀ o ∈ kvGet l 6, toneSectionOk o = true) →
      let u := (decodeJob none { d with boot := { d.boot with image := some h } }).setPhase 6
      let lib := (kvGet l 3).getD []
      exec (.hostBootPullDone (some x)) s = .next (ended s { u with boot := { u.boot with
        sections := l, ksets := (Config.kernelSets lib).take 32, limits := Config.limitRecord lib
        digest := sha384 (octs x.octets 0 h.sigOffset), sigBlock := octs x.octets h.sigOffset 256 } })) ∧
  (∀ s : State, noInjection s → s.dev.phase = 5 → s.dev.boot.pulling = true →
      exec (.hostBootPullDone none) s = .next (ended s
        (refuseImage 10 (occur 0x0CB {} { s.dev with boot := { s.dev.boot with pulling := false } }))))

/-- The frame tick (R65, R66, R67): where the tick generator is enabled and the time base runs, the tick fires, it is numbered by the boundary
of 2.5 ms at which it falls, the next falls one boundary on, and the tick's work follows. At the first tick after the image was applied the
boot ends, and an image that asks for it raises the rollback counter, which never falls (R55). -/
def Obligations.FrameTickFiresAndIsNumbered : Prop :=
  (∀ (par : List (Nat × RecPar)) (bad : List Nat) (s : State) (d : Dev), noInjection s → tickFire s.dev = some d →
      bootTick s.dev = false →
      exec (.frameTick par bad) s = .next (ended s (tickWork par bad (decide (s.dev.time.ticks = 0)) d))) ∧
  (∀ (par : List (Nat × RecPar)) (bad : List Nat) (s : State) (d : Dev) (v : Nat), noInjection s → tickFire s.dev = some d →
      bootTick s.dev = true → raiseLevel s.dev = some v →
      let f : Fuses := { s.fuses with rollback := max s.fuses.rollback (min 255 v) }
      exec (.frameTick par bad) s = .next (settle { s with
        dev := (tickWork par bad (decide (s.dev.time.ticks = 0)) (bootEnd d)).setFld Reg.bootLc 8 8 f.rollback, fuses := f })) ∧
  (∀ (s : Dev) (n : Nat), s.rbit Reg.tbTickCtrl 0 = true → s.time.running = true → s.domainOn 26 = true →
      s.time.nextTickAt = n * tickUnits →
      ∃ d, tickFire s = some d ∧ d.time.lastTick = some n ∧ d.time.nextTickAt = (n + 1) * tickUnits ∧ d.time.ticks = s.time.ticks + 1) ∧
  (∀ (by_ : Requester) (v : Word) (s : State), noInjection s → accepts by_ Reg.tbTickCtrl s → bit v 0 = true →
      s.dev.rbit Reg.tbTickCtrl 0 = false →
      exec (.tickCtrlWrite by_ v) s = .next (ended s { s.dev.setBit Reg.tbTickCtrl 0 true with
        time := { s.dev.time with nextTickAt := (s.dev.time.t / tickUnits + 1) * tickUnits } }))

/-- Dispatch (R110, R112): on an active cluster an idle resource takes the node that the lists give it, which leaves its list, is in service from
that cycle and is IN_SERVICE in its instance; a pull node sees the jitter buffer as it stands at that cycle (R194). A node in service ends (R106,
R107): its kind's effect happens, and the flow goes on; a node that overstays GDU.NODE_WDOG is failed at that instant with its instance, and source
0x084 occurs (R117). Late and aborted instances (R72, R116): an instance past its deadline, ACTIVE or DEFERRED, is marked, counted in its channel
and in GDU.LATE and recorded as source 0x081, once; at its abort time an ACTIVE instance has its undispatched nodes cancelled, and a DEFERRED one is
cancelled whole, counted in its channel and in GDU.CANCEL and GDU.ABORT, and recorded as source 0x082. -/
def Obligations.NodesAreDispatchedAndEnd : Prop :=
  (∀ (n : Fin 16) (r : Resource) (s : State) (e : ListEntry), noInjection s → s.dev.clState n = 3 →
    let d : Dev := { s.dev with gcycle := s.dev.gcycle + 1 }
    pickEntry d n r = some e →
    exec (.nodeDispatch n r .ok) s = .next (ended s (promoteHeld n (pullPicture e.chan e.node (setNodeState e.chan e.node .inService (noteP3 n r e.cls
      (d.setCg n { d.cg n with ready := (d.cg n).ready.erase e
                               service := (d.cg n).service ++ [⟨r, e.chan, e.node, s.dev.cycles, engineOn d n e⟩] }))))))) ∧
  (∀ (n : Fin 16) (r : Resource) (c : Nat) (out : NodeOutcome) (s : State) (v : Service) (k : Channel), noInjection s →
      findService (s.dev.cg n) r c = some v → s.dev.chan? c = some k → k.st ≠ .closing →
      exec (.nodeComplete n r c out .ok) s =
        .next (ended s (nodeDone n v (nodeEffect n v out { s.dev with gcycle := s.dev.gcycle + 1 })))) ∧
  (∀ (n : Fin 16) (r : Resource) (c : Nat) (s : State) (v : Service) (k : Channel), noInjection s →
      findService (s.dev.cg n) r c = some v → s.dev.chan? c = some k →
      let d : Dev := { s.dev with gcycle := s.dev.gcycle + 1 }
      let e := (d.elapseTo (v.since + usCycles (s.dev.within Reg.gduNodeWdog 0 14 10 10000) + 1)).bump Reg.gduWdog
      exec (.nodeWatchdog n r c) s = .next (ended s (occurRes 0x084
        { data := gduData ((k.active.map (·.spawnTick)).getD 0) v.node, chan := some (globalId k.owner c) } n r (failService n v e)))) ∧
  (∀ (c : Nat) (s : State) (k : Channel) (i : Instance), noInjection s → s.dev.chan? c = some k → k.active = some i →
      i.late = false → i.closing = false →
      exec (.instanceLate c false) s = .next (ended s (occur 0x081 { data := gduData i.spawnTick 0xFF, chan := some (globalId k.owner c) }
        (((s.dev.elapseTo (deadline s.dev i)).modChan c (fun k => { k with
          active := some { i with late := true }, stats := { k.stats with late := k.stats.late + 1 } })).bump Reg.gduLate)))) ∧
  (∀ (c : Nat) (s : State) (k : Channel) (i : Instance), noInjection s → s.dev.chan? c = some k → k.deferred = some i →
      i.late = false → i.closing = false →
      exec (.instanceLate c true) s = .next (ended s (occur 0x081 { data := gduData i.spawnTick 0xFF, chan := some (globalId k.owner c) }
        (((s.dev.elapseTo (deadline s.dev i)).modChan c (fun k => { k with
          deferred := some { i with late := true }, stats := { k.stats with late := k.stats.late + 1 } })).bump Reg.gduLate)))) ∧
  (∀ (c : Nat) (b : Bool) (s : State) (k : Channel) (i : Instance), noInjection s → s.dev.chan? c = some k → k.inst b = some i →
      i.late = true → exec (.instanceLate c b) s = .next (ended s s.dev)) ∧
  (∀ (c : Nat) (s : State) (k : Channel) (i : Instance), noInjection s → s.dev.chan? c = some k → k.active = some i →
      i.aborting = false → i.closing = false →
      let d : Dev := { s.dev with gcycle := s.dev.gcycle + 1 }
      let u := (d.elapseTo (abortTime d i)).modChan c (fun k => { k with active := k.active.map (fun i => { i with aborting := true }) })
      exec (.instanceAbort c false) s = .next (ended s (flowOn c (cancelUndispatched c u)))) ∧
  (∀ (c : Nat) (s : State) (k : Channel) (i : Instance), noInjection s → s.dev.chan? c = some k → k.deferred = some i →
      i.aborting = false → i.closing = false →
      let d : Dev := { s.dev with gcycle := s.dev.gcycle + 1 }
      let u := (d.elapseTo (abortTime d i)).modChan c (fun k => { k with
        deferred := none, stats := { k.stats with aborted := k.stats.aborted + 1 }
        jb := { k.jb with missed := k.jb.missed + i.pullMissed.toNat } })
      exec (.instanceAbort c true) s = .next (ended s (drained (occur 0x082
        { data := gduData i.spawnTick 0xFF, chan := some (globalId k.owner c) } ((u.bump64 Reg.gduCancel i.nodes.length).bump Reg.gduAbort)))))

/-- GDU.CFG (R33, R122): EN is written, and GDU.STATUS follows whether an instance is left; SPARE_CL takes effect where no channel is open. Cluster
power (R131): a CLOCK_GATED cluster with no spawn to come enters RETENTION, a cluster in RETENTION is asked to wake, a wake that has ended makes the
cluster ACTIVE and takes up what waited for it, and one that is late is an occurrence of source 0x087. Consolidation starts by itself where every
charge has stayed low for CONSOL_HOLD (R129), and by CONSOLIDATE with NOW at once; with STOP it ends, and the command answers how many clusters were
emptied (R148). -/
def Obligations.ClustersAreConfiguredAndEmptied : Prop :=
  (∀ (by_ : Requester) (en : Bool) (s : State), noInjection s → accepts by_ Reg.gduCfg s → en ≠ s.dev.rbit Reg.gduCfg 0 →
      exec (.gduCfgEnWrite by_ en) s = .next (ended s (drained (s.dev.setBit Reg.gduCfg 0 en)))) ∧
  (∀ (spare : Bool) (s : State), noInjection s → accepts .host Reg.gduCfg s → s.dev.chans = [] →
      exec (.gduSpareClWrite .host spare) s =
        .next (ended s ((s.dev.setBit Reg.gduCfg 1 spare).setBit (Reg.clInfo 15) 8 spare))) ∧
  (∀ (by_ : Requester) (spare : Bool) (s : State), noInjection s → accepts by_ Reg.gduCfg s → s.dev.chans ≠ [] →
      exec (.gduSpareClWrite by_ spare) s = .next (ended s s.dev)) ∧
  (∀ (n : Fin 16) (s : State), noInjection s → s.dev.clState n = 2 → (s.dev.cg n).waking = none → nextSpawnIn s.dev n = none →
      exec (.clusterRetention n) s = .next (ended s (s.dev.setFld Reg.gduClState (2 * n) 2 1))) ∧
  (∀ (n : Fin 16) (s : State), noInjection s → s.dev.clState n = 1 → nextSpawnIn s.dev n = none → (s.dev.cg n).waking = none →
      s.dev.rbit Reg.pwrDomainFail (1 + n) = false →
      exec (.clusterRetLeadWake n) s =
        .next (ended s (fastOscRun (s.dev.setCg n { s.dev.cg n with waking := some s.dev.cycles })))) ∧
  (∀ (n : Fin 16) (s : State) (t : Nat), noInjection s → (s.dev.cg n).waking = some t → s.dev.rbit Reg.pwrDomainFail (1 + n) = false →
      s.dev.clState n = 2 →
      let d := (s.dev.elapseTo (t + 10)).setFld Reg.gduClState (2 * n) 2 3
      exec (.clusterWakeComplete n) s = .next (ended s
        (gateIfIdle n (finishOpens n (migrantSets n (wakeSets n (d.setCg n { s.dev.cg n with waking := none }))))))) ∧
  (∀ (n : Fin 16) (s : State) (t : Nat), noInjection s → (s.dev.cg n).waking = some t → s.dev.rbit Reg.pwrDomainFail (1 + n) = false →
      exec (.clusterWakeTimeout n) s =
        .next (ended s (occur 0x087 { data := gduData 0 0xFF } (s.dev.elapseTo (t + usCycles 10))))) ∧
  (∀ (s : State) (t : Nat), noInjection s → s.dev.consol.lowSince = some t → consolLow s.dev = true →
      exec .consolidationStart s = .next (ended s (consolStart (s.dev.elapseTo (t + usCycles (1000000 * profWord s.dev 14)))))) ∧
  (∀ (r : Fin 4) (d : Desc) (s : State), noInjection s → takesHere r 0x13 d s.dev → descClean d = true → d.aux = 0 →
      oct d.params 0 = 1 → d.zeroFrom 1 47 = true → (consolStart (taken r 0x13 d s.dev)).consol.cluster.isSome = true →
      exec (.consolidateNow r d) s = .next (ended s (consolStart (taken r 0x13 d s.dev)))) ∧
  (∀ (r : Fin 4) (d : Desc) (s : State) (m : PendingCmd), noInjection s → takesHere r 0x13 d s.dev → descClean d = true → d.aux = 0 →
      oct d.params 0 = 2 → d.zeroFrom 1 47 = true →
      let e := consolEnd (taken r 0x13 d s.dev)
      findCmd e s.dev.pci.nextId = some m → m.done = none →
      exec (.consolidateStop r d) s =
        .next (ended s (complete s.dev.pci.nextId .ok [BitVec.ofNat 8 (sat 8 (taken r 0x13 d s.dev).consol.emptied)] e))) ∧
  (∀ (r : Fin 4) (d : Desc) (s : State), noInjection s → takesHere r 0x13 d s.dev → descClean d = true → d.aux = 0 →
      oct d.params 0 = 2 → d.zeroFrom 1 47 = true → (taken r 0x13 d s.dev).consol.cluster.isSome = true →
      findCmd (consolEnd (taken r 0x13 d s.dev)) s.dev.pci.nextId = none →
      exec (.consolidateStop r d) s = .next (ended s (consolEnd (taken r 0x13 d s.dev))))

/-- Epoch numbers compare modulo 256 (R75): a is newer than b at a distance of 1 to 127 and older at one of 129 to 255, a distance of 128 is
treated as older, and the first image boots in epoch 0. -/
def Obligations.EpochNumbersCompareModulo256 : Prop :=
  (∀ a b : Nat, a < 256 → b < 256 →
      (a ≠ b ∧ tepochOlder a b = false ↔ 1 ≤ (a + 256 - b) % 256 ∧ (a + 256 - b) % 256 ≤ 127) ∧
      (tepochOlder a b = true ↔ 128 ≤ (a + 256 - b) % 256)) ∧
    State.reset.dev.epochs.cur.epoch = 0

/-- Scheduling an epoch, by the ring or by GDU.EPOCH_CMD (R77): on a standalone device the next epoch, staged and not in use, at a tick two or more
ahead, is scheduled with status 0, one too soon is refused with status 1 and source 0x0A4, and the status answers the command, OK or REFUSED, or
stands in the register. EPOCH_STAGE and TEMPLATE_LOAD (R78, R99), on a standalone device: BEGIN copies the current settings to the next epoch's
bank, a section whose blocks decode and whose entries pass goes into it, END leaves it STAGED, ABORT empties it, and a template that passes the
checks of R99 is stored in it. The end of an epoch switch (R84, R85): a unit whose previous bank is drained releases it, and reports or counts it;
the master that waits for a report 8 ticks after its own release goes to INCOMPLETE, and source 0x0A2 occurs. -/
def Obligations.EpochsAreStagedScheduledAndReleased : Prop :=
  (∀ (r : Fin 4) (d : Desc) (b : Bank) (s : State), noInjection s → takesHere r 0x0F d s.dev → s.dev.role = 0 → descClean d = true →
      d.aux = 0 → d.zeroFrom 8 47 = true →
      let T := taken r 0x0F d s.dev
      let e := s.dev.epochs
      e.next = some b → epochState s.dev = 5 → d.arg 7 1 = (e.cur.epoch + 1) % 256 → s.dev.tickNow + 2 ≤ d.arg 0 7 → stagedInUse T b = false →
      exec (.epochSchedule r d) s = .next (ended s (complete s.dev.pci.nextId .ok [0] (epochPending (setEpochState 2 (T.withEpochs { e with
        next := some b, sched := some { epoch := d.arg 7 1, tick := d.arg 0 7, tepoch := s.dev.time.tepoch }, master := true, from_ := none
        releaseTick := none, target := d.arg 0 7, ackWait := [], switchWait := [], releaseWait := [] })))))) ∧
  (∀ (r : Fin 4) (d : Desc) (b : Bank) (s : State), noInjection s → takesHere r 0x0F d s.dev → s.dev.role = 0 → descClean d = true →
      d.aux = 0 → d.zeroFrom 8 47 = true →
      let e := s.dev.epochs
      e.next = some b → epochState s.dev = 5 → d.arg 7 1 = (e.cur.epoch + 1) % 256 → d.arg 0 7 < s.dev.tickNow + 2 →
      exec (.epochSchedule r d) s =
        .next (ended s (complete s.dev.pci.nextId .refused [1] (occur 0x0A4 {} (taken r 0x0F d s.dev))))) ∧
  (∀ (r : Fin 4) (d : Desc) (s : State), noInjection s → takesHere r 0x0F d s.dev → descClean d = true → d.aux = 0 →
      d.zeroFrom 8 47 = true →
      let x := epochTry (d.arg 7 1) (d.arg 0 7) (taken r 0x0F d s.dev)
      exec (.epochSchedule r d) s =
        .next (ended s (complete s.dev.pci.nextId (if x.1 = 0 then .ok else .refused) [BitVec.ofNat 8 x.1] x.2))) ∧
  (∀ (by_ : Requester) (v : Word) (b : Bank) (s : State), noInjection s → accepts by_ Reg.gduEpochCmd s → bit v 0 = true → s.dev.role = 0 →
      let n := s.dev.rfld Reg.gduEpochSchedHi 24 8
      let k := (s.dev.reg Reg.gduEpochSchedLo).toNat + 2 ^ 32 * s.dev.rfld Reg.gduEpochSchedHi 0 24
      let e := s.dev.epochs
      e.next = some b → epochState s.dev = 5 → n = (e.cur.epoch + 1) % 256 → s.dev.tickNow + 2 ≤ k → stagedInUse s.dev b = false →
      exec (.epochCmdGo by_ v) s = .next (ended s ((epochPending (setEpochState 2 (s.dev.withEpochs { e with
        next := some b, sched := some { epoch := n, tick := k, tepoch := s.dev.time.tepoch }, master := true, from_ := none
        releaseTick := none, target := k, ackWait := [], switchWait := [], releaseWait := [] }))).setNat Reg.gduEpochCmd 0))) ∧
  (∀ (by_ : Requester) (v : Word) (s : State), noInjection s → accepts by_ Reg.gduEpochCmd s → bit v 0 = true →
      let x := epochTry (s.dev.rfld Reg.gduEpochSchedHi 24 8)
        ((s.dev.reg Reg.gduEpochSchedLo).toNat + 2 ^ 32 * s.dev.rfld Reg.gduEpochSchedHi 0 24) s.dev
      exec (.epochCmdGo by_ v) s = .next (ended s (x.2.setNat Reg.gduEpochCmd x.1))) ∧
  (∀ (r : Fin 4) (d : Desc) (s : State), noInjection s → takesHere r 0x1B d s.dev → s.dev.role = 0 → descClean d = true → d.aux = 0 →
      d.zeroFrom 0 47 = true → epochState s.dev = 0 →
      let e := s.dev.epochs
      exec (.epochStageBegin r d) s = .next (ended s (stageComplete s.dev.pci.nextId (.done, setEpochState 1
        ((taken r 0x1B d s.dev).withEpochs { e with next := some { e.cur with epoch := (e.cur.epoch + 1) % 256 } }))))) ∧
  (∀ (r : Fin 4) (d : Desc) (p o : Octets) (b : Bank) (lim entry : Nat) (s : State), noInjection s → takesHere r 0x1B d s.dev →
      s.dev.role = 0 → descClean d = true → d.aux = 1 → d.zeroFrom 14 47 = true → s.dev.epochs.next = some b → epochState s.dev = 1 →
      let ty := d.arg 12 2
      sectionLimit ty = some (lim, entry) → folioDecode ty (p.take (d.arg 8 4)) = .ok o → o.length ≤ lim → o.length % entry = 0 →
      (ty = 2 → (sectionTemplates sectionFuel o []).2 = []) →
      let u := decodeJob none (taken r 0x1B d s.dev)
      let v := if ty = 5 then profilesRefused (sectionProfiles o).2 u else u
      let b' : Bank := if ty = 2 then { b with templates := (sectionTemplates sectionFuel o []).1.foldl (fun l t => kvSet l t.id t) b.templates }
        else if ty = 4 then { b with codecTables := o }
        else if ty = 5 then { b with profiles := (sectionProfiles o).1 }
        else if ty = 10 then { b with cost := o }
        else { b with power := o }
      exec (.epochStageSection r d (some p)) s = .next (ended s (stageComplete s.dev.pci.nextId
        (.done, v.withEpochs { v.epochs with next := some b' })))) ∧
  (∀ (r : Fin 4) (d : Desc) (s : State), noInjection s → takesHere r 0x1B d s.dev → s.dev.role = 0 → descClean d = true → d.aux = 2 →
      d.zeroFrom 0 47 = true → epochState s.dev = 1 → s.dev.epochs.next.isSome = true →
      exec (.epochStageEnd r d) s =
        .next (ended s (stageComplete s.dev.pci.nextId (.done, setEpochState 5 (taken r 0x1B d s.dev))))) ∧
  (∀ (r : Fin 4) (d : Desc) (s : State), noInjection s → takesHere r 0x1B d s.dev → s.dev.role = 0 → descClean d = true → d.aux = 3 →
      d.zeroFrom 0 47 = true → epochState s.dev = 5 →
      exec (.epochStageAbort r d) s = .next (ended s (stageComplete s.dev.pci.nextId
        (.done, setEpochState 0 ((taken r 0x1B d s.dev).withEpochs { s.dev.epochs with next := none }))))) ∧
  (∀ (r : Fin 4) (d : Desc) (o : Octets) (b : Bank) (t : Template) (s : State), noInjection s → takesHere r 0x10 d s.dev →
      descClean d = true → d.aux = 0 → d.zeroFrom 10 47 = true → s.dev.epochs.next = some b → epochState s.dev = 1 →
      checkTemplate o true [] = (0, some t) →
      exec (.templateLoad r d (some o)) s = .next (ended s (complete s.dev.pci.nextId .ok [0] ((taken r 0x10 d s.dev).withEpochs
        { s.dev.epochs with next := some { b with templates := kvSet b.templates t.id t } })))) ∧
  (∀ (s : State) (b : Bank), noInjection s → s.dev.epochs.prev = some b → prevDrained s.dev b.epoch = true →
      ∃ d, exec .epochBankRelease s = .next (ended s (if d.epochs.master then epochDone d else epochReport .released (setEpochState 0 d))) ∧
        d.epochs = { s.dev.epochs with prev := none, releaseTick := some s.dev.time.ticks }) ∧
  (∀ (s : State) (t : Nat), noInjection s → s.dev.epochs.releaseTick = some t → s.dev.epochs.master = true → epochState s.dev = 3 →
      t + 8 ≤ s.dev.time.ticks → s.dev.epochs.switchWait ≠ [] →
      exec .epochIncompleteTimeout s = .next (ended s (setEpochState 4 s.dev |> occur 0x0A2 {})))

/-- The Ledger (R89, R90, R362): an event enters the reorder buffer for its wait, an event whose wait has expired is written where its key is
the lowest, and an export block whose flush time has come is closed. -/
def Obligations.LedgerBuffersWritesAndExports : Prop :=
  (∀ (e : LedgerEvent) (s : State), noInjection s → s.dev.boot.ledgerOn = true → s.dev.domainOn 17 = true →
      s.dev.ledger.buf.length < 1024 →
      exec (.ledgerEventArrival e) s = .next (ended s (ledgerCount { s.dev with ledger := { s.dev.ledger with
        buf := s.dev.ledger.buf ++ [⟨e, s.dev.cycles + reorderWait s.dev e.stamp⟩] } }))) ∧
  (∀ (s : State) (h : Held), noInjection s → s.dev.ledger.buf = [h] →
      let d := if h.due ≤ s.dev.cycles then s.dev else s.dev.elapseTo h.due
      exec .ledgerRelease s =
        .next (ended s (ledgerCount (ledgerWrite h.ev (ledgerCount { d with ledger := { d.ledger with buf := [] } }))))) ∧
  (∀ (s : State) (t : Nat), noInjection s → s.dev.ledger.exportAt = some t →
      exec .ledgerExportFlush s = .next (ended s (exportClose true (s.dev.elapseTo t))))

/-- OPEN (R151): a channel whose ID is FREE, named or with ANY the lowest FREE one, whose parameters and template pass, whose codec a kernel set holds
and which admission places, has its record with home tile, parameters and template, and the command completes by its opening. An ID that is
in use is refused with IN_USE. -/
def Obligations.OpenPlacesTheChannel : Prop :=
  (∀ (r : Fin 4) (d : Desc) (s : State) (t : Template) (c home : Nat) (wake : Bool), noInjection s → takesHere r 0x01 d s.dev →
      descClean d = true → d.aux = 0 → oct d.params 0 ≤ 63 →
      (if bit d.channel 31 then lowestFree (taken r 0x01 d s.dev) else some (fld d.channel 0 16)) = some c →
      let o := descHid d
      let e := modCmd s.dev.pci.nextId (fun m => { m with chan := some (globalId o c), field := globalId o c }) (taken r 0x01 d s.dev)
      e.chan? c = none → templateFor e d.params = some t → paramsOk e t d.params = true → (firstSet e (oct d.params 3)).isSome = true →
      place e (chargeOf e.epochs.cur.cost t d.params) d.params = some (home, wake) →
      let n := needSet home (oct d.params 3) e.drawWord.2
      let f := refreshLoads (home / 16) (n.setChan c { newChannel n o d.params t home with tsOffset := e.drawWord.1.toNat })
      exec (.open_ r d) s = .next (ended s (finishOpen c (if wake then wakeRequest (home / 16) f else f)))) ∧
  (∀ (r : Fin 4) (d : Desc) (s : State) (k : Channel), noInjection s → takesHere r 0x01 d s.dev → bit d.channel 31 = false →
      (taken r 0x01 d s.dev).chan? (fld d.channel 0 16) = some k →
      exec (.open_ r d) s = .next (ended s (completeWith s.dev.pci.nextId .inUse (taken r 0x01 d s.dev))))

/-- MODIFY, STATS, MIGRATE and QUERY of an open channel (R152, R157, R127, R149): parameters that pass and are admitted replace the old ones with
their charge, a running channel is marked for its next statistics node and an open one has its block written at once, a channel moves to the
tile that admits it, with its partner or alone, one already there completes, and QUERY answers the channel's state and writes its block where it is given an address. -/
def Obligations.ChannelCommandsActOnTheChannel : Prop :=
  (∀ (r : Fin 4) (d : Desc) (s : State) (c : Nat) (k : Channel), noInjection s → takesHere r 0x02 d s.dev →
      let T := taken r 0x02 d s.dev
      let p := mergeParams d.aux.toNat k.params d.params
      onOpen d c k T → maskOk d.aux.toNat = true → allZero (octs d.params 30 2) = true → allZero (octs d.params 36 12) = true →
      paramsOk T k.template p = true → modifyAdmits T c k p = true →
      exec (.modify r d) s = .next (ended s (catalogueNow c (completeWith s.dev.pci.nextId .ok (refreshRec (refreshLoads (k.home / 16)
        (T.setChan c { k with params := p, charge := chargeOf T.epochs.cur.cost k.template p }))))))) ∧
  (∀ (r : Fin 4) (d : Desc) (ok : Bool) (s : State) (c : Nat) (k : Channel), noInjection s → takesHere r 0x07 d s.dev →
      let T := taken r 0x07 d s.dev
      onOpen d c k T → k.st = .running → d.aux = 0 → oct d.params 8 ≤ 1 → d.zeroFrom 9 47 = true →
      exec (.stats r d ok) s = .next (ended s (modCmd s.dev.pci.nextId (fun m => { m with
        addr := d.arg 0 8, aux := oct d.params 8, dmaOk := ok }) T))) ∧
  (∀ (r : Fin 4) (d : Desc) (s : State) (c : Nat) (k : Channel) (m : PendingCmd), noInjection s → takesHere r 0x07 d s.dev →
      let T := taken r 0x07 d s.dev
      let u := modCmd s.dev.pci.nextId (fun m => { m with addr := d.arg 0 8, aux := oct d.params 8, dmaOk := true }) T
      onOpen d c k T → k.st = .opened → d.aux = 0 → oct d.params 8 ≤ 1 → d.zeroFrom 9 47 = true → findCmd u s.dev.pci.nextId = some m →
      let n := u.time.lastTick.getD 0
      let k' := { k with shown := { k.shown with snapTick := n } }
      let v := u.emit (.dma 9 m.addr (statsBlock u c k'))
      exec (.stats r d true) s = .next (ended s (complete m.id .ok (toLe 8 n) (v.setChan c (if m.aux = 1 then clearStats k' else k'))))) ∧
  (∀ (r : Fin 4) (d : Desc) (s : State) (c : Nat) (k : Channel) (u : Dev), noInjection s → takesHere r 0x12 d s.dev →
      let T := taken r 0x12 d s.dev
      onOpen d c k T → d.aux = 0 → d.zeroFrom 1 47 = true → oct d.params 0 ≠ k.home → migrateAdmits T (oct d.params 0) k = true →
      migrateGo c (oct d.params 0) T = some u →
      exec (.migrate r d) s = .next (ended s u)) ∧
  (∀ (r : Fin 4) (d : Desc) (s : State) (c : Nat) (k : Channel), noInjection s → takesHere r 0x12 d s.dev →
      let T := taken r 0x12 d s.dev
      onOpen d c k T → d.aux = 0 → d.zeroFrom 1 47 = true → oct d.params 0 ≠ k.home → migrateAdmits T (oct d.params 0) k = true →
      partnerOf T k = none → k.st = .running →
      exec (.migrate r d) s = .next (ended s (migrateStart c (oct d.params 0) T))) ∧
  (∀ (r : Fin 4) (d : Desc) (s : State) (c : Nat) (k : Channel), noInjection s → takesHere r 0x12 d s.dev →
      let T := taken r 0x12 d s.dev
      onOpen d c k T → d.aux = 0 → d.zeroFrom 1 47 = true → oct d.params 0 = k.home →
      exec (.migrate r d) s = .next (ended s (complete s.dev.pci.nextId .ok [BitVec.ofNat 8 k.home] T))) ∧
  (∀ (r : Fin 4) (d : Desc) (s : State) (c : Nat) (k : Channel), noInjection s → takesHere r 0x06 d s.dev →
      let T := taken r 0x06 d s.dev
      onOpen d c k T → d.aux = 0 → d.zeroFrom 8 47 = true →
      exec (.query r d true) s = .next (ended s (complete s.dev.pci.nextId .ok (queryResult k)
        (if d.arg 0 8 = 0 then T else T.emit (.dma 9 (d.arg 0 8) (queryBlock k))))))

/-- CONNECT (R153, R154, R182): a line leg joins where its slots are free and the channel has no other, a packet leg where its session names the
channel, and a pair whose channels stand in one cluster is joined; the first leg makes a channel RUNNING, and the answer is the home tile. A session
that names another channel ends in LEG_CONFLICT. DISCONNECT (R153, R154): a leg that the channel has is taken off it; a pair leg, standing or to
come, leaves both channels at their common spawn tick. A leg that the channel has not is refused with BAD_PARAM. CLOSE of a channel with a leg or
without stops its spawning and closes it (R120); a channel that waits for its cluster goes at once, its OPEN CANCELLED (R156); and one that is
closing answers BUSY. -/
def Obligations.LegsJoinAndLeaveUntilClose : Prop :=
  (∀ (r : Fin 4) (d : Desc) (s : State) (c : Nat) (k : Channel), noInjection s → takesHere r 0x03 d s.dev →
      let T := taken r 0x03 d s.dev
      let l := d.arg 4 4
      onOpen d c k T → d.aux = 0 → oct d.params 0 = 0 → d.arg 0 4 = 0 → d.zeroFrom 8 47 = true → lineOk T l = true →
      k.legs.line = none → k.legs.partner = none → hasPair k = false →
      (∀ p ∈ T.chans, ∀ m ∈ p.2.legs.line, linesOverlap l m = false) →
      let u := T.setChan c { nowRunning k with legs := { k.legs with line := some l }, supplied := false
                                               rfeIn := { k.rfeIn with fresh := true }, rfeOut := { k.rfeOut with fresh := true } }
      exec (.connectLine r d) s = .next (ended s (catalogueNow c (complete s.dev.pci.nextId .ok (homeResult u c) u)))) ∧
  (∀ (r : Fin 4) (d : Desc) (s : State) (c : Nat) (k : Channel), noInjection s → takesHere r 0x03 d s.dev →
      let T := taken r 0x03 d s.dev
      onOpen d c k T → d.aux = 0 → oct d.params 0 = 1 → d.arg 0 4 = 1 → d.zeroFrom 8 47 = true → d.arg 4 4 < sessionCount →
      k.legs.session = none → (T.leads = true → sessionNames T (d.arg 4 4) (globalId k.owner c) = true) →
      let u := T.setChan c { nowRunning k with legs := { k.legs with session := some (d.arg 4 4) } }
      exec (.connectPacket r d) s = .next (ended s (catalogueNow c (complete s.dev.pci.nextId .ok (homeResult u c) u)))) ∧
  (∀ (r : Fin 4) (d : Desc) (s : State) (c : Nat) (k : Channel), noInjection s → takesHere r 0x03 d s.dev →
      let T := taken r 0x03 d s.dev
      onOpen d c k T → d.aux = 0 → oct d.params 0 = 1 → d.arg 0 4 = 1 → d.zeroFrom 8 47 = true → d.arg 4 4 < sessionCount →
      T.leads = true → sessionNames T (d.arg 4 4) (globalId k.owner c) = false →
      exec (.connectPacket r d) s = .next (ended s (completeWith s.dev.pci.nextId .legConflict T))) ∧
  (∀ (r : Fin 4) (d : Desc) (s : State) (c : Nat) (k q : Channel), noInjection s → takesHere r 0x03 d s.dev →
      let T := taken r 0x03 d s.dev
      let p := d.arg 4 4 % 0x10000
      onOpen d c k T → d.aux = 0 → oct d.params 0 = 2 → d.arg 0 4 = 2 → d.arg 4 4 < 2 ^ 20 → oct d.params 8 ≤ 1 → d.zeroFrom 9 47 = true →
      T.chan? p = some q → d.arg 4 4 / 0x10000 = q.owner → p ≠ c → (k.st = .opened ∨ k.st = .running) → (q.st = .opened ∨ q.st = .running) →
      q.migrate = none → k.legs.line = none →
      q.legs.line = none → hasPair k = false → hasPair q = false → pairRule k q = true → k.home / 16 = q.home / 16 →
      pairStands T c p = true →
      let u := catalogueNow p ((T.modChan c (fun k => nowRunning { k with pairNext := some (some p) })).modChan p
        (fun q => nowRunning { q with pairNext := some (some c) }))
      exec (.connectPair r d) s = .next (ended s (catalogueNow c (complete s.dev.pci.nextId .ok (homeResult u c) u)))) ∧
  (∀ (r : Fin 4) (d : Desc) (s : State) (c : Nat) (k : Channel), noInjection s → takesHere r 0x04 d s.dev →
      let T := taken r 0x04 d s.dev
      onOpen d c k T → d.aux = 0 → oct d.params 0 = 0 → d.zeroFrom 1 47 = true →
      exec (.disconnectLine r d) s = .next (ended s (if k.legs.line.isSome then catalogueNow c (completeWith s.dev.pci.nextId .ok
        (T.setChan c { k with legs := { k.legs with line := none } })) else completeWith s.dev.pci.nextId .badParam T))) ∧
  (∀ (r : Fin 4) (d : Desc) (s : State) (c : Nat) (k : Channel), noInjection s → takesHere r 0x04 d s.dev →
      let T := taken r 0x04 d s.dev
      onOpen d c k T → d.aux = 0 → oct d.params 0 = 1 → d.zeroFrom 1 47 = true →
      exec (.disconnectPacket r d) s = .next (ended s (if k.legs.session.isSome then catalogueNow c (completeWith s.dev.pci.nextId .ok
        (T.setChan c { k with legs := { k.legs with session := none } })) else completeWith s.dev.pci.nextId .badParam T))) ∧
  (∀ (r : Fin 4) (d : Desc) (s : State) (c p : Nat) (k : Channel), noInjection s → takesHere r 0x04 d s.dev →
      let T := taken r 0x04 d s.dev
      onOpen d c k T → d.aux = 0 → oct d.params 0 = 2 → d.zeroFrom 1 47 = true → p ≠ noPartner →
      ((k.legs.partner = some p ∧ k.pairNext = none) ∨ k.pairNext = some (some p)) →
      exec (.disconnectPair r d) s = .next (ended s (catalogueNow c (completeWith s.dev.pci.nextId .ok
        ((T.modChan c (fun k => { k with pairNext := some none })).modChan p (fun q => { q with pairNext := some none })))))) ∧
  (∀ (r : Fin 4) (d : Desc) (ok : Bool) (s : State) (c : Nat) (k : Channel), noInjection s → takesHere r 0x05 d s.dev → descClean d = true →
      d.aux = 0 → d.zeroFrom 8 47 = true → c = fld d.channel 0 16 → (taken r 0x05 d s.dev).chan? c = some k → k.owner = descHid d →
      (k.st = .opened ∨ k.st = .running) →
      exec (.close r d ok) s = .next (ended s (closeBegin c
        (modCmd s.dev.pci.nextId (fun m => { m with addr := d.arg 0 8, dmaOk := ok }) (taken r 0x05 d s.dev))))) ∧
  (∀ (r : Fin 4) (d : Desc) (ok : Bool) (s : State) (c : Nat) (k : Channel), noInjection s → takesHere r 0x05 d s.dev → descClean d = true →
      d.aux = 0 → d.zeroFrom 8 47 = true → c = fld d.channel 0 16 → (taken r 0x05 d s.dev).chan? c = some k → k.owner = descHid d →
      k.st = .opening →
      let u := (cmdsOn (taken r 0x05 d s.dev) 1 (globalId k.owner c)).foldl (fun s m => completeWith m.id .cancelled s) (taken r 0x05 d s.dev)
      exec (.close r d ok) s = .next (ended s (complete s.dev.pci.nextId .ok (zeros 16)
        (refreshLoads (k.home / 16) { u with chans := kvDel u.chans c })))) ∧
  (∀ (r : Fin 4) (d : Desc) (ok : Bool) (s : State) (k : Channel), noInjection s → takesHere r 0x05 d s.dev →
      (taken r 0x05 d s.dev).chan? (fld d.channel 0 16) = some k → k.owner = descHid d → k.st = .closing →
      exec (.close r d ok) s = .next (ended s (completeWith s.dev.pci.nextId .busy (taken r 0x05 d s.dev))))

/-- TONE_PLAY, TONE_STOP, RECORD_START and RECORD_STOP (R316, R342, R346): a tone that the profile defines is to play from the next spawn in the
directions asked for, or is to stop; recording streams start in the directions asked for where the sink, the rate and the pool allow them, and
are closed, the command on a channel that records nothing completing with no block. -/
def Obligations.TonesAndRecordingsAreCommanded : Prop :=
  (∀ (r : Fin 4) (d : Desc) (s : State) (c : Nat) (k : Channel) (rec : Octets), noInjection s → takesHere r 0x08 d s.dev →
      let T := taken r 0x08 d s.dev
      let lv := d.arg 4 2
      let dir := oct d.params 0
      onOpen d c k T → d.aux = 0 → dir < 3 → d.zeroFrom 6 47 = true → toneDef (toneSection T) (oct d.params 1) = some rec →
      (lv = 0x8000 ∨ toneLevel lv = true) → (defFreqs rec).any (fun f => decide (5 * rateHz (k.par 2 1) ≤ f)) = false →
      let g : ToneGen := { def_ := oct d.params 1, level := (playLevel rec lv % 65536).toNat, count := d.arg 2 2, played := 0, started := false }
      exec (.tonePlay r d) s = .next (ended s (completeWith s.dev.pci.nextId .ok (T.setChan c { k with
        lineNext := if dir = 1 then k.lineNext else .play g, netNext := if dir = 0 then k.netNext else .play g })))) ∧
  (∀ (r : Fin 4) (d : Desc) (s : State) (c : Nat) (k : Channel), noInjection s → takesHere r 0x09 d s.dev →
      let T := taken r 0x09 d s.dev
      let dir := oct d.params 0
      onOpen d c k T → d.aux = 0 → dir < 3 → d.zeroFrom 1 47 = true →
      exec (.toneStop r d) s = .next (ended s (completeWith s.dev.pci.nextId .ok (T.setChan c { k with
        lineNext := if dir = 1 then k.lineNext else .stop, netNext := if dir = 0 then k.netNext else .stop })))) ∧
  (∀ (r : Fin 4) (d : Desc) (s : State) (c : Nat) (k : Channel), noInjection s → takesHere r 0x0A d s.dev →
      let T := taken r 0x0A d s.dev
      let dirs := oct d.params 0
      let order := oct d.params 4
      let n := (dirs.testBit 0).toNat + (dirs.testBit 1).toNat
      onOpen d c k T → d.aux = 0 → dirs ≠ 0 → dirs < 4 → (order ≤ 2 ∨ order = 0xFF) → oct d.params 1 = 0 → d.zeroFrom 5 47 = true →
      k.recs = [] → k.template.holds 0x11 = true → (T.leads = true → recordStartPre T = none) →
      (recBits T + n * 16 * rateHz (k.par 2 1) + 999999) / 1000000 ≤ min 8000 (T.rfld Reg.arcRecLimit 0 16) →
      n * recCells T (k.par 2 1) ≤ T.rfld Reg.arcRecPoolFree 0 21 →
      let one (content : Nat) : RecStream := { content := content, sid := d.arg 2 2, order := order }
      exec (.recordStart r d) s = .next (ended s (catalogueNow c (completeWith s.dev.pci.nextId .ok (refreshRec (T.setChan c { k with
        recs := (if dirs.testBit 0 then [one 1] else []) ++ (if dirs.testBit 1 then [one 2] else []) })))))) ∧
  (∀ (r : Fin 4) (d : Desc) (s : State) (c : Nat) (k : Channel), noInjection s → takesHere r 0x0B d s.dev →
      let T := taken r 0x0B d s.dev
      onOpen d c k T → d.aux = 0 → d.zeroFrom 0 47 = true →
      exec (.recordStop r d) s = .next (ended s
        (if k.recs = [] then complete s.dev.pci.nextId .ok (zeros 4) T else recFinish c (recCloseAll c T))))

/-- KEY_SET, KEY_ROTATE and SESSION_SET (R178 to R180): a receive key that fits the session frees its rotation, restarts its index and clears
STARTED, and a transmit key is installed with its index in the answer, both mirrored; a receive rotation waits in a rotation cache entry; a
transmit rotation is a transmit KEY_SET; an entry is replaced with its addresses, its flags and its ports, its keys and counters standing; and
removing a session that no leg uses removes its port mappings with it, while one in use is refused. -/
def Obligations.SessionsTakeKeysAndGo : Prop :=
  (∀ (r : Fin 4) (d : Desc) (s : State) (i : Nat) (x : Session), noInjection s → takesHere r 0x0C d s.dev →
      let T := taken r 0x0C d s.dev
      let suite := fld d.aux 22 3
      onEntry d i T → descClean d = true → keyAuxOk d = true → session? T i = some x → fld d.aux 20 2 = 1 → suite ≠ 0 →
      suiteMismatch x 1 suite (bit d.aux 25) = false →
      exec (.keySet r d) s = .next (ended s (complete s.dev.pci.nextId .ok [] (mirrorSession i
        (modSession i (fun x => keyFound { x with suite := suite, srtcp := bit d.aux 25, rxSet := true, started := false, lostRx := false
                                                  ctx := { x.ctx with rxKey := keyOf d suite, rxSalt := saltOf d suite, sl := 0, roc := 0
                                                                      replay := 0, srtcpHi := 0, srtcpValid := false } }) (rotFree i T)))))) ∧
  (∀ (r : Fin 4) (d : Desc) (s : State) (i : Nat) (x : Session), noInjection s → takesHere r 0x0C d s.dev →
      let T := taken r 0x0C d s.dev
      let suite := fld d.aux 22 3
      onEntry d i T → descClean d = true → keyAuxOk d = true → session? T i = some x → fld d.aux 20 2 = 2 → suite ≠ 0 →
      suiteMismatch x 2 suite (bit d.aux 25) = false → x.lostTx = false →
      let u := mirrorSession i (setSession i (keyFound { x with suite := suite, srtcp := bit d.aux 25, txSet := true, lostTx := false
                                                                ctx := { x.ctx with txKey := keyOf d suite, txSalt := saltOf d suite } }) T)
      exec (.keySet r d) s = .next (ended s (complete s.dev.pci.nextId .ok (toLe 6 (x.ctx.txRoc * 65536 + x.ctx.seq)) u))) ∧
  (∀ (r : Fin 4) (d : Desc) (s : State) (i j : Nat) (x : Session), noInjection s → takesHere r 0x0D d s.dev →
      let T := taken r 0x0D d s.dev
      onEntry d i T → descClean d = true → keyAuxOk d = true → fld d.aux 20 2 = 1 → session? T i = some x →
      suiteMismatch x 1 (fld d.aux 22 3) (bit d.aux 25) = false → x.rot = false → freeKey T.mpe.rot rotSize = some j →
      let e : RotEntry := { session := i, retained := false, from_ := 0, key := keyOf d (fld d.aux 22 3)
                            salt := saltOf d (fld d.aux 22 3), promo := 0 }
      let u := { T with mpe := { T.mpe with rot := kvSet T.mpe.rot j e } }
      exec (.keyRotateReceive r d) s = .next (ended s (complete s.dev.pci.nextId .ok [] (mirrorSession i
        (setSession i { x with rot := true, rotIdx := j } (rotUsed u)))))) ∧
  (∀ (r : Fin 4) (d : Desc) (s : State) (i : Nat) (x : Session), noInjection s → takesHere r 0x0D d s.dev →
      let T := taken r 0x0D d s.dev
      let suite := fld d.aux 22 3
      onEntry d i T → descClean d = true → keyAuxOk d = true → session? T i = some x → fld d.aux 20 2 = 2 → suite ≠ 0 →
      suiteMismatch x 2 suite (bit d.aux 25) = false → x.lostTx = false →
      let u := mirrorSession i (setSession i (keyFound { x with suite := suite, srtcp := bit d.aux 25, txSet := true, lostTx := false
                                                                ctx := { x.ctx with txKey := keyOf d suite, txSalt := saltOf d suite } }) T)
      exec (.keyRotateTransmit r d) s = .next (ended s (complete s.dev.pci.nextId .ok (toLe 6 (x.ctx.txRoc * 65536 + x.ctx.seq)) u))) ∧
  (∀ (r : Fin 4) (d : Desc) (s : State) (i : Nat) (x : Session), noInjection s → takesHere r 0x0E d s.dev →
      let T := taken r 0x0E d s.dev
      onEntry d i T → descClean d = true → d.aux.toNat / 2 ^ 19 = 0 → d.zeroFrom 34 47 = true → d.arg 0 4 < 2 ^ 20 → oct d.params 6 < 16 →
      oct d.params 7 < 64 → (oct d.params 7).testBit 0 = false → session? T i = some x → inUse T i = false →
      let u := unmapPorts i (rotFree i T)
      exec (.sessionSet r d) s = .next (ended s (completeWith s.dev.pci.nextId .ok
        (mirrorSession i { u with mpe := { u.mpe with sessions := kvDel u.mpe.sessions i } })))) ∧
  (∀ (r : Fin 4) (d : Desc) (s : State) (i : Nat) (x : Session), noInjection s → takesHere r 0x0E d s.dev →
      let T := taken r 0x0E d s.dev
      onEntry d i T → descClean d = true → d.aux.toNat / 2 ^ 19 = 0 → d.zeroFrom 34 47 = true → d.arg 0 4 < 2 ^ 20 → oct d.params 6 < 16 →
      oct d.params 7 < 64 → (oct d.params 7).testBit 0 = false → session? T i = some x → inUse T i = true →
      exec (.sessionSet r d) s = .next (ended s (sessionRefuse s.dev.pci.nextId 1 T))) ∧
  (∀ (r : Fin 4) (d : Desc) (s : State) (i : Nat) (x : Session), noInjection s → takesHere r 0x0E d s.dev →
      let T := taken r 0x0E d s.dev
      let fl := oct d.params 7
      let a := oct d.params 6
      let g := d.arg 0 4
      let port := d.arg 4 2
      let ip := be d.params 8 16
      let mux := fl.testBit 3
      onEntry d i T → descClean d = true → d.aux.toNat / 2 ^ 19 = 0 → d.zeroFrom 34 47 = true → g < 2 ^ 20 → a < 16 → fl < 64 →
      fl.testBit 0 = true → session? T i = some x → (inUse T i = true → x.chan = g) → portTaken T i a port = false →
      (mux = true ∨ (port % 2 = 0 ∧ portTaken T i a (port + 1) = false)) → (∃ l ∈ localAddr T a, l.v6 = !isV4 ip) →
      let n := neighbourOf a ip T
      let y : Session := { x with
        chan := g, neigh := n.1, addr := a, latch := fl.testBit 1, checkSrc := fl.testBit 2, rtcpMux := mux, ssrcLock := fl.testBit 4
        latched := x.latched && !(x.remoteIp != ip || x.remotePort != d.arg 24 2), remoteIp := ip, remotePort := d.arg 24 2, localPort := port
        rxSsrc := if fl.testBit 4 then BitVec.ofNat 32 (d.arg 26 4) else x.rxSsrc }
      exec (.sessionSet r d) s = .next (ended s (completeWith s.dev.pci.nextId .ok
        (mirrorSession i (mapPorts i a port mux (unmapPorts i (setSession i y n.2)))))))

/-- IMAGE_WRITE, LEDGER_READ, TIME_STEP and LC_NONCE (R58, R148, R409, R60): flash data goes to a slot that nobody reads or owns, Ledger entries go
to host memory, one that fails parity as 0xFF octets with source 0x0B2, a correction is judged and its code answers, and a nonce is issued. NOP,
EVENT_TEST and a reserved opcode (R148): NOP completes and does nothing else, EVENT_TEST completes and then posts one event of source 0x0C6 with its
data, and a reserved opcode completes with BAD_OPCODE. -/
def Obligations.DeviceCommandsComplete : Prop :=
  (∀ (r : Fin 4) (d : Desc) (o : Octets) (s : State), noInjection s → takesHere r 0x14 d s.dev → descClean d = true → d.aux = 0 →
      d.arg 0 1 ≤ 1 → d.zeroFrom 1 3 = true → d.zeroFrom 20 47 = true → d.arg 16 4 ≠ 0 →
      let T := taken r 0x14 d s.dev
      d.arg 4 4 + d.arg 16 4 ≤ slotSize T (d.arg 0 1) → flashPresent T = true → slotRead T (d.arg 0 1) = false →
      slotOwned T (d.arg 0 1) false = false →
      exec (.imageWrite r d (some o) true) s = .next (ended s (complete s.dev.pci.nextId .ok (toLe 4 (d.arg 16 4))
        (slotProgram (d.arg 0 1) (d.arg 4 4) (padTo (d.arg 16 4) o) (slotOwn (d.arg 0 1) false T))))) ∧
  (∀ (r : Fin 4) (d : Desc) (bad : List Nat) (s : State), noInjection s → takesHere r 0x15 d s.dev → descClean d = true → d.aux = 0 →
      1 ≤ d.arg 12 4 → d.arg 12 4 ≤ 65536 → d.zeroFrom 16 47 = true →
      let T := taken r 0x15 d s.dev
      let i := d.arg 8 4
      let es := (ledgerRange T i (d.arg 12 4)).zipIdx.map (fun p => if bad.contains ((i + p.2) % 2 ^ 32) then List.replicate 32 0xFF else p.1)
      let u := if (upTo es.length).any (fun j => bad.contains ((i + j) % 2 ^ 32)) then occur 0x0B2 {} T else T
      let v := if es.isEmpty then u else u.emit (.dma 9 (d.arg 0 8) es.flatten)
      exec (.ledgerRead r d true bad) s = .next (ended s (complete s.dev.pci.nextId .ok
        (toLe 4 es.length ++ toLe 4 (v.reg Reg.ldgWrCount).toNat) v))) ∧
  (∀ (r : Fin 4) (d : Desc) (s : State), noInjection s → takesHere r 0x16 d s.dev → descClean d = true → d.aux = 0 →
      d.arg 8 1 ≤ 1 → d.zeroFrom 9 47 = true →
      let x := correct (signed 64 (d.arg 0 8)) ((d.arg 8 1).testBit 0) 1 (taken r 0x16 d s.dev)
      exec (.timeStep r d) s =
        .next (ended s (complete s.dev.pci.nextId (if x.1 ≤ 1 then .ok else .refused) [BitVec.ofNat 8 x.1] x.2))) ∧
  (∀ (r : Fin 4) (d : Desc) (s : State), noInjection s → takesHere r 0x17 d s.dev → descClean d = true → d.aux = 0 →
      d.zeroFrom 0 47 = true →
      let x := newNonce (taken r 0x17 d s.dev)
      exec (.lcNonce r d) s = .next (ended s (complete s.dev.pci.nextId .ok x.1 x.2))) ∧
  (∀ (r : Fin 4) (d : Desc) (s : State), noInjection s → takesHere r 0x19 d s.dev → descClean d = true → d.aux = 0 →
      d.zeroFrom 0 47 = true →
      exec (.nop r d) s = .next (ended s (complete s.dev.pci.nextId .ok [] (taken r 0x19 d s.dev)))) ∧
  (∀ (r : Fin 4) (d : Desc) (s : State), noInjection s → takesHere r 0x1A d s.dev → descClean d = true → d.aux = 0 →
      d.zeroFrom 12 47 = true →
      let u := complete s.dev.pci.nextId .ok [] (taken r 0x1A d s.dev)
      exec (.eventTest r d) s = .next (ended s (occur 0x0C6 { data := octs d.params 0 8 }
        (postEvent (d.evr.toNat % 4) (eventOf u 0x0C6 1 none (octs d.params 0 12)) u)))) ∧
  (∀ (r : Fin 4) (op : Byte) (d : Desc) (s : State), noInjection s → takes r d s.dev → (op.toNat = 0 ∨ 0x1C ≤ op.toNat) →
      s.dev.phase = 8 → (taken r op.toNat d s.dev).phase = 8 →
      exec (.badOpcode r op d) s = .next (ended s (complete s.dev.pci.nextId .badOpcode [] (taken r op.toNat d s.dev))))

/-- A descriptor whose PARAMS are not 48 octets is no descriptor of R141, and stops the machine. The model's choice: log entry 3. -/
def Obligations.MalformedDescriptorsFault : Prop :=
  ∀ (i : Instr) (d : Desc) (s : State), i.desc? = some d → d.params.length ≠ 48 → exec i s = .fault .malformedDescriptor

/-- The ring registers (R465, R467, R468, R469): the doorbells set the TAIL of an enabled command ring and the HEAD of an enabled event ring
within its size, enabling a ring clears HEAD and TAIL and sets its PHASE, and the coalescing timer signals the ring's vector. -/
def Obligations.RingRegistersAct : Prop :=
  (∀ (r : Fin 4) (v : Word) (s : State), noInjection s → s.dev.domainOn 24 = true → s.dev.rbit (Reg.pciCrCtrl r) 0 = true →
      exec (.commandRingTailDoorbell r v) s =
        .next (ended s (s.dev.setNat (Reg.pciCrTail r) (fld v 0 16 % ringSize (s.dev.reg (Reg.pciCrCtrl r)))))) ∧
  (∀ (r : Fin 4) (v : Word) (s : State), noInjection s → s.dev.domainOn 24 = true → s.dev.rbit (Reg.pciErCtrl r) 0 = true →
      exec (.eventRingHeadDoorbell r v) s =
        .next (ended s (s.dev.setNat (Reg.pciErHead r) (fld v 0 16 % ringSize (s.dev.reg (Reg.pciErCtrl r)))))) ∧
  (∀ (r : Fin 4) (v : Word) (s : State), noInjection s → accepts .host (Reg.pciCrCtrl r) s → s.dev.rbit (Reg.pciCrCtrl r) 0 = false →
      bit v 0 = true → v.toNat < 32 →
      exec (.ringCtrlWrite false r v) s = .next (ended s ((((s.dev.setReg (Reg.pciCrCtrl r) v).setNat (Reg.pciCrHead r) 0).setNat
        (Reg.pciCrTail r) 0).setNat (Reg.pciCrStatus r) 2))) ∧
  (∀ (r : Fin 4) (v : Word) (s : State), noInjection s → accepts .host (Reg.pciErCtrl r) s → s.dev.rbit (Reg.pciErCtrl r) 0 = false →
      bit v 0 = true → v.toNat &&& 0xFFFFFF1F = v.toNat →
      exec (.ringCtrlWrite true r v) s = .next (ended s ((((erDrop r (s.dev.setReg (Reg.pciErCtrl r) v)).setNat (Reg.pciErHead r) 0).setNat
        (Reg.pciErTail r) 0).setNat (Reg.pciErStatus r) 2))) ∧
  (∀ (r : Fin 4) (s : State) (t : Nat), noInjection s → (s.dev.er r).firstAt = some t →
      exec (.eventRingCoalesceTimer r) s = .next (ended s (msix r ((s.dev.elapseTo t).setEr r
        { s.dev.er r with unsignalled := 0, firstAt := none }))))

/-- Tests (R532 to R538, R230): MIRROR_TEST of a kind that can run starts the test, a tile in its return-to-service test is tested, and a test's
result ends it. -/
def Obligations.TestsStartAndEnd : Prop :=
  (∀ (r : Fin 4) (d : Desc) (m : TestMeasure) (s : State), noInjection s → takesHere r 0x11 d s.dev → descClean d = true → d.aux = 0 →
      oct d.params 0 = 1 → testAsk d.params (taken r 0x11 d s.dev) = .ok →
      let T := taken r 0x11 d s.dev
      let u := oct d.params 1
      let x : Test := { key := ⟨1, u⟩, m := m, params := d.params, start := T.now, abandon := 0, cmd := some s.dev.pci.nextId, night := false }
      exec (.laneTest (.ring r d) m) s =
        .next (ended s (({ T with tests := T.tests ++ [x] }.setFld (Reg.sdsCfg u) 10 2 1).setBit (Reg.sdsCfg u) 0 true))) ∧
  (∀ (r : Fin 4) (d : Desc) (m : TestMeasure) (s : State) (k : Nat), noInjection s → takesHere r 0x11 d s.dev → descClean d = true →
      d.aux = 0 → oct d.params 0 = 2 → testAsk d.params (taken r 0x11 d s.dev) = .ok →
      let T := taken r 0x11 d s.dev
      let u := oct d.params 1
      let x : Test := { key := ⟨2, u⟩, m := m, params := d.params, start := T.now, abandon := 0, cmd := some s.dev.pci.nextId, night := false }
      testSet T u d.params = some k → T.clState (u / 16) ≠ 0 → tileSet T u = some k →
      exec (.tileTest (.ring r d) m) s = .next (ended s { T with tests := T.tests ++ [x], loads := kvDel T.loads u })) ∧
  (∀ (r : Fin 4) (d : Desc) (m : TestMeasure) (s : State), noInjection s → takesHere r 0x11 d s.dev → descClean d = true → d.aux = 0 →
      oct d.params 0 = 3 → testAsk d.params (taken r 0x11 d s.dev) = .ok →
      let T := taken r 0x11 d s.dev
      let u := oct d.params 1
      let x : Test := { key := ⟨3, u⟩, m := m, params := d.params, start := T.now, abandon := 0, cmd := some s.dev.pci.nextId, night := false }
      tileWillServe T u (oct d.params 5) = true → kvGet T.loads u = none → T.clState (u / 16) ≠ 0 →
      exec (.mirrorPairTest (.ring r d) m) s = .next (ended s (refreshLoads (u / 16) { T with tests := T.tests ++ [x] }))) ∧
  (∀ (t : Fin 256) (m : TestMeasure) (s : State), noInjection s → tileState s.dev t = 2 → s.dev.tests = [] →
      ∃ x : Test, x.key = ⟨2, t⟩ ∧ x.m = m ∧ x.cmd = none ∧
        exec (.tileTest (.service t) m) s = .next (ended s { s.dev with tests := [x] })) ∧
  (∀ (k : TestKey) (x : Test) (s : State), noInjection s → s.dev.tests = [x] → x.key = k →
      (k.kind = 1 ∨ s.dev.clState (k.unit / 16) ≠ 0) →
      let fail := testFail s.dev x
      let u := if k.kind = 3 then (s.dev.bump64 Reg.gduSpawn x.m.frames).bump64 Reg.gduRetire x.m.frames else s.dev
      let d := testFinish x (if fail = 0 then 0 else 1) fail 0 (laneRead x u)
      exec (.testResult k) s = .next (ended s
        (if k.kind = 1 ∧ fail = 0 then { d with boot := { d.boot with badLanes := d.boot.badLanes.filter (· != k.unit) } }
         else if k.kind = 2 ∧ tileState d k.unit = 2 then (if fail = 0 then tileServe k.unit d else tileOut k.unit d) else d)))

/-- LC_TRANSITION (R60, R61, R62), from a ring and from the Night Desk: a move that the life cycle allows, by a token that verifies over the nonce
where the state asks for one, uses the nonce up, blows both fuses of its step and ends in a life-cycle reset; any other is refused with reason 1
and 0x019, and one whose fuses do not read back records 0x01A and resets nothing. -/
def Obligations.LifeCycleMovesForward : Prop :=
  (∀ (r : Fin 4) (d : Desc) (token : Option Octets) (s : State) (m : PendingCmd), noInjection s → takesHere r 0x18 d s.dev →
      let T := taken r 0x18 d s.dev
      let target := fld d.aux 0 2
      descClean d = true → d.aux.toNat / 4 = 0 → (target = 1 ∨ d.zeroFrom 8 47 = true) → findCmd T s.dev.pci.nextId = some m →
      lcMove s.fuses target = true → (s.fuses.state = 0 ∨ token.isSome = true) → lcAuthorised s.fuses target (token.getD []) T = true →
      let D := if s.fuses.state = 0 then T else { T with boot := { T.boot with nonce := none } }
      let z := if target = 1 then D.drawOctets 48 else ([], D)
      let f := lcBlow target (d.octs 0 48) z.1 true true s.fuses
      exec (.lcTransition r d token true) s = .next (settle { s with
        dev := lifeCycleReset f (complete s.dev.pci.nextId .ok [0] z.2), fuses := f })) ∧
  (∀ (r : Fin 4) (d : Desc) (token : Option Octets) (ok : Bool) (s : State) (m : PendingCmd), noInjection s → takesHere r 0x18 d s.dev →
      let T := taken r 0x18 d s.dev
      let target := fld d.aux 0 2
      descClean d = true → d.aux.toNat / 4 = 0 → (target = 1 ∨ d.zeroFrom 8 47 = true) → findCmd T s.dev.pci.nextId = some m →
      (lcMove s.fuses target = true → token.isSome = true ∧ lcAuthorised s.fuses target (token.getD []) T = false) →
      let D := if s.fuses.state = 0 then T else { T with boot := { T.boot with nonce := none } }
      exec (.lcTransition r d token ok) s = .next (ended s (complete s.dev.pci.nextId .refused [1] (occur 0x019 {} D)))) ∧
  (∀ (q : NdReq) (s : State), noInjection s → nightHead s.dev (· == 14) = some q → s.dev.pwr.shutdown = false →
      let target := oct q.body 0
      target ≤ 3 → q.body.length = (if target = 1 then 49 else 97) →
      lcMove s.fuses target = true → lcAuthorised s.fuses target (octs q.body 1 96) s.dev = true →
      let D := if s.fuses.state = 0 then s.dev else { s.dev with boot := { s.dev.boot with nonce := none } }
      let z := if target = 1 then D.drawOctets 48 else ([], D)
      let f := lcBlow target (octs q.body 1 48) z.1 true true s.fuses
      exec (.ndLcTransition true) s = .next (settle { s with dev := lifeCycleReset f (nightEnd q 0 [0] z.2), fuses := f })) ∧
  (∀ (q : NdReq) (ok : Bool) (s : State), noInjection s → nightHead s.dev (· == 14) = some q → s.dev.pwr.shutdown = false →
      let target := oct q.body 0
      target ≤ 3 → q.body.length = (if target = 1 then 49 else 97) →
      (lcMove s.fuses target && lcAuthorised s.fuses target (octs q.body 1 96) s.dev) = false →
      let D := if s.fuses.state = 0 then s.dev else { s.dev with boot := { s.dev.boot with nonce := none } }
      exec (.ndLcTransition ok) s = .next (ended s (nightEnd q 7 [1] (fastOscRun (occur 0x019 {} D))))) ∧
  (∀ f : Fuses, ({ f with deplA := true } : Fuses).state ≥ 2 ∧ ({ f with deplB := true } : Fuses).state ≥ 2 ∧
      ({ f with retdA := true } : Fuses).state = 3 ∧ ({ f with retdB := true } : Fuses).state = 3)

/-- A tile whose instruction memory fails (R228 to R230): it is reloaded from the reserve, counted and recorded, its tests and work fail, the end
of the reload leads to its return-to-service test, and a set that firmware loads lets waiting opens complete. -/
def Obligations.TilesReloadTheirKernels : Prop :=
  (∀ (n t : Fin 16) (a : Word) (ok : Bool) (s : State) (k : Nat), noInjection s → s.dev.clState n = 3 →
      tileState s.dev (16 * n.val + t.val) ≠ 3 → tileSet s.dev (16 * n.val + t.val) = some k →
      let u := 16 * n.val + t.val
      let d := occurCode (0x100 + u) 0x0304 none ([0, 0, 0, 0] ++ toLe 4 a.toNat)
        ((s.dev.bump (Reg.tileImemPar u)).setFld (Reg.tileState u) 0 2 1)
      let e := failResource n (.tile t) (testAbandon (tileKey u) 1 { d with reloads := kvSet d.reloads u d.cycles })
      let z := if e.lostSets.contains k then (false, e) else if ok then (true, e) else reserveRepair u k e
      exec (.kernelReload n t a ok) s = .next (ended s (if z.1 then z.2 else tileOut u z.2))) ∧
  (∀ (n t : Fin 16) (s : State), noInjection s → tileState s.dev (16 * n.val + t.val) = 1 →
      exec (.reloadDone n t) s = .next (ended s ((s.dev.bump (Reg.tileReload (16 * n.val + t.val))).setFld
        (Reg.tileState (16 * n.val + t.val)) 0 2 2))) ∧
  (∀ (n t : Fin 16) (s : State), noInjection s → s.dev.clState n ≠ 0 →
      exec (.ksetLoad n t) s = .next (ended s (finishOpens n (loadDue (16 * n.val + t.val) s.dev))))

/-- The MPE's enables (R187): MPE.CFG.EN and SEC.CFG.EN are written, and SEC shows its idleness. Packets (R165, R166, R171, R174, R176, R180, R183):
the oldest received frame is taken: what a test of R166 drops is counted, PTP goes to firmware, ARP is answered, ICMP and UDP go on while the MPE is
enabled. The oldest packet handed over leaves in its session with the next sequence number, protected under the session's suite. A session with a
running leg sends its RTCP, protected where it is SRTCP. A retained key is released 64 packets or a second after its promotion, and contexts fetched
from the standby replace the lost ones. The jitter buffer's own times (R200, R204, R210): each count of the histogram decays by one part in its
window, a channel whose template has no pull keeps no drift, and an ALIGNED channel 30 s without a report records that its mapping is stale. -/
def Obligations.PacketsFlowThroughTheMpe : Prop :=
  (∀ (by_ : Requester) (en : Bool) (s : State), noInjection s → accepts by_ Reg.mpeCfg s →
      exec (.mpeCfgEnWrite by_ en) s = .next (ended s (mpeIdle (s.dev.setBit Reg.mpeCfg 0 en)))) ∧
  (∀ (by_ : Requester) (en : Bool) (s : State), noInjection s → accepts by_ Reg.secCfg s →
      exec (.secCfgEnWrite by_ en) s = .next (ended s ((s.dev.setBit Reg.secCfg 0 en).setBit Reg.secStatus 0 (!en)))) ∧
  (∀ (e : Fin 8) (x : EntryCheck) (s : State) (f : RxHeld) (d : Dev), noInjection s → s.dev.leads = true → s.dev.domainOn 18 = true →
      macTake e s.dev = some (f, d) →
      (∀ c : Nat, parseFrame d e f.octets = .drop c →
        exec (.ingressFrame e x) s = .next (ended s (d.bump64 (if d.rbit Reg.mpeCfg 0 then c else Reg.mpeDropDisabled)))) ∧
      (∀ o : Octets, parseFrame d e f.octets = .ptp o → exec (.ingressFrame e x) s = .next (ended s (d.emit (.punt true none o)))) ∧
      (∀ (vid : Nat) (o : Octets), parseFrame d e f.octets = .arp vid o →
        exec (.ingressFrame e x) s = .next (ended s (punt none f.octets (arpTake e vid o) d))) ∧
      (∀ (v6 : Bool) (vid src : Nat) (o : Octets), parseFrame d e f.octets = .icmp v6 vid src o → d.rbit Reg.mpeCfg 0 = true →
        exec (.ingressFrame e x) s = .next (ended s (punt none f.octets
          (fun u => if v6 then icmpTake e vid src (octs f.octets 6 6) o u else u) d))) ∧
      (∀ (a src sport dport : Nat) (u : Octets), parseFrame d e f.octets = .udp a src sport dport u →
        exec (.ingressFrame e x) s = .next (ended s
          (if d.rbit Reg.mpeCfg 0 then udpTake a src sport dport u x f.stampNs d else d.bump64 Reg.mpeDropDisabled)))) ∧
  (∀ (s : State) (k : EntryCheck) (p : EgPkt) (rest : List EgPkt) (i : Nat) (x : Session), noInjection s → s.dev.leads = true →
      s.dev.domainOn 18 = true → s.dev.mpe.egress = p :: rest → p.session = some i →
      let d : Dev := { s.dev with mpe := { s.dev.mpe with egress := rest } }
      session? d i = some x → k.route ≠ .lost → keyLostNow d x = false → x.fetching = false → (k.ctxBad = true → x.suite = 0) →
      let h := [0x80, BitVec.ofNat 8 (p.pt % 128 + 128 * p.marker.toNat)] ++ toBe 2 x.ctx.seq ++ toBe 4 (p.ts % 2 ^ 32) ++
        toBe 4 x.ctx.txSsrc.toNat
      let o := if x.suite = 0 then p.payload
        else srtpProtect x.suite x.ctx.txKey x.ctx.txSalt (x.ctx.txRoc * 65536 + x.ctx.seq) h p.payload
      let y := { x with ctx := seqNext x.ctx, lastTs := some (p.ts % 2 ^ 32), lastStamp := p.stampNs,
                        sentPkts := (x.sentPkts + 1) % 2 ^ 32, sentOcts := (x.sentOcts + p.payload.length) % 2 ^ 32 }
      let z := sendUdp x x.remotePort x.localPort p.dscp p.txq (h ++ o)
        (setSession i y (if x.suite = 0 then d else d.bump64 Reg.secProtect))
      exec (.egressPacket k) s =
        .next (ended s (mirrorDue i (if z.1 then z.2.bump64 Reg.mpeTxPackets else z.2)))) ∧
  (∀ (i : Nat) (k : EntryCheck) (x : Session) (s : State), noInjection s → s.dev.leads = true → s.dev.domainOn 18 = true →
      session? s.dev i = some x → runningLeg s.dev i x = true → k.route ≠ .lost →
      let secured := x.srtcp && x.suite != 0
      (secured = true → keyLostNow s.dev x = false ∧ x.fetching = false ∧ k.ctxBad = false) →
      let z := rtcpPacket x (s.dev.rbit Reg.mpeCfg 1) false s.dev
      let y := { x with expPrior := z.2.1.expected, recvPrior := z.2.1.received }
      let o := if secured then srtcpProtect x.suite x.ctx.txKey x.ctx.txSalt x.ctx.srtcpIdx z.1 else z.1
      let w := if secured then { y with ctx := { y.ctx with srtcpIdx := (y.ctx.srtcpIdx + 1) % 2 ^ 31 } } else y
      let u := setSession i w (if secured then z.2.2.bump64 Reg.secProtect else z.2.2)
      let up := (!x.rtcpMux).toNat
      let v := (sendUdp w ((x.remotePort + up) % 65536) ((x.localPort + up) % 65536) (u.rfld Reg.mpeRtcpCfg 0 6) (rtcpTxq u) o u).2
      x.remotePort < 65536 → x.localPort < 65536 →
      exec (.rtcpSendTimer i k) s = .next (ended s (if secured then mirrorSession i v else v))) ∧
  (∀ (j : Nat) (e : RotEntry) (x : Session) (s : State), noInjection s → kvGet s.dev.mpe.rot j = some e → e.retained = true →
      session? s.dev e.session = some x →
      ((x.rot = true ∧ x.rotIdx = j ∧ e.from_ + 64 < x.ctx.roc * 65536 + x.ctx.sl) ∨
        400 ≤ (s.dev.time.lastTick.getD 0 % 2 ^ 32 + 2 ^ 32 - e.promo) % 2 ^ 32) →
      exec (.rotationRelease j) s = .next (ended s (mirrorSession e.session (rotFree e.session s.dev)))) ∧
  (∀ (i : Nat) (x : Session) (c : CryptoCtx) (s : State), noInjection s → session? s.dev i = some x → x.fetching = true →
      exec (.cryptoFetchDone i c) s = .next (ended s (occur 0x302 {} (setSession i { x with fetching := false, ctx := c }
        (s.dev.bump Reg.secKeyRepair))))) ∧
  (∀ (c : Nat) (k : Channel) (s : State), noInjection s → s.dev.chan? c = some k →
      exec (.histogramDecay c) s = .next (ended s (s.dev.setChan c { k with jb := { k.jb with
        hist := (k.jb.hist.map (fun p => (p.1, p.2 * (playWindow s.dev - 1) / playWindow s.dev))).filter (fun p => p.2 != 0) } }))) ∧
  (∀ (c : Nat) (k : Channel) (s : State), noInjection s → s.dev.chan? c = some k → k.template.holds 7 = false →
      exec (.driftFit c) s = .next (ended s (s.dev.setChan c { k with jb := { k.jb with drift := 0 } }))) ∧
  (∀ (c t : Nat) (k : Channel) (s : State), noInjection s → s.dev.chan? c = some k → k.jb.srAt = some t → k.now 12 1 = 2 →
      k.jb.stale = false →
      exec (.alignStale c) s = .next (ended s (tileEvent c 0x0206 []
        ((s.dev.elapseTo (t + usCycles 30000000)).setChan c { k with jb := { k.jb with stale := true } }))))

/-- The canceller's filters (R243, R246, R248, R249): a copy gives the foreground the background, or starts the fade of a shadow's window; a
divergence gives the background the foreground and records it; a placement held long enough starts a shadow; the end of a fade moves the window; and
a shadow abandoned gives its window back. The canceller's states (R244, R254, R257): double-talk ends DT_HOLD after its tests, the canceller returns
to ENABLED after a tone (0x0404, with 2 where the whole canceller was off and 1 where it only held), and EE.CFG.EN is written with the engine's
status. -/
def Obligations.EchoFiltersCopyMoveAndClear : Prop :=
  (∀ (c : Nat) (k : Channel) (s : State), noInjection s → s.dev.chan? c = some k → echoFree s.dev k = true → k.echo.shadow = none →
      exec (.echoCopy c) s = .next (ended s (s.dev.setChan c { k with echo := { k.echo with fg := k.echo.bg, copies := 0 } }))) ∧
  (∀ (c : Nat) (k : Channel) (x : Shadow) (s : State), noInjection s → s.dev.chan? c = some k → echoFree s.dev k = true →
      k.echo.shadow = some x →
      exec (.echoCopy c) s = .next (ended s (s.dev.setChan c { k with echo := { k.echo with
        fg := k.echo.bg.set x.window (k.echo.fg.getD x.window []), shadow := none, fade := some x, copies := 0, faded := 0 } }))) ∧
  (∀ (c n : Nat) (k : Channel) (s : State), noInjection s → s.dev.chan? c = some k → echoFree s.dev k = true → k.echo.shadow = none →
      exec (.diverge c n) s = .next (ended s (echoEvent c 0x0402 (toLe 2 (sat 16 n)) ((s.dev.setChan c { k with echo := { k.echo with
        bg := k.echo.fg, bgStarts := k.echo.starts, resets := 0 } }).bump (Reg.eeDiverge (k.home / 16)))))) ∧
  (∀ (c n : Nat) (k q : Channel) (x : Shadow) (s : State), noInjection s → s.dev.chan? c = some k → echoFree s.dev k = true →
      k.echo.shadow = some x →
      let u := (echoEvent c 0x0401 ([BitVec.ofNat 8 x.window] ++ toLe 2 x.start ++ [1]) ((s.dev.setChan c { k with echo := { k.echo with
        bg := k.echo.bg.set x.window (k.echo.fg.getD x.window []), bgStarts := k.echo.bgStarts.set x.window x.oldStart
        shadow := none, held := 0 } }).bump (Reg.eeAbandons (k.home / 16))))
      u.chan? c = some q →
      exec (.diverge c n) s = .next (ended s (echoEventAt s.dev.now c 0x0402 (toLe 2 (sat 16 n)) ((u.setChan c { q with echo := { q.echo with
        bg := q.echo.fg, bgStarts := q.echo.starts, resets := 0 } }).bump (Reg.eeDiverge (k.home / 16)))))) ∧
  (∀ (c p : Nat) (k : Channel) (s : State), noInjection s → s.dev.chan? c = some k → echoFree s.dev k = true →
      48 < ecTailMs k.params → k.echo.shadow = none → proposal k.echo (ecTailMs k.params) (leastWindow k.echo) = some p →
      let near := decide ((p : Int) - k.echo.lastProp ≤ 2) && decide ((k.echo.lastProp : Int) - p ≤ 2)
      let held := if 0 < k.echo.held ∧ near = true then k.echo.held + 1 else 1
      held < echoField s.dev k 7 2 10 3 →
      exec (.placementRun c) s = .next (ended s (s.dev.setChan c { k with echo := { k.echo with held := held, lastProp := p } }))) ∧
  (∀ (c p : Nat) (k : Channel) (s : State), noInjection s → s.dev.chan? c = some k → echoFree s.dev k = true →
      48 < ecTailMs k.params → k.echo.shadow = none →
      let least := leastWindow k.echo
      let old := k.echo.starts.getD least 0
      proposal k.echo (ecTailMs k.params) least = some p → 0 < k.echo.held → (p : Int) - k.echo.lastProp ≤ 2 →
      (k.echo.lastProp : Int) - p ≤ 2 → echoField s.dev k 7 2 10 3 ≤ k.echo.held + 1 →
      regionEnergy k.echo.loc old ^ 20 * 10 ^ echoField s.dev k 8 2 40 6 ≤ regionEnergy k.echo.loc p ^ 20 →
      exec (.placementRun c) s = .next (ended s (s.dev.setChan c { k with echo := { k.echo with
        held := 0, lastProp := p, bg := k.echo.bg.set least [], bgStarts := k.echo.bgStarts.set least p
        shadow := some ⟨least, p, old⟩, copies := 0, resets := 0, age := 0, idle := 0 } }))) ∧
  (∀ (c : Nat) (k : Channel) (x : Shadow) (s : State), noInjection s → s.dev.chan? c = some k → k.echo.fade = some x →
      exec (.windowMove c) s = .next (ended s (echoEvent c 0x0400
        ([BitVec.ofNat 8 x.window] ++ toLe 2 x.oldStart ++ toLe 2 x.start ++ toLe 2 (sat 16 (1000 * k.echo.age / bandHz k.params)))
        ((s.dev.setChan c { k with echo := { k.echo with fg := k.echo.fg.set x.window (k.echo.bg.getD x.window [])
                                                         starts := k.echo.starts.set x.window x.start, fade := none } }).bump
          (Reg.eeMoves (k.home / 16)))))) ∧
  (∀ (c : Nat) (k : Channel) (x : Shadow) (why : AbandonCause) (s : State), noInjection s → s.dev.chan? c = some k →
      k.echo.shadow = some x →
      exec (.moveAbandon c why) s = .next (ended s (echoEvent c 0x0401
        ([BitVec.ofNat 8 x.window] ++ toLe 2 x.start ++ [BitVec.ofNat 8 (abandonNum why)])
        ((s.dev.setChan c { k with echo := { k.echo with
          bg := k.echo.bg.set x.window (k.echo.fg.getD x.window []), bgStarts := k.echo.bgStarts.set x.window x.oldStart
          shadow := none, held := 0 } }).bump (Reg.eeAbandons (k.home / 16)))))) ∧
  (∀ (c : Nat) (k : Channel) (s : State), noInjection s → s.dev.chan? c = some k →
      exec (.doubleTalkClear c) s = .next (ended s (s.dev.setChan c { k with echo := { k.echo with dt := false, dtLeft := 0 } }))) ∧
  (∀ (c : Nat) (k : Channel) (s : State), noInjection s → s.dev.chan? c = some k → k.echo.tone ≠ .enabled → echoRuns s.dev k = true →
      exec (.toneRelease c) s =
        .next (ended s (echoEvent c 0x0404 [if k.echo.tone = .disabled then 2 else 1]
          (s.dev.setChan c { k with echo := { k.echo with tone := .enabled, quiet := 0 } })))) ∧
  (∀ (by_ : Requester) (n : Fin 16) (en : Bool) (s : State), noInjection s → accepts by_ (Reg.eeCfg n) s →
      let d := s.dev.setBit (Reg.eeCfg n) 0 en
      let pass := !d.rbit (Reg.eeCfg n) 0 && (d.cg n).service.all (fun v => v.res != .ee || !v.on)
      let u := (d.setBit (Reg.eeStatus n) 0 pass).setBit (Reg.eeStatus n) 1 (engineBusy d n .ee)
      exec (.eeCfgEnWrite by_ n en) s = .next (ended s (if en = true ∧ s.dev.rbit (Reg.eeCfg n) 0 = false
        then (homedIn u n).foldl (fun v q => modEcho q.1 (fun e => { e with ref := [], refBad := 0 }) v) u else u)))

/-- BANK_CMD (R283, R284): COMMIT takes the window into the inactive bank of a profile that is not swapping and answers BUSY, ACTIVE, RANGE or
UNSTABLE where it cannot, READ shows a bank, SETTLE sets a bank's settle count, SWAP of an idle profile is asked for, one during a swap is latched
and a third is refused, a profile that is not loaded answers 4, and a reserved operation answers RANGE. The filter chain (R285, R287, R290, R293): a
swap ends at H, a synchronising reset is scheduled two ticks ahead or more, LVL_SEL shows one channel's detector values, and RFE.CFG.EN is written
with the engine's status. Tones (R310, R314, R321): quiet on both sides ends a data call, a received event that is not renewed ends, and TD.CFG.EN
is written with the engine's status. -/
def Obligations.FilterChainsAndTonesAreControlled : Prop :=
  (∀ (by_ : Requester) (n : Fin 16) (p : Fin 64) (b : Bool) (x : Profile) (s : State), noInjection s → accepts by_ (Reg.rfeBankCmd n) s →
      rfeProfile s.dev n p = some x →
      exec (.commit by_ n p b) s = .next (ended s
        (if b = x.active then s.dev.setNat (Reg.rfeBankCmd n) 3
         else if x.swap.isSome then s.dev.setNat (Reg.rfeBankCmd n) 2
         else if 8 < oct (bankWin s.dev n) 0 then s.dev.setNat (Reg.rfeBankCmd n) 5
         else if unstable (bankWin s.dev n) then s.dev.setNat (Reg.rfeBankCmd n) 6
         else (bankLive n (setRfeProfile n p (x.setBank b (bankWin s.dev n)) s.dev)).setNat (Reg.rfeBankCmd n) 0))) ∧
  (∀ (by_ : Requester) (n : Fin 16) (p : Fin 64) (b : Bool) (x : Profile) (s : State), noInjection s → accepts by_ (Reg.rfeBankCmd n) s →
      rfeProfile s.dev n p = some x →
      exec (.read by_ n p b) s = .next (ended s (((upTo 46).foldl
        (fun d i => d.setNat (Reg.rfeBankWin n i) (le (x.bank b) (4 * i) 4)) s.dev).setNat (Reg.rfeBankCmd n) 0))) ∧
  (∀ (by_ : Requester) (n : Fin 16) (p : Fin 64) (b : Bool) (x : Profile) (s : State), noInjection s → accepts by_ (Reg.rfeBankCmd n) s →
      rfeProfile s.dev n p = some x →
      let o := putOcts (x.bank b) 2 (toLe 2 (s.dev.rfld (Reg.rfeBankWin n 0) 0 16))
      exec (.settle by_ n p b) s = .next (ended s
        ((setRfeProfile n p (if b then { x with bankB := o } else { x with bankA := o }) s.dev).setNat (Reg.rfeBankCmd n) 0))) ∧
  (∀ (by_ : Requester) (n : Fin 16) (p : Fin 64) (f : Fin 128) (x : Profile) (s : State), noInjection s → accepts by_ (Reg.rfeBankCmd n) s →
      f.val ≤ 64 → rfeProfile s.dev n p = some x →
      (x.swap = none → exec (.swap by_ n p f) s = .next (ended s ((setRfeProfile n p { x with
        active := !x.active, fade := f, swap := some { t0 := s.dev.time.ticks + 1, fade := f, begun := false, since := 0 } } s.dev).setNat
          (Reg.rfeBankCmd n) 0))) ∧
      (x.swap.isSome = true → x.latched = none → exec (.swap by_ n p f) s =
        .next (ended s ((setRfeProfile n p { x with latched := some f.val } s.dev).setNat (Reg.rfeBankCmd n) 1))) ∧
      (x.swap.isSome = true → x.latched.isSome = true → exec (.swap by_ n p f) s = .next (ended s (s.dev.setNat (Reg.rfeBankCmd n) 7)))) ∧
  (∀ (by_ : Requester) (n : Fin 16) (p : Fin 64) (f : Fin 128) (b : Bool) (s : State), noInjection s → accepts by_ (Reg.rfeBankCmd n) s →
      rfeProfile s.dev n p = none →
      let t := .next (ended s (s.dev.setNat (Reg.rfeBankCmd n) 4))
      exec (.commit by_ n p b) s = t ∧ exec (.read by_ n p b) s = t ∧ exec (.settle by_ n p b) s = t ∧
        exec (.swap by_ n p f) s = .next (ended s (s.dev.setNat (Reg.rfeBankCmd n) (if 64 < f.val then 5 else 4)))) ∧
  (∀ (by_ : Requester) (n : Fin 16) (op : Fin 8) (s : State), noInjection s → accepts by_ (Reg.rfeBankCmd n) s →
      (op.val = 0 ∨ 5 ≤ op.val) → exec (.bankCmdReservedOp by_ n op) s = .next (ended s (s.dev.setNat (Reg.rfeBankCmd n) 5))) ∧
  (∀ (n : Fin 16) (p : Fin 64) (x : Profile) (w : Swap) (s : State), noInjection s → rfeProfile s.dev n p = some x → x.swap = some w →
      w.begun = true → w.t0 + 50 + fadeTicks w.fade ≤ s.dev.time.ticks → profileBusy s.dev n p true = false → x.latched = none →
      homedIn s.dev n = [] →
      exec (.swapEnd n p) s = .next (ended s (note (rfeSource n) 0x0504 none [0, 0, 0, 0, BitVec.ofNat 8 p, 0]
        ((setRfeProfile n p { x with swap := none } s.dev).bump (Reg.rfeSwaps n))))) ∧
  (∀ (by_ : Requester) (n : Fin 16) (v : Word) (s : State), noInjection s → accepts by_ (Reg.rfeSyncCmd n) s → bit v 0 = true →
      let t := (s.dev.reg (Reg.rfeSyncLo n)).toNat + 2 ^ 32 * s.dev.rfld (Reg.rfeSyncHi n) 0 24
      let sel := s.dev.rfld (Reg.rfeSyncHi n) 24 8
      s.dev.tickNow + 2 ≤ t → (s.dev.ce n).sync = none → ¬ (64 ≤ sel ∧ sel ≤ 0xFD) →
      exec (.syncCmdGo by_ n v) s = .next (ended s (((s.dev.setCe n { s.dev.ce n with
        sync := some ⟨s.dev.target t, sel⟩ }).setBit (Reg.rfeSyncCmd n) 2 true).setFld (Reg.rfeSyncCmd n) 0 2 0))) ∧
  (∀ (by_ : Requester) (n : Fin 16) (v : Word) (k : Channel) (s : State), noInjection s → accepts by_ (Reg.rfeLvlSel n) s →
      s.dev.chan? (fld v 0 16) = some k → k.home / 16 = n →
      let z := if bit v 16 then k.rfeOut else k.rfeIn
      exec (.lvlSelWrite by_ n v) s = .next (ended s (((((s.dev.setNat (Reg.rfeLvlSel n) (v.toNat % 2 ^ 17 + 2 ^ 31)).setNat
        (Reg.rfeLvlRms n) (lvlReg z.rms)).setNat (Reg.rfeLvlPeak n) (lvlReg z.peak)).setNat
        (Reg.rfeLvlEnv n) (lvlReg z.env)).setNat (Reg.rfeLvlTick n) (z.tick % 2 ^ 32)))) ∧
  (∀ (by_ : Requester) (n : Fin 16) (v : Word) (s : State), noInjection s → accepts by_ (Reg.rfeLvlSel n) s →
      (∀ k ∈ s.dev.chan? (fld v 0 16), k.home / 16 ≠ n) →
      exec (.lvlSelWrite by_ n v) s = .next (ended s (s.dev.setNat (Reg.rfeLvlSel n) (v.toNat % 2 ^ 17)))) ∧
  (∀ (by_ : Requester) (n : Fin 16) (en : Bool) (s : State), noInjection s → accepts by_ (Reg.rfeCfg n) s →
      let d := s.dev.setBit (Reg.rfeCfg n) 0 en
      let pass := !d.rbit (Reg.rfeCfg n) 0 && (d.cg n).service.all (fun v => v.res != .rfe || !v.on)
      exec (.rfeCfgEnWrite by_ n en) s =
        .next (ended s ((d.setBit (Reg.rfeStatus n) 0 pass).setBit (Reg.rfeStatus n) 1 (engineBusy d n .rfe)))) ∧
  (∀ (c : Nat) (k : Channel) (s : State), noInjection s → s.dev.chan? c = some k → k.vbd = true →
      s.dev.domainServed (1 + k.home / 16) = true → s.dev.rbit (Reg.tdCfg (k.home / 16)) 0 = true → (k.par 6 2).testBit 2 = true →
      (progOf s.dev k.params).isSome = true →
      exec (.vbdQuiet c) s = .next (ended s (vbdEnd c 0 (toneEvent c 0x0603 s.dev.now [] s.dev)))) ∧
  (∀ (c : Nat) (k : Channel) (e : RxEvent) (s : State), noInjection s → s.dev.chan? c = some k → k.rxEvent = some e →
      let u := s.dev.setChan c { (if e.playing then lineEnds s.dev k else k) with rxEvent := none }
      crossTo u k = none → exec (.eventRxEndTimeout c) s = .next (ended s u)) ∧
  (∀ (c : Nat) (k : Channel) (e : RxEvent) (q : Nat) (s : State), noInjection s → s.dev.chan? c = some k → k.rxEvent = some e →
      let u := s.dev.setChan c { (if e.playing then lineEnds s.dev k else k) with rxEvent := none }
      crossTo u k = some q → exec (.eventRxEndTimeout c) s = .next (ended s (crossUpdate q k { e with ended := true } u))) ∧
  (∀ (by_ : Requester) (n : Fin 16) (en : Bool) (s : State), noInjection s → accepts by_ (Reg.tdCfg n) s →
      exec (.tdCfgEnWrite by_ n en) s = .next (ended s (tdStatus n (s.dev.setBit (Reg.tdCfg n) 0 en))))

/-- TDM.H[h].CFG (R334, R339): a configuration whose slots hold the connected legs and whose master needs fit enables the highway, unless the wiring
check found it shorted; clearing EN alone disables it, with its legs no longer supplied; a reserved rate, a write that changes another field of an
enabled highway, legs that do not fit and a master that does not are refused with CFG_ERR; and any other write is stored. A slave highway's clock
(R329, R331, R335, R336): CLK or FS lost is marked, counted and recorded with the time of the first loss, both good again end the loss, a loss of 10
ms with FALLBACK set starts the fallback, each FS edge is stamped, the one off its frame counting in FS_ERR and the one on time showing the measured
frequency, and a slip counts in its direction, a received frame dropped or repeated with its edge, and is recorded once a second. A highway's pins
(R333, R336, R337): a pin that is driven and reads otherwise is counted and released, a clock pin of a fallback ending it, REARM takes released pins
back and ends the source, and a connected leg not supplied in time sends silence and is counted. -/
def Obligations.HighwaysRunAndFail : Prop :=
  (∀ (by_ : Requester) (h : Fin 8) (w : Word) (s : State), noInjection s → accepts by_ (Reg.tdmCfg h) s →
      let v := w.toNat &&& tdmMask
      let old := (s.dev.reg (Reg.tdmCfg h)).toNat
      (6 ≤ v % 8 ∨ (old.testBit 31 = true ∧ v % 2 ^ 31 ≠ old % 2 ^ 31) ∨ (v.testBit 31 = true ∧ legsFit s.dev h (v % 8) = false) ∨
        (v.testBit 31 = true ∧ old.testBit 31 = false ∧ masterFits s.dev v = false)) →
      exec (.tdmCfgWrite by_ h w) s = .next (ended s (s.dev.setBit (Reg.tdmStatus h) 9 true))) ∧
  (∀ (by_ : Requester) (h : Fin 8) (w : Word) (s : State), noInjection s → accepts by_ (Reg.tdmCfg h) s →
      let v := w.toNat &&& tdmMask
      let old := (s.dev.reg (Reg.tdmCfg h)).toNat
      v % 8 < 6 → (v.testBit 31 = true → legsFit s.dev h (v % 8) = true) →
      let d := s.dev.setBit (Reg.tdmStatus h) 9 false
      let cfgErr (u : Dev) := 0x200 * (u.rbit (Reg.tdmStatus h) 9).toNat
      (v.testBit 31 = true → old.testBit 31 = false → masterFits s.dev v = true → h.val ∉ s.dev.boot.tdmShort →
        let u := (d.setNat (Reg.tdmCfg h) v).setBit (Reg.tdmCfg h) 31 true
        exec (.tdmCfgWrite by_ h w) s =
          .next (ended s (tdmShow h (faultEnd (0x3C0 + h) [] (setTdm h {} (u.setNat (Reg.tdmStatus h) (6 + cfgErr (d.setNat (Reg.tdmCfg h) v)))))))) ∧
      (v.testBit 31 = true → old.testBit 31 = false → masterFits s.dev v = true → h.val ∈ s.dev.boot.tdmShort →
        exec (.tdmCfgWrite by_ h w) s = .next (ended s (d.setNat (Reg.tdmCfg h) (v % 2 ^ 31)))) ∧
      (v.testBit 31 = false → old.testBit 31 = true → v % 2 ^ 31 = old % 2 ^ 31 →
        let u := d.setBit (Reg.tdmCfg h) 31 false
        let x := setTdm h {} ((u.setNat (Reg.tdmStatus h) (0x100 + cfgErr d)).setNat (Reg.tdmFreq h) 0)
        exec (.tdmCfgWrite by_ h w) s = .next (ended s (faultEnd (0x3C8 + h) []
          ((legsOn x h).foldl (fun y c => y.modChan c (fun k => { k with supplied := false })) x)))) ∧
      (v.testBit 31 = old.testBit 31 → (old.testBit 31 = true → v % 2 ^ 31 = old % 2 ^ 31) →
        exec (.tdmCfgWrite by_ h w) s = .next (ended s (d.setNat (Reg.tdmCfg h) v)))) ∧
  (∀ (h : Fin 8) (s : State), noInjection s → tdmSlave s.dev h = true → fallbackOn s.dev h = false →
      s.dev.rbit (Reg.tdmStatus h) 1 = true →
      let d := (s.dev.setBit (Reg.tdmStatus h) 1 false).bump (Reg.tdmClkLoss h)
      exec (.clkLoss h) s = .next (ended s (occur (0x3C8 + h) {} (tdmShow h
        (setTdm h { tdmOf d h with lostAt := some ((tdmOf d h).lostAt.getD d.cycles) } d))))) ∧
  (∀ (h : Fin 8) (s : State), noInjection s → tdmSlave s.dev h = true → fallbackOn s.dev h = false →
      s.dev.rbit (Reg.tdmStatus h) 2 = true →
      let d := (s.dev.setBit (Reg.tdmStatus h) 2 false).bump (Reg.tdmClkLoss h)
      exec (.fsLoss h) s = .next (ended s (occur (0x3C8 + h) {} (tdmShow h
        (setTdm h { tdmOf d h with lostAt := some ((tdmOf d h).lostAt.getD d.cycles) } d))))) ∧
  (∀ (h : Fin 8) (s : State), noInjection s → tdmSlave s.dev h = true → fallbackOn s.dev h = false → tdmLost s.dev h = true →
      exec (.tdmClockRecovered h) s = .next (ended s (faultEnd (0x3C8 + h) [] (tdmShow h
        (setTdm h { tdmOf s.dev h with lostAt := none } (s.dev.setFld (Reg.tdmStatus h) 1 2 3)))))) ∧
  (∀ (h : Fin 8) (t : Nat) (s : State), noInjection s → (tdmOf s.dev h).lostAt = some t → tdmSlave s.dev h = true →
      fallbackOn s.dev h = false → s.dev.rbit (Reg.tdmCfg h) 23 = true →
      exec (.fallback h) s =
        .next (ended s (tdmShow h ((s.dev.elapseTo (t + 5000000)).setBit (Reg.tdmStatus h) 3 true)))) ∧
  (∀ (h : Fin 8) (s : State), noInjection s → tdmSlave s.dev h = true → fallbackOn s.dev h = false →
      let x := { tdmOf s.dev h with edges := (stampNs s.dev.now :: (tdmOf s.dev h).edges).take 1024 }
      exec (.slaveFsEdge h false) s = .next (ended s ((setTdm h { x with fsRun := 0 } s.dev).bump (Reg.tdmFsErr h))) ∧
      ∃ (w : Word) (n : Nat), exec (.slaveFsEdge h true) s =
        .next (ended s ((setTdm h { x with fsRun := min 2 (x.fsRun + 1) } { s.dev with free := n }).setReg (Reg.tdmFreq h) w))) ∧
  (∀ (h : Fin 8) (receive again : Bool) (s : State), noInjection s → tdmSlave s.dev h = true → tdmLost s.dev h = false →
      fallbackOn s.dev h = false →
      let x := tdmOf s.dev h
      let z := if ¬ receive then x.edges else if again then (x.edges.head?.map (· + 125000)).toList ++ x.edges else x.edges.drop 1
      let d := (setTdm h { x with edges := z } s.dev).bump (if receive then Reg.tdmSlipRx h else Reg.tdmSlipTx h)
      let u := (d.oncePer (0x3D000 + h) d.now.sec).2
      exec (.slip h receive again) s =
        .next (ended s (if (d.oncePer (0x3D000 + h) d.now.sec).1 then occur (0x3D0 + h) {} u else u))) ∧
  (∀ (h : Fin 8) (p : TdmPin) (s : State), noInjection s → drives s.dev h p = true →
      let d := s.dev.bump (Reg.tdmFight h)
      exec (.fight h p) s = .next (ended s
        (if fallbackOn d h = true ∧ p ≠ .tx
         then tdmShow h (setTdm h { tdmOf d h with lostAt := some d.cycles } (d.setBit (Reg.tdmStatus h) 3 false))
         else occur (0x3C0 + h) {} (tdmShow h (d.setBit (Reg.tdmStatus h) (match p with | .clk => 4 | .fs => 5 | .tx => 6) true))))) ∧
  (∀ (by_ : Requester) (h : Fin 8) (v : Word) (s : State), noInjection s → accepts by_ (Reg.tdmRearm h) s →
      exec (.rearm by_ h v) s = .next (ended s
        (if bit v 0 then tdmShow h (faultEnd (0x3C0 + h) [] (s.dev.setFld (Reg.tdmStatus h) 4 3 0)) else s.dev))) ∧
  (∀ (h : Fin 8) (c : Nat) (k : Channel) (s : State), noInjection s → s.dev.chan? c = some k → tdmOn s.dev h = true →
      k.legs.line.map lineHighway = some h.val → k.supplied = true →
      (s.dev.rbit (Reg.tdmStatus h) 0 = true ∨ s.dev.rbit (Reg.tdmCfg h) 24 = true) →
      let u := s.dev.bump (Reg.tdmUnderrun h)
      exec (.underrun h c) s = .next (ended s (if txFree u h then u.emit (.silence h c) else u)))

/-- The archive engine (R350, R353 to R356, R364): a closed block that the compressor has coded starts its way to the sink as a Folio block, or over
Ronong to the device that holds the sink, and is dropped, with the gap recorded, where its octets were lost or the sink is exhausted; TAIL posts
buffers and takes the sink out of exhaustion; an idle sink closes its buffer; a DMA error closes it with ERR and disables the sink; a sink
without a buffer for EXH_WAIT drops its block; EN is written, switching off leaving the staged samples out; and a DEPTH that fits is taken only
while the engine is off. -/
def Obligations.ArchiveEngineMovesBlocks : Prop :=
  (∀ (k : Fin 2) (r : CompressOut) (j : ArcJob) (rest : List ArcJob) (s : State), noInjection s → (s.dev.sink k).jobs = j :: rest →
      s.dev.domainOn 28 = true → j.remote = false → (s.dev.sink 0).job = none → (s.dev.sink 1).job = none → codedOk j r.coded = true →
      let here : Prop := k.val = 1 ∨ s.dev.leads = true
      let x := s.dev.setSink k { s.dev.sink k with jobs := rest }
      let d := if k.val = 1 then f1Status x else x
      let o := folioBlock j r.coded
      let u := d.bump64 Reg.arcInOctets j.octets.length
      (here → s.dev.rbit (Reg.arcSinkStatus k) 1 = true → d.rbit (Reg.arcSinkStatus k) 1 = true →
        exec (.blockCompressed k r) s = .next (ended s (sinkGo k (dropJob 1 j d)))) ∧
      (here → sinkOn s.dev k = true → d.rbit (Reg.arcSinkStatus k) 1 = false → r.inParity = true →
        exec (.blockCompressed k r) s = .next (ended s (sinkGo k (dropJob 2 j (occur 0x3E5 {} d))))) ∧
      (here → sinkOn s.dev k = true → d.rbit (Reg.arcSinkStatus k) 1 = false → r.inParity = false →
        exec (.blockCompressed k r) s = .next (ended s (sinkGo k (startBlock k j r.outParity o u)))) ∧
      (¬ here → r.inParity = true →
        exec (.blockCompressed k r) s = .next (ended s (sinkGo k (dropJob 2 j (occur 0x3E5 {} d))))) ∧
      (¬ here → r.inParity = false → ∀ h : Nat, dossierDest u = some h →
        exec (.blockCompressed k r) s = .next (ended s (sinkGo k (sendBlock h (o.length / ronMost + 1) o u))))) ∧
  (∀ (by_ : Requester) (k : Fin 2) (v : Word) (bufs : List (Nat × Nat)) (s : State), noInjection s → accepts by_ (Reg.arcSinkTail k) s →
      let n := 2 ^ s.dev.rfld (Reg.arcSinkSize k) 0 5
      let posted := (fld v 0 16 + n - s.dev.rfld (Reg.arcSinkTail k) 0 16 % n) % n
      let d := s.dev.setFld (Reg.arcSinkTail k) 0 16 (fld v 0 16)
      let size := d.rfld (Reg.arcSinkSize k) 0 5
      let x := d.sink k
      let u := d.setSink k { x with bufs := x.bufs ++ (bufs.take posted).map (fun b => { addr := b.1, len := b.2, used := 0 }) }
      let need := ((u.sink k).fifo.head?.map (·.octets.length)).getD 1
      exec (.sinkTailWrite by_ k v bufs) s = .next (ended s
        (if size < 4 ∨ 16 < size then d
         else sinkGo k (if need ≤ sinkRoom (u.sink k) then u.setBit (Reg.arcSinkStatus k) 1 false else u)))) ∧
  (∀ (k : Fin 2) (t : Nat) (b : SinkBuf) (rest : List SinkBuf) (s : State), noInjection s → (s.dev.sink k).lastEnd = some t →
      (s.dev.sink k).bufs = b :: rest → b.used ≠ 0 → sinkOn s.dev k = true →
      exec (.sinkIdleClose k) s = .next (ended s (closeBuf k false
        (s.dev.elapseTo (t + usCycles (1000 * max 1 (s.dev.rfld (Reg.arcSinkCtrl k) 8 8))))))) ∧
  (∀ (k : Fin 2) (s : State), noInjection s → sinkOn s.dev k = true → (s.dev.sink k).bufs ≠ [] →
      exec (.sinkDmaError k) s = .next (ended s (occur 0x3E4 {}
        (((closeBuf k true s.dev).setBit (Reg.arcSinkStatus k) 0 true).setBit (Reg.arcSinkCtrl k) 0 false)))) ∧
  (∀ (k : Fin 2) (j : ArcJob) (t : Nat) (s : State), noInjection s → (s.dev.sink k).job = some j → (s.dev.sink k).heldAt = some t →
      let x := s.dev.sink k
      ¬ ((x.fifo.head?.map (·.octets.length)).getD 1 ≤ sinkRoom x ∧ sinkOn s.dev k = true) →
      let d := s.dev.elapseTo (t + usCycles (max 1 (s.dev.rfld Reg.arcExhWait 0 16)))
      let u := if x.markLost
        then (d.bump (Reg.arcFifoMarkLost (3 + k))).setSink k { x with
          job := none, waiting := x.waiting.map (fun w => { w with octets := zeros w.octets.length, zero := true }), marked := 0 }
        else d.setSink k { x with job := none, waiting := [], fifo := x.fifo.take (x.fifo.length - x.marked), marked := 0 }
      let v := (closeBuf k false u).setBit (Reg.arcSinkStatus k) 1 true
      exec (.outputExhausted k) s = .next (ended s (sinkGo k (if j.remote then blockLost v else dropJob 1 j v)))) ∧
  (∀ (by_ : Requester) (en : Bool) (s : State), noInjection s → accepts by_ Reg.arcCfg s →
      (en = true ∨ s.dev.rbit Reg.arcCfg 0 = false) →
      exec (.arcCfgEnWrite by_ en) s = .next (ended s (s.dev.setBit Reg.arcCfg 0 en))) ∧
  (∀ (by_ : Requester) (s : State), noInjection s → accepts by_ Reg.arcCfg s → s.dev.rbit Reg.arcCfg 0 = true →
      let d := s.dev.setBit Reg.arcCfg 0 false
      let u := d.chans.foldl (fun s p =>
        (p.2.recs.foldl (fun s r => recGap p.1 r.content (r.staged.length / 2) 4 p.2.owner s) s).modChan p.1
          (fun k => { k with recs := k.recs.map (fun r => { r with staged := [], nextNs := none }) })) d
      let lost := u.ledger.export_.length / 32
      let v := if lost = 0 then u else u.bump Reg.arcLdgLost lost
      exec (.arcCfgEnWrite by_ false) s =
        .next (ended s (f1Status { v with ledger := { v.ledger with export_ := [], exportAt := none, exportStamp := none } }))) ∧
  (∀ (by_ : Requester) (f : Fin 6) (v : Word) (s : State), noInjection s → accepts by_ (Reg.arcFifoCfg f) s →
      exec (.fifoCfgWrite by_ f v) s = .next (ended s
        (if s.dev.rbit Reg.arcCfg 0 then s.dev
         else if 16 ≤ fld v 0 10 ∧ fld v 0 10 ≤ 512 ∧ fld v 0 10 % 16 = 0 ∧
            ((upTo 6).map (fun i => if i = f.val then fld v 0 10 else fifoDepth s.dev i)).sum ≤ 768
         then s.dev.setFld (Reg.arcFifoCfg f) 0 10 (fld v 0 10)
         else s.dev.setBit Reg.arcStatus 2 true)))

/-- A write of MACn.GROUP takes effect only while every MAC and every lane of the group has EN = 0 (R368); at any other time it is ignored and
sets CFG_ERR in that MAC's status. -/
def Obligations.GroupWriteNeedsTheGroupOff : Prop :=
  (∀ (by_ : Requester) (b : Bool) (v : Word) (s : State), noInjection s → accepts by_ (Reg.macGroup (if b then 4 else 0)) s →
      let h := if b then 4 else 0
      groupOk (v.toNat % 64) = true →
      (∀ i < 4, s.dev.rbit (Reg.macCfg (h + i)) 0 = false ∧ s.dev.rbit (Reg.sdsCfg (h + i)) 0 = false) →
      exec (.groupWrite by_ b v) s = .next (ended s ((upTo 4).foldl (fun d i => macShow (h + i) (d.setFld (Reg.sdsCfg (h + i)) 1 2
        (if v.toNat % 8 = 4 then 1 else if v.toNat % 8 = 5 then 2 else 0)))
        ((s.dev.setBit (Reg.macStatus h) 6 false).setNat (Reg.macGroup h) (v.toNat % 64))))) ∧
  (∀ (by_ : Requester) (b : Bool) (v : Word) (i : Nat) (s : State), noInjection s → accepts by_ (Reg.macGroup (if b then 4 else 0)) s →
      let h := if b then 4 else 0
      (groupOk (v.toNat % 64) = false ∨
        (i < 4 ∧ (s.dev.rbit (Reg.macCfg (h + i)) 0 = true ∨ s.dev.rbit (Reg.sdsCfg (h + i)) 0 = true))) →
      exec (.groupWrite by_ b v) s = .next (ended s (s.dev.setBit (Reg.macStatus h) 6 true)))

/-- Lanes (R370 to R376, R394): EN brings a lane up, unless its test failed at boot, or takes it OFF with its link down, LOOP is written, signal,
training and its failures move the lane's state, receive polarity flips without lock, signal loss returns the lane, counts, records and takes
its link down, and eyes are measured in DATA. -/
def Obligations.LanesTrainAndMeasure : Prop :=
  (∀ (by_ : Requester) (m : Fin 24) (en : Bool) (s : State), noInjection s → accepts by_ (Reg.sdsCfg m) s → m.val < 8 →
      let d := s.dev.setBit (Reg.sdsCfg m) 0 en
      (en = s.dev.rbit (Reg.sdsCfg m) 0 ∨ (en = true ∧ m.val ∈ s.dev.boot.badLanes) →
        exec (.sdsCfgEnWrite by_ m en) s = .next (ended s s.dev)) ∧
      (en = true → s.dev.rbit (Reg.sdsCfg m) 0 = false → m.val ∉ s.dev.boot.badLanes →
        exec (.sdsCfgEnWrite by_ m en) s = .next (ended s (d.setFld (Reg.sdsStatus m) 8 3 1))) ∧
      (en = false → s.dev.rbit (Reg.sdsCfg m) 0 = true →
        let u := match macOfLane d m with | some e => linkGone e false false d | none => d
        exec (.sdsCfgEnWrite by_ m en) s =
          .next (ended s ((u.setNat (Reg.sdsStatus m) 0).setLane m { u.lane m with txInv := false, failedAt := none })))) ∧
  (∀ (by_ : Requester) (m : Fin 24) (l : Fin 4) (s : State), noInjection s → accepts by_ (Reg.sdsCfg m) s →
      exec (.sdsLoopWrite by_ m l) s = .next (ended s (if l.val = 3 then s.dev else s.dev.setFld (Reg.sdsCfg m) 10 2 l))) ∧
  (∀ (m : Fin 24) (s : State), noInjection s → trainState s.dev m = 1 → m.val < 8 → carriesNet s.dev = true →
      let d := s.dev.setBit (Reg.sdsStatus m) 0 true
      let a := anLane d m
      let an := d.rbit (Reg.sdsCfg a) 3 = true ∧ (a = m ∨ trainState d a < 3)
      (an → exec (.signalDetect m) s = .next (ended s (d.setFld (Reg.sdsStatus m) 8 3 2))) ∧
      (¬ an → d.rbit (Reg.sdsCfg m) 4 = true →
        exec (.signalDetect m) s = .next (ended s ((d.setFld (Reg.sdsStatus m) 8 3 3).setBit (Reg.sdsStatus m) 1 true))) ∧
      (¬ an → d.rbit (Reg.sdsCfg m) 4 = false → ∃ (b : Bool) (n : Nat),
        exec (.signalDetect m) s = .next (ended s ((laneData m { d with free := n }).setBit (Reg.sdsStatus m) 3 b)))) ∧
  (∀ (m : Fin 24) (e : Nat) (s : State), noInjection s → trainState s.dev m = 2 → anLane s.dev m = m → macOfLane s.dev m = some e →
      exec (.anResolved m) s =
        .next (ended s ((lanesOf s.dev e).foldl (fun d i => if trainState d i = 2 then laneTrain i d else d) s.dev))) ∧
  (∀ (m : Fin 24) (r : TrainOut) (s : State), noInjection s → trainState s.dev m = 3 → m.val < 8 →
      let d := laneData m s.dev
      let u := ((if d.rbit (Reg.sdsCfg m) 6 then d.setBit (Reg.sdsStatus m) 4 r.rxInv else d).setBit (Reg.sdsStatus m) 2 true).setBit
        (Reg.sdsStatus m) 3 true
      let rate := u.rfld (Reg.sdsCfg m) 1 2
      let v := u.setNat (Reg.sdsTxFfe m) (if rate = 1 ∨ rate = 2 then r.ffe.toNat % 2 ^ 24 else r.ffe.toNat)
      exec (.trainingComplete m r) s =
        .next (ended s (if v.rbit (Reg.sdsCfg m) 5 then v else v.setNat (Reg.sdsRxEq m) (r.eq.toNat &&& 0xFF1F)))) ∧
  (∀ (m : Fin 24) (s : State), noInjection s → trainState s.dev m = 3 →
      let d := setTrain m 5 (s.dev.bump (Reg.sdsTrainFail m))
      exec (.trainingFail m) s = .next (ended s (oncePerSec (laneSource m) (d.setLane m
        { txInv := if d.rbit (Reg.sdsCfg m) 9 then !(d.lane m).txInv else (d.lane m).txInv
          failedAt := some (d.cycles + usCycles 100000) })))) ∧
  (∀ (m : Fin 24) (t : Nat) (s : State), noInjection s → (s.dev.lane m).failedAt = some t →
      exec (.failedWaitEnd m) s =
        .next (ended s (laneWait m ((s.dev.elapseTo t).setLane m { s.dev.lane m with failedAt := none })))) ∧
  (∀ (m : Fin 24) (s : State), noInjection s → trainState s.dev m = 4 → s.dev.rbit (Reg.sdsCfg m) 6 = true →
      s.dev.rbit (Reg.sdsCfg m) 4 = false → (∀ e ∈ macOfLane s.dev m, linkIs s.dev e = false) →
      exec (.rxPolarityFlip m) s =
        .next (ended s (s.dev.setBit (Reg.sdsStatus m) 4 (!s.dev.rbit (Reg.sdsStatus m) 4)))) ∧
  (∀ (m : Fin 24) (s : State), noInjection s → m.val < 8 →
      let d := s.dev.setBit (Reg.sdsStatus m) 0 false
      (trainState s.dev m ≠ 4 → exec (.signalLost m) s = .next (ended s d)) ∧
      (trainState s.dev m = 4 →
        let u := occur (laneSource m) {} (d.bump (Reg.sdsLos m))
        exec (.signalLost m) s = .next (ended s (laneWait m (match macOfLane u m with | some e => linkGone e true false u | none => u))))) ∧
  (∀ (m : Fin 24) (eyes : List (Nat × Nat)) (n : Nat) (s : State), noInjection s → trainState s.dev m = 4 →
      let rate := s.dev.rfld (Reg.sdsCfg m) 1 2
      let eye (j : Nat) := if j = 0 ∨ ¬ (rate = 1 ∨ rate = 2) then eyes.getD j (0, 0) else (0, 0)
      let put (j : Nat) (d : Dev) := d.setNat (Reg.sdsEye m j) (sat 12 (eye j).1 + 65536 * sat 7 (eye j).2)
      exec (.eyeMeasure m eyes n) s = .next (ended s ((put 2 (put 1 (put 0 s.dev))).setNat (Reg.sdsSnr m) (sat 10 n))))

/-- Links (R377, R393): EN of a MAC is written and drops what it holds to send when it is cleared, a link comes up when every lane of its port is in
DATA, with its lane map and the end of source 0x348 + e, and goes down, its lanes waiting for the link again, a local fault sending remote fault.
Frames (R378, R380, R385, R386, R388): a frame that passes the tests of R378 is counted, its stamp corrected, and held for the MPE, one that does
not is counted in the counter of its test; the head of the transmit queues is sent whole and counted, stamped where its sender asks for it; the
pause ends at its time; and XOFF is sent again above the low mark. The Night Desk's port does the same with its own queue and its half duplex. -/
def Obligations.LinksCarryFrames : Prop :=
  (∀ (by_ : Requester) (e : Fin 8) (en : Bool) (s : State), noInjection s → accepts by_ (Reg.macCfg e) s →
      let d := s.dev.setBit (Reg.macCfg e) 0 en
      let u := ((d.setMac e { d.mac e with pauseUntil := none, xoffAt := none }).setBit (Reg.macStatus e) 2 false).setBit
          (Reg.macStatus e) 3 false
      exec (.macCfgEnWrite by_ e en) s = .next (ended s
        (if en = s.dev.rbit (Reg.macCfg e) 0 ∨ (en = true ∧ macNamed s.dev e = false) then s.dev
         else if en then follow (0x348 + e) (!linkIs u e) {} u else faultEnd (0x348 + e) [] (discardTx e u)))) ∧
  (∀ (e : Fin 8) (lm : Byte) (s : State), noInjection s → carriesNet s.dev = true → s.dev.domainOn (netDomain e) = true →
      lanesOf s.dev e ≠ [] → (∀ m ∈ lanesOf s.dev e, trainState s.dev m = 4) →
      exec (.linkUp e lm) s = .next (ended s (faultEnd (0x348 + e) []
        ((((s.dev.setFld (Reg.macStatus e) 8 8 lm.toNat).setBit (Reg.macStatus e) 0 true).setBit (Reg.macStatus e) 4 false).setBit
          (Reg.macStatus e) 5 false)))) ∧
  (∀ (e : Fin 8) (l r : Bool) (s : State), noInjection s → s.dev.domainOn (netDomain e) = true →
      let d := ((s.dev.setBit (Reg.macStatus e) 0 false).setBit (Reg.macStatus e) 4 l).setBit (Reg.macStatus e) 5 r
      let u := discardTx e d
      let v := ((u.setMac e { u.mac e with pauseUntil := none, xoffAt := none }).setBit (Reg.macStatus e) 2 false).setBit (Reg.macStatus e) 3 false
      let w := (lanesOf v e).foldl (fun d m => laneWait m d) v
      let x := if l then w.emit (.remoteFault e) else w
      exec (.linkDown e l r) s = .next (ended s
        (if linkIs s.dev e = false then d else if x.rbit (Reg.macCfg e) 0 then occur (0x348 + e) {} x else x))) ∧
  (∀ (e : Fin 8) (f : RxFrame) (s : State), noInjection s → loopOf s.dev e = 0 → macRuns s.dev e = true →
      let d := fecCount e f s.dev
      rxTest d e f = none → be f.octets 12 2 ≠ 0x8808 →
      let c := count .rxOctets e (count .rxOk e d) f.len
      let u := if f.octets.take 6 = [0xFF, 0xFF, 0xFF, 0xFF, 0xFF, 0xFF] then count .rxBcast e c
        else if oct f.octets 0 % 2 = 1 then count .rxMcast e c else c
      exec (.macReceiveFrame (.mac e) f) s = .next (ended s (watermarks e (u.setMac e { u.mac e with rx := (u.mac e).rx ++
        [⟨f.octets, f.len, shiftSixteenths (u.nowNs - f.len * 8000 / portRate u e) (- latOf u (stampLane u e))⟩] })))) ∧
  (∀ (e : Fin 8) (f : RxFrame) (c : MacCount) (s : State), noInjection s → loopOf s.dev e = 0 → macRuns s.dev e = true →
      let d := fecCount e f s.dev
      rxTest d e f = some c →
      exec (.macReceiveFrame (.mac e) f) s = .next (ended s (if c = .rxOverflow then oncePerSec (0x350 + e) (count c e d)
        else if c = .rxParity then occur (0x360 + e) {} (count c e d) else count c e d))) ∧
  (∀ (f : RxFrame) (s : State), noInjection s → macRuns s.dev 8 = true → nightHalf (frameEnd 8 f s.dev) = false →
      let d := fecCount 8 f s.dev
      rxTest d 8 f = none → be f.octets 12 2 ≠ 0x8808 →
      let c := count .rxOctets 8 (count .rxOk 8 d) f.len
      let u := if f.octets.take 6 = [0xFF, 0xFF, 0xFF, 0xFF, 0xFF, 0xFF] then count .rxBcast 8 c
        else if oct f.octets 0 % 2 = 1 then count .rxMcast 8 c else c
      exec (.macReceiveFrame .nd f) s = .next (ended s (watermarks 8 { u with night := { u.night with mac := { u.night.mac with
        rx := u.night.mac.rx ++ [⟨f.octets, f.len, u.nowNs⟩] } } }))) ∧
  (∀ (e : Fin 8) (ok : Bool) (x : Fin 16) (f : TxFrame) (s : State), noInjection s → macRuns s.dev e = true →
      (portOf s.dev e).pauseUntil = none → s.dev.ron.fenced = false → nextTx (portOf s.dev e).tx = some f →
      let d := macShow e (putPort s.dev e { portOf s.dev e with tx := (portOf s.dev e).tx.erase f })
      let six := ((x.val : Int) + latOf d (stampLane d e))
      let t := stampOf (shiftSixteenths d.nowNs six) d.time.tepoch
      let y := (six % 16).toNat
      let o := if f.insert then insertStamp f.octets t y else f.octets
      let u := match f.stampId with
        | some id => if f.insert then d else tsqPush e id t y d
        | none => d
      let v := if ok then count .txOctets e (count .txOk e u) (o.length + 4) else occur (0x360 + e) {} (count .txParity e u)
      (loopOf v e = 0 → exec (.transmitFrame (.mac e) ok x) s = .next (ended s (v.emit (.frame e o ok)))) ∧
      (loopOf v e = 1 → exec (.transmitFrame (.mac e) ok x) s = .next (ended s (frameEnd e
        { octets := o, len := o.length + 4, fcsOk := ok, parityOk := true, fecCorr := 0, fecUncorr := 0, fecSym := [] } v)))) ∧
  (∀ (ok : Bool) (x : Fin 16) (f : TxFrame) (s : State), noInjection s → macRuns s.dev 8 = true → s.dev.night.mac.pauseUntil = none →
      s.dev.night.defer = none → s.dev.night.backoff = none → nextTx s.dev.night.mac.tx = some f → f.insert = false → f.stampId = none →
      let d : Dev := { s.dev with night := { s.dev.night with mac := { s.dev.night.mac with tx := s.dev.night.mac.tx.erase f } } }
      let u := (count .txOctets 8 (count .txOk 8 d) (f.octets.length + 4)).emit (.frame 8 f.octets true)
      exec (.transmitFrame .nd ok x) s = .next (ended s { u with night := { u.night with attempts := 0, deferred := false } })) ∧
  (∀ (e : Fin 8) (t : Nat) (s : State), noInjection s → (portOf s.dev e).pauseUntil = some t →
      exec (.pauseTimerExpiry (.mac e)) s = .next (ended s ((putPort (s.dev.elapseTo t) e
        { portOf (s.dev.elapseTo t) e with pauseUntil := none }).setBit (Reg.macStatus e) 2 false))) ∧
  (∀ (t : Nat) (s : State), noInjection s → s.dev.night.mac.pauseUntil = some t →
      let d := s.dev.elapseTo t
      exec (.pauseTimerExpiry .nd) s =
        .next (ended s { d with night := { d.night with mac := { d.night.mac with pauseUntil := none } } })) ∧
  (∀ (p : MacPort) (t : Nat) (s : State), noInjection s →
      let e := portNum p
      (portOf s.dev e).xoffAt = some t →
      let d := s.dev.elapseTo t
      lowMark d e * rxBuffer d e < 64 * rxUsed (portOf d e) → sendsPause d e = true →
      let u := sendPause e (pauseQuanta d e) d
      exec (.xoffResend p) s = .next (ended s (setXoff e true (putPort u e
        { portOf u e with xoffAt := some (u.cycles + quantaCycles u e (pauseQuanta d e) / 2) }))))

/-- Reads that latch (R69, R401, R406, R418): TIME_NS latches the seconds, the fraction and the time epoch of its cycle, TICK_LO the tick number's
high bits, TSQ[e].W3 pops its queue, and PPS_IN_NS clears NEW; each returns its value to the requester that made it. -/
def Obligations.TimeReadsLatch : Prop :=
  (∀ (by_ : Requester) (s : State), noInjection s → reaches by_ s.dev = true → s.dev.domainOn 26 = true →
      let ns := s.dev.time.t / 2 ^ 32
      let d := (((s.dev.setNat Reg.tbTimeSecLo (ns / 1000000000 % 2 ^ 32)).setNat Reg.tbTimeSecHi (ns / 1000000000 / 2 ^ 32 % 65536)).setNat
        Reg.tbTimeFrac (s.dev.time.t % 2 ^ 32)).setNat Reg.tbTimeTepoch s.dev.time.tepoch
      exec (.timeNsRead by_) s = .next (ended s (readAs by_ Reg.tbTimeNs (ns % 1000000000) d))) ∧
  (∀ (by_ : Requester) (s : State), noInjection s → reaches by_ s.dev = true → s.dev.domainOn 26 = true →
      let n := s.dev.time.lastTick.getD 0
      exec (.tickLoRead by_) s =
        .next (ended s (readAs by_ Reg.tbTickLo (n % 2 ^ 32) (s.dev.setNat Reg.tbTickHi (n / 2 ^ 32 % 2 ^ 24))))) ∧
  (∀ (by_ : Requester) (e : Fin 8) (s : State), noInjection s → reaches by_ s.dev = true → s.dev.domainOn 26 = true →
      exec (.tsqW3Read by_ e) s = .next (ended s (readAs by_ (Reg.tbTsqW3 e) (s.dev.reg (Reg.tbTsqW3 e)).toNat (tsqShow e
        { s.dev with time := { s.dev.time with tsq := kvMod s.dev.time.tsq e [] (·.drop 1) } })))) ∧
  (∀ (by_ : Requester) (s : State), noInjection s → reaches by_ s.dev = true → s.dev.domainOn 26 = true →
      exec (.ppsInNsRead by_) s = .next (ended s (readAs by_ Reg.tbPpsInNs (s.dev.reg Reg.tbPpsInNs).toNat
        (s.dev.setBit Reg.tbPpsInInfo 31 false))))

/-- The scale (R400, R409, R410, R424): INCR_INT takes the new increment, clamped to 500 ppm of 2 ns with source 0x04C where it is clamped;
ADJ_CMD's correction is judged and its result shown; the slew ends when it has been taken up; and a correction held is applied at A. -/
def Obligations.TheScaleIsSteered : Prop :=
  (∀ (by_ : Requester) (v : Word) (s : State), noInjection s → accepts by_ Reg.tbIncrInt s →
      let w := fld v 0 8 * 2 ^ 32 + (s.dev.reg Reg.tbIncrFrac).toNat
      incrNominal - incrLimit ≤ w → w ≤ incrNominal + incrLimit →
      exec (.incrIntWrite by_ v) s = .next (ended s (setIncr w (s.dev.elapse 1)))) ∧
  (∀ (by_ : Requester) (v : Word) (s : State), noInjection s → accepts by_ Reg.tbIncrInt s →
      let w := fld v 0 8 * 2 ^ 32 + (s.dev.reg Reg.tbIncrFrac).toNat
      (incrNominal + incrLimit < w →
        exec (.incrIntWrite by_ v) s = .next (ended s (occur 0x04C {} (setIncr (incrNominal + incrLimit) (s.dev.elapse 1))))) ∧
      (w < incrNominal - incrLimit →
        exec (.incrIntWrite by_ v) s = .next (ended s (occur 0x04C {} (setIncr (incrNominal - incrLimit) (s.dev.elapse 1)))))) ∧
  (∀ (by_ : Requester) (v : Word) (s : State), noInjection s → accepts by_ Reg.tbAdjCmd s → bit v 0 = true →
      let x := correct (signed 64 ((s.dev.reg Reg.tbAdjLo).toNat + 2 ^ 32 * (s.dev.reg Reg.tbAdjHi).toNat)) (bit v 1) 0 s.dev
      exec (.adjCmdGo by_ v) s = .next (ended s (timeShow (x.2.setFld Reg.tbAdjCmd 0 3 x.1)))) ∧
  (∀ (by_ : Requester) (v : Word) (s : State), noInjection s → accepts by_ Reg.tbAdjCmd s → bit v 0 = false →
      exec (.adjCmdGo by_ v) s = .next (ended s s.dev)) ∧
  (∀ s : State, noInjection s → s.dev.time.slewLeft ≠ 0 → s.dev.time.running = true →
      exec .slewEnd s = .next (ended s (timeShow (s.dev.elapse
        ((s.dev.time.slewLeft.natAbs + s.dev.slewShare - 1) / s.dev.slewShare))))) ∧
  (∀ (c : Correction) (s : State), noInjection s → s.dev.time.corr = some c →
      let d := s.dev.elapseToTime (c.applyAt * 2 ^ 32)
      let u : Dev := { d with time := { d.time with corr := none } }
      exec .correctionApply s = .next (ended s (timeShow (if c.step then stepApply c u
        else { u with time := { u.time with slewLeft := u.time.slewLeft + unitsOf c.delta } })))) ∧
  (∀ (c : Correction) (s : State), noInjection s → s.dev.time.corr = some c → s.dev.leads = true →
      exec .correctionResend s = .next (ended s (corrSend s.dev.time.corrWait c s.dev))) ∧
  (∀ s : State, noInjection s → s.dev.time.gridRes ≠ 0 →
      let gap := slewMax s.dev * 125000 * 2 ^ 32 / 1000000
      let d := s.dev.elapseToTime (s.dev.time.gridFrom + (s.dev.time.gridRes.natAbs + gap - 1) / gap * 125000 * 2 ^ 32)
      exec .gridSlewEnd s = .next (ended s (({ d with time := { d.time with gridRes := 0 } } : Dev).setBit Reg.tbStatus 4 false)))

/-- A step on a standalone device (R411, R93): it adds its offset to the time in one cycle and discards the remaining slew, a backward step of
a time already set raises the time epoch and no other does, and the step is recorded as TIME_STEP under source 0x042. -/
def Obligations.StepMovesTimeAndTimeEpoch : Prop :=
  ∀ (delta : Int) (s : Dev), s.standalone = true →
    ∃ (d : Dev) (data : Octets), corrAccept delta true s = timeShow (occurCode 0x042 0x0800 none data d) ∧
      d.time.t = (((s.elapse 1).time.t : Int) + delta * 2 ^ 32).toNat ∧ d.time.slewLeft = 0 ∧
      d.time.tepoch = (if s.rbit Reg.tbStatus 0 = true ∧ delta < 0 then (s.time.tepoch + 1) % 256 else s.time.tepoch) ∧
      d.cycles = s.cycles + 1

/-- The servo (R404, R413, R414, R425): the first exchange of a port starts it in ACQUIRING with that port's path, 16 s below the threshold lock it,
another port's exchange is kept beside it, a missing Sync leaves it in HOLDOVER, and so does a follower's lost master, with source 0x049; and a
message of PTP leaves on queue 7, a Delay_Req and a two-step Sync asking for their stamp and a one-step Sync for its insertion. -/
def Obligations.TheServoLocksAndHoldsOver : Prop :=
  (∀ (m : PtpExchange) (s : State), noInjection s → s.dev.leads = true → (servo s.dev = 0 ∨ servo s.dev = 5) →
      let d := (s.dev.setFld Reg.tbServo 4 3 m.mac.val)
      exec (.ptpMessage m) s = .next (ended s (servoSlew m.offset (setServo 1 [] { d with time := { d.time with
        path := some m.meanPath, lastSync := s.dev.cycles, lastOffset := m.offset } })))) ∧
  (∀ (m : PtpExchange) (s : State), noInjection s → s.dev.leads = true → servo s.dev ≠ 0 → servo s.dev ≠ 5 →
      s.dev.rfld Reg.tbServo 4 3 ≠ m.mac.val →
      exec (.ptpMessage m) s = .next (ended s { s.dev with time := { s.dev.time with otherPort := some (m.mac.val, m.offset) } })) ∧
  (∀ (c : Nat) (s : State), noInjection s → s.dev.leads = true → servo s.dev = 1 → s.dev.time.lockSince = some c →
      exec .servoLocked s = .next (ended s (setServo 2 [] (s.dev.elapseTo (c + usCycles 16000000))))) ∧
  (∀ s : State, noInjection s → s.dev.leads = true → (servo s.dev = 1 ∨ servo s.dev = 2 ∨ servo s.dev = 4) →
      exec .holdoverTimeout s = .next (ended s (setServo 3 [] s.dev))) ∧
  (∀ s : State, noInjection s → s.dev.leads = false → servo s.dev = 5 →
      exec .timeMasterLost s =
        .next (ended s (occur 0x049 {} (setServo 3 [] (s.dev.elapseTo (s.dev.time.lastSync + 5000000)))))) ∧
  (∀ (e : Fin 8) (k : PtpKind) (one : Bool) (id : Fin 65536) (f : Octets) (s : State), noInjection s → s.dev.domainOn 25 = true →
      exec (.ptpTransmit e k one id f) s = .next (ended s (enqueue e 7 f
        (if k = .delayReq ∨ (k = .sync ∧ one = false) then some id.val else none) (k == .sync && one) s.dev).2))

/-- PPS and the synthesisers (R417, R418, R420): PPS_OUT rises at its second and falls WIDTH ms later, PPS_IN pulses under 100 ns count as
glitches, longer ones are stamped and steer the servo where they are the reference, a missing pulse is source 0x047, and MULT of a synthesiser
that is on is not changed. -/
def Obligations.PulsesAndSynthesisers : Prop :=
  (∀ s : State, noInjection s → s.dev.rbit Reg.tbPpsOut 0 = true → s.dev.time.running = true →
      let d := s.dev.elapseToTime (ppsNext s.dev * 2 ^ 32)
      ((∃ c : Nat, d.time.ppsRiseAt = some c ∧ d.cycles < c + usCycles 200000) →
        exec .ppsOutEdge s = .next (ended s (d.setBit Reg.tbStatus 5 true))) ∧
      ((∀ c : Nat, d.time.ppsRiseAt = some c → c + usCycles 200000 ≤ d.cycles) →
        let u := d.setBit Reg.tbStatus 5 false
        let v : Dev := { u with time := { u.time with ppsHigh := true, ppsRiseAt := some u.cycles } }
        exec .ppsOutEdge s = .next (ended s (if u.shorts.contains .ppsOut then v else v.emit (.pps true))))) ∧
  (∀ (c : Nat) (s : State), noInjection s → s.dev.time.ppsHigh = true → s.dev.time.ppsRiseAt = some c →
      let d := s.dev.elapseTo (c + usCycles (1000 * max 1 (min 500 (s.dev.rfld Reg.tbPpsOut 8 10))))
      let v : Dev := { d with time := { d.time with ppsHigh := false } }
      exec .ppsOutFall s = .next (ended s (if d.shorts.contains .ppsOut then v else v.emit (.pps false)))) ∧
  (∀ (w : Nat) (x : Fin 16) (s : State), noInjection s → s.dev.rbit Reg.tbPpsIn 0 = true → s.dev.domainOn 26 = true → w < 100 →
      exec (.ppsInEdge w x) s = .next (ended s (s.dev.bump Reg.tbPpsInGlitch))) ∧
  (∀ (w : Nat) (x : Fin 16) (s : State), noInjection s → s.dev.rbit Reg.tbPpsIn 0 = true → s.dev.domainOn 26 = true → 100 ≤ w →
      let ns := s.dev.time.t / 2 ^ 32
      let d := ((((s.dev.setNat Reg.tbPpsInNs (ns % 1000000000)).setNat Reg.tbPpsInSec (ns / 1000000000 % 2 ^ 32)).setNat Reg.tbPpsInInfo
        (ns / 1000000000 / 2 ^ 32 % 65536 + 65536 * (x.val % 16) + 2 ^ 31)).setNat Reg.tbPpsInErr (satInt 32 (nearest ns 1000000000)))
      let u := faultEnd 0x047 [] { d with time := { d.time with ppsInAt := d.cycles } }
      let z := if u.rfld Reg.tbPpsTol 0 24 < (nearest ns 1000000000).natAbs then occur 0x048 {} u else u
      exec (.ppsInEdge w x) s = .next (ended s (if Config.ppsReference (sectionOf z 8) = true ∧ z.leads = true ∧ z.rbit Reg.tbStatus 0 = true
        then servoSlew (nearest ns 1000000000) z else z))) ∧
  (∀ s : State, noInjection s → s.dev.rbit Reg.tbPpsIn 0 = true → s.dev.domainOn 26 = true →
      exec .ppsInMissing s = .next (ended s (occur 0x047 {} (s.dev.elapseTo (s.dev.time.ppsInAt + usCycles 1500000))))) ∧
  (∀ (by_ : Requester) (n : Fin 8) (v : Word) (s : State), noInjection s → accepts by_ (Reg.tbSynthCfg n) s →
      let w := v.toNat &&& 0x1FFF0001
      exec (.synthCfgWrite by_ n v) s = .next (ended s
        (if s.dev.rbit (Reg.tbSynthCfg n) 0 = true ∧ nfld w 16 13 ≠ s.dev.rfld (Reg.tbSynthCfg n) 16 13
         then occur 0x04B {} (s.dev.setBit (Reg.tbSynthStatus n) 1 true)
         else (s.dev.setNat (Reg.tbSynthCfg n) w).setNat (Reg.tbSynthStatus n) (w % 2))))

/-- A Ronong lane (R436, R437, R439, R450, R542): a calibration within CAL_MAX leads to training and a worse one is recorded and repeated a second
later, a lane in HELLO that can send HELLO sends it again, signed where ENC_REQ asks for it, a DOWN lane returns to TRAIN a millisecond later, and a
partner silent for HB_TIMEOUT, or without signal for LOS_TIMEOUT, takes an UP lane down. What a device sends on a lane by itself (R423, R438, R440):
a heartbeat while firmware has kicked within 200 µs and a credit is there, a time frame to the active manager, and the next key in turn, taken from
a partner's HELLO that fits the plan and is signed; and a kick is kept. -/
def Obligations.RonongLanesRunAndSend : Prop :=
  (∀ (k : Fin 16) (x : Int) (s : State), noInjection s → ronState s.dev k = 1 → (s.dev.rl k).calBad = false →
      x.natAbs ≤ calMax (s.dev.setNat (Reg.ronLaneCal k) (satInt 32 x)) →
      exec (.calibDone k x) s =
        .next (ended s (laneWait (8 + k) (setRon k 2 (s.dev.setNat (Reg.ronLaneCal k) (satInt 32 x)))))) ∧
  (∀ (k : Fin 16) (x : Int) (s : State), noInjection s → ronState s.dev k = 1 → (s.dev.rl k).calBad = false →
      let d := s.dev.setNat (Reg.ronLaneCal k) (satInt 32 x)
      calMax d < x.natAbs →
      exec (.calibDone k x) s = .next (ended s (note (laneSource (8 + k)) 0x0900 none ([1, 1] ++ toLe 2 0x20)
        (d.setRl k { d.rl k with calBad := true, downAt := d.cycles })))) ∧
  (∀ (k : Fin 16) (s : State), noInjection s → ronState s.dev k = 1 → (s.dev.rl k).calBad = true →
      exec (.calibRepeat k) s = .next (ended s ((s.dev.elapseTo ((s.dev.rl k).downAt + 500000000)).setRl k
        { s.dev.rl k with calBad := false }))) ∧
  (∀ (k : Fin 16) (s : State), noInjection s → ronState s.dev k = 3 → helloCan s.dev = true →
      let l := s.dev.rl k
      let d := s.dev.setRl k { l with helloSent := true }
      (d.rbit Reg.ronCfg 1 = false → exec (.helloRetry k) s = .next (ended s (ronSend k 1 2 0 l.mine d))) ∧
      (d.rbit Reg.ronCfg 1 = true → ∃ (o : Octets) (n : Nat), exec (.helloRetry k) s = .next (ended s (ronSend k 1 2 0
        (l.mine ++ ecdsaSign (keyScalar (d.boot.identity.getD [])) (keyScalar o) (sha384 (l.mine ++ l.theirs))) { d with free := n })))) ∧
  (∀ (k : Fin 16) (s : State), noInjection s → (ronState s.dev k ≠ 3 ∨ helloCan s.dev = false) →
      exec (.helloRetry k) s = .next (ended s s.dev)) ∧
  (∀ (k : Fin 16) (s : State), noInjection s → ronState s.dev k = 5 →
      exec (.laneDownEnd k) s = .next (ended s (laneWait (8 + k) (setRon k 2 (s.dev.elapseTo ((s.dev.rl k).downAt + 500000)))))) ∧
  (∀ (k : Fin 16) (s : State), noInjection s → (s.dev.rl k).lost = false → (s.dev.rl k).heardAt.isSome = true → ronState s.dev k ≠ 0 →
      let u := s.dev.elapseTo (lostFrom k s.dev)
      let d := (u.bump (Reg.ronLaneHbMiss k)).setRl k { s.dev.rl k with lost := true, lostAt := u.cycles }
      exec (.partnerLost k) s = .next (ended s (if ronState d k = 4 then ronDown k true d else occur (laneSource (8 + k)) {} d))) ∧
  (∀ (k : Fin 16) (t : Nat) (s : State), noInjection s → s.dev.ron.hbKickAt = some t → s.dev.cycles ≤ t + 100000 →
      (ronState s.dev k = 3 ∨ ronState s.dev k = 4) →
      exec (.heartbeatSend k) s =
        .next (ended s ((ronStart k 1 1 (ronPartner s.dev k) 0 (heartbeatOctets k s.dev) s.dev).getD s.dev))) ∧
  (∀ (by_ : Requester) (s : State), noInjection s → accepts by_ Reg.ronHbKick s →
      exec (.hbKick by_) s =
        .next (ended s { s.dev with ron := { s.dev.ron with hbKickAt := some s.dev.cycles } })) ∧
  (∀ (k : Fin 16) (s : State), noInjection s → s.dev.leads = false → ronState s.dev k = 4 → ronPartner s.dev k = s.dev.ron.activeHid →
      exec (.timeFrameSend k) s = .next (ended s (ronSend k 0 1 0 (timeFrameStamp k true s.dev) s.dev))) ∧
  (∀ (k : Fin 16) (o : Octets) (s : State), noInjection s → ronState s.dev k = 4 → s.dev.rbit (Reg.ronLaneStatus k) 3 = true →
      let f := helloFresh k (rekeyDue k s.dev)
      let d := helloSend k (f.setRl k { f.rl k with theirs := o.take 402 })
      let l := d.rl k
      let good : Prop := helloPlan k o d = true ∧ o.length = 498 ∧ certOk d (oct o 0) (octs o 146 256) = true ∧
        (helloSigned o l.mine = true ∨ helloSigned o [] = true)
      (¬ good → exec (.rekey k o) s = .next (ended s (occur 0x3A5 {} d))) ∧
      (good →
        let u := d.setRl k { l with keys := linkKeys d k (o.take 402), oldKeys := l.keys, phaseAt := some d.cycles, keyedAt := d.cycles }
        exec (.rekey k o) s = .next (ended s (u.setBit (Reg.ronLaneStatus k) 4 (!u.rbit (Reg.ronLaneStatus k) 4)))))

/-- Time frames (R423, R424): T_SYNC is answered with its stamp and two of this device's, T_REPLY from the active manager keeps a follower in
FOLLOWER with the offset of its four stamps and an increment within its range, and a correction new to a follower is acknowledged and held until A,
or applied at once, with source 0x04A, where A has passed. Control frames (R433, R438, R439, R79): a HELLO that does not fit the plan is source
0x3A7, one that fits brings its lane UP, with keys agreed where ENC_REQ asks for it and both signatures stand, and 0x3A5 where they do not; a
HEARTBEAT notes what the partner has seen and freed, and from an active manager its HID and cadence; an ACK ends the wait for its frame; an EPOCH
announcement of a new epoch is taken up and acknowledged; and a MIRROR frame writes a standby's session. -/
def Obligations.TimeAndControlFramesAreTaken : Prop :=
  (∀ (k : Fin 16) (hd : RonHdr) (t1 : FineStamp) (s : State), noInjection s → framesHere k hd 0 1 s.dev →
      let d := counted k hd 0 s.dev
      exec (.tSync k hd t1) s = .next (ended s (ronSendTo hd.src 0 2 0
        (fineOctets t1 ++ timeFrameStamp k false d ++ timeFrameStamp k true d) d))) ∧
  (∀ (k : Fin 16) (hd : RonHdr) (t1 t2 t3 : FineStamp) (s : State), noInjection s → framesHere k hd 0 2 s.dev →
      let d := counted k hd 0 s.dev
      d.leads = false → hd.src.val = d.ron.activeHid →
      let u := setServo 5 [] { d with time := { d.time with lastSync := d.cycles, lastOffset := followerOffset k t1 t2 t3 d } }
      ∃ n m : Nat, n ≤ 2 * incrLimit ∧
        exec (.tReply k hd t1 t2 t3) s = .next (ended s (setIncr (incrNominal - incrLimit + n) { u with free := m }))) ∧
  (∀ (k : Fin 16) (hd : RonHdr) (c : Correction) (s : State), noInjection s → framesHere k hd 0 3 s.dev →
      let d := counted k hd 0 s.dev
      d.leads = false →
      let u := ackSend hd 3 d
      let v : Dev := { u with once := kvSet u.once 0x04A00 c.applyAt }
      u.time.corr ≠ some c → (u.time.corr = none → kvGet u.once 0x04A00 ≠ some c.applyAt) →
      (v.nowNs < c.applyAt →
        exec (.tCorr k hd c) s = .next (ended s (timeShow { v with time := { v.time with corr := some c } }))) ∧
      (c.applyAt ≤ v.nowNs → exec (.tCorr k hd c) s = .next (ended s (occur 0x04A {} (corrApply c v))))) ∧
  (∀ (k : Fin 16) (hd : RonHdr) (o : Octets) (s : State), noInjection s → framesHere k hd 1 2 s.dev →
      let d := counted k hd 1 s.dev
      ronState d k = 3 →
      (helloPlan k o d = false → exec (.hello k hd o) s = .next (ended s (occur 0x3A7 {} d))) ∧
      (helloPlan k o d = true → d.rbit Reg.ronCfg 1 = false →
        exec (.hello k hd o) s = .next (ended s (ronUp k (if (d.rl k).helloSent then d else helloSend k d)))) ∧
      (helloPlan k o d = true → d.rbit Reg.ronCfg 1 = true →
        (d.boot.identity = none ∨ o.length ≠ 498 ∨ certOk d (oct o 0) (octs o 146 256) = false ∨
          (helloSigned o (d.rl k).mine = false ∧ helloSigned o [] = false)) →
        exec (.hello k hd o) s = .next (ended s (occur 0x3A5 {} d))) ∧
      (helloPlan k o d = true → d.rbit Reg.ronCfg 1 = true → d.boot.identity.isSome = true → o.length = 498 →
        certOk d (oct o 0) (octs o 146 256) = true → helloSigned o (d.rl k).mine = true →
        let u := d.setRl k { d.rl k with theirs := o.take 402 }
        let v := if (d.rl k).helloSent = true ∧ (d.rl k).theirs = o.take 402 then u else helloSend k u
        exec (.hello k hd o) s = .next (ended s (ronUp k (v.setRl k { v.rl k with keys := linkKeys v k (o.take 402), keyedAt := v.cycles }))))) ∧
  (∀ (k : Fin 16) (hd : RonHdr) (o : Octets) (s : State), noInjection s → framesHere k hd 1 1 s.dev →
      let d := counted k hd 1 s.dev
      let m := hbParse d o
      let l := d.rl k
      let seen := (upTo 8).map (fun v => if pastMod 32 (m.nextSeq.getD v 0) (l.seen.getD v 0) then m.nextSeq.getD v 0 % 2 ^ 32 else l.seen.getD v 0)
      let u := d.setRl k { l with heardAt := some d.cycles, peer := some m, lost := false, seen := seen
                                  freed := (upTo 8).map (fun v => m.freed.getD v 0) }
      let w := ronDrain k (if m.digestOk then u else occur 0x3A7 {} u)
      let other : Prop := ronState w k = 4 ∧ m.active = true ∧ isManager w hd.src.val = true ∧ w.activeManager = false
      let x := cadenceAdopt m.cadence { w with ron := { w.ron with activeHid := hd.src.val } }
      (¬ other → exec (.heartbeat k hd o) s = .next (ended s w)) ∧
      (other → x.role ≠ 1 → exec (.heartbeat k hd o) s = .next (ended s x)) ∧
      (other → x.role = 1 → exec (.heartbeat k hd o) s = .next (ended s ((upTo 16).foldl
        (fun y h => match m.aliases[h]? with | some t => y.setFld (Reg.ronAlias h) 0 4 t | none => y) x)))) ∧
  (∀ (k : Fin 16) (hd : RonHdr) (type seq : Nat) (s : State), noInjection s → framesHere k hd 1 7 s.dev →
      let d := counted k hd 1 s.dev
      d.ron.acks = [⟨hd.src, type, seq⟩] →
      let u : Dev := { d with ron := { d.ron with acks := [] } }
      exec (.ack k hd type seq) s = .next (ended s
        (if type = 5 then { u with epochs := { u.epochs with ackWait := u.epochs.ackWait.filter (· != hd.src.val) } }
         else if type = 3 then { u with time := { u.time with corrWait := u.time.corrWait.filter (· != hd.src.val) } } else u))) ∧
  (∀ (k : Fin 16) (hd : RonHdr) (e t : Nat) (b : Bank) (s : State), noInjection s → framesHere k hd 1 5 s.dev →
      let d := counted k hd 1 s.dev
      d.epochs.sched = none → d.epochs.cur.epoch ≠ e → d.epochs.next = some b →
      let q : Schedule := { epoch := e, tick := t, tepoch := d.time.tepoch }
      exec (.epochFrame k hd (.announce e t)) s = .next (ended s (ackSend hd 5 (setEpochState 2 (d.withEpochs { d.epochs with
        sched := some { q with late := tickReached d q }, master := false, from_ := some hd.src.val, releaseTick := none, target := t }))))) ∧
  (∀ (k : Fin 16) (hd : RonHdr) (e t : Nat) (s : State), noInjection s → framesHere k hd 1 5 s.dev →
      let d := counted k hd 1 s.dev
      (d.epochs.sched.isSome = true ∨ d.epochs.cur.epoch = e ∨ d.epochs.next = none) →
      exec (.epochFrame k hd (.announce e t)) s = .next (ended s (ackSend hd 5 d))) ∧
  (∀ (k : Fin 16) (hd : RonHdr) (m : MirrorMsg) (s : State), noInjection s → framesHere k hd 1 8 s.dev → (counted k hd 1 s.dev).role = 1 →
      (counted k hd 1 s.dev).ron.active = false → exec (.mirror k hd m) s = .next (ended s (mirrorTake m (counted k hd 1 s.dev))))

/-- Commands that travel (R144): a COMMAND frame is executed on this device with its own number and origin, is completed by the status that turns it
away, or is UNREACHABLE where its channel lies on another device again; and a COMPLETION frame completes the command that waits for it, a CLOSE that
closed sending the BYE of its sessions. Frames of the data lanes (R434, R345, R442, R443, R95): media records go to the channels they name or are
kept for a restore, those from a worker's channel leave by the active manager, a dossier is staged by the reserve and passed on by the active
manager, a catalogue record is noted by a standby manager, staged by the reserve and passed on by the active manager, Ledger entries are merged by a
manager, and a block comes in pieces, those of a section of a stage apart. Frames that are dropped (R432, R440): a bad CRC counts as such and as
dropped, the 64th in a row taking an UP lane down, a bad tag counts in AUTH_FAIL and is recorded once a second, a frame in clear on an UP lane of
ENC_REQ counts as dropped, and so does any other fault of a frame. -/
def Obligations.CommandAndDataFramesAreTaken : Prop :=
  (∀ (k : Fin 16) (hd : RonHdr) (op : Byte) (d : Desc) (aux : Word) (ok : Bool) (s : State), noInjection s → framesHere k hd 1 3 s.dev →
      d.params.length = 48 →
      let u := counted k hd 1 s.dev
      let c : PendingCmd := { id := u.pci.nextId, ring := aux.toNat / 2 ^ 30 % 4, evr := d.evr.toNat % 4, opcode := op.toNat, tag := d.tag
                              slot := false, chan := if channelOp op.toNat then some (descGid d) else none, field := descGid d
                              aux := d.aux.toNat, origin := some (k.val, aux.toNat) }
      let v := addCmd c u
      (route op.toNat d true v = .here →
        exec (.commandFrame k hd op d aux ok) s = .next (ended s (frameBody op.toNat d ok u.pci.nextId v))) ∧
      (∀ st : Status, route op.toNat d true v = .refuse st →
        exec (.commandFrame k hd op d aux ok) s = .next (ended s (completeWith u.pci.nextId st v))) ∧
      (∀ h : Nat, route op.toNat d true v = .forward h →
        exec (.commandFrame k hd op d aux ok) s = .next (ended s (completeWith u.pci.nextId .unreachable v)))) ∧
  (∀ (k : Fin 16) (hd : RonHdr) (o : Octets) (aux : Word) (c : PendingCmd) (s : State), noInjection s → framesHere k hd 1 4 s.dev →
      let d := counted k hd 1 s.dev
      let id := aux.toNat % 2 ^ 30
      findCmd d id = some c → c.origin = none → c.done = none → c.opcode ≠ 0x1B →
      let u := flushDone (modCmd id (fun c => { c with done := some (padTo 32 o) }) d)
      let g := le o 12 4 % 2 ^ 20
      exec (.completionFrame k hd o aux) s = .next (ended s (if c.opcode = 5 ∧ le o 4 2 = 0
        then { u with mpe := { u.mpe with byes := u.mpe.byes ++ (u.mpe.sessions.filter (fun p => p.2.chan == g)).map (·.1) } } else u))) ∧
  (∀ (k : Fin 16) (hd : RonHdr) (rs : List MediaRec) (s : State), noInjection s → framesHere k hd 2 1 s.dev →
      exec (.media k hd rs) s = .next (ended s (rs.foldl (fun d r => mediaTake r d) (counted k hd 2 s.dev)))) ∧
  (∀ (k : Fin 16) (hd : RonHdr) (r : MediaRec) (q : Channel) (n : Nat) (s : State), noInjection s → framesHere k hd 2 1 s.dev →
      let d := counted k hd 2 s.dev
      let c := r.chan % 65536
      let ssrc := be r.rtp 8 4
      r.kind ≠ 1 → d.chan? c = some q → q.owner = r.chan / 65536 → q.awaits = false → rtpHeader r.rtp = some n →
      (q.jb.ssrc = none ∨ q.jb.ssrc = some ssrc) →
      exec (.media k hd [r]) s = .next (ended s (deliver c r.rtp (r.rtp.drop n) (stampNs r.stamp)
        (d.setChan c { q with jb := { q.jb with ssrc := some ssrc } })))) ∧
  (∀ (k : Fin 16) (hd : RonHdr) (g : Nat) (w : Word) (rec o : Octets) (s : State), noInjection s → framesHere k hd 3 1 s.dev →
      let d := counted k hd 3 s.dev
      (d.role = 3 ∨ d.ron.takeover.isSome = true) → d.activeManager = false →
      let u := dossierStage g w.toNat rec o d
      exec (.dossier k hd g w rec o) s =
        .next (ended s { u with ron := { u.ron with got := g :: u.ron.got.filter (· != g) } })) ∧
  (∀ (k : Fin 16) (hd : RonHdr) (g r : Nat) (w : Word) (rec o : Octets) (s : State), noInjection s → framesHere k hd 3 1 s.dev →
      let d := recordNote rec (counted k hd 3 s.dev)
      (counted k hd 3 s.dev).activeManager = true → reserveHid d = some r →
      let h := if hd.src.val = r then g / 65536 else r
      h ≠ d.hid →
      exec (.dossier k hd g w rec o) s = .next (ended s (ronSendTo h 3 1 g (toBe 4 w.toNat ++ rec ++ o) d))) ∧
  (∀ (k : Fin 16) (hd : RonHdr) (rec : Octets) (s : State), noInjection s → framesHere k hd 3 2 s.dev → rec.length = 80 →
      let d := counted k hd 3 s.dev
      let g := le rec 0 4 % 2 ^ 20
      (d.role = 1 → d.ron.active = false → d.ron.takeover = none →
        exec (.catalogue k hd rec) s = .next (ended s { d with ron := { d.ron with
          catalogue := if oct rec 66 = 0 then kvDel d.ron.catalogue g else kvSet d.ron.catalogue g rec } })) ∧
      (d.activeManager = false → (d.role = 3 ∨ d.ron.takeover.isSome = true) →
        exec (.catalogue k hd rec) s = .next (ended s { d with ron := { d.ron with stagedRecords := kvSet d.ron.stagedRecords g rec } }))) ∧
  (∀ (k : Fin 16) (hd : RonHdr) (es : List Octets) (s : State), noInjection s → framesHere k hd 4 1 s.dev →
      let d := counted k hd 4 s.dev
      exec (.ledgerFrame k hd es) s = .next (ended s (if d.role = 1 then es.foldl (fun d e => pushEvent (entryEvent e) d) d else d))) ∧
  (∀ (k : Fin 16) (hd : RonHdr) (aux : Word) (o : Octets) (s : State), noInjection s → framesHere k hd 5 1 s.dev →
      let d := counted k hd 5 s.dev
      let all := (kvGet d.ron.pieces k).getD [] ++ o
      (bit aux 30 = false → bit aux 31 = false →
        exec (.folioFrame k hd aux o) s = .next (ended s { d with ron := { d.ron with pieces := kvSet d.ron.pieces k all } })) ∧
      (bit aux 30 = false → bit aux 31 = true →
        exec (.folioFrame k hd aux o) s = .next (ended s (blockArrived all { d with ron := { d.ron with pieces := kvDel d.ron.pieces k } }))) ∧
      (bit aux 30 = true → exec (.folioFrame k hd aux o) s = .next (ended s (stageArrives (fld aux 0 16) (bit aux 31) o d)))) ∧
  (∀ (k : Fin 16) (s : State), noInjection s → (ronState s.dev k = 3 ∨ ronState s.dev k = 4) →
      let l := s.dev.rl k
      let d := ((s.dev.bump (Reg.ronLaneCrcErr k)).bump (Reg.ronLaneDrop k)).setRl k { l with badRun := l.badRun + 1 }
      exec (.ronongFrameDrop k .crc) s = .next (ended s (if 64 ≤ l.badRun + 1 ∧ ronState d k = 4 then ronDown k true d else d))) ∧
  (∀ (k : Fin 16) (s : State), noInjection s → (ronState s.dev k = 3 ∨ ronState s.dev k = 4) → s.dev.rbit (Reg.ronLaneStatus k) 3 = true →
      let d := (s.dev.bump (Reg.ronLaneAuthFail k)).setRl k { s.dev.rl k with badRun := 0 }
      let z := d.oncePer 0x3A5 d.now.sec
      exec (.ronongFrameDrop k .tag) s = .next (ended s (if z.1 then occur 0x3A5 {} z.2 else z.2))) ∧
  (∀ (k : Fin 16) (s : State), noInjection s → ronState s.dev k = 4 → s.dev.rbit Reg.ronCfg 1 = true →
      exec (.ronongFrameDrop k .clear) s =
        .next (ended s ((s.dev.bump (Reg.ronLaneDrop k)).setRl k { s.dev.rl k with badRun := 0 }))) ∧
  (∀ (k : Fin 16) (w : RonDrop) (s : State), noInjection s → (ronState s.dev k = 3 ∨ ronState s.dev k = 4) →
      (w = .length ∨ w = .dst ∨ w = .vl ∨ w = .type) →
      exec (.ronongFrameDrop k w) s =
        .next (ended s ((s.dev.bump (Reg.ronLaneDrop k)).setRl k { s.dev.rl k with badRun := 0 })))

/-- TAKEOVER frames (R451, R454, R456): the reserve told of a takeover begins the restore and, while it hands a device back, keeps the next in turn;
told of a hand-back, the reserve keeps its tick and rotates the channels of the device, which keeps it too; and a device told that it is taken over
fences itself. Takeovers of devices (R451 to R458): a lost worker is taken over, a batch of staged dossiers is stored, de-duplication ends two
seconds after S, a hand-back and a switch-over are asked for by the active manager, and a standby that has lost the active manager takes over with a
quorum and records a split lane without. -/
def Obligations.TakeoversRunTheirCourse : Prop :=
  (∀ (k : Fin 16) (hd : RonHdr) (h : Fin 16) (s : State) (n : Nat), noInjection s → framesHere k hd 1 6 s.dev →
      let d := ackSend hd 6 (counted k hd 1 s.dev)
      d.role = 3 →
      (d.ron.takeover = none → exec (.takeover k hd h n) s = .next (ended s (restoreBegin h d))) ∧
      (∀ t : Takeover, d.ron.takeover = some t → t.handback.isSome = true →
        exec (.takeover k hd h n) s = .next (ended s { d with ron := { d.ron with queued := d.ron.queued ++ [h.val] } }))) ∧
  (∀ (k : Fin 16) (hd : RonHdr) (h : Fin 16) (s : State) (n : Nat) (t : Takeover), noInjection s → framesHere k hd 1 6 s.dev →
      let d := ackSend hd 6 (counted k hd 1 s.dev)
      d.role = 3 → d.ron.takeover = some t → t.hid = h →
      let u : Dev := { d with chans := d.chans.map (fun (p : Nat × Channel) =>
        (p.1, if p.2.owner = h then { p.2 with rotateDue := true } else p.2)) }
      exec (.handBack k hd h n) s =
        .next (ended s (setRes 4 h { u with ron := { u.ron with takeover := some { t with handback := some (u.target n) } } }))) ∧
  (∀ (k : Fin 16) (hd : RonHdr) (h : Fin 16) (s : State) (n : Nat), noInjection s → framesHere k hd 1 6 s.dev →
      let d := ackSend hd 6 (counted k hd 1 s.dev)
      d.role ≠ 3 → h.val = d.hid →
      exec (.handBack k hd h n) s = .next (ended s { d with ron := { d.ron with takeover := some ⟨h, none, true, some (d.target n)⟩ } })) ∧
  (∀ (k : Fin 16) (hd : RonHdr) (h : Fin 16) (s : State), noInjection s → framesHere k hd 1 6 s.dev →
      let d := counted k hd 1 s.dev
      exec (.fence k hd h) s = .next (ended s (if h.val = d.hid then gduEnWrite false { d with ron := { d.ron with fenced := true } } else d))) ∧
  (∀ (h : Fin 16) (s : State) (d : PlanDev), noInjection s → s.dev.activeManager = true → h.val ≠ s.dev.hid → (s.dev.rl h).lost = true →
      s.dev.rbit (Reg.ronAlias h) 9 = false → s.dev.rfld (Reg.ronAlias h) 0 4 = h →
      let u := standbyWait (s.dev.rl h).lostAt s.dev
      (planOthers u).find? (fun d => d.hid == h.val) = some d →
      exec (.workerTakeover h) s = .next (ended s
        (if standbyHears (s.dev.rl h).lostAt h u = true ∧ u.rbit Reg.ronCfg 2 = true ∧ d.role ≠ 1
         then detourLive (u.setBit (Reg.ronAlias h) 8 true)
         else if d.role = 2 then takeDevice h u else detourLive (u.setBit (Reg.ronAlias h) 8 false)))) ∧
  (∀ (s : State), noInjection s → s.dev.ron.stagedDossiers = [] → s.dev.ron.stagedRecords = [] →
      exec .dossierBatchWrite s = .next (ended s s.dev)) ∧
  (∀ (s : State) (g : Nat) (r : Octets), noInjection s → s.dev.ron.stagedDossiers = [] → s.dev.ron.stagedRecords = [(g, r)] →
      s.dev.role = 3 → s.dev.spare = false → s.dev.clState (nfld (le r 0 4) 20 8 / 16) = 2 → nfld (le r 0 4) 20 8 / 16 < 16 →
      exec .dossierBatchWrite s =
        .next (ended s (writeStaged (fun x => (s.dev.elapse 1000).clState ((if x = g then nfld (le r 0 4) 20 8 else storeTile s.dev x) / 16) != 0)
          (s.dev.elapse 1000)))) ∧
  (∀ (h : Fin 16) (t : Nat) (s : State), noInjection s → kvGet s.dev.ron.dedup h = some (t + 1) →
      let d := s.dev.elapseTo (t + 1 + 1000000000)
      exec (.dedupEnd h) s = .next (ended s { d with ron := { d.ron with dedup := kvDel d.ron.dedup h } })) ∧
  (∀ (by_ : Requester) (s : State), noInjection s → accepts by_ Reg.ronCtrl s → s.dev.activeManager = true → s.dev.ron.switchAt = none →
      s.dev.ron.takeover = none → (otherManager s.dev).isSome = true →
      exec (.switchover by_) s = .next (ended s (ctrlStatus 0 { s.dev with ron := { s.dev.ron with
        switchAt := some (s.dev.time.ticks + 2) } }))) ∧
  (∀ (by_ : Requester) (h : Fin 16) (s : State) (r : Nat), noInjection s → accepts by_ Reg.ronCtrl s → s.dev.activeManager = true →
      reserveHid s.dev = some r → s.dev.rfld (Reg.ronAlias h) 0 4 = r → h.val ≠ r → s.dev.ron.switchAt = none →
      (∀ t ∈ s.dev.ron.takeover, t.handback = none ∧ t.hid = h) →
      (h.val = s.dev.hid ∨ ((directLane s.dev h).isSome = true ∧
        ∀ j ∈ otherManager s.dev, ∃ m ∈ (s.dev.rl j).peer, m.heard.toNat.testBit h = true)) →
      let n := s.dev.tickNow + 81
      let d := ronSendTo r 1 6 0 (takeoverOctets h 1 n) { s.dev with ron := { s.dev.ron with
        takeover := some ⟨h, none, h.val == s.dev.hid, some (s.dev.target n)⟩ } }
      exec (.handback by_ h) s = .next (ended s (ctrlStatus 0 (if h.val = d.hid then d else ronSendTo h 1 6 0 (takeoverOctets h 1 n) d)))) ∧
  (∀ (s : State) (t : Nat), noInjection s → s.dev.role = 1 → s.dev.ron.active = false → s.dev.ron.plan.isSome = true →
      s.dev.ron.fenced = false → peerLostAt s.dev = some t → quorum t s.dev = true →
      let old := s.dev.ron.activeHid
      let u : Dev := { s.dev with ron := { s.dev.ron with active := true, activeHid := s.dev.hid, inherited := true } }
      let v := announce (guardApply (occur 0x3A2 {} (u.setFld Reg.ronStatus 2 2 1)))
      exec .managerTakeover s = .next (ended s (setServo 3 [] (if old ≠ v.hid then takeDevice old v else v)))) ∧
  (∀ (s : State) (t : Nat), noInjection s → s.dev.role = 1 → s.dev.ron.active = false → peerLostAt s.dev = some t →
      quorum t s.dev = false → exec .splitLane s = .next (ended s (occur 0x3AB {} s.dev)))

/-- The PCIe endpoint (R470, R471): a link-down and a function-level reset are recorded and reset the endpoint, a failed fetch stops its ring, and
any other failed read is recorded, and that of a host boot's image ends the pull as failed. -/
def Obligations.PcieEndpointIsResetAndStops : Prop :=
  (∀ s : State, noInjection s → s.dev.domainOn 24 = true → exec .pcieLinkDown s = .next (ended s (endpointReset (occur 0x0C9 {} s.dev)))) ∧
  (∀ s : State, noInjection s → s.dev.domainOn 24 = true → exec .functionLevelReset s = .next (ended s (endpointReset (occur 0x0CC {} s.dev)))) ∧
  (∀ (ch : Fin 16) (s : State), noInjection s → s.dev.domainOn 24 = true → 1 ≤ ch.val → ch.val ≤ 4 → s.dev.rbit (Reg.pciCrCtrl (ch - 1)) 0 = true →
      exec (.dmaReadError ch) s = .next (ended s (occur 0x0CB {} (s.dev.setBit (Reg.pciCrStatus (ch - 1)) 0 true)))) ∧
  (∀ (ch : Fin 16) (s : State), noInjection s → s.dev.domainOn 24 = true →
      (ch.val = 0 ∧ ¬ (s.dev.phase = 5 ∧ s.dev.boot.pulling = true)) ∨ (9 ≤ ch.val ∧ ch.val ≤ 11) →
      exec (.dmaReadError ch) s = .next (ended s (occur 0x0CB {} s.dev))) ∧
  (∀ (ch : Fin 16) (s : State), noInjection s → s.dev.domainOn 24 = true → ch.val = 0 → s.dev.phase = 5 → s.dev.boot.pulling = true →
      exec (.dmaReadError ch) s = .next (ended s (hostPullDone none s.dev)))

/-- The Night Desk's port (R473 to R475): a poll that finds no link takes the port down and one that finds it sets its speed and duplex, a missing
reference takes it down and is recorded, a collision jams and backs off by a drawn time within its bound, and the back-off and the deferral end. The
Night Desk takes requests and answers them (R477 to R480, R504): the oldest frame of its port is taken; a well-formed request within its rate and
its queue is admitted and counted, a wrong tag and a stale SEQ being counted and the one recorded, the other answered; the functions that read
answer OK with their bodies, and BAD_LENGTH where they are given one; and a reserved opcode is answered BAD_OPCODE. -/
def Obligations.NightDeskAnswersRequests : Prop :=
  (∀ (f h : Bool) (s : State), noInjection s → s.dev.phase ≠ 0 →
      exec (.phyPoll false f h) s =
        .next (ended s (nightLinkDown (s.dev.setBit Reg.ndkStatus 9 (!s.dev.rbit (Reg.srcStatus 0x0D1) 0))))) ∧
  (∀ (f h : Bool) (s : State), noInjection s → s.dev.phase ≠ 0 →
      let mode := s.dev.rfld Reg.ndkMode 0 2
      let d := s.dev.setBit Reg.ndkStatus 9 (!s.dev.rbit (Reg.srcStatus 0x0D1) 0)
      let on (b : Bool) : Bool := mode == 1 || (mode == 2 && b)
      nightPort d = true →
      exec (.phyPoll true f h) s =
        .next (ended s (((d.setBit Reg.ndkStatus 1 (on f)).setBit Reg.ndkStatus 2 (on h)).setBit Reg.ndkStatus 0 true))) ∧
  (∀ s : State, noInjection s → s.dev.phase ≠ 0 → s.dev.rfld Reg.ndkMode 0 2 ≠ 0 →
      exec .rmiiReferenceMissing s = .next (ended s (occur 0x0D1 {} (nightLinkDown (s.dev.setBit Reg.ndkStatus 9 false))))) ∧
  (∀ (n : Nat) (s : State), noInjection s → nightHalf s.dev = true → s.dev.rbit Reg.ndkCfg 0 = true → s.dev.night.mac.tx ≠ [] →
      s.dev.night.defer = none → s.dev.night.backoff = none →
      let u := s.dev.bump64 Reg.ndkCollisions
      let d : Dev := { u with night := { u.night with defer := some (u.cycles + bitCycles u 128) } }
      let a := d.night.attempts + 1
      (512 < n → exec (.collision n) s = .next (ended s (nightDropHead (d.bump64 Reg.ndkLateColl)))) ∧
      (n ≤ 512 → 16 ≤ a → exec (.collision n) s = .next (ended s (nightDropHead (d.bump64 Reg.ndkExcessColl)))) ∧
      (n ≤ 512 → a < 16 → ∃ r m : Nat, r < 2 ^ min a 10 ∧
        let v : Dev := { d with free := m }
        exec (.collision n) s = .next (ended s { v with
          night := { v.night with attempts := a, backoff := some (v.cycles + bitCycles v (32 + 512 * r)) } }))) ∧
  (∀ (t : Nat) (s : State), noInjection s → s.dev.night.backoff = some t →
      let d := s.dev.elapseTo t
      exec .backoffExpiry s = .next (ended s { d with night := { d.night with backoff := none } })) ∧
  (∀ (t : Nat) (s : State), noInjection s → s.dev.night.defer = some t →
      let d := s.dev.elapseTo t
      let waits : Bool := !d.night.mac.tx.isEmpty
      let u := if waits = true ∧ d.night.deferred = false then d.bump64 Reg.ndkDeferred else d
      exec .deferEnd s = .next (ended s { u with night := { u.night with defer := none, deferred := u.night.deferred || waits } })) ∧
  (∀ (s : State) (h : RxHeld) (r : List RxHeld), noInjection s → nightPort s.dev = true → s.dev.night.mac.rx = h :: r →
      exec .ndDatagram s = .next (ended s (nightTake h.octets
        (watermarks 8 { s.dev with night := { s.dev.night with mac := { s.dev.night.mac with rx := r } } })))) ∧
  (∀ (p : NdPeer) (o : Octets) (q : NdReq) (s : Dev), nightRequest p o = some q →
      let d := fastOscRun s
      let sec := d.cycles / 500000000
      let n := if d.night.sec = sec then d.night.count else 0
      let u : Dev := { d with night := { d.night with sec := sec, count := n + 1 } }
      (nightRate d ≤ n ∨ 5 ≤ d.night.queue.length → nightDatagram p o s = d.bump64 Reg.ndkRateDrop) ∧
      (n < nightRate d → d.night.queue.length < 5 → (q.auth = false ∨ d.night.recordLost = true) → nightDatagram p o s = nightAdmit q u) ∧
      (n < nightRate d → d.night.queue.length < 5 → q.auth = true → d.night.recordLost = false →
        (∀ k : Octets, nightKey u = some k → nightTagOk k o = false) →
        let v := u.bump64 Reg.ndkAuthFail
        let z := v.oncePer 0x0D2 (v.cycles / 500000000)
        nightDatagram p o s = if z.1 then occur 0x0D2 {} z.2 else z.2) ∧
      (∀ k : Octets, n < nightRate d → d.night.queue.length < 5 → q.auth = true → d.night.recordLost = false →
        nightKey u = some k → nightTagOk k o = true →
        nightDatagram p o s =
          if q.bootId ≠ d.night.bootId ∨ d.night.lastSeq.any (fun l => decide (q.seq ≤ l)) = true
          then nightRespond q 3 [] (u.bump64 Reg.ndkStale)
          else nightAdmit q { u with night := { u.night with lastSeq := some q.seq } })) ∧
  (∀ (q : NdReq) (s : State), noInjection s → nightHead s.dev (· == 1) = some q → q.body = [] →
      exec .ndHello s = .next (ended s (nightEnd q 0 (padTo 8 s.dev.night.bootId ++ nightSerial s.dev ++ nightReg s.dev Reg.bootLc ++
        nightReg s.dev Reg.bootStatus ++ [BitVec.ofNat 8 (nightKey s.dev).isSome.toNat]) (fastOscRun s.dev)))) ∧
  (∀ (q : NdReq) (s : State), noInjection s → nightHead s.dev (· == 2) = some q → q.body = [] →
      exec .ndIdentity s = .next (ended s (nightEnd q 0 (nightSerial s.dev ++ nightReg s.dev Reg.bootStrap ++ nightReg s.dev Reg.bootVersion ++
        toBe 4 s.dev.night.cause ++ identityPublic s.fuses) (fastOscRun s.dev)))) ∧
  (∀ (q : NdReq) (s : State), noInjection s → nightHead s.dev (· == 3) = some q → q.body = [] →
      exec .ndPower s = .next (ended s (nightEnd q 0 (nightReg s.dev Reg.pwrDomainOn ++ nightReg s.dev Reg.pwrDomainFail ++
        ((upTo 20).map (fun i => toBe 2 (if s.dev.domainOn (tempDomain i) then s.dev.rfld (Reg.pwrTemp i) 0 16 else 0x8000))).flatten ++
        toBe 2 (s.dev.rfld Reg.pwrAvsTarget 0 16 / 10)) (fastOscRun s.dev)))) ∧
  (∀ (q : NdReq) (s : State), noInjection s → nightHead s.dev (· == 4) = some q → q.body = [] →
      exec .ndFaults s = .next (ended s (nightEnd q 0 (sourceMap (fun n => s.dev.rbit (Reg.srcStatus n) 0) ++
        sourceMap (fun n => s.dev.rbit (Reg.srcStatus n) 1 || s.dev.rbit (Reg.srcStatus n) 2)) (fastOscRun s.dev)))) ∧
  (∀ (q : NdReq) (s : State), noInjection s → nightHead s.dev (· == 5) = some q → q.body = [] →
      exec .ndLastGasp s = .next (ended s (nightEnd q 0 (padTo 256 s.dev.flt.gasp) (fastOscRun s.dev)))) ∧
  (∀ (q : NdReq) (s : State) (i n : Byte) (bad : List Nat), noInjection s → nightHead s.dev (· == 6) = some q → q.body = [i, n] →
      0 < n.toNat → n.toNat ≤ 32 →
      let recs := ((s.dev.flt.log.drop i.toNat).take n.toNat).zipIdx i.toNat
      let d := recs.foldl (fun d p => if bad.contains p.2 then occur 0x01B {} d else d) (fastOscRun s.dev)
      exec (.ndFaultLog bad) s = .next (ended s (nightEnd q 0
        ((recs.map (fun p => if bad.contains p.2 then List.replicate 32 0xFF else p.1)).flatten) d))) ∧
  (∀ (q : NdReq) (c : Instr) (op : Nat) (s : State), noInjection s →
      (op, c) ∈ [(1, Instr.ndHello), (2, Instr.ndIdentity), (3, Instr.ndPower), (4, Instr.ndFaults), (5, Instr.ndLastGasp)] →
      nightHead s.dev (· == op) = some q → q.body ≠ [] → exec c s = .next (ended s (nightEnd q 2 [] s.dev))) ∧
  (∀ (q : NdReq) (s : State), noInjection s → nightHead s.dev (fun op => op == 0 || decide (16 ≤ op)) = some q →
      exec .ndBadOpcode s = .next (ended s (nightEnd q 1 [] s.dev)))

/-- What the Night Desk does (R409, R480 to R483, R60, R539): DOMAIN switches a domain at once, RESET restarts the chip or a domain's blocks, IMAGE_BEGIN
erases a slot and IMAGE_WRITE programs it, BOOT_RETRY leaves phase 9, TIME_STEP asks for a correction, LC_NONCE hands out a nonce, and SELF_TEST
starts a test; the actions of R483 are recorded; after a thermal shutdown what needs BOOT finds it off (R528). -/
def Obligations.NightDeskActs : Prop :=
  (∀ (q : NdReq) (s : State) (d : Byte), noInjection s → nightHead s.dev (· == 7) = some q → q.body = [d, 1] → 1 ≤ d.toNat → d.toNat ≤ 29 →
      exec .ndDomain s = .next (ended s (nightEnd q 0 [] (domainForce d.toNat (nightAction 7 s.dev))))) ∧
  (∀ (q : NdReq) (s : State) (d : Byte), noInjection s → nightHead s.dev (· == 7) = some q → q.body = [d, 0] → 1 ≤ d.toNat → d.toNat ≤ 29 →
      exec .ndDomain s = .next (ended s (nightEnd q 0 [] (domainCut d.toNat (nightAction 7 s.dev))))) ∧
  (∀ (q : NdReq) (s : State) (d : Byte), noInjection s → nightHead s.dev (· == 8) = some q → q.body = [d] → 1 ≤ d.toNat → d.toNat ≤ 29 →
      exec .ndReset s = .next (ended s (nightEnd q 0 [] (domainReset d.toNat (nightAction 8 s.dev))))) ∧
  (∀ (q : NdReq) (s : State), noInjection s → nightHead s.dev (· == 8) = some q → q.body = [0] →
      let d := nightAction 8 s.dev
      let u := warmReset 3 s.fuses (nightEnd q 0 [] d)
      ((∀ t : Nat, d.boot.resetAt = some t → d.cycles < t) → exec .ndReset s = .next (ended s u)) ∧
      (∀ t : Nat, d.boot.resetAt = some t → t ≤ d.cycles → exec .ndReset s = .next (ended s (causeBit 4 u)))) ∧
  (∀ (q : NdReq) (s : State) (b : Byte), noInjection s → nightHead s.dev (· == 9) = some q → s.dev.pwr.shutdown = false → q.body = [b] → b.toNat ≤ 1 →
      slotRead s.dev b.toNat = false → slotOwned s.dev b.toNat true = false →
      let d := slotOwn b.toNat true (nightAction 9 s.dev)
      flashPresent d = true →
      let e := d.emit (.erase b.toNat)
      exec (.ndImageBegin true) s = .next (ended s (nightEnd q 0 []
        { e with boot := { e.boot with erased := ⟨b.toNat, []⟩ :: e.boot.erased.filter (fun x => x.slot != b.toNat) } }))) ∧
  (∀ (q : NdReq) (s : State) (b : Byte), noInjection s → nightHead s.dev (· == 9) = some q → s.dev.pwr.shutdown = false → q.body = [b] → b.toNat ≤ 1 →
      (slotRead s.dev b.toNat = true ∨ slotOwned s.dev b.toNat true = true) →
      ∀ ok : Bool, exec (.ndImageBegin ok) s = .next (ended s (nightEnd q 5 [] s.dev))) ∧
  (∀ (q : NdReq) (s : State) (b : Byte) (ok : Bool), noInjection s → nightHead s.dev (· == 9) = some q → s.dev.pwr.shutdown = false → q.body = [b] → b.toNat ≤ 1 →
      slotRead s.dev b.toNat = false → slotOwned s.dev b.toNat true = false →
      let d := slotOwn b.toNat true (nightAction 9 s.dev)
      (flashPresent d = false ∨ ok = false) → exec (.ndImageBegin ok) s = .next (ended s (nightEnd q 8 [] d))) ∧
  (∀ (q : NdReq) (s : State), noInjection s → nightHead s.dev (· == 10) = some q → s.dev.pwr.shutdown = false →
      let slot := oct q.body 0
      let off := be q.body 1 4
      let n := be q.body 5 4
      slot ≤ 1 → 0 < n → n ≤ 1024 → q.body.length = 9 + n → off % 4 = 0 → slotErased s.dev slot off n = true →
      slotRead s.dev slot = false → slotOwned s.dev slot true = false →
      let d := slotOwn slot true (nightAction 10 s.dev)
      (flashPresent d = true →
        exec (.ndImageWrite true) s = .next (ended s (nightEnd q 0 (toBe 4 n) (slotProgram slot off (q.body.drop 9) d)))) ∧
      (exec (.ndImageWrite false) s = .next (ended s (nightEnd q 8 [] d)))) ∧
  (∀ (q : NdReq) (s : State), noInjection s → nightHead s.dev (· == 11) = some q → s.dev.pwr.shutdown = false → q.body = [] → s.dev.phase = 9 →
      exec .ndBootRetry s = .next (ended s (bootRetry (nightEnd q 0 [] (fastOscRun s.dev))))) ∧
  (∀ (q : NdReq) (s : State), noInjection s → nightHead s.dev (· == 11) = some q → s.dev.pwr.shutdown = false → q.body = [] → s.dev.phase ≠ 9 →
      exec .ndBootRetry s = .next (ended s (nightEnd q 7 [0] s.dev))) ∧
  (∀ (q : NdReq) (c : Instr) (op : Nat) (s : State), noInjection s → (op, c) ∈ [(11, Instr.ndBootRetry), (13, Instr.ndLcNonce)] →
      nightHead s.dev (· == op) = some q → q.body = [] → s.dev.pwr.shutdown = true →
      exec c s = .next (ended s (nightEnd q 6 [] s.dev))) ∧
  (∀ (q : NdReq) (s : State), noInjection s → nightHead s.dev (· == 12) = some q → q.body.length = 9 → oct q.body 8 ≤ 1 →
      s.dev.domainOn 26 = true → s.dev.domainOn 25 = true →
      let r := correct (signed 64 (be q.body 0 8)) (oct q.body 8 == 1) 2 (fastOscRun s.dev)
      exec .ndTimeStep s = .next (ended s (nightEnd q (if r.1 ≤ 1 then 0 else 7) [BitVec.ofNat 8 r.1] r.2))) ∧
  (∀ (q : NdReq) (s : State), noInjection s → nightHead s.dev (· == 13) = some q → s.dev.pwr.shutdown = false → q.body = [] →
      ∃ (o : Octets) (n : Nat), o.length = 16 ∧ exec .ndLcNonce s = .next (ended s (nightEnd q 0 o
        (fastOscRun { s.dev with free := n, boot := { s.dev.boot with nonce := some o } })))) ∧
  (∀ (q : NdReq) (m : TestMeasure) (s : State), noInjection s → nightHead s.dev (· == 15) = some q → q.body.length = 28 →
      let p := padTo 48 q.body
      testParamsOk p = true → (testDomains ⟨oct p 0, oct p 1⟩).all s.dev.domainOn = true → testAsk p s.dev = .ok →
      let d := testBegin p m none true (fastOscRun s.dev)
      exec (.ndSelfTest m) s = .next (ended s { d with night := { d.night with testing := true } })) ∧
  (∀ (q : NdReq) (m : TestMeasure) (s : State) (c : Nat), noInjection s → nightHead s.dev (· == 15) = some q → q.body.length = 28 →
      let p := padTo 48 q.body
      testParamsOk p = true → (testDomains ⟨oct p 0, oct p 1⟩).all s.dev.domainOn = true → testAsk p s.dev = .refused c →
      exec (.ndSelfTest m) s = .next (ended s (nightEnd q 7 [BitVec.ofNat 8 c] s.dev)))

/-- The fault collector (R488 to R496, R502, R506, R510): an occurrence is recorded, the end of a live condition too, an injection waits for the next cycle
where FORCE_EN lets it, CLEAR zeroes COUNT, FIRST and LAST, LOCK locks the masks, a trap unanswered for 1 ms, the watchdog and a control SRAM
line that fails are occurrences of their sources. -/
def Obligations.OccurrencesAreCollected : Prop :=
  (∀ (n : Fin 1024) (o : OccData) (s : State), noInjection s → sourceSensed n.val s.dev = true →
      (hasLive n.val && s.dev.rbit (Reg.srcStatus n.val) 0) = false →
      let d := occur n.val o (if n.val = 0x011 then s.dev.setBit Reg.fltStatus 2 true else s.dev)
      let u := match sourceCounter n.val with | some a => d.bump a | none => d
      exec (.faultOccurrence n o) s = .next (ended s
        (if 0x200 ≤ n.val ∧ n.val < 0x300 ∧ n.val % 16 = 4
         then (if u.spare then clusterTakeover ((n.val - 0x200) / 16) u else clusterFault ((n.val - 0x200) / 16) u) else u))) ∧
  (∀ (n : Fin 1024) (o : OccData) (s : State), noInjection s → hasLive n.val = true → s.dev.rbit (Reg.srcStatus n.val) 0 = true →
      exec (.faultOccurrence n o) s = .next (ended s s.dev)) ∧
  (∀ (n : Fin 1024) (s : State), noInjection s → sourceSensed n.val s.dev = true →
      exec (.faultClear n) s = .next (ended s (faultEnd n.val [] s.dev))) ∧
  (∀ (by_ : Requester) (n : Fin 1024) (s : State), noInjection s → accepts by_ (Reg.srcCtrl n.val) s → (sourceMask n.val).isSome = true →
      s.dev.rbit Reg.fltCfg 2 = true →
      exec (.force by_ n) s = .next (ended s { s.dev with flt := { s.dev.flt with forced := [n.val] } })) ∧
  (∀ (by_ : Requester) (n : Fin 1024) (s : State), noInjection s → accepts by_ (Reg.srcCtrl n.val) s → (sourceMask n.val).isSome = true →
      s.dev.rbit Reg.fltCfg 2 = false → exec (.force by_ n) s = .next (ended s (s.dev.bump Reg.fltForceRefused))) ∧
  (∀ (by_ : Requester) (n : Fin 1024) (s : State), noInjection s → accepts by_ (Reg.srcStatus n.val) s →
      exec (.clear by_ n) s = .next (ended s ([Reg.srcFirstNs n.val, Reg.srcFirstSecLo n.val, Reg.srcFirstSecHi n.val, Reg.srcLastNs n.val,
        Reg.srcLastSecLo n.val, Reg.srcLastSecHi n.val].foldl (fun d a => d.setNat a 0) (s.dev.setFld (Reg.srcStatus n.val) 8 8 0)))) ∧
  (∀ (by_ : Requester) (s : State), noInjection s → accepts by_ Reg.fltCfg s →
      exec (.lock by_) s = .next (ended s (s.dev.setBit Reg.fltCfg 3 true))) ∧
  (∀ (n : Fin 1024) (t : Nat) (s : State), noInjection s → kvGet s.dev.flt.trapSince n.val = some t → n.val ≠ 0x0C3 → s.dev.domainOn 25 = true →
      let d := s.dev.elapseTo (t + 500000)
      exec (.trapNotAnswered n) s = .next (ended s (occur 0x0C3 {}
        { d with flt := { d.flt with trapSince := kvDel d.flt.trapSince n.val } }))) ∧
  (∀ s : State, noInjection s → s.dev.domainOn 25 = true → s.dev.rbit Reg.ctlStatus 1 = true →
      exec .firmwareWatchdog s = .next (ended s (occur 0x0C0 {} s.dev))) ∧
  (∀ s : State, noInjection s → s.dev.domainOn 25 = true → s.dev.rbit Reg.ctlStatus 0 = true →
      exec (.controlSramParity true) s = .next (ended s (occur 0x0C1 {} (s.dev.bump Reg.ctlSramRepair))) ∧
      exec (.controlSramParity false) s = .next (ended s (occur 0x0C2 {} (s.dev.setBit Reg.ctlStatus 2 false))))

/-- The error pair and the other outputs (R499 to R501, R570): PAIR_CLEAR lets go of a latched fault and shows it on the pins, a kick starts the
heartbeat anew, a half of it flips the pair or holds it, and a pin that reads back wrong is released and recorded. -/
def Obligations.OutputsShowAndRelease : Prop :=
  (∀ (by_ : Requester) (s : State), noInjection s → accepts by_ Reg.fltPairClear s →
      (∀ n < 1024, s.dev.rbit (Reg.srcStatus n) 0 = true → (maskOf s.dev n).testBit 4 = false) →
      let d := s.dev.setBit Reg.fltStatus 0 false
      exec (.pairClear by_) s = .next (ended s
        (if s.dev.rbit Reg.fltStatus 0 then pairDrive true { d with flt := { d.flt with pairFlip := false } } else s.dev))) ∧
  (∀ (by_ : Requester) (n : Nat) (s : State), noInjection s → accepts by_ Reg.fltPairClear s → n < 1024 → s.dev.rbit (Reg.srcStatus n) 0 = true →
      (maskOf s.dev n).testBit 4 = true → exec (.pairClear by_) s = .next (ended s s.dev)) ∧
  (∀ (by_ : Requester) (s : State), noInjection s → accepts by_ Reg.fltHbKick s →
      exec (.fltHbKick by_) s = .next (ended s (pairShow { s.dev with flt := { s.dev.flt with kickAt := some s.dev.cycles } }))) ∧
  (∀ s : State, noInjection s → s.dev.phase ≠ 0 → s.dev.rbit Reg.fltCfg 1 = true → s.dev.rbit Reg.fltStatus 0 = false →
      let flip : Bool := heartbeatRuns s.dev && !s.dev.flt.pairFlip
      exec .pairHeartbeatHalf s =
        .next (ended s (pairShow (pairDrive (!flip) { s.dev with flt := { s.dev.flt with pairFlip := flip } })))) ∧
  (∀ s : State, noInjection s → s.dev.phase ≠ 0 → s.dev.rbit Reg.fltStatus 2 = false →
      exec .pairReadbackMismatch s = .next (ended s (occur 0x011 {} (s.dev.setBit Reg.fltStatus 2 true)))) ∧
  (∀ (p : OutPin) (s : State), noInjection s → s.dev.phase ≠ 0 → s.dev.shorts.contains p = false →
      exec (.outputShort p) s = .next (ended s (occur 0x028 {} { s.dev with shorts := p :: s.dev.shorts })))

/-- Domains and clocks (R511, R515 to R518, R521): DOMAIN_EN is taken bit by bit from the lowest, a drain that lasts 1 ms is cut off and counted, a
waking domain comes up, CLKSEL relocks in phase 9 alone, the references are followed, the PLL that loses its reference unlocks, the fast oscillator
stops, and a droop halves its domain's clock until its hold ends. -/
def Obligations.DomainsAndClocksSwitch : Prop :=
  (∀ (by_ : Requester) (v : Word) (s : State), noInjection s → accepts by_ Reg.pwrDomainEn s →
      let r := (upTo 30).foldl (fun (p : Bool × Dev) d => (p.1 || (domainBit (some by_) d (bit v d) p.2).1, (domainBit (some by_) d (bit v d) p.2).2)) (false, s.dev)
      exec (.domainEnWrite by_ v) s = .next (ended s (fastOscRun (r.2.setBit Reg.pwrDomainEn 30 r.1)))) ∧
  (∀ (d : Fin 30) (t : Nat) (s : State), noInjection s → kvGet s.dev.pwr.draining d.val = some t →
      let u := s.dev.elapseTo (t + 500000)
      exec (.drainTimeout d) s = .next (ended s (domainDown d.val (if domainIdle u d.val then u else u.bump Reg.pwrDrainTimeout)))) ∧
  (∀ (d : Fin 30) (t : Nat) (s : State), noInjection s → kvGet s.dev.pwr.waking d.val = some t →
      exec (.domainWakeDone d) s = .next (ended s (domainUp d.val (s.dev.elapseTo t)))) ∧
  (∀ (by_ : Requester) (v : Word) (s : State), noInjection s → accepts by_ Reg.pwrClksel s →
      let lost : Prop := s.dev.phase = 9 ∧ s.dev.pwr.shutdown = false ∧ s.dev.rbit (Reg.srcStatus (if s.dev.rbit Reg.pwrClksel 0 then 0x002 else 0x001)) 0 = true
      (lost → exec (.clkselWrite by_ v) s = .next (ended s (bootRetry
        (((s.dev.setBit Reg.pwrClksel 0 (bit v 0)).setBit Reg.pwrClksel 3 true).setBit Reg.pwrClksel 5
          (!s.dev.rbit Reg.pwrClksel (if bit v 0 then 2 else 1)))))) ∧
      (¬ lost → exec (.clkselWrite by_ v) s = .next (ended s (s.dev.bump Reg.pwrOffWr)))) ∧
  (∀ (a b : Bool) (s : State), noInjection s → s.dev.boot.porstLow = false →
      exec (.referenceCheck a b) s = .next (ended s (follow 0x002 (!b) {}
        ((follow 0x001 (!a) {} (s.dev.setBit Reg.pwrClksel 1 a)).setBit Reg.pwrClksel 2 b)))) ∧
  (∀ s : State, noInjection s → s.dev.boot.porstLow = false → s.dev.rbit Reg.pwrClksel 3 = true → s.dev.rbit Reg.pwrClksel 5 = false →
      exec .pllLockLoss s = .next (ended s (occur 0x003 {} (s.dev.setBit Reg.pwrClksel 3 false)))) ∧
  (∀ (t : Nat) (s : State), noInjection s → s.dev.pwr.fastOsc = some t →
      let d := s.dev.elapseTo (t + 500000)
      exec .aonFastOscillatorStop s = .next (ended s { d with pwr := { d.pwr with fastOsc := none } })) ∧
  (∀ (k : Fin 72) (s : State), noInjection s →
      let n := droopDomain k.val
      s.dev.domainOn n = true →
      let d := s.dev.bump (if k.val < 64 then Reg.pwrClDroop (k.val / 4) else Reg.pwrDroopOther)
      let u : Dev := { d with pwr := { d.pwr with
        firings := kvSet d.pwr.firings n ((kvGet d.pwr.firings n).getD 0 + 1), droopAt := some d.cycles,
        halted := kvSet d.pwr.halted n (d.cycles + 5 * profByte d 2) } }
      exec (.droopFire k) s = .next (ended s (if 1 ≤ n ∧ n ≤ 16 then halvedShow (n - 1) u else u))) ∧
  (∀ (n : Fin 30) (t : Nat) (s : State), noInjection s → kvGet s.dev.pwr.halted n.val = some t →
      let d := s.dev.elapseTo t
      let u : Dev := { d with pwr := { d.pwr with halted := kvDel d.pwr.halted n.val } }
      exec (.droopHoldEnd n) s = .next (ended s (if 1 ≤ n.val ∧ n.val ≤ 16 then halvedShow (n.val - 1) u else u)))

/-- Supply and heat (R523 to R528): the AVS loop moves the target by the least slack within its limits and its third unanswered run freezes it,
telemetry shows what it reads and 0xFFFF after three misses, a rail outside its window is recorded, the sensors are read and judged, and hot clusters
lower their clocks and cool ones raise them. -/
def Obligations.SupplyAndHeatAreManaged : Prop :=
  (∀ (l : List Int) (s : State), noInjection s → s.dev.boot.porstLow = false → s.dev.pwr.shutdown = false →
      let v := slackVotes l s.dev
      let d := slackHalving v (fastOscRun s.dev)
      let e : Dev := { d with pwr := { d.pwr with avsMiss := 0 } }
      exec (.avsRun l true) s = .next (ended s (if e.pwr.frozen = true ∨ e.rbit Reg.pwrAvsCtrl 0 = false then e else avsMove (avsStep v e) e))) ∧
  (∀ (l : List Int) (s : State), noInjection s → s.dev.boot.porstLow = false → s.dev.pwr.shutdown = false →
      let d := slackHalving (slackVotes l s.dev) (fastOscRun s.dev)
      let n := d.pwr.avsMiss + 1
      let e : Dev := { d with pwr := { d.pwr with avsMiss := n, frozen := d.pwr.frozen || decide (3 ≤ n) } }
      exec (.avsRun l false) s = .next (ended s (if n = 3 then occur 0x00C {} e else e))) ∧
  (∀ (v i : Nat) (s : State), noInjection s → s.dev.boot.porstLow = false →
      let d : Dev := { s.dev with pwr := { s.dev.pwr with pmbMiss := 0 } }
      exec (.telemetryRead (some (v, i))) s =
        .next (ended s ((d.setFld Reg.pwrVcoreMeas 0 16 (sat 16 v)).setFld Reg.pwrIcoreMeas 0 16 (sat 16 i)))) ∧
  (∀ s : State, noInjection s → s.dev.boot.porstLow = false →
      let n := s.dev.pwr.pmbMiss + 1
      let d : Dev := { s.dev with pwr := { s.dev.pwr with pmbMiss := n } }
      let u := (d.setFld Reg.pwrVcoreMeas 0 16 0xFFFF).setFld Reg.pwrIcoreMeas 0 16 0xFFFF
      exec (.telemetryRead none) s = .next (ended s (if n < 3 then d else if n = 3 then occur 0x00D {} u else u))) ∧
  (∀ (r : Fin 4) (s : State), noInjection s → s.dev.boot.porstLow = false →
      exec (.supplyWindowExit r) s = .next (ended s (occur (0x008 + r.val) {} s.dev))) ∧
  (∀ (l : List Int) (s : State), noInjection s → s.dev.boot.porstLow = false →
      let d := (upTo 20).foldl (fun d i =>
        d.setFld (Reg.pwrTemp i) 0 16 (if d.domainOn (tempDomain i) then satInt 16 (l.getD i 0) else 0x8000)) s.dev
      let e : Dev := { d with pwr := { d.pwr with strange := d.pwr.strange.filter (fun p => (powered d).contains p.1) } }
      let j := (powered e).foldl (fun d i => tempJudge i d) e
      let u := j.setFld Reg.pwrThermMax 0 16 (match tempCounts j with | [] => 0x8000 | a :: r => satInt 16 (r.foldl max a))
      let w := if (upTo 16).any (fun n => u.rbit (Reg.pwrClClk n) 9) then u.bump Reg.pwrThrottleMs else u
      exec (.temperatureRead l) s = .next (ended s
        (if (tempCounts j).any (fun v => decide (1150 ≤ v)) = true ∧ w.pwr.shutdown = false then shutdown w else w))) ∧
  (∀ s : State, noInjection s → ∃ d : Dev, exec .throttleStepDown s = .next (ended s (throttleLive d)) ∧
      ∀ n : Fin 16, let f := s.dev.rfld (Reg.pwrClClk n) 0 6
        d.rfld (Reg.pwrClClk n) 0 6 =
          if f ≠ 0 ∧ profByte s.dev 12 < f ∧ (chipHot s.dev = true ∨ (profWord s.dev 10 : Int) ≤ clusterTemp s.dev n) then f - 1 else f) ∧
  (∀ s : State, noInjection s → profClFreq s.dev < 64 → ∃ d : Dev, exec .throttleStepUp s = .next (ended s (throttleLive d)) ∧
      ∀ n : Fin 16, let f := s.dev.rfld (Reg.pwrClClk n) 0 6
        d.rfld (Reg.pwrClClk n) 0 6 =
          if f ≠ 0 ∧ f < profClFreq s.dev ∧ chipHot s.dev = false ∧ clusterTemp s.dev n < (profWord s.dev 10 : Int) - 30 then f + 1 else f)

/-- Register accesses (R11, R472, R514, R545, R546): the host's write of a register that firmware owns and a write of a block that is off are
discarded and counted, a write of a size or an alignment that the device does not serve is counted, a plain register takes its fields, and a read
that clears shows the value first, the low word of a counter keeping its high word for its requester. -/
def Obligations.RegistersAreAccessed : Prop :=
  (∀ (a : Nat) (v : BitVec 64) (i : RegInfo) (s : State), noInjection s → a % 4 = 0 → a < 0x400000 → s.dev.domainOn 24 = true →
      regInfo a = some i → fwOwned a = true →
      exec (.registerWrite .host a 4 v) s = .next (ended s (s.dev.bump Reg.pciFwOwnWr))) ∧
  (∀ (by_ : Requester) (a : Nat) (v : BitVec 64) (i : RegInfo) (s : State), noInjection s → a % 4 = 0 → a < 0x400000 → clearsSource a = false →
      reaches by_ s.dev = true → regInfo a = some i → fwOwned a = false → s.dev.served i = false →
      exec (.registerWrite by_ a 4 v) s = .next (ended s (s.dev.bump Reg.pwrOffWr))) ∧
  (∀ (by_ : Requester) (a n : Nat) (v : BitVec 64) (s : State), noInjection s → clearsSource a = false → reaches by_ s.dev = true →
      ¬ (n = 4 ∧ a % 4 = 0) → ¬ (n = 8 ∧ a % 8 = 0) → exec (.registerWrite by_ a n v) s = .next (ended s (s.dev.bump Reg.glbBadAccess))) ∧
  (∀ (by_ : Requester) (a : Nat) (v : BitVec 64) (b : RegBlock) (u o : Nat) (s : State), noInjection s → a % 4 = 0 → a < 0x400000 →
      clearsSource a = false → accepts by_ a s → locate a = some (b, u, o) → (regAct by_ b u o).isNone = true →
      exec (.registerWrite by_ a 4 v) s = .next (ended s (writeFields a (v.toNat % 2 ^ 32) s.dev))) ∧
  (∀ (by_ : Requester) (a : Nat) (i : RegInfo) (s : State), noInjection s → reaches by_ s.dev = true → regInfo a = some i → i.row.rc64 = false →
      i.row.rc = true → s.dev.served i = true →
      exec (.rcRegisterRead by_ a) s = .next (ended s (((s.dev.emit (.read by_ a (s.dev.reg a).toNat))).setNat a 0))) ∧
  (∀ (a : Nat) (i : RegInfo) (s : State), noInjection s → reaches .host s.dev = true → regInfo a = some i → i.row.rc64 = true →
      i.row.isHigh i.off = false → s.dev.served i = true →
      let d := s.dev.emit (.read .host a (s.dev.reg a).toNat)
      exec (.counterLowWordRead .host a) s = .next (ended s
        (({ d with pci := { d.pci with latchHost := kvSet d.pci.latchHost a (s.dev.reg (a + 4)) } }.setNat a 0).setNat (a + 4) 0)))

/-- The debug window (R552, R59): shut, it reads zero and ignores writes; open, it refuses a tile that sleeps and counts the refusal; else it reads
tile memory, and writes data above the resident area of a tile that is fenced and holds no channel. -/
def Obligations.DebugWindowShowsTileMemory : Prop :=
  (∀ (by_ : Requester) (off : Nat) (b : Bool) (s : State), noInjection s → reaches by_ s.dev = true → s.dev.rbit Reg.glbDbgStatus 0 = false →
      exec (.debugWindowRead by_ off b) s = .next (ended s ((debugStatus false false s.dev).emit (.read by_ (0x800000 + off / 4 * 4) 0)))) ∧
  (∀ (by_ : Requester) (off : Nat) (v : Word) (s : State), noInjection s → reaches by_ s.dev = true → s.dev.rbit Reg.glbDbgStatus 0 = true →
      debugAwake s.dev = false →
      exec (.debugWindowWrite by_ off v) s = .next (ended s (debugStatus true false (s.dev.bump Reg.glbBadAccess)))) ∧
  (∀ (by_ : Requester) (off : Nat) (b : Bool) (s : State), noInjection s → reaches by_ s.dev = true → s.dev.rbit Reg.glbDbgStatus 0 = true →
      debugAwake s.dev = true → off < 0x280000 →
      let r := debugWord off s.dev
      exec (.debugWindowRead by_ off b) s =
        .next (ended s ((debugStatus false b r.2).emit (.read by_ (0x800000 + off / 4 * 4) r.1.toNat)))) ∧
  (∀ (by_ : Requester) (off : Nat) (v : Word) (s : State), noInjection s → reaches by_ s.dev = true → s.dev.rbit Reg.glbDbgStatus 0 = true →
      debugAwake s.dev = true → 278528 ≤ off → off < 0x280000 →
      let t := debugTile s.dev
      s.dev.rbit (Reg.tileCtrl t) 0 = true → s.dev.rfld (Reg.tileChCount t) 0 16 = 0 →
      exec (.debugWindowWrite by_ off v) s = .next (ended s (debugStatus false false { s.dev with
        tileMem := (upTo 4).foldl (fun m i => tilePut s.dev.tileUsed m (tileAddr t (off / 4 * 4) + i)
          (BitVec.ofNat 8 (v.toNat / 2 ^ (8 * i)))) s.dev.tileMem })))

/-- One octet of tile memory after a write of the window (R552): it keeps the canonical form, each octet of the word that is written holds its part of the
value, the least significant first, a zero of a tile that nothing has used since it was wiped being what its absence reads as, and every other
octet, of this tile and of the others, reads as before. -/
def Obligations.DebugWritesChangeOneWord : Prop :=
  ∀ (by_ : Requester) (off : Nat) (v : Word) (s : Dev),
    let a := tileAddr (debugTile s) (off / 4 * 4)
    let d := debugWrite by_ off v s
    let part (i : Nat) : Byte := BitVec.ofNat 8 (v.toNat / 2 ^ (8 * i))
    d.tileUsed = s.tileUsed ∧ (Memory.wf s.tileUsed s.tileMem = true → Memory.wf d.tileUsed d.tileMem = true) ∧
    (∀ x, (x < a ∨ a + 4 ≤ x) → tileOctet d.tileMem x = tileOctet s.tileMem x) ∧
    (d.tileMem ≠ s.tileMem → ∀ i < 4, tileOctet d.tileMem (a + i) = some (part i) ∨
      (part i = 0 ∧ s.tileUsed.contains ((a + i) / 0x800000) = false ∧ tileOctet d.tileMem (a + i) = none))

/-- At the end of a command that leaves nothing due, only status fields follow the state (log entry 4): the fuses, the queue and all of the device but
registers, tile memory and the GDU's margins stand, no register but those of `shownRegs` changes, of those no bit above 3 but for ADJ_REMAIN and
CL_MARGIN, a cluster's margins keep those of the last second, and tile memory loses what the window wrote in tiles in which kernels work, which are
noted as no longer wiped (log entry 6). -/
def Obligations.SettlingShowsStatusOnly : Prop :=
  ∀ s : State, quiet s.dev →
    (settle s).fuses = s.fuses ∧ (settle s).pending = s.pending ∧
    { (settle s).dev with regs := s.dev.regs, tileMem := s.dev.tileMem, tileUsed := s.dev.tileUsed, gdu := s.dev.gdu } = s.dev ∧
    (∀ n, n < 16 → (settle s).dev.cg n = { s.dev.cg n with
      margins := (s.dev.cg n).margins.filter (fun p => decide (s.dev.cycles < p.1 + usCycles 1000000)) }) ∧
    (∀ n, 16 ≤ n → (settle s).dev.cg n = s.dev.cg n) ∧
    (∀ t, t ∈ (settle s).dev.tileUsed ↔ t ∈ s.dev.tileUsed ∨ (t < 256 ∧ tileWorks s.dev t = true)) ∧
    (settle s).dev.tileMem = s.dev.tileMem.filter (fun c => !tileWorks s.dev (c.1 / 0x800000)) ∧
    (∀ a, a ∉ shownRegs → (settle s).dev.reg a = s.dev.reg a) ∧
    (∀ a i, a ∉ Reg.tbAdjRemain :: (upTo 16).map Reg.gduClMargin → 4 ≤ i → (settle s).dev.rbit a i = s.dev.rbit a i)

/-- Every command takes itself off the queue and nothing else: whatever the command does, a reset among it, the commands behind it wait as they did. -/
def Obligations.EveryStepTakesOneCommand : Prop :=
  ∀ (c : Instr) (rest : List Instr) (s t : State), s.pending = c :: rest → step s = .next t → t.pending = rest

/-- A queue of commands that senders can make never stops the machine: the step answers a next state, and its queue is again of such commands. -/
def Obligations.SafeQueuesNeverStop : Prop :=
  ∀ s : State, safe s → ∃ t : State, step s = .next t ∧ safe t

/-- A command that a sender can make completes in every state whatever (the reset states among them). -/
def Obligations.WellFormedCommandsComplete : Prop :=
  ∀ (c : Instr) (s : State), c.wf = true → ∃ t : State, exec c s = .next t

/-- Fuses are written once (R58 to R62, R45): whatever command is taken, in whatever state, no fuse that is blown is whole again, the serial number and
a blown root hash stand, the life cycle moves forward and the rollback counter does not fall. -/
def Obligations.FusesNeverFallBack : Prop :=
  ∀ s t : State, step s = .next t → Fuses.upTo s.fuses t.fuses

/-- No command but LC_TRANSITION, by the ring or the Night Desk, and FRAME_TICK, which raises the rollback counter at the end of an image's probation,
writes a fuse. -/
def Obligations.FewCommandsWriteFuses : Prop :=
  ∀ (c : Instr) (s t : State), (∀ n e, c ≠ .frameTick n e) → (∀ r d k a, c ≠ .lcTransition r d k a) → (∀ a, c ≠ .ndLcTransition a) →
    exec c s = .next t → t.fuses = s.fuses

/-- A device as made is BLANK with no fuse blown, and what `Fuses.upTo` says of it holds of every set of fuses with its serial number (log entry 2). -/
def Obligations.FusesAsMadeAreBlank : Prop :=
  State.reset.fuses.state = 0 ∧ State.reset.fuses.rollback = 0 ∧
    ∀ f : Fuses, f.serial = State.reset.fuses.serial → Fuses.upTo State.reset.fuses f

/-- A Ledger entry (R88): its 32 octets hold, little-endian and at the offsets of R88, the stamp, the source number, the code, the flags with the
time epoch, the channel and the data; and a manager reads them back from the octets, with REMOTE set. -/
def Obligations.LedgerEntriesAreLaidOut : Prop :=
  ∀ (e : LedgerEvent) (flags : Nat), e.wf = true → (∀ g, e.chan = some g → g < 2 ^ 20) → flags < 2 ^ 16 →
    let o := entryOctets e flags
    o.length = 32 ∧ le o 0 4 = e.stamp.ns ∧ le o 4 6 = e.stamp.sec ∧ le o 10 2 = e.src ∧ le o 12 2 = e.code ∧
    (∀ i < 8, (oct o 15).testBit i = ((e.flags ||| flags).testBit (8 + i))) ∧ oct o 14 = e.stamp.tepoch ∧
    le o 16 4 = (match e.chan with | some g => 2 ^ 31 + g | none => 0) ∧ octs o 20 12 = padTo 12 e.data ∧
    (entryEvent o).stamp = e.stamp ∧ (entryEvent o).src = e.src ∧ (entryEvent o).code = e.code ∧ (entryEvent o).chan = e.chan ∧
    (entryEvent o).data = padTo 12 e.data ∧ (entryEvent o).flags.testBit 12 = true

/-- An occurrence in its source's status (R489): COUNT rises and stays at 255, FIRST takes the stamp where COUNT was 0, LAST takes it, REAL and FORCED
are set by their kinds and never cleared, LIVE stays, and no other register changes but the word of FLT.STICKY with the source's bit. -/
def Obligations.OccurrencesUpdateTheirStatus : Prop :=
  ∀ (n : Fin 1024) (real forced : Bool) (t : Stamp) (s : Dev), t.wf = true →
    let d := statusOcc n real forced t s
    let c := s.rfld (Reg.srcStatus n) 8 8
    let hi := t.sec / 2 ^ 32 + t.tepoch * 0x10000
    d.rfld (Reg.srcStatus n) 8 8 = min 255 (c + 1) ∧
    (c = 0 → (d.reg (Reg.srcFirstNs n)).toNat = t.ns ∧ (d.reg (Reg.srcFirstSecLo n)).toNat = t.sec % 2 ^ 32 ∧ (d.reg (Reg.srcFirstSecHi n)).toNat = hi) ∧
    (c ≠ 0 → d.reg (Reg.srcFirstNs n) = s.reg (Reg.srcFirstNs n) ∧ d.reg (Reg.srcFirstSecLo n) = s.reg (Reg.srcFirstSecLo n) ∧
      d.reg (Reg.srcFirstSecHi n) = s.reg (Reg.srcFirstSecHi n)) ∧
    (d.reg (Reg.srcLastNs n)).toNat = t.ns ∧ (d.reg (Reg.srcLastSecLo n)).toNat = t.sec % 2 ^ 32 ∧ (d.reg (Reg.srcLastSecHi n)).toNat = hi ∧
    d.rbit (Reg.srcStatus n) 1 = (s.rbit (Reg.srcStatus n) 1 || real) ∧ d.rbit (Reg.srcStatus n) 2 = (s.rbit (Reg.srcStatus n) 2 || forced) ∧
    d.rbit (Reg.srcStatus n) 0 = s.rbit (Reg.srcStatus n) 0 ∧
    d.rbit (Reg.fltSticky (n / 32)) (n % 32) = (d.rbit (Reg.srcStatus n) 1 || d.rbit (Reg.srcStatus n) 2) ∧
    (∀ a, a ∉ [Reg.srcStatus n, Reg.srcFirstNs n, Reg.srcFirstSecLo n, Reg.srcFirstSecHi n, Reg.srcLastNs n, Reg.srcLastSecLo n, Reg.srcLastSecHi n,
      Reg.fltSticky (n / 32)] → d.reg a = s.reg a)
end

