-- ==== Sys2Proof/Laws/State.lean ====
section
/-! SUPPORT. The state's fields under its updates: what each operation of `Machine/Ops.lean` that writes one part of the device leaves alone. -/

namespace Sys2Proof.Laws

set_option Elab.async false

open Sys2Proof.Machine

/-! ### The state -/

@[simp] theorem state_dev (s : State) (d : Dev) : ({ s with dev := d } : State).dev = d := rfl
@[simp] theorem state_dev_fuses (s : State) (d : Dev) : ({ s with dev := d } : State).fuses = s.fuses := rfl
@[simp] theorem state_dev_pending (s : State) (d : Dev) : ({ s with dev := d } : State).pending = s.pending := rfl
@[simp] theorem state_fuses (s : State) (f : Fuses) : ({ s with fuses := f } : State).fuses = f := rfl
@[simp] theorem state_fuses_dev (s : State) (f : Fuses) : ({ s with fuses := f } : State).dev = s.dev := rfl
@[simp] theorem state_fuses_pending (s : State) (f : Fuses) : ({ s with fuses := f } : State).pending = s.pending := rfl
@[simp] theorem state_pending (s : State) (p : List Instr) : ({ s with pending := p } : State).pending = p := rfl
@[simp] theorem state_pending_dev (s : State) (p : List Instr) : ({ s with pending := p } : State).dev = s.dev := rfl
@[simp] theorem state_pending_fuses (s : State) (p : List Instr) : ({ s with pending := p } : State).fuses = s.fuses := rfl

/-! ### A whole register is written. -/

@[simp] theorem setReg_cycles (s : Dev) (a : Nat) (w : Word) : (s.setReg a w).cycles = s.cycles := rfl
@[simp] theorem setReg_gcycle (s : Dev) (a : Nat) (w : Word) : (s.setReg a w).gcycle = s.gcycle := rfl
@[simp] theorem setReg_free (s : Dev) (a : Nat) (w : Word) : (s.setReg a w).free = s.free := rfl
@[simp] theorem setReg_boot (s : Dev) (a : Nat) (w : Word) : (s.setReg a w).boot = s.boot := rfl
@[simp] theorem setReg_time (s : Dev) (a : Nat) (w : Word) : (s.setReg a w).time = s.time := rfl
@[simp] theorem setReg_epochs (s : Dev) (a : Nat) (w : Word) : (s.setReg a w).epochs = s.epochs := rfl
@[simp] theorem setReg_gdu (s : Dev) (a : Nat) (w : Word) : (s.setReg a w).gdu = s.gdu := rfl
@[simp] theorem setReg_eng (s : Dev) (a : Nat) (w : Word) : (s.setReg a w).eng = s.eng := rfl
@[simp] theorem setReg_consol (s : Dev) (a : Nat) (w : Word) : (s.setReg a w).consol = s.consol := rfl
@[simp] theorem setReg_chans (s : Dev) (a : Nat) (w : Word) : (s.setReg a w).chans = s.chans := rfl
@[simp] theorem setReg_mpe (s : Dev) (a : Nat) (w : Word) : (s.setReg a w).mpe = s.mpe := rfl
@[simp] theorem setReg_macs (s : Dev) (a : Nat) (w : Word) : (s.setReg a w).macs = s.macs := rfl
@[simp] theorem setReg_lanes (s : Dev) (a : Nat) (w : Word) : (s.setReg a w).lanes = s.lanes := rfl
@[simp] theorem setReg_tdm (s : Dev) (a : Nat) (w : Word) : (s.setReg a w).tdm = s.tdm := rfl
@[simp] theorem setReg_arc (s : Dev) (a : Nat) (w : Word) : (s.setReg a w).arc = s.arc := rfl
@[simp] theorem setReg_ledger (s : Dev) (a : Nat) (w : Word) : (s.setReg a w).ledger = s.ledger := rfl
@[simp] theorem setReg_flt (s : Dev) (a : Nat) (w : Word) : (s.setReg a w).flt = s.flt := rfl
@[simp] theorem setReg_ron (s : Dev) (a : Nat) (w : Word) : (s.setReg a w).ron = s.ron := rfl
@[simp] theorem setReg_pci (s : Dev) (a : Nat) (w : Word) : (s.setReg a w).pci = s.pci := rfl
@[simp] theorem setReg_night (s : Dev) (a : Nat) (w : Word) : (s.setReg a w).night = s.night := rfl
@[simp] theorem setReg_pwr (s : Dev) (a : Nat) (w : Word) : (s.setReg a w).pwr = s.pwr := rfl
@[simp] theorem setReg_tests (s : Dev) (a : Nat) (w : Word) : (s.setReg a w).tests = s.tests := rfl
@[simp] theorem setReg_lostSets (s : Dev) (a : Nat) (w : Word) : (s.setReg a w).lostSets = s.lostSets := rfl
@[simp] theorem setReg_reloads (s : Dev) (a : Nat) (w : Word) : (s.setReg a w).reloads = s.reloads := rfl
@[simp] theorem setReg_loads (s : Dev) (a : Nat) (w : Word) : (s.setReg a w).loads = s.loads := rfl
@[simp] theorem setReg_tileMem (s : Dev) (a : Nat) (w : Word) : (s.setReg a w).tileMem = s.tileMem := rfl
@[simp] theorem setReg_tileUsed (s : Dev) (a : Nat) (w : Word) : (s.setReg a w).tileUsed = s.tileUsed := rfl
@[simp] theorem setReg_once (s : Dev) (a : Nat) (w : Word) : (s.setReg a w).once = s.once := rfl
@[simp] theorem setReg_shorts (s : Dev) (a : Nat) (w : Word) : (s.setReg a w).shorts = s.shorts := rfl
@[simp] theorem setReg_outbox (s : Dev) (a : Nat) (w : Word) : (s.setReg a w).outbox = s.outbox := rfl

/-! ### A field of a register is written. -/

@[simp] theorem setFld_cycles (s : Dev) (a lo len v : Nat) : (s.setFld a lo len v).cycles = s.cycles := rfl
@[simp] theorem setFld_gcycle (s : Dev) (a lo len v : Nat) : (s.setFld a lo len v).gcycle = s.gcycle := rfl
@[simp] theorem setFld_free (s : Dev) (a lo len v : Nat) : (s.setFld a lo len v).free = s.free := rfl
@[simp] theorem setFld_boot (s : Dev) (a lo len v : Nat) : (s.setFld a lo len v).boot = s.boot := rfl
@[simp] theorem setFld_time (s : Dev) (a lo len v : Nat) : (s.setFld a lo len v).time = s.time := rfl
@[simp] theorem setFld_epochs (s : Dev) (a lo len v : Nat) : (s.setFld a lo len v).epochs = s.epochs := rfl
@[simp] theorem setFld_gdu (s : Dev) (a lo len v : Nat) : (s.setFld a lo len v).gdu = s.gdu := rfl
@[simp] theorem setFld_eng (s : Dev) (a lo len v : Nat) : (s.setFld a lo len v).eng = s.eng := rfl
@[simp] theorem setFld_consol (s : Dev) (a lo len v : Nat) : (s.setFld a lo len v).consol = s.consol := rfl
@[simp] theorem setFld_chans (s : Dev) (a lo len v : Nat) : (s.setFld a lo len v).chans = s.chans := rfl
@[simp] theorem setFld_mpe (s : Dev) (a lo len v : Nat) : (s.setFld a lo len v).mpe = s.mpe := rfl
@[simp] theorem setFld_macs (s : Dev) (a lo len v : Nat) : (s.setFld a lo len v).macs = s.macs := rfl
@[simp] theorem setFld_lanes (s : Dev) (a lo len v : Nat) : (s.setFld a lo len v).lanes = s.lanes := rfl
@[simp] theorem setFld_tdm (s : Dev) (a lo len v : Nat) : (s.setFld a lo len v).tdm = s.tdm := rfl
@[simp] theorem setFld_arc (s : Dev) (a lo len v : Nat) : (s.setFld a lo len v).arc = s.arc := rfl
@[simp] theorem setFld_ledger (s : Dev) (a lo len v : Nat) : (s.setFld a lo len v).ledger = s.ledger := rfl
@[simp] theorem setFld_flt (s : Dev) (a lo len v : Nat) : (s.setFld a lo len v).flt = s.flt := rfl
@[simp] theorem setFld_ron (s : Dev) (a lo len v : Nat) : (s.setFld a lo len v).ron = s.ron := rfl
@[simp] theorem setFld_pci (s : Dev) (a lo len v : Nat) : (s.setFld a lo len v).pci = s.pci := rfl
@[simp] theorem setFld_night (s : Dev) (a lo len v : Nat) : (s.setFld a lo len v).night = s.night := rfl
@[simp] theorem setFld_pwr (s : Dev) (a lo len v : Nat) : (s.setFld a lo len v).pwr = s.pwr := rfl
@[simp] theorem setFld_tests (s : Dev) (a lo len v : Nat) : (s.setFld a lo len v).tests = s.tests := rfl
@[simp] theorem setFld_lostSets (s : Dev) (a lo len v : Nat) : (s.setFld a lo len v).lostSets = s.lostSets := rfl
@[simp] theorem setFld_reloads (s : Dev) (a lo len v : Nat) : (s.setFld a lo len v).reloads = s.reloads := rfl
@[simp] theorem setFld_loads (s : Dev) (a lo len v : Nat) : (s.setFld a lo len v).loads = s.loads := rfl
@[simp] theorem setFld_tileMem (s : Dev) (a lo len v : Nat) : (s.setFld a lo len v).tileMem = s.tileMem := rfl
@[simp] theorem setFld_tileUsed (s : Dev) (a lo len v : Nat) : (s.setFld a lo len v).tileUsed = s.tileUsed := rfl
@[simp] theorem setFld_once (s : Dev) (a lo len v : Nat) : (s.setFld a lo len v).once = s.once := rfl
@[simp] theorem setFld_shorts (s : Dev) (a lo len v : Nat) : (s.setFld a lo len v).shorts = s.shorts := rfl
@[simp] theorem setFld_outbox (s : Dev) (a lo len v : Nat) : (s.setFld a lo len v).outbox = s.outbox := rfl

/-! ### A bit of a register is written. -/

@[simp] theorem setBit_cycles (s : Dev) (a i : Nat) (b : Bool) : (s.setBit a i b).cycles = s.cycles := rfl
@[simp] theorem setBit_gcycle (s : Dev) (a i : Nat) (b : Bool) : (s.setBit a i b).gcycle = s.gcycle := rfl
@[simp] theorem setBit_free (s : Dev) (a i : Nat) (b : Bool) : (s.setBit a i b).free = s.free := rfl
@[simp] theorem setBit_boot (s : Dev) (a i : Nat) (b : Bool) : (s.setBit a i b).boot = s.boot := rfl
@[simp] theorem setBit_time (s : Dev) (a i : Nat) (b : Bool) : (s.setBit a i b).time = s.time := rfl
@[simp] theorem setBit_epochs (s : Dev) (a i : Nat) (b : Bool) : (s.setBit a i b).epochs = s.epochs := rfl
@[simp] theorem setBit_gdu (s : Dev) (a i : Nat) (b : Bool) : (s.setBit a i b).gdu = s.gdu := rfl
@[simp] theorem setBit_eng (s : Dev) (a i : Nat) (b : Bool) : (s.setBit a i b).eng = s.eng := rfl
@[simp] theorem setBit_consol (s : Dev) (a i : Nat) (b : Bool) : (s.setBit a i b).consol = s.consol := rfl
@[simp] theorem setBit_chans (s : Dev) (a i : Nat) (b : Bool) : (s.setBit a i b).chans = s.chans := rfl
@[simp] theorem setBit_mpe (s : Dev) (a i : Nat) (b : Bool) : (s.setBit a i b).mpe = s.mpe := rfl
@[simp] theorem setBit_macs (s : Dev) (a i : Nat) (b : Bool) : (s.setBit a i b).macs = s.macs := rfl
@[simp] theorem setBit_lanes (s : Dev) (a i : Nat) (b : Bool) : (s.setBit a i b).lanes = s.lanes := rfl
@[simp] theorem setBit_tdm (s : Dev) (a i : Nat) (b : Bool) : (s.setBit a i b).tdm = s.tdm := rfl
@[simp] theorem setBit_arc (s : Dev) (a i : Nat) (b : Bool) : (s.setBit a i b).arc = s.arc := rfl
@[simp] theorem setBit_ledger (s : Dev) (a i : Nat) (b : Bool) : (s.setBit a i b).ledger = s.ledger := rfl
@[simp] theorem setBit_flt (s : Dev) (a i : Nat) (b : Bool) : (s.setBit a i b).flt = s.flt := rfl
@[simp] theorem setBit_ron (s : Dev) (a i : Nat) (b : Bool) : (s.setBit a i b).ron = s.ron := rfl
@[simp] theorem setBit_pci (s : Dev) (a i : Nat) (b : Bool) : (s.setBit a i b).pci = s.pci := rfl
@[simp] theorem setBit_night (s : Dev) (a i : Nat) (b : Bool) : (s.setBit a i b).night = s.night := rfl
@[simp] theorem setBit_pwr (s : Dev) (a i : Nat) (b : Bool) : (s.setBit a i b).pwr = s.pwr := rfl
@[simp] theorem setBit_tests (s : Dev) (a i : Nat) (b : Bool) : (s.setBit a i b).tests = s.tests := rfl
@[simp] theorem setBit_lostSets (s : Dev) (a i : Nat) (b : Bool) : (s.setBit a i b).lostSets = s.lostSets := rfl
@[simp] theorem setBit_reloads (s : Dev) (a i : Nat) (b : Bool) : (s.setBit a i b).reloads = s.reloads := rfl
@[simp] theorem setBit_loads (s : Dev) (a i : Nat) (b : Bool) : (s.setBit a i b).loads = s.loads := rfl
@[simp] theorem setBit_tileMem (s : Dev) (a i : Nat) (b : Bool) : (s.setBit a i b).tileMem = s.tileMem := rfl
@[simp] theorem setBit_tileUsed (s : Dev) (a i : Nat) (b : Bool) : (s.setBit a i b).tileUsed = s.tileUsed := rfl
@[simp] theorem setBit_once (s : Dev) (a i : Nat) (b : Bool) : (s.setBit a i b).once = s.once := rfl
@[simp] theorem setBit_shorts (s : Dev) (a i : Nat) (b : Bool) : (s.setBit a i b).shorts = s.shorts := rfl
@[simp] theorem setBit_outbox (s : Dev) (a i : Nat) (b : Bool) : (s.setBit a i b).outbox = s.outbox := rfl

/-! ### A register is written from a number. -/

@[simp] theorem setNat_cycles (s : Dev) (a v : Nat) : (s.setNat a v).cycles = s.cycles := rfl
@[simp] theorem setNat_gcycle (s : Dev) (a v : Nat) : (s.setNat a v).gcycle = s.gcycle := rfl
@[simp] theorem setNat_free (s : Dev) (a v : Nat) : (s.setNat a v).free = s.free := rfl
@[simp] theorem setNat_boot (s : Dev) (a v : Nat) : (s.setNat a v).boot = s.boot := rfl
@[simp] theorem setNat_time (s : Dev) (a v : Nat) : (s.setNat a v).time = s.time := rfl
@[simp] theorem setNat_epochs (s : Dev) (a v : Nat) : (s.setNat a v).epochs = s.epochs := rfl
@[simp] theorem setNat_gdu (s : Dev) (a v : Nat) : (s.setNat a v).gdu = s.gdu := rfl
@[simp] theorem setNat_eng (s : Dev) (a v : Nat) : (s.setNat a v).eng = s.eng := rfl
@[simp] theorem setNat_consol (s : Dev) (a v : Nat) : (s.setNat a v).consol = s.consol := rfl
@[simp] theorem setNat_chans (s : Dev) (a v : Nat) : (s.setNat a v).chans = s.chans := rfl
@[simp] theorem setNat_mpe (s : Dev) (a v : Nat) : (s.setNat a v).mpe = s.mpe := rfl
@[simp] theorem setNat_macs (s : Dev) (a v : Nat) : (s.setNat a v).macs = s.macs := rfl
@[simp] theorem setNat_lanes (s : Dev) (a v : Nat) : (s.setNat a v).lanes = s.lanes := rfl
@[simp] theorem setNat_tdm (s : Dev) (a v : Nat) : (s.setNat a v).tdm = s.tdm := rfl
@[simp] theorem setNat_arc (s : Dev) (a v : Nat) : (s.setNat a v).arc = s.arc := rfl
@[simp] theorem setNat_ledger (s : Dev) (a v : Nat) : (s.setNat a v).ledger = s.ledger := rfl
@[simp] theorem setNat_flt (s : Dev) (a v : Nat) : (s.setNat a v).flt = s.flt := rfl
@[simp] theorem setNat_ron (s : Dev) (a v : Nat) : (s.setNat a v).ron = s.ron := rfl
@[simp] theorem setNat_pci (s : Dev) (a v : Nat) : (s.setNat a v).pci = s.pci := rfl
@[simp] theorem setNat_night (s : Dev) (a v : Nat) : (s.setNat a v).night = s.night := rfl
@[simp] theorem setNat_pwr (s : Dev) (a v : Nat) : (s.setNat a v).pwr = s.pwr := rfl
@[simp] theorem setNat_tests (s : Dev) (a v : Nat) : (s.setNat a v).tests = s.tests := rfl
@[simp] theorem setNat_lostSets (s : Dev) (a v : Nat) : (s.setNat a v).lostSets = s.lostSets := rfl
@[simp] theorem setNat_reloads (s : Dev) (a v : Nat) : (s.setNat a v).reloads = s.reloads := rfl
@[simp] theorem setNat_loads (s : Dev) (a v : Nat) : (s.setNat a v).loads = s.loads := rfl
@[simp] theorem setNat_tileMem (s : Dev) (a v : Nat) : (s.setNat a v).tileMem = s.tileMem := rfl
@[simp] theorem setNat_tileUsed (s : Dev) (a v : Nat) : (s.setNat a v).tileUsed = s.tileUsed := rfl
@[simp] theorem setNat_once (s : Dev) (a v : Nat) : (s.setNat a v).once = s.once := rfl
@[simp] theorem setNat_shorts (s : Dev) (a v : Nat) : (s.setNat a v).shorts = s.shorts := rfl
@[simp] theorem setNat_outbox (s : Dev) (a v : Nat) : (s.setNat a v).outbox = s.outbox := rfl

/-! ### A 32-bit counter rises. -/

@[simp] theorem bump_cycles (s : Dev) (a n : Nat) : (s.bump a n).cycles = s.cycles := rfl
@[simp] theorem bump_gcycle (s : Dev) (a n : Nat) : (s.bump a n).gcycle = s.gcycle := rfl
@[simp] theorem bump_free (s : Dev) (a n : Nat) : (s.bump a n).free = s.free := rfl
@[simp] theorem bump_boot (s : Dev) (a n : Nat) : (s.bump a n).boot = s.boot := rfl
@[simp] theorem bump_time (s : Dev) (a n : Nat) : (s.bump a n).time = s.time := rfl
@[simp] theorem bump_epochs (s : Dev) (a n : Nat) : (s.bump a n).epochs = s.epochs := rfl
@[simp] theorem bump_gdu (s : Dev) (a n : Nat) : (s.bump a n).gdu = s.gdu := rfl
@[simp] theorem bump_eng (s : Dev) (a n : Nat) : (s.bump a n).eng = s.eng := rfl
@[simp] theorem bump_consol (s : Dev) (a n : Nat) : (s.bump a n).consol = s.consol := rfl
@[simp] theorem bump_chans (s : Dev) (a n : Nat) : (s.bump a n).chans = s.chans := rfl
@[simp] theorem bump_mpe (s : Dev) (a n : Nat) : (s.bump a n).mpe = s.mpe := rfl
@[simp] theorem bump_macs (s : Dev) (a n : Nat) : (s.bump a n).macs = s.macs := rfl
@[simp] theorem bump_lanes (s : Dev) (a n : Nat) : (s.bump a n).lanes = s.lanes := rfl
@[simp] theorem bump_tdm (s : Dev) (a n : Nat) : (s.bump a n).tdm = s.tdm := rfl
@[simp] theorem bump_arc (s : Dev) (a n : Nat) : (s.bump a n).arc = s.arc := rfl
@[simp] theorem bump_ledger (s : Dev) (a n : Nat) : (s.bump a n).ledger = s.ledger := rfl
@[simp] theorem bump_flt (s : Dev) (a n : Nat) : (s.bump a n).flt = s.flt := rfl
@[simp] theorem bump_ron (s : Dev) (a n : Nat) : (s.bump a n).ron = s.ron := rfl
@[simp] theorem bump_pci (s : Dev) (a n : Nat) : (s.bump a n).pci = s.pci := rfl
@[simp] theorem bump_night (s : Dev) (a n : Nat) : (s.bump a n).night = s.night := rfl
@[simp] theorem bump_pwr (s : Dev) (a n : Nat) : (s.bump a n).pwr = s.pwr := rfl
@[simp] theorem bump_tests (s : Dev) (a n : Nat) : (s.bump a n).tests = s.tests := rfl
@[simp] theorem bump_lostSets (s : Dev) (a n : Nat) : (s.bump a n).lostSets = s.lostSets := rfl
@[simp] theorem bump_reloads (s : Dev) (a n : Nat) : (s.bump a n).reloads = s.reloads := rfl
@[simp] theorem bump_loads (s : Dev) (a n : Nat) : (s.bump a n).loads = s.loads := rfl
@[simp] theorem bump_tileMem (s : Dev) (a n : Nat) : (s.bump a n).tileMem = s.tileMem := rfl
@[simp] theorem bump_tileUsed (s : Dev) (a n : Nat) : (s.bump a n).tileUsed = s.tileUsed := rfl
@[simp] theorem bump_once (s : Dev) (a n : Nat) : (s.bump a n).once = s.once := rfl
@[simp] theorem bump_shorts (s : Dev) (a n : Nat) : (s.bump a n).shorts = s.shorts := rfl
@[simp] theorem bump_outbox (s : Dev) (a n : Nat) : (s.bump a n).outbox = s.outbox := rfl

/-! ### A 64-bit counter rises. -/

@[simp] theorem bump64_cycles (s : Dev) (a n : Nat) : (s.bump64 a n).cycles = s.cycles := rfl
@[simp] theorem bump64_gcycle (s : Dev) (a n : Nat) : (s.bump64 a n).gcycle = s.gcycle := rfl
@[simp] theorem bump64_free (s : Dev) (a n : Nat) : (s.bump64 a n).free = s.free := rfl
@[simp] theorem bump64_boot (s : Dev) (a n : Nat) : (s.bump64 a n).boot = s.boot := rfl
@[simp] theorem bump64_time (s : Dev) (a n : Nat) : (s.bump64 a n).time = s.time := rfl
@[simp] theorem bump64_epochs (s : Dev) (a n : Nat) : (s.bump64 a n).epochs = s.epochs := rfl
@[simp] theorem bump64_gdu (s : Dev) (a n : Nat) : (s.bump64 a n).gdu = s.gdu := rfl
@[simp] theorem bump64_eng (s : Dev) (a n : Nat) : (s.bump64 a n).eng = s.eng := rfl
@[simp] theorem bump64_consol (s : Dev) (a n : Nat) : (s.bump64 a n).consol = s.consol := rfl
@[simp] theorem bump64_chans (s : Dev) (a n : Nat) : (s.bump64 a n).chans = s.chans := rfl
@[simp] theorem bump64_mpe (s : Dev) (a n : Nat) : (s.bump64 a n).mpe = s.mpe := rfl
@[simp] theorem bump64_macs (s : Dev) (a n : Nat) : (s.bump64 a n).macs = s.macs := rfl
@[simp] theorem bump64_lanes (s : Dev) (a n : Nat) : (s.bump64 a n).lanes = s.lanes := rfl
@[simp] theorem bump64_tdm (s : Dev) (a n : Nat) : (s.bump64 a n).tdm = s.tdm := rfl
@[simp] theorem bump64_arc (s : Dev) (a n : Nat) : (s.bump64 a n).arc = s.arc := rfl
@[simp] theorem bump64_ledger (s : Dev) (a n : Nat) : (s.bump64 a n).ledger = s.ledger := rfl
@[simp] theorem bump64_flt (s : Dev) (a n : Nat) : (s.bump64 a n).flt = s.flt := rfl
@[simp] theorem bump64_ron (s : Dev) (a n : Nat) : (s.bump64 a n).ron = s.ron := rfl
@[simp] theorem bump64_pci (s : Dev) (a n : Nat) : (s.bump64 a n).pci = s.pci := rfl
@[simp] theorem bump64_night (s : Dev) (a n : Nat) : (s.bump64 a n).night = s.night := rfl
@[simp] theorem bump64_pwr (s : Dev) (a n : Nat) : (s.bump64 a n).pwr = s.pwr := rfl
@[simp] theorem bump64_tests (s : Dev) (a n : Nat) : (s.bump64 a n).tests = s.tests := rfl
@[simp] theorem bump64_lostSets (s : Dev) (a n : Nat) : (s.bump64 a n).lostSets = s.lostSets := rfl
@[simp] theorem bump64_reloads (s : Dev) (a n : Nat) : (s.bump64 a n).reloads = s.reloads := rfl
@[simp] theorem bump64_loads (s : Dev) (a n : Nat) : (s.bump64 a n).loads = s.loads := rfl
@[simp] theorem bump64_tileMem (s : Dev) (a n : Nat) : (s.bump64 a n).tileMem = s.tileMem := rfl
@[simp] theorem bump64_tileUsed (s : Dev) (a n : Nat) : (s.bump64 a n).tileUsed = s.tileUsed := rfl
@[simp] theorem bump64_once (s : Dev) (a n : Nat) : (s.bump64 a n).once = s.once := rfl
@[simp] theorem bump64_shorts (s : Dev) (a n : Nat) : (s.bump64 a n).shorts = s.shorts := rfl
@[simp] theorem bump64_outbox (s : Dev) (a n : Nat) : (s.bump64 a n).outbox = s.outbox := rfl

/-! ### Cycles pass. -/

@[simp] theorem elapse_regs (s : Dev) (n : Nat) : (s.elapse n).regs = s.regs := rfl
@[simp] theorem elapse_gcycle (s : Dev) (n : Nat) : (s.elapse n).gcycle = s.gcycle := rfl
@[simp] theorem elapse_free (s : Dev) (n : Nat) : (s.elapse n).free = s.free := rfl
@[simp] theorem elapse_boot (s : Dev) (n : Nat) : (s.elapse n).boot = s.boot := rfl
@[simp] theorem elapse_epochs (s : Dev) (n : Nat) : (s.elapse n).epochs = s.epochs := rfl
@[simp] theorem elapse_gdu (s : Dev) (n : Nat) : (s.elapse n).gdu = s.gdu := rfl
@[simp] theorem elapse_eng (s : Dev) (n : Nat) : (s.elapse n).eng = s.eng := rfl
@[simp] theorem elapse_consol (s : Dev) (n : Nat) : (s.elapse n).consol = s.consol := rfl
@[simp] theorem elapse_chans (s : Dev) (n : Nat) : (s.elapse n).chans = s.chans := rfl
@[simp] theorem elapse_mpe (s : Dev) (n : Nat) : (s.elapse n).mpe = s.mpe := rfl
@[simp] theorem elapse_macs (s : Dev) (n : Nat) : (s.elapse n).macs = s.macs := rfl
@[simp] theorem elapse_lanes (s : Dev) (n : Nat) : (s.elapse n).lanes = s.lanes := rfl
@[simp] theorem elapse_tdm (s : Dev) (n : Nat) : (s.elapse n).tdm = s.tdm := rfl
@[simp] theorem elapse_arc (s : Dev) (n : Nat) : (s.elapse n).arc = s.arc := rfl
@[simp] theorem elapse_ledger (s : Dev) (n : Nat) : (s.elapse n).ledger = s.ledger := rfl
@[simp] theorem elapse_flt (s : Dev) (n : Nat) : (s.elapse n).flt = s.flt := rfl
@[simp] theorem elapse_ron (s : Dev) (n : Nat) : (s.elapse n).ron = s.ron := rfl
@[simp] theorem elapse_pci (s : Dev) (n : Nat) : (s.elapse n).pci = s.pci := rfl
@[simp] theorem elapse_night (s : Dev) (n : Nat) : (s.elapse n).night = s.night := rfl
@[simp] theorem elapse_pwr (s : Dev) (n : Nat) : (s.elapse n).pwr = s.pwr := rfl
@[simp] theorem elapse_tests (s : Dev) (n : Nat) : (s.elapse n).tests = s.tests := rfl
@[simp] theorem elapse_lostSets (s : Dev) (n : Nat) : (s.elapse n).lostSets = s.lostSets := rfl
@[simp] theorem elapse_reloads (s : Dev) (n : Nat) : (s.elapse n).reloads = s.reloads := rfl
@[simp] theorem elapse_loads (s : Dev) (n : Nat) : (s.elapse n).loads = s.loads := rfl
@[simp] theorem elapse_tileMem (s : Dev) (n : Nat) : (s.elapse n).tileMem = s.tileMem := rfl
@[simp] theorem elapse_tileUsed (s : Dev) (n : Nat) : (s.elapse n).tileUsed = s.tileUsed := rfl
@[simp] theorem elapse_once (s : Dev) (n : Nat) : (s.elapse n).once = s.once := rfl
@[simp] theorem elapse_shorts (s : Dev) (n : Nat) : (s.elapse n).shorts = s.shorts := rfl
@[simp] theorem elapse_outbox (s : Dev) (n : Nat) : (s.elapse n).outbox = s.outbox := rfl

/-! ### Something is sent out. -/

@[simp] theorem emit_regs (s : Dev) (e : Emission) : (s.emit e).regs = s.regs := rfl
@[simp] theorem emit_cycles (s : Dev) (e : Emission) : (s.emit e).cycles = s.cycles := rfl
@[simp] theorem emit_gcycle (s : Dev) (e : Emission) : (s.emit e).gcycle = s.gcycle := rfl
@[simp] theorem emit_free (s : Dev) (e : Emission) : (s.emit e).free = s.free := rfl
@[simp] theorem emit_boot (s : Dev) (e : Emission) : (s.emit e).boot = s.boot := rfl
@[simp] theorem emit_time (s : Dev) (e : Emission) : (s.emit e).time = s.time := rfl
@[simp] theorem emit_epochs (s : Dev) (e : Emission) : (s.emit e).epochs = s.epochs := rfl
@[simp] theorem emit_gdu (s : Dev) (e : Emission) : (s.emit e).gdu = s.gdu := rfl
@[simp] theorem emit_eng (s : Dev) (e : Emission) : (s.emit e).eng = s.eng := rfl
@[simp] theorem emit_consol (s : Dev) (e : Emission) : (s.emit e).consol = s.consol := rfl
@[simp] theorem emit_chans (s : Dev) (e : Emission) : (s.emit e).chans = s.chans := rfl
@[simp] theorem emit_mpe (s : Dev) (e : Emission) : (s.emit e).mpe = s.mpe := rfl
@[simp] theorem emit_macs (s : Dev) (e : Emission) : (s.emit e).macs = s.macs := rfl
@[simp] theorem emit_lanes (s : Dev) (e : Emission) : (s.emit e).lanes = s.lanes := rfl
@[simp] theorem emit_tdm (s : Dev) (e : Emission) : (s.emit e).tdm = s.tdm := rfl
@[simp] theorem emit_arc (s : Dev) (e : Emission) : (s.emit e).arc = s.arc := rfl
@[simp] theorem emit_ledger (s : Dev) (e : Emission) : (s.emit e).ledger = s.ledger := rfl
@[simp] theorem emit_flt (s : Dev) (e : Emission) : (s.emit e).flt = s.flt := rfl
@[simp] theorem emit_ron (s : Dev) (e : Emission) : (s.emit e).ron = s.ron := rfl
@[simp] theorem emit_pci (s : Dev) (e : Emission) : (s.emit e).pci = s.pci := rfl
@[simp] theorem emit_night (s : Dev) (e : Emission) : (s.emit e).night = s.night := rfl
@[simp] theorem emit_pwr (s : Dev) (e : Emission) : (s.emit e).pwr = s.pwr := rfl
@[simp] theorem emit_tests (s : Dev) (e : Emission) : (s.emit e).tests = s.tests := rfl
@[simp] theorem emit_lostSets (s : Dev) (e : Emission) : (s.emit e).lostSets = s.lostSets := rfl
@[simp] theorem emit_reloads (s : Dev) (e : Emission) : (s.emit e).reloads = s.reloads := rfl
@[simp] theorem emit_loads (s : Dev) (e : Emission) : (s.emit e).loads = s.loads := rfl
@[simp] theorem emit_tileMem (s : Dev) (e : Emission) : (s.emit e).tileMem = s.tileMem := rfl
@[simp] theorem emit_tileUsed (s : Dev) (e : Emission) : (s.emit e).tileUsed = s.tileUsed := rfl
@[simp] theorem emit_once (s : Dev) (e : Emission) : (s.emit e).once = s.once := rfl
@[simp] theorem emit_shorts (s : Dev) (e : Emission) : (s.emit e).shorts = s.shorts := rfl

/-! ### A channel is written. -/

@[simp] theorem setChan_regs (s : Dev) (c : Nat) (k : Channel) : (s.setChan c k).regs = s.regs := rfl
@[simp] theorem setChan_cycles (s : Dev) (c : Nat) (k : Channel) : (s.setChan c k).cycles = s.cycles := rfl
@[simp] theorem setChan_gcycle (s : Dev) (c : Nat) (k : Channel) : (s.setChan c k).gcycle = s.gcycle := rfl
@[simp] theorem setChan_free (s : Dev) (c : Nat) (k : Channel) : (s.setChan c k).free = s.free := rfl
@[simp] theorem setChan_boot (s : Dev) (c : Nat) (k : Channel) : (s.setChan c k).boot = s.boot := rfl
@[simp] theorem setChan_time (s : Dev) (c : Nat) (k : Channel) : (s.setChan c k).time = s.time := rfl
@[simp] theorem setChan_epochs (s : Dev) (c : Nat) (k : Channel) : (s.setChan c k).epochs = s.epochs := rfl
@[simp] theorem setChan_gdu (s : Dev) (c : Nat) (k : Channel) : (s.setChan c k).gdu = s.gdu := rfl
@[simp] theorem setChan_eng (s : Dev) (c : Nat) (k : Channel) : (s.setChan c k).eng = s.eng := rfl
@[simp] theorem setChan_consol (s : Dev) (c : Nat) (k : Channel) : (s.setChan c k).consol = s.consol := rfl
@[simp] theorem setChan_mpe (s : Dev) (c : Nat) (k : Channel) : (s.setChan c k).mpe = s.mpe := rfl
@[simp] theorem setChan_macs (s : Dev) (c : Nat) (k : Channel) : (s.setChan c k).macs = s.macs := rfl
@[simp] theorem setChan_lanes (s : Dev) (c : Nat) (k : Channel) : (s.setChan c k).lanes = s.lanes := rfl
@[simp] theorem setChan_tdm (s : Dev) (c : Nat) (k : Channel) : (s.setChan c k).tdm = s.tdm := rfl
@[simp] theorem setChan_arc (s : Dev) (c : Nat) (k : Channel) : (s.setChan c k).arc = s.arc := rfl
@[simp] theorem setChan_ledger (s : Dev) (c : Nat) (k : Channel) : (s.setChan c k).ledger = s.ledger := rfl
@[simp] theorem setChan_flt (s : Dev) (c : Nat) (k : Channel) : (s.setChan c k).flt = s.flt := rfl
@[simp] theorem setChan_ron (s : Dev) (c : Nat) (k : Channel) : (s.setChan c k).ron = s.ron := rfl
@[simp] theorem setChan_pci (s : Dev) (c : Nat) (k : Channel) : (s.setChan c k).pci = s.pci := rfl
@[simp] theorem setChan_night (s : Dev) (c : Nat) (k : Channel) : (s.setChan c k).night = s.night := rfl
@[simp] theorem setChan_pwr (s : Dev) (c : Nat) (k : Channel) : (s.setChan c k).pwr = s.pwr := rfl
@[simp] theorem setChan_tests (s : Dev) (c : Nat) (k : Channel) : (s.setChan c k).tests = s.tests := rfl
@[simp] theorem setChan_lostSets (s : Dev) (c : Nat) (k : Channel) : (s.setChan c k).lostSets = s.lostSets := rfl
@[simp] theorem setChan_reloads (s : Dev) (c : Nat) (k : Channel) : (s.setChan c k).reloads = s.reloads := rfl
@[simp] theorem setChan_loads (s : Dev) (c : Nat) (k : Channel) : (s.setChan c k).loads = s.loads := rfl
@[simp] theorem setChan_tileMem (s : Dev) (c : Nat) (k : Channel) : (s.setChan c k).tileMem = s.tileMem := rfl
@[simp] theorem setChan_tileUsed (s : Dev) (c : Nat) (k : Channel) : (s.setChan c k).tileUsed = s.tileUsed := rfl
@[simp] theorem setChan_once (s : Dev) (c : Nat) (k : Channel) : (s.setChan c k).once = s.once := rfl
@[simp] theorem setChan_shorts (s : Dev) (c : Nat) (k : Channel) : (s.setChan c k).shorts = s.shorts := rfl
@[simp] theorem setChan_outbox (s : Dev) (c : Nat) (k : Channel) : (s.setChan c k).outbox = s.outbox := rfl

/-! ### A Ronong lane is written. -/

@[simp] theorem setRl_regs (s : Dev) (k : Nat) (l : RonLane) : (s.setRl k l).regs = s.regs := rfl
@[simp] theorem setRl_cycles (s : Dev) (k : Nat) (l : RonLane) : (s.setRl k l).cycles = s.cycles := rfl
@[simp] theorem setRl_gcycle (s : Dev) (k : Nat) (l : RonLane) : (s.setRl k l).gcycle = s.gcycle := rfl
@[simp] theorem setRl_free (s : Dev) (k : Nat) (l : RonLane) : (s.setRl k l).free = s.free := rfl
@[simp] theorem setRl_boot (s : Dev) (k : Nat) (l : RonLane) : (s.setRl k l).boot = s.boot := rfl
@[simp] theorem setRl_time (s : Dev) (k : Nat) (l : RonLane) : (s.setRl k l).time = s.time := rfl
@[simp] theorem setRl_epochs (s : Dev) (k : Nat) (l : RonLane) : (s.setRl k l).epochs = s.epochs := rfl
@[simp] theorem setRl_gdu (s : Dev) (k : Nat) (l : RonLane) : (s.setRl k l).gdu = s.gdu := rfl
@[simp] theorem setRl_eng (s : Dev) (k : Nat) (l : RonLane) : (s.setRl k l).eng = s.eng := rfl
@[simp] theorem setRl_consol (s : Dev) (k : Nat) (l : RonLane) : (s.setRl k l).consol = s.consol := rfl
@[simp] theorem setRl_chans (s : Dev) (k : Nat) (l : RonLane) : (s.setRl k l).chans = s.chans := rfl
@[simp] theorem setRl_mpe (s : Dev) (k : Nat) (l : RonLane) : (s.setRl k l).mpe = s.mpe := rfl
@[simp] theorem setRl_macs (s : Dev) (k : Nat) (l : RonLane) : (s.setRl k l).macs = s.macs := rfl
@[simp] theorem setRl_lanes (s : Dev) (k : Nat) (l : RonLane) : (s.setRl k l).lanes = s.lanes := rfl
@[simp] theorem setRl_tdm (s : Dev) (k : Nat) (l : RonLane) : (s.setRl k l).tdm = s.tdm := rfl
@[simp] theorem setRl_arc (s : Dev) (k : Nat) (l : RonLane) : (s.setRl k l).arc = s.arc := rfl
@[simp] theorem setRl_ledger (s : Dev) (k : Nat) (l : RonLane) : (s.setRl k l).ledger = s.ledger := rfl
@[simp] theorem setRl_flt (s : Dev) (k : Nat) (l : RonLane) : (s.setRl k l).flt = s.flt := rfl
@[simp] theorem setRl_pci (s : Dev) (k : Nat) (l : RonLane) : (s.setRl k l).pci = s.pci := rfl
@[simp] theorem setRl_night (s : Dev) (k : Nat) (l : RonLane) : (s.setRl k l).night = s.night := rfl
@[simp] theorem setRl_pwr (s : Dev) (k : Nat) (l : RonLane) : (s.setRl k l).pwr = s.pwr := rfl
@[simp] theorem setRl_tests (s : Dev) (k : Nat) (l : RonLane) : (s.setRl k l).tests = s.tests := rfl
@[simp] theorem setRl_lostSets (s : Dev) (k : Nat) (l : RonLane) : (s.setRl k l).lostSets = s.lostSets := rfl
@[simp] theorem setRl_reloads (s : Dev) (k : Nat) (l : RonLane) : (s.setRl k l).reloads = s.reloads := rfl
@[simp] theorem setRl_loads (s : Dev) (k : Nat) (l : RonLane) : (s.setRl k l).loads = s.loads := rfl
@[simp] theorem setRl_tileMem (s : Dev) (k : Nat) (l : RonLane) : (s.setRl k l).tileMem = s.tileMem := rfl
@[simp] theorem setRl_tileUsed (s : Dev) (k : Nat) (l : RonLane) : (s.setRl k l).tileUsed = s.tileUsed := rfl
@[simp] theorem setRl_once (s : Dev) (k : Nat) (l : RonLane) : (s.setRl k l).once = s.once := rfl
@[simp] theorem setRl_shorts (s : Dev) (k : Nat) (l : RonLane) : (s.setRl k l).shorts = s.shorts := rfl
@[simp] theorem setRl_outbox (s : Dev) (k : Nat) (l : RonLane) : (s.setRl k l).outbox = s.outbox := rfl

/-! ### An event ring is written. -/

@[simp] theorem setEr_regs (s : Dev) (r : Nat) (x : EvRing) : (s.setEr r x).regs = s.regs := rfl
@[simp] theorem setEr_cycles (s : Dev) (r : Nat) (x : EvRing) : (s.setEr r x).cycles = s.cycles := rfl
@[simp] theorem setEr_gcycle (s : Dev) (r : Nat) (x : EvRing) : (s.setEr r x).gcycle = s.gcycle := rfl
@[simp] theorem setEr_free (s : Dev) (r : Nat) (x : EvRing) : (s.setEr r x).free = s.free := rfl
@[simp] theorem setEr_boot (s : Dev) (r : Nat) (x : EvRing) : (s.setEr r x).boot = s.boot := rfl
@[simp] theorem setEr_time (s : Dev) (r : Nat) (x : EvRing) : (s.setEr r x).time = s.time := rfl
@[simp] theorem setEr_epochs (s : Dev) (r : Nat) (x : EvRing) : (s.setEr r x).epochs = s.epochs := rfl
@[simp] theorem setEr_gdu (s : Dev) (r : Nat) (x : EvRing) : (s.setEr r x).gdu = s.gdu := rfl
@[simp] theorem setEr_eng (s : Dev) (r : Nat) (x : EvRing) : (s.setEr r x).eng = s.eng := rfl
@[simp] theorem setEr_consol (s : Dev) (r : Nat) (x : EvRing) : (s.setEr r x).consol = s.consol := rfl
@[simp] theorem setEr_chans (s : Dev) (r : Nat) (x : EvRing) : (s.setEr r x).chans = s.chans := rfl
@[simp] theorem setEr_mpe (s : Dev) (r : Nat) (x : EvRing) : (s.setEr r x).mpe = s.mpe := rfl
@[simp] theorem setEr_macs (s : Dev) (r : Nat) (x : EvRing) : (s.setEr r x).macs = s.macs := rfl
@[simp] theorem setEr_lanes (s : Dev) (r : Nat) (x : EvRing) : (s.setEr r x).lanes = s.lanes := rfl
@[simp] theorem setEr_tdm (s : Dev) (r : Nat) (x : EvRing) : (s.setEr r x).tdm = s.tdm := rfl
@[simp] theorem setEr_arc (s : Dev) (r : Nat) (x : EvRing) : (s.setEr r x).arc = s.arc := rfl
@[simp] theorem setEr_ledger (s : Dev) (r : Nat) (x : EvRing) : (s.setEr r x).ledger = s.ledger := rfl
@[simp] theorem setEr_flt (s : Dev) (r : Nat) (x : EvRing) : (s.setEr r x).flt = s.flt := rfl
@[simp] theorem setEr_ron (s : Dev) (r : Nat) (x : EvRing) : (s.setEr r x).ron = s.ron := rfl
@[simp] theorem setEr_night (s : Dev) (r : Nat) (x : EvRing) : (s.setEr r x).night = s.night := rfl
@[simp] theorem setEr_pwr (s : Dev) (r : Nat) (x : EvRing) : (s.setEr r x).pwr = s.pwr := rfl
@[simp] theorem setEr_tests (s : Dev) (r : Nat) (x : EvRing) : (s.setEr r x).tests = s.tests := rfl
@[simp] theorem setEr_lostSets (s : Dev) (r : Nat) (x : EvRing) : (s.setEr r x).lostSets = s.lostSets := rfl
@[simp] theorem setEr_reloads (s : Dev) (r : Nat) (x : EvRing) : (s.setEr r x).reloads = s.reloads := rfl
@[simp] theorem setEr_loads (s : Dev) (r : Nat) (x : EvRing) : (s.setEr r x).loads = s.loads := rfl
@[simp] theorem setEr_tileMem (s : Dev) (r : Nat) (x : EvRing) : (s.setEr r x).tileMem = s.tileMem := rfl
@[simp] theorem setEr_tileUsed (s : Dev) (r : Nat) (x : EvRing) : (s.setEr r x).tileUsed = s.tileUsed := rfl
@[simp] theorem setEr_once (s : Dev) (r : Nat) (x : EvRing) : (s.setEr r x).once = s.once := rfl
@[simp] theorem setEr_shorts (s : Dev) (r : Nat) (x : EvRing) : (s.setEr r x).shorts = s.shorts := rfl
@[simp] theorem setEr_outbox (s : Dev) (r : Nat) (x : EvRing) : (s.setEr r x).outbox = s.outbox := rfl

/-! ### A MAC is written. -/

@[simp] theorem setMac_regs (s : Dev) (e : Nat) (m : Mac) : (s.setMac e m).regs = s.regs := rfl
@[simp] theorem setMac_cycles (s : Dev) (e : Nat) (m : Mac) : (s.setMac e m).cycles = s.cycles := rfl
@[simp] theorem setMac_gcycle (s : Dev) (e : Nat) (m : Mac) : (s.setMac e m).gcycle = s.gcycle := rfl
@[simp] theorem setMac_free (s : Dev) (e : Nat) (m : Mac) : (s.setMac e m).free = s.free := rfl
@[simp] theorem setMac_boot (s : Dev) (e : Nat) (m : Mac) : (s.setMac e m).boot = s.boot := rfl
@[simp] theorem setMac_time (s : Dev) (e : Nat) (m : Mac) : (s.setMac e m).time = s.time := rfl
@[simp] theorem setMac_epochs (s : Dev) (e : Nat) (m : Mac) : (s.setMac e m).epochs = s.epochs := rfl
@[simp] theorem setMac_gdu (s : Dev) (e : Nat) (m : Mac) : (s.setMac e m).gdu = s.gdu := rfl
@[simp] theorem setMac_eng (s : Dev) (e : Nat) (m : Mac) : (s.setMac e m).eng = s.eng := rfl
@[simp] theorem setMac_consol (s : Dev) (e : Nat) (m : Mac) : (s.setMac e m).consol = s.consol := rfl
@[simp] theorem setMac_chans (s : Dev) (e : Nat) (m : Mac) : (s.setMac e m).chans = s.chans := rfl
@[simp] theorem setMac_mpe (s : Dev) (e : Nat) (m : Mac) : (s.setMac e m).mpe = s.mpe := rfl
@[simp] theorem setMac_lanes (s : Dev) (e : Nat) (m : Mac) : (s.setMac e m).lanes = s.lanes := rfl
@[simp] theorem setMac_tdm (s : Dev) (e : Nat) (m : Mac) : (s.setMac e m).tdm = s.tdm := rfl
@[simp] theorem setMac_arc (s : Dev) (e : Nat) (m : Mac) : (s.setMac e m).arc = s.arc := rfl
@[simp] theorem setMac_ledger (s : Dev) (e : Nat) (m : Mac) : (s.setMac e m).ledger = s.ledger := rfl
@[simp] theorem setMac_flt (s : Dev) (e : Nat) (m : Mac) : (s.setMac e m).flt = s.flt := rfl
@[simp] theorem setMac_ron (s : Dev) (e : Nat) (m : Mac) : (s.setMac e m).ron = s.ron := rfl
@[simp] theorem setMac_pci (s : Dev) (e : Nat) (m : Mac) : (s.setMac e m).pci = s.pci := rfl
@[simp] theorem setMac_night (s : Dev) (e : Nat) (m : Mac) : (s.setMac e m).night = s.night := rfl
@[simp] theorem setMac_pwr (s : Dev) (e : Nat) (m : Mac) : (s.setMac e m).pwr = s.pwr := rfl
@[simp] theorem setMac_tests (s : Dev) (e : Nat) (m : Mac) : (s.setMac e m).tests = s.tests := rfl
@[simp] theorem setMac_lostSets (s : Dev) (e : Nat) (m : Mac) : (s.setMac e m).lostSets = s.lostSets := rfl
@[simp] theorem setMac_reloads (s : Dev) (e : Nat) (m : Mac) : (s.setMac e m).reloads = s.reloads := rfl
@[simp] theorem setMac_loads (s : Dev) (e : Nat) (m : Mac) : (s.setMac e m).loads = s.loads := rfl
@[simp] theorem setMac_tileMem (s : Dev) (e : Nat) (m : Mac) : (s.setMac e m).tileMem = s.tileMem := rfl
@[simp] theorem setMac_tileUsed (s : Dev) (e : Nat) (m : Mac) : (s.setMac e m).tileUsed = s.tileUsed := rfl
@[simp] theorem setMac_once (s : Dev) (e : Nat) (m : Mac) : (s.setMac e m).once = s.once := rfl
@[simp] theorem setMac_shorts (s : Dev) (e : Nat) (m : Mac) : (s.setMac e m).shorts = s.shorts := rfl
@[simp] theorem setMac_outbox (s : Dev) (e : Nat) (m : Mac) : (s.setMac e m).outbox = s.outbox := rfl

/-! ### A lane is written. -/

@[simp] theorem setLane_regs (s : Dev) (m : Nat) (l : Lane) : (s.setLane m l).regs = s.regs := rfl
@[simp] theorem setLane_cycles (s : Dev) (m : Nat) (l : Lane) : (s.setLane m l).cycles = s.cycles := rfl
@[simp] theorem setLane_gcycle (s : Dev) (m : Nat) (l : Lane) : (s.setLane m l).gcycle = s.gcycle := rfl
@[simp] theorem setLane_free (s : Dev) (m : Nat) (l : Lane) : (s.setLane m l).free = s.free := rfl
@[simp] theorem setLane_boot (s : Dev) (m : Nat) (l : Lane) : (s.setLane m l).boot = s.boot := rfl
@[simp] theorem setLane_time (s : Dev) (m : Nat) (l : Lane) : (s.setLane m l).time = s.time := rfl
@[simp] theorem setLane_epochs (s : Dev) (m : Nat) (l : Lane) : (s.setLane m l).epochs = s.epochs := rfl
@[simp] theorem setLane_gdu (s : Dev) (m : Nat) (l : Lane) : (s.setLane m l).gdu = s.gdu := rfl
@[simp] theorem setLane_eng (s : Dev) (m : Nat) (l : Lane) : (s.setLane m l).eng = s.eng := rfl
@[simp] theorem setLane_consol (s : Dev) (m : Nat) (l : Lane) : (s.setLane m l).consol = s.consol := rfl
@[simp] theorem setLane_chans (s : Dev) (m : Nat) (l : Lane) : (s.setLane m l).chans = s.chans := rfl
@[simp] theorem setLane_mpe (s : Dev) (m : Nat) (l : Lane) : (s.setLane m l).mpe = s.mpe := rfl
@[simp] theorem setLane_macs (s : Dev) (m : Nat) (l : Lane) : (s.setLane m l).macs = s.macs := rfl
@[simp] theorem setLane_tdm (s : Dev) (m : Nat) (l : Lane) : (s.setLane m l).tdm = s.tdm := rfl
@[simp] theorem setLane_arc (s : Dev) (m : Nat) (l : Lane) : (s.setLane m l).arc = s.arc := rfl
@[simp] theorem setLane_ledger (s : Dev) (m : Nat) (l : Lane) : (s.setLane m l).ledger = s.ledger := rfl
@[simp] theorem setLane_flt (s : Dev) (m : Nat) (l : Lane) : (s.setLane m l).flt = s.flt := rfl
@[simp] theorem setLane_ron (s : Dev) (m : Nat) (l : Lane) : (s.setLane m l).ron = s.ron := rfl
@[simp] theorem setLane_pci (s : Dev) (m : Nat) (l : Lane) : (s.setLane m l).pci = s.pci := rfl
@[simp] theorem setLane_night (s : Dev) (m : Nat) (l : Lane) : (s.setLane m l).night = s.night := rfl
@[simp] theorem setLane_pwr (s : Dev) (m : Nat) (l : Lane) : (s.setLane m l).pwr = s.pwr := rfl
@[simp] theorem setLane_tests (s : Dev) (m : Nat) (l : Lane) : (s.setLane m l).tests = s.tests := rfl
@[simp] theorem setLane_lostSets (s : Dev) (m : Nat) (l : Lane) : (s.setLane m l).lostSets = s.lostSets := rfl
@[simp] theorem setLane_reloads (s : Dev) (m : Nat) (l : Lane) : (s.setLane m l).reloads = s.reloads := rfl
@[simp] theorem setLane_loads (s : Dev) (m : Nat) (l : Lane) : (s.setLane m l).loads = s.loads := rfl
@[simp] theorem setLane_tileMem (s : Dev) (m : Nat) (l : Lane) : (s.setLane m l).tileMem = s.tileMem := rfl
@[simp] theorem setLane_tileUsed (s : Dev) (m : Nat) (l : Lane) : (s.setLane m l).tileUsed = s.tileUsed := rfl
@[simp] theorem setLane_once (s : Dev) (m : Nat) (l : Lane) : (s.setLane m l).once = s.once := rfl
@[simp] theorem setLane_shorts (s : Dev) (m : Nat) (l : Lane) : (s.setLane m l).shorts = s.shorts := rfl
@[simp] theorem setLane_outbox (s : Dev) (m : Nat) (l : Lane) : (s.setLane m l).outbox = s.outbox := rfl

end Sys2Proof.Laws
end

