-- ==== Sys2Proof/Laws/Events.lean ====
section
/-! SUPPORT. What an occurrence, its reactions and its Ledger entry leave alone: the clock, the time base, the channels, and what every unit
but the fault collector, the Ledger, the archive engine, the rings and the boot unit's list of held events holds beside its registers. -/

open Sys2Proof Sys2Proof.Machine

namespace Sys2Proof.Laws

set_option Elab.async false

/-- The two devices hold the same work: everything but registers, faults, Ledger, archive, rings, power, the events held for the Ledger and
what has left the device. -/
def SameWork (a b : Dev) : Prop :=
  (a.cycles, a.gcycle, a.free, a.time, a.epochs, a.gdu, a.eng, a.consol, a.chans, a.mpe, a.macs) =
      (b.cycles, b.gcycle, b.free, b.time, b.epochs, b.gdu, b.eng, b.consol, b.chans, b.mpe, b.macs) ∧
    (a.lanes, a.tdm, a.ron, a.night, a.tests, a.lostSets, a.reloads, a.loads, a.tileMem, a.tileUsed, a.shorts) =
      (b.lanes, b.tdm, b.ron, b.night, b.tests, b.lostSets, b.reloads, b.loads, b.tileMem, b.tileUsed, b.shorts) ∧
    { a.boot with held := [] } = { b.boot with held := [] }

theorem SameWork.rfl {a : Dev} : SameWork a a := ⟨Eq.refl _, Eq.refl _, Eq.refl _⟩

theorem SameWork.trans {a b c : Dev} (h : SameWork a b) (k : SameWork b c) : SameWork a c := ⟨h.1.trans k.1, h.2.1.trans k.2.1, h.2.2.trans k.2.2⟩

theorem SameWork.ite {p : Prop} [Decidable p] {a b c : Dev} (h : SameWork a c) (k : SameWork b c) : SameWork (if p then a else b) c := by
  split
  · exact h
  · exact k

/-- What the work says of channels. -/
theorem SameWork.chans {a b : Dev} (h : SameWork a b) : a.chans = b.chans := by
  have := h.1; simp only [Prod.mk.injEq] at this; exact this.2.2.2.2.2.2.2.2.1

/-- What the work says of the boot unit: all but the events that it holds for the Ledger. -/
theorem SameWork.boot {a b : Dev} (h : SameWork a b) : a.boot = { b.boot with held := a.boot.held } := by
  have := congrArg (fun x : Boot => { x with held := a.boot.held }) h.2.2
  exact this

theorem setReg_same (s : Dev) (a : Nat) (w : Word) : SameWork (s.setReg a w) s := ⟨rfl, rfl, rfl⟩
theorem setBit_same (s : Dev) (a i : Nat) (b : Bool) : SameWork (s.setBit a i b) s := ⟨rfl, rfl, rfl⟩
theorem setFld_same (s : Dev) (a lo len v : Nat) : SameWork (s.setFld a lo len v) s := ⟨rfl, rfl, rfl⟩
theorem setNat_same (s : Dev) (a v : Nat) : SameWork (s.setNat a v) s := ⟨rfl, rfl, rfl⟩
theorem emit_same (s : Dev) (e : Emission) : SameWork (s.emit e) s := ⟨rfl, rfl, rfl⟩
theorem setEr_same (s : Dev) (r : Nat) (x : EvRing) : SameWork (s.setEr r x) s := ⟨rfl, rfl, rfl⟩

theorem maxFld_same (s : Dev) (a lo len v : Nat) : SameWork (s.maxFld a lo len v) s := .ite (setFld_same ..) .rfl

theorem oncePer_same (s : Dev) (k p : Nat) : SameWork (s.oncePer k p).2 s := by
  unfold Dev.oncePer; split <;> exact ⟨rfl, rfl, rfl⟩

theorem msix_same (v : Nat) (s : Dev) : SameWork (msix v s) s := .ite .rfl (.ite (setBit_same ..) (emit_same ..))

theorem coalesce_same (r : Nat) (s : Dev) : SameWork (coalesce r s) s :=
  .ite ((msix_same ..).trans (setEr_same ..)) (setEr_same ..)

theorem erWrite_same (r : Nat) (o : Octets) (s : Dev) : SameWork (erWrite r o s) s :=
  (coalesce_same ..).trans (.ite ((setBit_same ..).trans ((setFld_same ..).trans (emit_same ..))) ((setFld_same ..).trans (emit_same ..)))

theorem setLive_same (n : Nat) (b : Bool) (s : Dev) : SameWork (setLive n b s) s :=
  .ite ((setBit_same ..).trans (setBit_same ..)) ((setFld_same ..).trans ((setBit_same ..).trans (setBit_same ..)))

theorem putStamp_same (a : Nat) (t : Stamp) (s : Dev) : SameWork (putStamp a t s) s :=
  (setNat_same ..).trans ((setNat_same ..).trans (setNat_same ..))

theorem statusOcc_same (n : Nat) (a b : Bool) (t : Stamp) (s : Dev) : SameWork (statusOcc n a b t s) s := by
  unfold statusOcc stickyUpdate
  refine (setBit_same ..).trans (.ite ((setBit_same ..).trans ?_) ?_) <;> refine .ite ((setBit_same ..).trans ?_) ?_ <;>
    exact (putStamp_same ..).trans ((setFld_same ..).trans (.ite (putStamp_same ..) .rfl))

theorem entryAllowed_same (a b : Nat) (s : Dev) : SameWork (entryAllowed a b s).2 s := by
  unfold entryAllowed; repeat' split
  all_goals exact ⟨rfl, rfl, rfl⟩

theorem faultRecord_same (e : LedgerEvent) (s : Dev) : SameWork (faultRecord e s) s := ⟨rfl, rfl, rfl⟩

theorem pairLatch_same (s : Dev) : SameWork (pairLatch s) s :=
  .ite (setBit_same ..) ((emit_same ..).trans (setBit_same ..))

theorem react_same (n m : Nat) (r : Option (Nat × Resource)) (s : Dev) : SameWork (react n m r s) s := by
  unfold react
  refine SameWork.trans (.ite ⟨rfl, rfl, rfl⟩ .rfl) (.trans (.ite ⟨rfl, rfl, rfl⟩ .rfl) (.trans (.ite (pairLatch_same _) .rfl) ?_))
  refine .trans (.ite ?_ .rfl) (.ite ?_ .rfl)
  · exact .ite .rfl ⟨rfl, rfl, rfl⟩
  · exact .ite ((msix_same ..).trans (setBit_same ..)) (setBit_same ..)

/-- An occurrence leaves the work alone where what it pushes does. -/
theorem occurWith_same (push : LedgerEvent → Dev → Dev) (hp : ∀ e s, SameWork (push e s) s) (src : Nat) (o : OccData) (a b : Bool) (t : Stamp)
    (r : Option (Nat × Resource)) (s : Dev) : SameWork (occurWith push src o a b t r s) s := by
  have k : ∀ d : Dev, SameWork (fastOscRun d) d := fun d => ⟨rfl, rfl, rfl⟩
  unfold occurWith
  refine .ite .rfl ((react_same ..).trans ?_)
  have e : ∀ d : Dev, SameWork d s → SameWork { d with flt := { d.flt with entered := if (entryAllowed src t.sec d).1 then src :: d.flt.entered.filter (· != src) else d.flt.entered.filter (· != src) } } s := fun d h => h
  refine .ite ((faultRecord_same ..).trans ?_) ?_ <;>
    exact .ite ((hp _ _).trans (SameWork.trans (b := (entryAllowed src t.sec (statusOcc src a b t (fastOscRun s))).2) ⟨rfl, rfl, rfl⟩
        ((entryAllowed_same ..).trans ((statusOcc_same ..).trans (k s)))))
      ((setNat_same ..).trans (SameWork.trans (b := (entryAllowed src t.sec (statusOcc src a b t (fastOscRun s))).2) ⟨rfl, rfl, rfl⟩
        ((entryAllowed_same ..).trans ((statusOcc_same ..).trans (k s)))))

theorem ledgerCount_same (s : Dev) : SameWork (ledgerCount s) s := (maxFld_same ..).trans (setFld_same ..)

theorem f1Status_same (s : Dev) : SameWork (f1Status s) s := (setBit_same ..).trans (setFld_same ..)

theorem exportClose_same (b : Bool) (s : Dev) : SameWork (exportClose b s) s := by
  unfold exportClose; split
  · exact .rfl
  · exact (f1Status_same _).trans ⟨rfl, rfl, rfl⟩

theorem exportEntry_same (lost : Dev → Dev) (hl : ∀ s, SameWork (lost s) s) (t : Stamp) (o : Octets) (s : Dev) :
    SameWork (exportEntry lost t o s) s := by
  unfold exportEntry
  refine .ite .rfl (.ite .rfl (.ite (setNat_same ..) (.ite ((hl _).trans ((setNat_same ..).trans (.ite .rfl (exportClose_same ..)))) ?_)))
  exact (f1Status_same _).trans (.ite ((exportClose_same ..).trans ⟨rfl, rfl, rfl⟩) ⟨rfl, rfl, rfl⟩)

theorem ledgerPut_same (lost : Dev → Dev) (hl : ∀ s, SameWork (lost s) s) (e : LedgerEvent) (s : Dev) : SameWork (ledgerPut lost e s).2 s := by
  unfold ledgerPut; split
  · exact ⟨rfl, rfl, rfl⟩
  · exact .ite ((setNat_same ..).trans ((exportEntry_same _ hl _ _ _).trans ⟨rfl, rfl, rfl⟩)) ((exportEntry_same _ hl _ _ _).trans ⟨rfl, rfl, rfl⟩)

theorem bufEvict_same (write : LedgerEvent → Dev → Dev) (hw : ∀ e s, SameWork (write e s) s) (s : Dev) : SameWork (bufEvict write s) s := by
  unfold bufEvict
  dsimp only
  split
  · exact .rfl
  · exact (hw _ _).trans ⟨rfl, rfl, rfl⟩

theorem bufRoom_same (write : LedgerEvent → Dev → Dev) (hw : ∀ e s, SameWork (write e s) s) (s : Dev) : SameWork (bufRoom write s) s := by
  have once : ∀ (w : LedgerEvent → Dev → Dev) (_ : ∀ e s, SameWork (w e s) s) (s : Dev),
      SameWork (if s.ledger.buf.length < 1024 then s else bufEvict w s) s := fun w k s => .ite .rfl (bufEvict_same w k s)
  unfold bufRoom
  exact (once _ (fun e s => ledgerPut_same id (fun _ => .rfl) e s) _).trans ((once _ hw _).trans ((once _ hw _).trans (once _ hw _)))

theorem bufAppend_same (e : LedgerEvent) (s : Dev) : SameWork (bufAppend e s) s := (ledgerCount_same _).trans ⟨rfl, rfl, rfl⟩

/-- Taking an event leaves the work alone where what evictions write does. -/
theorem bufTake_same (write : LedgerEvent → Dev → Dev) (hw : ∀ e s, SameWork (write e s) s) (e : LedgerEvent) (s : Dev) :
    SameWork (bufTake write e s) s := by
  unfold bufTake
  split
  · exact ⟨rfl, rfl, rfl⟩
  · split
    · exact .rfl
    · exact (bufAppend_same ..).trans (bufRoom_same write hw s)

theorem postWith_same (push : LedgerEvent → Dev → Dev) (hp : ∀ e s, SameWork (push e s) s) (r : Nat) (e : LedgerEvent) (s : Dev) :
    SameWork (postWith push r e s) s := by
  have k : SameWork ((s.setEr r { s.er r with gap := true }).oncePer 0x0C5 s.time.ticks).2 s := (oncePer_same ..).trans (setEr_same ..)
  unfold postWith
  exact .ite (.ite ((occurWith_same _ hp ..).trans k) k) ((erWrite_same ..).trans (setEr_same ..))

/-- Writing an event leaves the work alone where what takes the occurrences that follow from it does. -/
theorem writeWith_same (push : LedgerEvent → Dev → Dev) (hp : ∀ e s, SameWork (push e s) s) (e : LedgerEvent) (s : Dev) :
    SameWork (writeWith push e s) s := by
  have hl : ∀ s : Dev, SameWork (if (s.oncePer 0x3E6 s.now.sec).1 then occurWith push 0x3E6 {} true false (s.oncePer 0x3E6 s.now.sec).2.now none (s.oncePer 0x3E6 s.now.sec).2
      else (s.oncePer 0x3E6 s.now.sec).2) s :=
    fun s => .ite ((occurWith_same _ hp ..).trans (oncePer_same ..)) (oncePer_same ..)
  have hr : SameWork (match eventRing s e with | none => s | some r => postWith push r e s) s := by
    split
    · exact .rfl
    · exact postWith_same _ hp ..
  have key : ∀ d : Dev, SameWork d s → SameWork (if (d.oncePer 0x0B1 d.time.ticks).1 then occurWith push 0x0B1 {} true false (d.oncePer 0x0B1 d.time.ticks).2.now none (d.oncePer 0x0B1 d.time.ticks).2
      else (d.oncePer 0x0B1 d.time.ticks).2) s :=
    fun d h => .ite ((occurWith_same _ hp ..).trans ((oncePer_same ..).trans h)) ((oncePer_same ..).trans h)
  have mid := (ledgerPut_same _ hl e _).trans hr
  unfold writeWith
  refine .ite (key _ (.ite ?_ mid)) (.ite ?_ mid) <;>
    exact (occurWith_same _ (fun e s => ledgerPut_same _ hl e s) ..).trans (SameWork.trans ⟨rfl, rfl, rfl⟩ mid)

theorem pushNested_same (n : Nat) : ∀ (e : LedgerEvent) (s : Dev), SameWork (pushNested n e s) s := by
  induction n with
  | zero => exact bufTake_same _ (fun e s => ledgerPut_same id (fun _ => .rfl) e s)
  | succ n ih => exact bufTake_same _ (writeWith_same _ ih)

theorem pushEvent_same (e : LedgerEvent) (s : Dev) : SameWork (pushEvent e s) s := pushNested_same 3 e s

theorem ledgerWrite_same (e : LedgerEvent) (s : Dev) : SameWork (ledgerWrite e s) s := writeWith_same _ pushEvent_same e s

theorem postEvent_same (r : Nat) (e : LedgerEvent) (s : Dev) : SameWork (postEvent r e s) s := postWith_same _ pushEvent_same r e s

theorem occurInner_same (n : Nat) (o : OccData) (s : Dev) : SameWork (occurInner n o s) s := occurWith_same _ pushEvent_same ..

theorem occurAt_same (n : Nat) (o : OccData) (t : Stamp) (s : Dev) : SameWork (occurAt n o t s) s :=
  .ite (.ite .rfl ((occurWith_same _ pushEvent_same ..).trans (.ite (setLive_same ..) .rfl))) (occurWith_same _ pushEvent_same ..)

/-- An occurrence leaves the work alone. -/
theorem occur_same (n : Nat) (o : OccData) (s : Dev) : SameWork (occur n o s) s := occurAt_same n o s.now s

/-- The end of a live condition leaves the work alone. -/
theorem faultEnd_same (n : Nat) (o : Octets) (s : Dev) : SameWork (faultEnd n o s) s := by
  have k : ∀ d : Dev, SameWork (setLive n false s) d → SameWork (setLive n false s) d := fun _ h => h
  unfold faultEnd
  refine .ite .rfl (.ite (setLive_same ..) (.ite ((faultRecord_same ..).trans ?_) ?_)) <;>
    exact (pushEvent_same _ _).trans (SameWork.trans (b := setLive n false s) ⟨rfl, rfl, rfl⟩ (setLive_same ..))

/-- A live condition that follows its cause leaves the work alone. -/
theorem follow_same (n : Nat) (b : Bool) (o : OccData) (s : Dev) : SameWork (follow n b o s) s := .ite (occur_same ..) (faultEnd_same ..)

/-- A note leaves the work alone. -/
theorem note_same (a b : Nat) (c : Option Nat) (o : Octets) (s : Dev) : SameWork (note a b c o s) s := pushEvent_same ..

/-- The injections that take effect leave the work alone. -/
theorem takeInjections_same (s : Dev) : SameWork (takeInjections s) s := by
  unfold takeInjections
  have key : ∀ (l : List Nat) (d : Dev), SameWork (l.foldl (fun s n => inject n s) d) d := by
    intro l; induction l with
    | nil => intro d; exact .rfl
    | cons n l ih => intro d; exact (ih _).trans (occurWith_same _ pushEvent_same ..)
  exact (key _ _).trans ⟨rfl, rfl, rfl⟩

end Sys2Proof.Laws
end

