-- ==== Sys2Proof/Laws/Maps.lean ====
section
/-! SUPPORT. Keyed lists: what stands at a key after a write or a deletion, and the strictly rising order that they keep. -/

namespace Sys2Proof.Laws

set_option Elab.async false

open Sys2Proof.Machine

variable {α : Type}

@[simp] theorem kvGet_nil (k : Nat) : kvGet ([] : List (Nat × α)) k = none := rfl

theorem kvGet_cons (p : Nat × α) (l : List (Nat × α)) (k : Nat) : kvGet (p :: l) k = if p.1 = k then some p.2 else kvGet l k := by
  simp only [kvGet, List.find?_cons]
  grind

/-- The value at any key after a write: the new one at the key written, the old one elsewhere. -/
theorem kvGet_kvSet (l : List (Nat × α)) (k j : Nat) (v : α) : kvGet (kvSet l k v) j = if j = k then some v else kvGet l j := by
  fun_induction kvSet l k v <;> grind [kvGet_cons, kvGet_nil]

/-- The value at any key after a deletion. -/
theorem kvGet_kvDel (l : List (Nat × α)) (k j : Nat) : kvGet (kvDel l k) j = if j = k then none else kvGet l j := by
  unfold kvDel
  induction l <;> grind [kvGet_cons, kvGet_nil]

/-- A key that has just been written holds what was written. -/
@[simp] theorem kvGet_kvSet_same (l : List (Nat × α)) (k : Nat) (v : α) : kvGet (kvSet l k v) k = some v := by
  rw [kvGet_kvSet, if_pos rfl]

/-- A write leaves every other key alone. -/
theorem kvGet_kvSet_other (l : List (Nat × α)) (k j : Nat) (v : α) (h : j ≠ k) : kvGet (kvSet l k v) j = kvGet l j := by
  rw [kvGet_kvSet, if_neg h]

/-- A deleted key holds nothing. -/
@[simp] theorem kvGet_kvDel_same (l : List (Nat × α)) (k : Nat) : kvGet (kvDel l k) k = none := by
  rw [kvGet_kvDel, if_pos rfl]

/-- A deletion leaves every other key alone. -/
theorem kvGet_kvDel_other (l : List (Nat × α)) (k j : Nat) (h : j ≠ k) : kvGet (kvDel l k) j = kvGet l j := by
  rw [kvGet_kvDel, if_neg h]

/-- The keys of a list rise strictly. -/
def Rising (l : List (Nat × α)) : Prop := l.Pairwise (fun p q => p.1 < q.1)

/-- What stands in a list after a write was there, or is what was written. -/
theorem mem_kvSet (l : List (Nat × α)) (k : Nat) (v : α) (p : Nat × α) : p ∈ kvSet l k v → p ∈ l ∨ p = (k, v) := by
  fun_induction kvSet l k v <;> grind

/-- A write keeps the order. -/
theorem rising_kvSet (l : List (Nat × α)) (k : Nat) (v : α) : Rising l → Rising (kvSet l k v) := by
  unfold Rising
  fun_induction kvSet l k v <;> simp only [List.pairwise_cons, List.mem_cons] at * <;> grind [→ mem_kvSet]

/-- Taking entries away keeps the order. -/
theorem rising_filter (l : List (Nat × α)) (f : Nat × α → Bool) (h : Rising l) : Rising (l.filter f) :=
  List.Pairwise.filter f h

end Sys2Proof.Laws
end

