-- ==== Sys2Proof/Laws/Registers.lean ====
section
/-! SUPPORT. The register file: a register reads as it was written, and a write leaves every other register alone; the fields and bits of a
word that is written. -/

namespace Sys2Proof.Laws

set_option Elab.async false

open Sys2Proof.Machine

/-! ### Words -/

theorem fld_lt (w : Word) (lo len : Nat) : fld w lo len < 2 ^ len := Nat.mod_lt _ (Nat.two_pow_pos len)

theorem testBit_fld (w : Word) (lo len i : Nat) : (fld w lo len).testBit i = (decide (i < len) && w.toNat.testBit (lo + i)) := by
  simp [fld, Nat.testBit_mod_two_pow, Nat.testBit_shiftRight]

/-- A word without one of its fields, and that field in its place, as bits. -/
theorem testBit_putFld (w : Word) (lo len v i : Nat) (h : lo + len ≤ 32) :
    (putFld w lo len v).toNat.testBit i = if lo ≤ i ∧ i < lo + len then v.testBit (i - lo) else w.toNat.testBit i := by
  have hw : w.toNat = (w.toNat / 2 ^ (lo + len)) * 2 ^ (lo + len) + (fld w lo len * 2 ^ lo + w.toNat % 2 ^ lo) := by
    have h1 : w.toNat / 2 ^ lo = 2 ^ len * (w.toNat / 2 ^ (lo + len)) + fld w lo len := by
      have := Nat.div_add_mod (w.toNat / 2 ^ lo) (2 ^ len)
      rw [Nat.div_div_eq_div_mul, ← Nat.pow_add] at this
      simp only [fld, Nat.shiftRight_eq_div_pow]
      exact this.symm
    have h2 := Nat.div_add_mod w.toNat (2 ^ lo)
    rw [h1, Nat.mul_add] at h2
    rw [Nat.pow_add] at h2 ⊢
    calc w.toNat = _ := h2.symm
      _ = _ := by ac_rfl
  have hlow : w.toNat % 2 ^ lo < 2 ^ lo := Nat.mod_lt _ (Nat.two_pow_pos lo)
  have hv : v % 2 ^ len < 2 ^ len := Nat.mod_lt _ (Nat.two_pow_pos len)
  have e : w.toNat - fld w lo len * 2 ^ lo + (v % 2 ^ len) * 2 ^ lo =
      2 ^ (lo + len) * (w.toNat / 2 ^ (lo + len)) + (2 ^ lo * (v % 2 ^ len) + w.toNat % 2 ^ lo) := by
    rw [Nat.mul_comm (2 ^ (lo + len)), Nat.mul_comm (2 ^ lo) (v % 2 ^ len)]
    omega
  have hin : 2 ^ lo * (v % 2 ^ len) + w.toNat % 2 ^ lo < 2 ^ (lo + len) := by
    have : 2 ^ lo * (v % 2 ^ len) + 2 ^ lo ≤ 2 ^ lo * 2 ^ len := by
      rw [← Nat.mul_succ]
      exact Nat.mul_le_mul_left _ hv
    rw [Nat.pow_add]
    omega
  have hb : w.toNat < 2 ^ 32 := w.isLt
  simp only [putFld, BitVec.toNat_ofNat, Nat.testBit_mod_two_pow, e]
  rw [Nat.testBit_two_pow_mul_add _ hin, Nat.testBit_two_pow_mul_add _ hlow]
  by_cases hi : i < 32
  · simp only [hi, decide_true, Bool.true_and]
    by_cases h1 : i < lo + len
    · simp only [h1, if_true]
      by_cases h2 : i < lo
      · have h3 : ¬ (lo ≤ i) := by omega
        simp [h2, h3, Nat.testBit_mod_two_pow]
      · have h3 : lo ≤ i ∧ i < lo + len := by omega
        have h4 : i - lo < len := by omega
        simp [h2, h3, Nat.testBit_mod_two_pow, h4]
    · have h3 : ¬ (lo ≤ i ∧ i < lo + len) := by omega
      have h4 : i - (lo + len) + (lo + len) = i := by omega
      simp only [h1, if_false, Nat.testBit_div_two_pow, h4, and_false]
  · have h3 : ¬ (lo ≤ i ∧ i < lo + len) := by omega
    have : w.toNat.testBit i = false := Nat.testBit_lt_two_pow (Nat.lt_of_lt_of_le hb (Nat.pow_le_pow_right (by omega) (by omega)))
    simp [hi, h3, this]

/-- A bit that has just been written. -/
theorem bit_putBit_same (w : Word) (i : Nat) (b : Bool) (h : i < 32) : bit (putBit w i b) i = b := by
  rw [bit, putBit, testBit_putFld _ _ _ _ _ (by omega)]
  cases b <;> simp

/-- The other bits of a word in which one bit is written. -/
theorem bit_putBit_other (w : Word) (i j : Nat) (b : Bool) (h : i < 32) (hj : j ≠ i) : bit (putBit w i b) j = bit w j := by
  rw [bit, putBit, testBit_putFld _ _ _ _ _ (by omega)]
  rw [if_neg (show ¬ (i ≤ j ∧ j < i + 1) by omega), bit]

/-- A field that has just been written. -/
theorem fld_putFld_same (w : Word) (lo len v : Nat) (h : lo + len ≤ 32) : fld (putFld w lo len v) lo len = v % 2 ^ len := by
  apply Nat.eq_of_testBit_eq
  intro i
  rw [testBit_fld, testBit_putFld _ _ _ _ _ h, Nat.testBit_mod_two_pow]
  by_cases hi : i < len <;> simp [hi]

/-- A field beside the one that is written. -/
theorem fld_putFld_other (w : Word) (lo len v lo' len' : Nat) (h : lo + len ≤ 32) (hd : lo' + len' ≤ lo ∨ lo + len ≤ lo') :
    fld (putFld w lo len v) lo' len' = fld w lo' len' := by
  apply Nat.eq_of_testBit_eq
  intro i
  rw [testBit_fld, testBit_fld, testBit_putFld _ _ _ _ _ h]
  by_cases hi : i < len'
  · have : ¬ (lo ≤ lo' + i ∧ lo' + i < lo + len) := by omega
    simp [this]
  · simp [hi]

/-! ### The register file -/

/-- A register reads as it was written. -/
@[simp] theorem reg_setReg_same (s : Dev) (a : Nat) (w : Word) : (s.setReg a w).reg a = w := by
  unfold Dev.setReg Dev.reg regsPut sparseSet
  by_cases h : w = regReset a <;> simp [h]

/-- A write leaves every other register alone. -/
theorem reg_setReg_other (s : Dev) (a b : Nat) (w : Word) (h : b ≠ a) : (s.setReg a w).reg b = s.reg b := by
  unfold Dev.setReg Dev.reg regsPut sparseSet
  by_cases hw : w = regReset a <;> simp [hw, kvGet_kvSet_other _ _ _ _ h, kvGet_kvDel_other _ _ _ h]

theorem reg_setReg (s : Dev) (a b : Nat) (w : Word) : (s.setReg a w).reg b = if b = a then w else s.reg b := by
  by_cases h : b = a
  · subst h; simp
  · simp [h, reg_setReg_other s a b w h]

@[simp] theorem reg_setBit_other (s : Dev) (a b i : Nat) (v : Bool) (h : b ≠ a) : (s.setBit a i v).reg b = s.reg b :=
  reg_setReg_other s a b _ h

@[simp] theorem reg_setFld_other (s : Dev) (a b lo len v : Nat) (h : b ≠ a) : (s.setFld a lo len v).reg b = s.reg b :=
  reg_setReg_other s a b _ h

@[simp] theorem reg_setNat_other (s : Dev) (a b v : Nat) (h : b ≠ a) : (s.setNat a v).reg b = s.reg b := reg_setReg_other s a b _ h

@[simp] theorem reg_setNat_same (s : Dev) (a v : Nat) : (s.setNat a v).reg a = BitVec.ofNat 32 v := reg_setReg_same s a _

@[simp] theorem reg_bump_other (s : Dev) (a b n : Nat) (h : b ≠ a) : (s.bump a n).reg b = s.reg b := reg_setReg_other s a b _ h

/-- A bit of a register that has just been written. -/
theorem rbit_setBit_same (s : Dev) (a i : Nat) (v : Bool) (h : i < 32) : (s.setBit a i v).rbit a i = v := by
  simp [Dev.rbit, Dev.setBit, bit_putBit_same _ _ _ h]

/-- Any other bit of any register. -/
theorem rbit_setBit_other (s : Dev) (a i : Nat) (v : Bool) (b j : Nat) (h : i < 32) (hd : b ≠ a ∨ j ≠ i) :
    (s.setBit a i v).rbit b j = s.rbit b j := by
  by_cases hb : b = a
  · subst hb
    simp [Dev.rbit, Dev.setBit, bit_putBit_other _ _ _ _ h (hd.resolve_left (fun h => h rfl))]
  · simp [Dev.rbit, Dev.setBit, reg_setReg_other _ _ _ _ hb]

/-- A field of a register that has just been written. -/
theorem rfld_setFld_same (s : Dev) (a lo len v : Nat) (h : lo + len ≤ 32) : (s.setFld a lo len v).rfld a lo len = v % 2 ^ len := by
  simp [Dev.rfld, Dev.setFld, fld_putFld_same _ _ _ _ h]

/-- A counter saturates at 0xFFFF_FFFF. -/
theorem reg_bump_same (s : Dev) (a n : Nat) : ((s.bump a n).reg a).toNat = min ((s.reg a).toNat + n) (2 ^ 32 - 1) := by
  simp only [Dev.bump, reg_setNat_same, BitVec.toNat_ofNat, sat]
  omega

end Sys2Proof.Laws
end

