-- ==== Sys2Proof/Laws/Domains.lean ====
section
/-! SUPPORT. A device without channels stays without them, and its straps stay latched, as domains go off and come up and as a reset runs
(R31, R34, R134); and the phase and the straps that a boot starts with. -/

open Sys2Proof Sys2Proof.Machine

namespace Sys2Proof.Laws

set_option Elab.async false

theorem foldl_keeps {α β : Type} (p : β → Prop) (f : β → α → β) (h : ∀ b a, p b → p (f b a)) : ∀ (l : List α) (b : β), p b → p (l.foldl f b)
  | [], _, k => k
  | a :: l, b, k => foldl_keeps p f h l (f b a) (h b a k)

/-- No channel is held, and these straps and this strap error are latched. -/
def Calm (p : StrapPins) (e : Bool) (s : Dev) : Prop := s.chans = [] ∧ s.boot.straps = p ∧ s.boot.strapErr = e

theorem Calm.ite {p : StrapPins} {e : Bool} {q : Prop} [Decidable q] {a b : Dev} (h : Calm p e a) (k : Calm p e b) :
    Calm p e (if q then a else b) := by
  split
  · exact h
  · exact k

theorem Calm.same {p : StrapPins} {e : Bool} {a b : Dev} (h : Calm p e b) (k : SameWork a b) : Calm p e a :=
  ⟨k.chans.trans h.1, (congrArg Boot.straps k.boot).trans h.2.1, (congrArg Boot.strapErr k.boot).trans h.2.2⟩

variable {p : StrapPins} {e : Bool} {s : Dev}

theorem calm_setBit (a i : Nat) (b : Bool) (h : Calm p e s) : Calm p e (s.setBit a i b) := by
  simpa only [Calm, setBit_chans, setBit_boot] using h
theorem calm_setFld (a lo len v : Nat) (h : Calm p e s) : Calm p e (s.setFld a lo len v) := by
  simpa only [Calm, setFld_chans, setFld_boot] using h
theorem calm_setNat (a v : Nat) (h : Calm p e s) : Calm p e (s.setNat a v) := by
  simpa only [Calm, setNat_chans, setNat_boot] using h

theorem calm_identity (i : Option Octets) (h : Calm p e s) : Calm p e { s with boot := { s.boot with identity := i } } := h

theorem calm_chan (h : Calm p e s) (c : Nat) : s.chan? c = none := by
  show kvGet s.chans c = none
  rw [h.1]; rfl

theorem calm_failService (n : Nat) (v : Service) (h : Calm p e s) : Calm p e (failService n v s) := by
  have k : Calm p e (endService n v s) := by simpa only [Calm, endService, Dev.setCg] using h
  have m : setNodeState v.chan v.node .failed (endService n v s) = endService n v s := by
    unfold setNodeState Dev.modChan; rw [calm_chan k]
  unfold failService
  dsimp only
  rw [m, calm_chan k]
  exact k

theorem calm_failResource (n : Nat) (r : Resource) (h : Calm p e s) : Calm p e (failResource n r s) :=
  foldl_keeps (Calm p e) _ (fun b _ k => foldl_keeps (Calm p e) _ (fun _ v k => calm_failService _ v k) _ b k) _ s h

theorem calm_clusterOff (n : Nat) (h : Calm p e s) : Calm p e (clusterOff n s) := by
  unfold clusterOff clusterContentsLost
  simpa only [Calm, Dev.setCg, setFld_chans, setBit_chans, setFld_boot, setBit_boot] using h

theorem calm_domainLost (d : Nat) (h : Calm p e s) : Calm p e (domainLost d s) := by
  have k : Calm p e (failResource 0 .mpe s) := calm_failResource 0 .mpe h
  have c := calm_clusterOff (d - 1) h
  unfold domainLost
  generalize failResource 0 .mpe s = f at k ⊢
  generalize clusterOff (d - 1) s = g at c ⊢
  obtain ⟨h1, h2, h3⟩ := h
  obtain ⟨k1, k2, k3⟩ := k
  obtain ⟨c1, c2, c3⟩ := c
  simp only [Calm, apply_ite Dev.chans, apply_ite Dev.boot, apply_ite Boot.straps, apply_ite Boot.strapErr, h1, h2, h3, k1, k2, k3, c1, c2, c3,
    List.map_nil, ite_self, and_self]

theorem calm_domainShow (d : Nat) (on : Bool) (h : Calm p e s) : Calm p e (domainShow d on s) :=
  .ite (calm_setBit _ _ _ (calm_setBit _ _ _ h)) (calm_setBit _ _ _ h)

/-- A domain goes off in a device without channels. -/
theorem calm_domainDown (d : Nat) (h : Calm p e s) : Calm p e (domainDown d s) := by
  unfold domainDown
  refine .ite h ?_
  extract_lets a b c
  have ha : Calm p e a := .ite (by simpa only [Calm, ringsReset] using h) h
  have hb : Calm p e b := foldl_keeps (Calm p e) _ (fun _ n k => k.same (faultEnd_same n [] _)) _ _ ha
  have hc : Calm p e c := calm_domainShow d false (calm_domainLost d hb)
  simpa only [Calm] using hc

theorem calm_powerUpRegs (d : Nat) (h : Calm p e s) : Calm p e (s.powerUpRegs d) := by
  refine foldl_keeps (Calm p e) _ ?_ _ _ h
  intro b a k
  dsimp only
  split
  · exact k
  · exact .ite (calm_setNat _ _ k) k

theorem domainUp_of (d : Nat) (s g : Dev) (h : domainShow d true (s.powerUpRegs d) = g) (k : Calm p e s) (m : Calm p e g) :
    Calm p e (domainUp d s) := by
  unfold domainUp
  rw [h]
  have q : Calm p e { g with pwr := { g.pwr with waking := kvDel g.pwr.waking d } } := m
  exact .ite k (.ite (calm_setFld _ _ _ _ (calm_setBit _ _ _ q)) (.ite (calm_setFld _ _ _ _ (calm_setFld _ _ _ _ q)) q))

/-- A domain comes up in a device without channels. -/
theorem calm_domainUp (d : Nat) (h : Calm p e s) : Calm p e (domainUp d s) :=
  domainUp_of d s _ rfl h (calm_domainShow d true (calm_powerUpRegs d h))

theorem calm_domainsSet (l : List Nat) (h : Calm p e s) : Calm p e (domainsSet l s) := by
  refine foldl_keeps (Calm p e) _ ?_ _ _ h
  intro b d k
  have m : Calm p e (if l.contains d then domainUp d b else domainDown d b) := .ite (calm_domainUp d k) (calm_domainDown d k)
  exact .ite m (calm_setBit _ _ _ m)

theorem calm_bootDomains (h : Calm p e s) : Calm p e (bootDomains s) :=
  calm_domainsSet _ (foldl_keeps (Calm p e) _ (fun _ _ k => calm_setBit _ _ _ k) _ _ h)

theorem calm_strapShow (f : Fuses) (h : Calm p e s) : Calm p e (strapShow f s) := by
  unfold strapShow
  extract_lets v a b c d x g
  have ha : Calm p e a := calm_setNat _ _ (calm_setNat _ _ h)
  have hb : Calm p e b := foldl_keeps (Calm p e) _ (fun _ _ k => calm_setNat _ _ k) _ _ ha
  have hc : Calm p e c := calm_setBit _ _ _ hb
  have hd : Calm p e d := calm_setBit _ _ _ hc
  have hx : Calm p e x := calm_setFld _ _ _ _ hd
  have hg : Calm p e g := calm_setBit _ _ _ (calm_setBit _ _ _ (calm_setBit _ _ _ hx))
  exact calm_identity _ (calm_setFld _ _ _ _ hg)

/-- `BOOT.STRAP` is the word of the straps latched, whatever else is shown (R32). -/
theorem strapShow_strap (f : Fuses) (s : Dev) : (strapShow f s).reg Reg.bootStrap = BitVec.ofNat 32 (strapWord s.boot.straps s.boot.strapErr) := by
  have k : ∀ (g : Nat → Nat) (l : List Nat) (d : Dev),
      (l.foldl (fun d i => d.setNat (Reg.glbSerial i) (g i)) d).reg Reg.bootStrap = d.reg Reg.bootStrap ∨ ∃ i ∈ l, Reg.bootStrap = Reg.glbSerial i := by
    intro g l
    induction l with
    | nil => intro d; exact .inl rfl
    | cons i l ih =>
      intro d
      by_cases hi : Reg.bootStrap = Reg.glbSerial i
      · exact .inr ⟨i, List.mem_cons_self, hi⟩
      · rcases ih (d.setNat (Reg.glbSerial i) (g i)) with h | ⟨j, hj, h⟩
        · exact .inl (h.trans (reg_setNat_other _ _ _ _ hi))
        · exact .inr ⟨j, List.mem_cons_of_mem _ hj, h⟩
  unfold strapShow setSpare
  extract_lets v a b c d x g
  have hb : b.reg Reg.bootStrap = a.reg Reg.bootStrap := by
    rcases k (fun i => f.serial.toNat / 2 ^ (32 * i) % 2 ^ 32) (upTo 4) a with h | ⟨i, hi, h⟩
    · exact h
    · exact absurd h ((show ∀ i ∈ upTo 4, Reg.bootStrap ≠ Reg.glbSerial i by decide +kernel) i hi)
  have hr (d : Dev) (i : Option Octets) : ({ d with boot := { d.boot with identity := i } } : Dev).reg Reg.bootStrap = d.reg Reg.bootStrap := rfl
  refine (hr (g.setFld Reg.ronStatus 0 2 v.role.val) _).trans ?_
  rw [reg_setFld_other _ _ _ _ _ _ (by decide), reg_setBit_other _ _ _ _ _ (by decide), reg_setBit_other _ _ _ _ _ (by decide),
    reg_setBit_other _ _ _ _ _ (by decide), reg_setFld_other _ _ _ _ _ _ (by decide), reg_setBit_other _ _ _ _ _ (by decide),
    reg_setBit_other _ _ _ _ _ (by decide), hb, reg_setNat_other _ _ _ _ (by decide), reg_setNat_same]

/-- A boot does what `bootDomains` and `strapShow` do, and sets the phase and the time base. -/
theorem bootAt_of (n : Nat) (f : Fuses) (s g : Dev) (h : strapShow f (bootDomains s) = g) :
    (bootAt n f s).chans = g.chans ∧ (bootAt n f s).boot = g.boot ∧ ∀ a, (bootAt n f s).reg a = (g.setPhase n).reg a := by
  have k (d : Dev) : ∃ o, outputsStart d = { d with outbox := o } := by
    unfold outputsStart pairDrive
    split <;> exact ⟨_, rfl⟩
  obtain ⟨o, q⟩ := k (g.setPhase n)
  unfold bootAt
  rw [h]
  dsimp only
  rw [q]
  exact ⟨rfl, rfl, fun _ => rfl⟩

/-- The boot of a device without channels starts without them, with the straps latched. -/
theorem calm_bootAt (n : Nat) (f : Fuses) (h : Calm p e s) : Calm p e (bootAt n f s) := by
  have k := calm_strapShow f (calm_bootDomains h)
  have q := bootAt_of n f s _ rfl
  exact ⟨q.1.trans k.1, (congrArg Boot.straps q.2.1).trans k.2.1, (congrArg Boot.strapErr q.2.1).trans k.2.2⟩

/-- A boot starts in the phase asked for. -/
theorem bootAt_phase (n : Nat) (f : Fuses) (s : Dev) (h : n < 16) : (bootAt n f s).phase = n := by
  have q := (bootAt_of n f s _ rfl).2.2 Reg.bootStatus
  rw [Dev.phase, Dev.rfld, q, Dev.setPhase, ← Dev.rfld, rfld_setFld_same _ _ _ _ _ (by omega)]
  omega

/-- A boot shows the straps that are latched (R32). -/
theorem bootAt_strap (n : Nat) (f : Fuses) (h : Calm p e s) : (bootAt n f s).reg Reg.bootStrap = BitVec.ofNat 32 (strapWord p e) := by
  have k := calm_bootDomains h
  rw [(bootAt_of n f s _ rfl).2.2, Dev.setPhase, reg_setFld_other _ _ _ _ _ _ (by decide), strapShow_strap, k.2.1, k.2.2]

/-- A reset drops every call, and keeps the straps latched (R31, R34). -/
theorem calm_resetCore (cold : Bool) (f : Fuses) (s : Dev) : Calm s.boot.straps s.boot.strapErr (resetCore cold f s) := by
  unfold resetCore
  extract_lets base
  refine .ite ?_ ?_
  · exact calm_strapShow f ⟨rfl, rfl, rfl⟩
  · exact calm_strapShow f (calm_setFld _ _ _ _ ⟨rfl, rfl, rfl⟩)

theorem calm_causeBit (kind : Nat) (h : Calm p e s) : Calm p e (causeBit kind s) := by
  have k := calm_setBit Reg.bootCause kind true h
  unfold causeBit
  generalize s.setBit Reg.bootCause kind true = d at k ⊢
  exact k

theorem calm_storm (n : Nat) (h : Calm p e s) : Calm p e { s with flt := { s.flt with storm := n } } := h

/-- A reset with AON running drops every call (R34). -/
theorem calm_warmReset (kind : Nat) (f : Fuses) (s : Dev) : Calm s.boot.straps s.boot.strapErr (warmReset kind f s) := by
  have k := calm_resetCore false f s
  unfold warmReset
  exact calm_bootAt 2 f (calm_causeBit kind (.ite k (calm_storm _ k)))

/-- A reset with AON running leaves the wiring checks to run (R35). -/
theorem warmReset_phase (kind : Nat) (f : Fuses) (s : Dev) : (warmReset kind f s).phase = 2 := bootAt_phase 2 f _ (by omega)

end Sys2Proof.Laws
end

