-- ==== Sys2Proof/Laws/Ending.lean ====
section
/-! SUPPORT. How commands end: what every command keeps of the state beside the device, the commands that always complete, and what a command
that leaves nothing due does at its end. -/

namespace Sys2Proof.Laws

set_option Elab.async false

open Sys2Proof.Machine

/-! ### What ending keeps -/

@[simp] theorem settle_pending (s : State) : (settle s).pending = s.pending := by
  unfold settle
  split
  · rfl
  · dsimp only
    split <;> rfl

@[simp] theorem settle_fuses (s : State) : (settle s).fuses = s.fuses := by
  unfold settle
  split
  · rfl
  · dsimp only
    split <;> rfl

/-- In reset nothing ends and nothing is due. -/
theorem settle_of_reset (s : State) (h : s.dev.phase = 0) : settle s = s := by simp [settle, h]

@[simp] theorem finish_pending (f : Dev → Dev) (s : State) : (finish f s).pending = s.pending := settle_pending _

@[simp] theorem finish_fuses (f : Dev → Dev) (s : State) : (finish f s).fuses = s.fuses := settle_fuses _

/-- A command on the device completes, and leaves the fuses and the queue alone. -/
theorem run_keeps {f : Dev → Dev} {s t : State} (h : run f s = .next t) : t.pending = s.pending ∧ t.fuses = s.fuses := by
  cases h
  exact ⟨settle_pending _, settle_fuses _⟩

/-- A command on the fuses too leaves them, and the queue, as its operation does. -/
theorem runFuses_keeps {f : State → State} {s t : State} (h : runFuses f s = .next t) :
    t.pending = (f { s with dev := takeInjections s.dev }).pending ∧ t.fuses = (f { s with dev := takeInjections s.dev }).fuses := by
  cases h
  exact ⟨settle_pending _, settle_fuses _⟩

/-- A whole descriptor completes as a command on the device. -/
theorem runRing_whole (r : Fin 4) (op : Nat) (d : Desc) (body : Nat → Dev → Dev) (s : State) (h : Desc.whole d = true) :
    runRing r op d body s = run (takeRing r.val op d (fun _ => none) body) s := by simp [runRing, h]

theorem runRingPre_whole (r : Fin 4) (op : Nat) (d : Desc) (pre : Dev → Option (Status × Octets)) (body : Nat → Dev → Dev) (s : State)
    (h : Desc.whole d = true) : runRingPre r op d pre body s = run (takeRing r.val op d pre body) s := by simp [runRingPre, h]

theorem runRing_keeps {r : Fin 4} {op : Nat} {d : Desc} {body : Nat → Dev → Dev} {s t : State} (h : runRing r op d body s = .next t) :
    t.pending = s.pending ∧ t.fuses = s.fuses := by
  unfold runRing at h
  split at h
  · exact run_keeps h
  · cases h

theorem runRingPre_keeps {r : Fin 4} {op : Nat} {d : Desc} {pre : Dev → Option (Status × Octets)} {body : Nat → Dev → Dev} {s t : State}
    (h : runRingPre r op d pre body s = .next t) : t.pending = s.pending ∧ t.fuses = s.fuses := by
  unfold runRingPre at h
  split at h
  · exact run_keeps h
  · cases h

/-! ### Injections -/

/-- With no injection due, none is taken. -/
theorem takeInjections_none (s : Dev) (h : s.flt.forced = []) : takeInjections s = s := by
  unfold takeInjections
  rw [h]
  cases s with
  | mk regs cycles gcycle free boot time epochs gdu eng consol chans mpe macs lanes tdm arc ledger flt =>
    cases flt
    simp only at h
    subst h
    rfl

/-- With no injection due, a command on the device is its operation, and ends. -/
theorem run_of_noInjection (f : Dev → Dev) (s : State) (h : noInjection s) : run f s = .next (ended s (f s.dev)) := by
  simp only [run, finish, ended, takeInjections_none _ h]

theorem runFuses_of_noInjection (f : State → State) (s : State) (h : noInjection s) : runFuses f s = .next (settle (f s)) := by
  simp only [runFuses, finishFuses, takeInjections_none _ h]

/-! ### Register commands and descriptors -/

/-- A write that its block serves acts on the device as it stands. -/
theorem gated_of_accepts (by_ : Requester) (a : Nat) (f : Dev → Dev) (s : State) (h : accepts by_ a s) : gated by_ a f s.dev = f s.dev := by
  have e : gate by_ a s.dev = (true, s.dev) := by
    simp only [accepts] at h
    unfold gate at h ⊢
    repeat' (split at h <;> try simp_all)
  simp [gated, e]

/-- A descriptor that is taken and executed here is its body on the device with the descriptor taken. -/
theorem takeRing_here (r op : Nat) (d : Desc) (pre : Dev → Option (Status × Octets)) (body : Nat → Dev → Dev) (s : Dev)
    (h : takesHere r op d s) : takeRing r op d pre body s = body s.pci.nextId (taken r op d s) := by
  obtain ⟨⟨_, h1, h2, h3⟩, h4⟩ := h
  simp only [taken, newCmd] at h4
  simp [takeRing, h1, h2, h3, h4, taken, newCmd]

/-- A Ronong frame for this device on a lane that takes it is counted, and acts. -/
theorem ronTake_here (k : Nat) (hd : RonHdr) (vl type aux : Nat) (payload : Octets) (act : Dev → Dev) (s : Dev)
    (h : framesHere k hd vl type s) : ronTake k hd vl type aux payload act s = act (counted k hd vl s) := by
  obtain ⟨h1, h2, h3, h4, he, hp, hf⟩ := h
  have h5 : ¬ (hd.length < 20 ∨ 2048 < hd.length) := by omega
  have h7 : ¬ (ronState s k = 4 ∧ s.rbit Reg.ronCfg 1 = true ∧ ¬ hd.enc = true) := fun ⟨a, b, c⟩ => c (he a b)
  have h8 : ¬ (ronState s k = 4 ∧ hd.enc = true ∧ ¬ phaseOk s k hd.phase = true) := fun ⟨a, b, c⟩ => c (hp a b)
  have h6 : hd.dst.val = (counted k hd vl s).hid := h4
  simp only [counted] at h6
  simp only [ronTake, h1, not_true_eq_false, if_false, h5, h6, h7, h8, hf, if_true, counted]

/-! ### Nothing left due -/

theorem testsEnd_none (s : Dev) (h : s.tests = []) : testsEnd s = s := by simp [testsEnd, h]

theorem blockResets_none (n : Nat) (s : Dev) (h : s.flt.due = []) : blockResets n s = s := by cases n <;> simp [blockResets, h]

theorem heldTake_none (s : Dev) (h : s.ron.held = []) : heldTake s = s := by simp [heldTake, h]

theorem sendByes_none (s : Dev) (h : s.mpe.byes = []) : sendByes s = s := by
  simp only [sendByes, h, List.foldl_nil]
  rw [← h]

theorem ledgerSend_none (s : Dev) (h : s.ledger.out = []) : ledgerSend s = s := by
  have e (a : Nat) : ledgerTo a s.ledger.out.length s = s := by simp [h, ledgerTo]
  unfold ledgerSend
  generalize planManagers s = l
  induction l with
  | nil => rfl
  | cons a r ih => rw [List.foldl_cons, e, ih]

theorem drainsEnd_none (s : Dev) (h : s.pwr.draining = []) : drainsEnd s = s := by simp [drainsEnd, h]

theorem nightTestEnd_none (s : Dev) (h : s.night.testBody = none) : nightTestEnd s = s := by simp [nightTestEnd, h]

/-- With nothing left due, a command's end is the status that follows the state, and what tile memory forgets. -/
theorem settleDev_quiet (s : Dev) (h : quiet s) : settleDev s = showAll (tileForget s) := by
  obtain ⟨_, h2, h3, _, h4, h5, h6, h7, h8⟩ := h
  simp only [settleDev, sendDue, testsEnd_none s h2, blockResets_none 4 s h3, heldTake_none s h4, sendByes_none s h5, ledgerSend_none s h6, drainsEnd_none s h7,
    nightTestEnd_none s h8]

end Sys2Proof.Laws
end

