-- ==== Sys2Proof/Laws/Memory.lean ====
section
/-! SUPPORT. Tile memory behind the debug window (R552): an octet reads as it was written, a write leaves every other octet alone, and every
operation keeps the canonical form. -/

namespace Sys2Proof.Laws

set_option Elab.async false

open Sys2Proof.Machine

/-- The canonical form: addresses rise, and every entry says something that its absence would not. -/
theorem memory_wf_iff (used : List Nat) (m : List Host.Cell) :
    Memory.wf used m = true ↔ Rising m ∧ ∀ c ∈ m, Memory.cellOk used c = true := by
  induction m with
  | nil => simp [Memory.wf, Rising]
  | cons a r ih =>
    cases r with
    | nil => simp [Memory.wf, Rising]
    | cons b r =>
      rw [Memory.wf, Bool.and_eq_true, Bool.and_eq_true, decide_eq_true_eq, ih]
      simp only [Rising, List.pairwise_cons, List.mem_cons, forall_eq_or_imp]
      grind

/-- What an octet of a tile reads as where the memory lists it, or the tile is as it was wiped. -/
def tileReads (used : List Nat) (m : List Host.Cell) (a : Nat) : Option Byte :=
  match tileOctet m a with
  | some v => some v
  | none => if used.contains (a / 0x800000) then none else some 0

/-- An octet reads as it was written last. -/
theorem tileReads_put_same (used : List Nat) (m : List Host.Cell) (a : Nat) (v : Byte) : tileReads used (tilePut used m a v) a = some v := by
  unfold tileReads tileOctet tilePut
  by_cases h : v = 0 ∧ ¬ used.contains (a / 0x800000)
  · obtain ⟨rfl, hu⟩ := h
    simp_all
  · rw [if_neg h, kvGet_kvSet_same]

/-- A write leaves every other octet alone. -/
theorem tileOctet_put_other (used : List Nat) (m : List Host.Cell) (a b : Nat) (v : Byte) (h : b ≠ a) :
    tileOctet (tilePut used m a v) b = tileOctet m b := by
  unfold tileOctet tilePut
  split
  · exact kvGet_kvDel_other m a b h
  · exact kvGet_kvSet_other m a b v h

/-- What takes octets away keeps the canonical form, whatever tiles are in use afterwards beside those in use before. -/
theorem memory_wf_filter (used more : List Nat) (m : List Host.Cell) (f : Host.Cell → Bool) (h : Memory.wf used m = true) :
    Memory.wf (more ++ used) (m.filter f) = true := by
  rw [memory_wf_iff] at h ⊢
  refine ⟨rising_filter m f h.1, fun c hc => ?_⟩
  have := h.2 c (List.mem_filter.mp hc).1
  unfold Memory.cellOk at this ⊢
  grind

/-- A write of an octet keeps the canonical form. -/
theorem memory_wf_put (used : List Nat) (m : List Host.Cell) (a : Nat) (v : Byte) (h : Memory.wf used m = true) :
    Memory.wf used (tilePut used m a v) = true := by
  unfold tilePut
  split
  · exact memory_wf_filter used [] m _ h
  · rename_i hv
    rw [memory_wf_iff] at h ⊢
    refine ⟨rising_kvSet m a v h.1, fun c hc => ?_⟩
    rcases mem_kvSet m a v c hc with hc | rfl
    · exact h.2 c hc
    · unfold Memory.cellOk
      grind

/-- At the end of a command tile memory keeps the canonical form. -/
theorem memory_wf_tileForget (s : Dev) (h : Memory.wf s.tileUsed s.tileMem = true) :
    Memory.wf (tileForget s).tileUsed (tileForget s).tileMem = true := memory_wf_filter s.tileUsed (tilesNew s) s.tileMem _ h

/-- A cluster that loses power takes its tiles' octets along: what is left keeps the canonical form. -/
theorem memory_wf_contentsLost (n : Nat) (s : Dev) (h : Memory.wf s.tileUsed s.tileMem = true) :
    Memory.wf (clusterContentsLost n s).tileUsed (clusterContentsLost n s).tileMem = true := by
  show Memory.wf (s.tileUsed.filter (fun t => t / 16 != n)) (s.tileMem.filter (fun p => p.1 / 0x800000 / 16 != n)) = true
  rw [memory_wf_iff] at h ⊢
  refine ⟨rising_filter _ _ h.1, fun c hc => ?_⟩
  obtain ⟨hc, hn⟩ := List.mem_filter.mp hc
  have := h.2 c hc
  unfold Memory.cellOk at this ⊢
  simp_all [List.mem_filter]

/-- Tile memory at reset lists nothing. -/
theorem memory_wf_reset : Memory.wf State.reset.dev.tileUsed State.reset.dev.tileMem = true := rfl

end Sys2Proof.Laws
end

