-- ==== Sys2Proof/Laws/PerInstr.lean ====
section
/-! SUPPORT. One lemma per command: the descriptor of a well-formed command is whole (R141). -/

namespace Sys2Proof.Laws

set_option Elab.async false

/-- Where a well-formed command brings a descriptor, its PARAMS are 48 octets. -/
def DescWhole.Statement (i : Instr) : Prop := i.wf = true → ∀ d, i.desc? = some d → d.params.length = 48

/-- What `Instr.wf` says of the descriptor. -/
theorem descWhole (i : Instr) : DescWhole.Statement i := by
  intro h d hd
  simp only [Instr.wf, hd, Option.all_some, Desc.wf, Bool.and_eq_true, beq_iff_eq] at h
  exact h.1

theorem DescWhole.porstNRelease : ∀ (pins : StrapPins), DescWhole.Statement (.porstNRelease pins) := by intros; exact descWhole _
theorem DescWhole.wrstNRelease : DescWhole.Statement .wrstNRelease := descWhole _
theorem DescWhole.vddAonLowHold : DescWhole.Statement .vddAonLowHold := descWhole _
theorem DescWhole.glbResetWrite : ∀ (by_ : Requester) (value : Word), DescWhole.Statement (.glbResetWrite by_ value) := by intros; exact descWhole _
theorem DescWhole.hostReset : DescWhole.Statement .hostReset := descWhole _
theorem DescWhole.corePllLocked : DescWhole.Statement .corePllLocked := descWhole _
theorem DescWhole.crystalStable : DescWhole.Statement .crystalStable := descWhole _
theorem DescWhole.wiringChecksDone : ∀ (r : WiringResult), DescWhole.Statement (.wiringChecksDone r) := by intros; exact descWhole _
theorem DescWhole.wipeComplete : ∀ (fails : List WipeFail), DescWhole.Statement (.wipeComplete fails) := by intros; exact descWhole _
theorem DescWhole.flashHeadersRead : ∀ (r : Option FlashRead), DescWhole.Statement (.flashHeadersRead r) := by intros; exact descWhole _
theorem DescWhole.imageReadDone : ∀ (r : ImageRead), DescWhole.Statement (.imageReadDone r) := by intros; exact descWhole _
theorem DescWhole.signatureVerified : DescWhole.Statement .signatureVerified := descWhole _
theorem DescWhole.apply : ∀ (tiles : List (Fin 256 × TestMeasure)) (lanes : List (Fin 8 × TestMeasure)), DescWhole.Statement (.apply tiles lanes) := by intros; exact descWhole _
theorem DescWhole.hostBootGo : ∀ (by_ : Requester) (value : Word), DescWhole.Statement (.hostBootGo by_ value) := by intros; exact descWhole _
theorem DescWhole.hostBootPullDone : ∀ (r : Option ImageRead), DescWhole.Statement (.hostBootPullDone r) := by intros; exact descWhole _
theorem DescWhole.frameTick : ∀ (par : List (Nat × RecPar)) (bad : List Nat), DescWhole.Statement (.frameTick par bad) := by intros; exact descWhole _
theorem DescWhole.tickCtrlWrite : ∀ (by_ : Requester) (value : Word), DescWhole.Statement (.tickCtrlWrite by_ value) := by intros; exact descWhole _
theorem DescWhole.nodeDispatch : ∀ (cluster : Fin 16) (r : Resource) (par : RecPar), DescWhole.Statement (.nodeDispatch cluster r par) := by intros; exact descWhole _
theorem DescWhole.nodeComplete : ∀ (cluster : Fin 16) (r : Resource) (chan : Nat) (out : NodeOutcome) (par : RecPar), DescWhole.Statement (.nodeComplete cluster r chan out par) := by intros; exact descWhole _
theorem DescWhole.instanceLate : ∀ (chan : Nat) (deferred : Bool), DescWhole.Statement (.instanceLate chan deferred) := by intros; exact descWhole _
theorem DescWhole.instanceAbort : ∀ (chan : Nat) (deferred : Bool), DescWhole.Statement (.instanceAbort chan deferred) := by intros; exact descWhole _
theorem DescWhole.nodeWatchdog : ∀ (cluster : Fin 16) (r : Resource) (chan : Nat), DescWhole.Statement (.nodeWatchdog cluster r chan) := by intros; exact descWhole _
theorem DescWhole.gduCfgEnWrite : ∀ (by_ : Requester) (en : Bool), DescWhole.Statement (.gduCfgEnWrite by_ en) := by intros; exact descWhole _
theorem DescWhole.gduSpareClWrite : ∀ (by_ : Requester) (spare : Bool), DescWhole.Statement (.gduSpareClWrite by_ spare) := by intros; exact descWhole _
theorem DescWhole.clusterRetention : ∀ (cluster : Fin 16), DescWhole.Statement (.clusterRetention cluster) := by intros; exact descWhole _
theorem DescWhole.clusterRetLeadWake : ∀ (cluster : Fin 16), DescWhole.Statement (.clusterRetLeadWake cluster) := by intros; exact descWhole _
theorem DescWhole.clusterWakeComplete : ∀ (cluster : Fin 16), DescWhole.Statement (.clusterWakeComplete cluster) := by intros; exact descWhole _
theorem DescWhole.clusterWakeTimeout : ∀ (cluster : Fin 16), DescWhole.Statement (.clusterWakeTimeout cluster) := by intros; exact descWhole _
theorem DescWhole.consolidationStart : DescWhole.Statement .consolidationStart := descWhole _
theorem DescWhole.commandRingTailDoorbell : ∀ (ring : Fin 4) (tail : Word), DescWhole.Statement (.commandRingTailDoorbell ring tail) := by intros; exact descWhole _
theorem DescWhole.eventRingHeadDoorbell : ∀ (ring : Fin 4) (head : Word), DescWhole.Statement (.eventRingHeadDoorbell ring head) := by intros; exact descWhole _
theorem DescWhole.ringCtrlWrite : ∀ (event : Bool) (ring : Fin 4) (value : Word), DescWhole.Statement (.ringCtrlWrite event ring value) := by intros; exact descWhole _
theorem DescWhole.eventRingCoalesceTimer : ∀ (ring : Fin 4), DescWhole.Statement (.eventRingCoalesceTimer ring) := by intros; exact descWhole _
theorem DescWhole.open_ : ∀ (ring : Fin 4) (d : Desc), DescWhole.Statement (.open_ ring d) := by intros; exact descWhole _
theorem DescWhole.modify : ∀ (ring : Fin 4) (d : Desc), DescWhole.Statement (.modify ring d) := by intros; exact descWhole _
theorem DescWhole.connectLine : ∀ (ring : Fin 4) (d : Desc), DescWhole.Statement (.connectLine ring d) := by intros; exact descWhole _
theorem DescWhole.connectPacket : ∀ (ring : Fin 4) (d : Desc), DescWhole.Statement (.connectPacket ring d) := by intros; exact descWhole _
theorem DescWhole.connectPair : ∀ (ring : Fin 4) (d : Desc), DescWhole.Statement (.connectPair ring d) := by intros; exact descWhole _
theorem DescWhole.disconnectLine : ∀ (ring : Fin 4) (d : Desc), DescWhole.Statement (.disconnectLine ring d) := by intros; exact descWhole _
theorem DescWhole.disconnectPacket : ∀ (ring : Fin 4) (d : Desc), DescWhole.Statement (.disconnectPacket ring d) := by intros; exact descWhole _
theorem DescWhole.disconnectPair : ∀ (ring : Fin 4) (d : Desc), DescWhole.Statement (.disconnectPair ring d) := by intros; exact descWhole _
theorem DescWhole.close : ∀ (ring : Fin 4) (d : Desc) (dmaOk : Bool), DescWhole.Statement (.close ring d dmaOk) := by intros; exact descWhole _
theorem DescWhole.query : ∀ (ring : Fin 4) (d : Desc) (dmaOk : Bool), DescWhole.Statement (.query ring d dmaOk) := by intros; exact descWhole _
theorem DescWhole.stats : ∀ (ring : Fin 4) (d : Desc) (dmaOk : Bool), DescWhole.Statement (.stats ring d dmaOk) := by intros; exact descWhole _
theorem DescWhole.tonePlay : ∀ (ring : Fin 4) (d : Desc), DescWhole.Statement (.tonePlay ring d) := by intros; exact descWhole _
theorem DescWhole.toneStop : ∀ (ring : Fin 4) (d : Desc), DescWhole.Statement (.toneStop ring d) := by intros; exact descWhole _
theorem DescWhole.recordStart : ∀ (ring : Fin 4) (d : Desc), DescWhole.Statement (.recordStart ring d) := by intros; exact descWhole _
theorem DescWhole.recordStop : ∀ (ring : Fin 4) (d : Desc), DescWhole.Statement (.recordStop ring d) := by intros; exact descWhole _
theorem DescWhole.keySet : ∀ (ring : Fin 4) (d : Desc), DescWhole.Statement (.keySet ring d) := by intros; exact descWhole _
theorem DescWhole.keyRotateReceive : ∀ (ring : Fin 4) (d : Desc), DescWhole.Statement (.keyRotateReceive ring d) := by intros; exact descWhole _
theorem DescWhole.keyRotateTransmit : ∀ (ring : Fin 4) (d : Desc), DescWhole.Statement (.keyRotateTransmit ring d) := by intros; exact descWhole _
theorem DescWhole.sessionSet : ∀ (ring : Fin 4) (d : Desc), DescWhole.Statement (.sessionSet ring d) := by intros; exact descWhole _
theorem DescWhole.epochSchedule : ∀ (ring : Fin 4) (d : Desc), DescWhole.Statement (.epochSchedule ring d) := by intros; exact descWhole _
theorem DescWhole.epochCmdGo : ∀ (by_ : Requester) (value : Word), DescWhole.Statement (.epochCmdGo by_ value) := by intros; exact descWhole _
theorem DescWhole.epochStageBegin : ∀ (ring : Fin 4) (d : Desc), DescWhole.Statement (.epochStageBegin ring d) := by intros; exact descWhole _
theorem DescWhole.epochStageSection : ∀ (ring : Fin 4) (d : Desc) (payload : Option Octets), DescWhole.Statement (.epochStageSection ring d payload) := by intros; exact descWhole _
theorem DescWhole.epochStageEnd : ∀ (ring : Fin 4) (d : Desc), DescWhole.Statement (.epochStageEnd ring d) := by intros; exact descWhole _
theorem DescWhole.epochStageAbort : ∀ (ring : Fin 4) (d : Desc), DescWhole.Statement (.epochStageAbort ring d) := by intros; exact descWhole _
theorem DescWhole.templateLoad : ∀ (ring : Fin 4) (d : Desc) (payload : Option Octets), DescWhole.Statement (.templateLoad ring d payload) := by intros; exact descWhole _
theorem DescWhole.migrate : ∀ (ring : Fin 4) (d : Desc), DescWhole.Statement (.migrate ring d) := by intros; exact descWhole _
theorem DescWhole.consolidateNow : ∀ (ring : Fin 4) (d : Desc), DescWhole.Statement (.consolidateNow ring d) := by intros; exact descWhole _
theorem DescWhole.consolidateStop : ∀ (ring : Fin 4) (d : Desc), DescWhole.Statement (.consolidateStop ring d) := by intros; exact descWhole _
theorem DescWhole.imageWrite : ∀ (ring : Fin 4) (d : Desc) (payload : Option Octets) (flashOk : Bool), DescWhole.Statement (.imageWrite ring d payload flashOk) := by intros; exact descWhole _
theorem DescWhole.ledgerRead : ∀ (ring : Fin 4) (d : Desc) (dmaOk : Bool) (bad : List Nat), DescWhole.Statement (.ledgerRead ring d dmaOk bad) := by intros; exact descWhole _
theorem DescWhole.timeStep : ∀ (ring : Fin 4) (d : Desc), DescWhole.Statement (.timeStep ring d) := by intros; exact descWhole _
theorem DescWhole.lcNonce : ∀ (ring : Fin 4) (d : Desc), DescWhole.Statement (.lcNonce ring d) := by intros; exact descWhole _
theorem DescWhole.lcTransition : ∀ (ring : Fin 4) (d : Desc) (token : Option Octets) (fuseOk : Bool), DescWhole.Statement (.lcTransition ring d token fuseOk) := by intros; exact descWhole _
theorem DescWhole.nop : ∀ (ring : Fin 4) (d : Desc), DescWhole.Statement (.nop ring d) := by intros; exact descWhole _
theorem DescWhole.eventTest : ∀ (ring : Fin 4) (d : Desc), DescWhole.Statement (.eventTest ring d) := by intros; exact descWhole _
theorem DescWhole.badOpcode : ∀ (ring : Fin 4) (opcode : Byte) (d : Desc), DescWhole.Statement (.badOpcode ring opcode d) := by intros; exact descWhole _
theorem DescWhole.laneTest : ∀ (o : TestOrigin) (m : TestMeasure), DescWhole.Statement (.laneTest o m) := by intros; exact descWhole _
theorem DescWhole.tileTest : ∀ (o : TestOrigin) (m : TestMeasure), DescWhole.Statement (.tileTest o m) := by intros; exact descWhole _
theorem DescWhole.mirrorPairTest : ∀ (o : TestOrigin) (m : TestMeasure), DescWhole.Statement (.mirrorPairTest o m) := by intros; exact descWhole _
theorem DescWhole.testResult : ∀ (t : TestKey), DescWhole.Statement (.testResult t) := by intros; exact descWhole _
theorem DescWhole.epochBankRelease : DescWhole.Statement .epochBankRelease := descWhole _
theorem DescWhole.epochIncompleteTimeout : DescWhole.Statement .epochIncompleteTimeout := descWhole _
theorem DescWhole.ledgerEventArrival : ∀ (e : LedgerEvent), DescWhole.Statement (.ledgerEventArrival e) := by intros; exact descWhole _
theorem DescWhole.ledgerRelease : DescWhole.Statement .ledgerRelease := descWhole _
theorem DescWhole.ledgerExportFlush : DescWhole.Statement .ledgerExportFlush := descWhole _
theorem DescWhole.ingressFrame : ∀ (mac : Fin 8) (x : EntryCheck), DescWhole.Statement (.ingressFrame mac x) := by intros; exact descWhole _
theorem DescWhole.rotationRelease : ∀ (entry : Nat), DescWhole.Statement (.rotationRelease entry) := by intros; exact descWhole _
theorem DescWhole.rtcpSendTimer : ∀ (session : Nat) (x : EntryCheck), DescWhole.Statement (.rtcpSendTimer session x) := by intros; exact descWhole _
theorem DescWhole.egressPacket : ∀ (x : EntryCheck), DescWhole.Statement (.egressPacket x) := by intros; exact descWhole _
theorem DescWhole.cryptoFetchDone : ∀ (session : Nat) (c : CryptoCtx), DescWhole.Statement (.cryptoFetchDone session c) := by intros; exact descWhole _
theorem DescWhole.mpeCfgEnWrite : ∀ (by_ : Requester) (en : Bool), DescWhole.Statement (.mpeCfgEnWrite by_ en) := by intros; exact descWhole _
theorem DescWhole.secCfgEnWrite : ∀ (by_ : Requester) (en : Bool), DescWhole.Statement (.secCfgEnWrite by_ en) := by intros; exact descWhole _
theorem DescWhole.histogramDecay : ∀ (chan : Nat), DescWhole.Statement (.histogramDecay chan) := by intros; exact descWhole _
theorem DescWhole.driftFit : ∀ (chan : Nat), DescWhole.Statement (.driftFit chan) := by intros; exact descWhole _
theorem DescWhole.alignStale : ∀ (chan : Nat), DescWhole.Statement (.alignStale chan) := by intros; exact descWhole _
theorem DescWhole.echoCopy : ∀ (chan : Nat), DescWhole.Statement (.echoCopy chan) := by intros; exact descWhole _
theorem DescWhole.diverge : ∀ (chan : Nat) (excess : Nat), DescWhole.Statement (.diverge chan excess) := by intros; exact descWhole _
theorem DescWhole.placementRun : ∀ (chan : Nat), DescWhole.Statement (.placementRun chan) := by intros; exact descWhole _
theorem DescWhole.windowMove : ∀ (chan : Nat), DescWhole.Statement (.windowMove chan) := by intros; exact descWhole _
theorem DescWhole.moveAbandon : ∀ (chan : Nat) (cause : AbandonCause), DescWhole.Statement (.moveAbandon chan cause) := by intros; exact descWhole _
theorem DescWhole.doubleTalkClear : ∀ (chan : Nat), DescWhole.Statement (.doubleTalkClear chan) := by intros; exact descWhole _
theorem DescWhole.toneRelease : ∀ (chan : Nat), DescWhole.Statement (.toneRelease chan) := by intros; exact descWhole _
theorem DescWhole.eeCfgEnWrite : ∀ (by_ : Requester) (cluster : Fin 16) (en : Bool), DescWhole.Statement (.eeCfgEnWrite by_ cluster en) := by intros; exact descWhole _
theorem DescWhole.commit : ∀ (by_ : Requester) (cluster : Fin 16) (profile : Fin 64) (bank : Bool), DescWhole.Statement (.commit by_ cluster profile bank) := by intros; exact descWhole _
theorem DescWhole.read : ∀ (by_ : Requester) (cluster : Fin 16) (profile : Fin 64) (bank : Bool), DescWhole.Statement (.read by_ cluster profile bank) := by intros; exact descWhole _
theorem DescWhole.swap : ∀ (by_ : Requester) (cluster : Fin 16) (profile : Fin 64) (fade : Fin 128), DescWhole.Statement (.swap by_ cluster profile fade) := by intros; exact descWhole _
theorem DescWhole.settle : ∀ (by_ : Requester) (cluster : Fin 16) (profile : Fin 64) (bank : Bool), DescWhole.Statement (.settle by_ cluster profile bank) := by intros; exact descWhole _
theorem DescWhole.bankCmdReservedOp : ∀ (by_ : Requester) (cluster : Fin 16) (op : Fin 8), DescWhole.Statement (.bankCmdReservedOp by_ cluster op) := by intros; exact descWhole _
theorem DescWhole.swapEnd : ∀ (cluster : Fin 16) (profile : Fin 64), DescWhole.Statement (.swapEnd cluster profile) := by intros; exact descWhole _
theorem DescWhole.syncCmdGo : ∀ (by_ : Requester) (cluster : Fin 16) (value : Word), DescWhole.Statement (.syncCmdGo by_ cluster value) := by intros; exact descWhole _
theorem DescWhole.lvlSelWrite : ∀ (by_ : Requester) (cluster : Fin 16) (value : Word), DescWhole.Statement (.lvlSelWrite by_ cluster value) := by intros; exact descWhole _
theorem DescWhole.rfeCfgEnWrite : ∀ (by_ : Requester) (cluster : Fin 16) (en : Bool), DescWhole.Statement (.rfeCfgEnWrite by_ cluster en) := by intros; exact descWhole _
theorem DescWhole.vbdQuiet : ∀ (chan : Nat), DescWhole.Statement (.vbdQuiet chan) := by intros; exact descWhole _
theorem DescWhole.eventRxEndTimeout : ∀ (chan : Nat), DescWhole.Statement (.eventRxEndTimeout chan) := by intros; exact descWhole _
theorem DescWhole.tdCfgEnWrite : ∀ (by_ : Requester) (cluster : Fin 16) (en : Bool), DescWhole.Statement (.tdCfgEnWrite by_ cluster en) := by intros; exact descWhole _
theorem DescWhole.kernelReload : ∀ (cluster : Fin 16) (tile : Fin 16) (addr : Word) (reserveOk : Bool), DescWhole.Statement (.kernelReload cluster tile addr reserveOk) := by intros; exact descWhole _
theorem DescWhole.reloadDone : ∀ (cluster : Fin 16) (tile : Fin 16), DescWhole.Statement (.reloadDone cluster tile) := by intros; exact descWhole _
theorem DescWhole.ksetLoad : ∀ (cluster : Fin 16) (tile : Fin 16), DescWhole.Statement (.ksetLoad cluster tile) := by intros; exact descWhole _
theorem DescWhole.tdmCfgWrite : ∀ (by_ : Requester) (h : Fin 8) (value : Word), DescWhole.Statement (.tdmCfgWrite by_ h value) := by intros; exact descWhole _
theorem DescWhole.rearm : ∀ (by_ : Requester) (h : Fin 8) (value : Word), DescWhole.Statement (.rearm by_ h value) := by intros; exact descWhole _
theorem DescWhole.slip : ∀ (h : Fin 8) (receive : Bool) (repeated : Bool), DescWhole.Statement (.slip h receive repeated) := by intros; exact descWhole _
theorem DescWhole.clkLoss : ∀ (h : Fin 8), DescWhole.Statement (.clkLoss h) := by intros; exact descWhole _
theorem DescWhole.fsLoss : ∀ (h : Fin 8), DescWhole.Statement (.fsLoss h) := by intros; exact descWhole _
theorem DescWhole.tdmClockRecovered : ∀ (h : Fin 8), DescWhole.Statement (.tdmClockRecovered h) := by intros; exact descWhole _
theorem DescWhole.fallback : ∀ (h : Fin 8), DescWhole.Statement (.fallback h) := by intros; exact descWhole _
theorem DescWhole.fight : ∀ (h : Fin 8) (pin : TdmPin), DescWhole.Statement (.fight h pin) := by intros; exact descWhole _
theorem DescWhole.underrun : ∀ (h : Fin 8) (chan : Nat), DescWhole.Statement (.underrun h chan) := by intros; exact descWhole _
theorem DescWhole.blockCompressed : ∀ (sink : Fin 2) (r : CompressOut), DescWhole.Statement (.blockCompressed sink r) := by intros; exact descWhole _
theorem DescWhole.sinkTailWrite : ∀ (by_ : Requester) (sink : Fin 2) (tail : Word) (bufs : List (Nat × Nat)), DescWhole.Statement (.sinkTailWrite by_ sink tail bufs) := by intros; exact descWhole _
theorem DescWhole.sinkIdleClose : ∀ (sink : Fin 2), DescWhole.Statement (.sinkIdleClose sink) := by intros; exact descWhole _
theorem DescWhole.sinkDmaError : ∀ (sink : Fin 2), DescWhole.Statement (.sinkDmaError sink) := by intros; exact descWhole _
theorem DescWhole.outputExhausted : ∀ (sink : Fin 2), DescWhole.Statement (.outputExhausted sink) := by intros; exact descWhole _
theorem DescWhole.arcCfgEnWrite : ∀ (by_ : Requester) (en : Bool), DescWhole.Statement (.arcCfgEnWrite by_ en) := by intros; exact descWhole _
theorem DescWhole.fifoCfgWrite : ∀ (by_ : Requester) (f : Fin 6) (value : Word), DescWhole.Statement (.fifoCfgWrite by_ f value) := by intros; exact descWhole _
theorem DescWhole.groupWrite : ∀ (by_ : Requester) (groupB : Bool) (value : Word), DescWhole.Statement (.groupWrite by_ groupB value) := by intros; exact descWhole _
theorem DescWhole.macCfgEnWrite : ∀ (by_ : Requester) (mac : Fin 8) (en : Bool), DescWhole.Statement (.macCfgEnWrite by_ mac en) := by intros; exact descWhole _
theorem DescWhole.sdsCfgEnWrite : ∀ (by_ : Requester) (lane : Fin 24) (en : Bool), DescWhole.Statement (.sdsCfgEnWrite by_ lane en) := by intros; exact descWhole _
theorem DescWhole.sdsLoopWrite : ∀ (by_ : Requester) (lane : Fin 24) (loop : Fin 4), DescWhole.Statement (.sdsLoopWrite by_ lane loop) := by intros; exact descWhole _
theorem DescWhole.signalDetect : ∀ (lane : Fin 24), DescWhole.Statement (.signalDetect lane) := by intros; exact descWhole _
theorem DescWhole.anResolved : ∀ (lane : Fin 24), DescWhole.Statement (.anResolved lane) := by intros; exact descWhole _
theorem DescWhole.trainingComplete : ∀ (lane : Fin 24) (r : TrainOut), DescWhole.Statement (.trainingComplete lane r) := by intros; exact descWhole _
theorem DescWhole.trainingFail : ∀ (lane : Fin 24), DescWhole.Statement (.trainingFail lane) := by intros; exact descWhole _
theorem DescWhole.failedWaitEnd : ∀ (lane : Fin 24), DescWhole.Statement (.failedWaitEnd lane) := by intros; exact descWhole _
theorem DescWhole.rxPolarityFlip : ∀ (lane : Fin 24), DescWhole.Statement (.rxPolarityFlip lane) := by intros; exact descWhole _
theorem DescWhole.signalLost : ∀ (lane : Fin 24), DescWhole.Statement (.signalLost lane) := by intros; exact descWhole _
theorem DescWhole.eyeMeasure : ∀ (lane : Fin 24) (eyes : List (Nat × Nat)) (snr : Nat), DescWhole.Statement (.eyeMeasure lane eyes snr) := by intros; exact descWhole _
theorem DescWhole.linkUp : ∀ (mac : Fin 8) (laneMap : Byte), DescWhole.Statement (.linkUp mac laneMap) := by intros; exact descWhole _
theorem DescWhole.linkDown : ∀ (mac : Fin 8) (localFault : Bool) (remoteFault : Bool), DescWhole.Statement (.linkDown mac localFault remoteFault) := by intros; exact descWhole _
theorem DescWhole.macReceiveFrame : ∀ (port : MacPort) (f : RxFrame), DescWhole.Statement (.macReceiveFrame port f) := by intros; exact descWhole _
theorem DescWhole.pauseTimerExpiry : ∀ (port : MacPort), DescWhole.Statement (.pauseTimerExpiry port) := by intros; exact descWhole _
theorem DescWhole.xoffResend : ∀ (port : MacPort), DescWhole.Statement (.xoffResend port) := by intros; exact descWhole _
theorem DescWhole.transmitFrame : ∀ (port : MacPort) (parityOk : Bool) (sixteenths : Fin 16), DescWhole.Statement (.transmitFrame port parityOk sixteenths) := by intros; exact descWhole _
theorem DescWhole.tsqW3Read : ∀ (by_ : Requester) (mac : Fin 8), DescWhole.Statement (.tsqW3Read by_ mac) := by intros; exact descWhole _
theorem DescWhole.incrIntWrite : ∀ (by_ : Requester) (value : Word), DescWhole.Statement (.incrIntWrite by_ value) := by intros; exact descWhole _
theorem DescWhole.timeNsRead : ∀ (by_ : Requester), DescWhole.Statement (.timeNsRead by_) := by intros; exact descWhole _
theorem DescWhole.adjCmdGo : ∀ (by_ : Requester) (value : Word), DescWhole.Statement (.adjCmdGo by_ value) := by intros; exact descWhole _
theorem DescWhole.slewEnd : DescWhole.Statement .slewEnd := descWhole _
theorem DescWhole.correctionApply : DescWhole.Statement .correctionApply := descWhole _
theorem DescWhole.ptpMessage : ∀ (m : PtpExchange), DescWhole.Statement (.ptpMessage m) := by intros; exact descWhole _
theorem DescWhole.holdoverTimeout : DescWhole.Statement .holdoverTimeout := descWhole _
theorem DescWhole.servoLocked : DescWhole.Statement .servoLocked := descWhole _
theorem DescWhole.ppsOutEdge : DescWhole.Statement .ppsOutEdge := descWhole _
theorem DescWhole.ppsOutFall : DescWhole.Statement .ppsOutFall := descWhole _
theorem DescWhole.ppsInEdge : ∀ (width : Nat) (sixteenths : Fin 16), DescWhole.Statement (.ppsInEdge width sixteenths) := by intros; exact descWhole _
theorem DescWhole.ppsInMissing : DescWhole.Statement .ppsInMissing := descWhole _
theorem DescWhole.ppsInNsRead : ∀ (by_ : Requester), DescWhole.Statement (.ppsInNsRead by_) := by intros; exact descWhole _
theorem DescWhole.synthCfgWrite : ∀ (by_ : Requester) (n : Fin 8) (value : Word), DescWhole.Statement (.synthCfgWrite by_ n value) := by intros; exact descWhole _
theorem DescWhole.timeMasterLost : DescWhole.Statement .timeMasterLost := descWhole _
theorem DescWhole.calibDone : ∀ (k : Fin 16) (residual : Int), DescWhole.Statement (.calibDone k residual) := by intros; exact descWhole _
theorem DescWhole.hello : ∀ (k : Fin 16) (hd : RonHdr) (payload : Octets), DescWhole.Statement (.hello k hd payload) := by intros; exact descWhole _
theorem DescWhole.helloRetry : ∀ (k : Fin 16), DescWhole.Statement (.helloRetry k) := by intros; exact descWhole _
theorem DescWhole.laneDownEnd : ∀ (k : Fin 16), DescWhole.Statement (.laneDownEnd k) := by intros; exact descWhole _
theorem DescWhole.heartbeatSend : ∀ (k : Fin 16), DescWhole.Statement (.heartbeatSend k) := by intros; exact descWhole _
theorem DescWhole.hbKick : ∀ (by_ : Requester), DescWhole.Statement (.hbKick by_) := by intros; exact descWhole _
theorem DescWhole.heartbeat : ∀ (k : Fin 16) (hd : RonHdr) (payload : Octets), DescWhole.Statement (.heartbeat k hd payload) := by intros; exact descWhole _
theorem DescWhole.partnerLost : ∀ (k : Fin 16), DescWhole.Statement (.partnerLost k) := by intros; exact descWhole _
theorem DescWhole.workerTakeover : ∀ (h : Fin 16), DescWhole.Statement (.workerTakeover h) := by intros; exact descWhole _
theorem DescWhole.rekey : ∀ (k : Fin 16) (payload : Octets), DescWhole.Statement (.rekey k payload) := by intros; exact descWhole _
theorem DescWhole.ronongFrameDrop : ∀ (k : Fin 16) (why : RonDrop), DescWhole.Statement (.ronongFrameDrop k why) := by intros; exact descWhole _
theorem DescWhole.tSync : ∀ (k : Fin 16) (hd : RonHdr) (t1 : FineStamp), DescWhole.Statement (.tSync k hd t1) := by intros; exact descWhole _
theorem DescWhole.tReply : ∀ (k : Fin 16) (hd : RonHdr) (t1 : FineStamp) (t2 : FineStamp) (t3 : FineStamp), DescWhole.Statement (.tReply k hd t1 t2 t3) := by intros; exact descWhole _
theorem DescWhole.tCorr : ∀ (k : Fin 16) (hd : RonHdr) (c : Correction), DescWhole.Statement (.tCorr k hd c) := by intros; exact descWhole _
theorem DescWhole.commandFrame : ∀ (k : Fin 16) (hd : RonHdr) (opcode : Byte) (d : Desc) (aux : Word) (dmaOk : Bool), DescWhole.Statement (.commandFrame k hd opcode d aux dmaOk) := by intros; exact descWhole _
theorem DescWhole.completionFrame : ∀ (k : Fin 16) (hd : RonHdr) (octets : Octets) (aux : Word), DescWhole.Statement (.completionFrame k hd octets aux) := by intros; exact descWhole _
theorem DescWhole.epochFrame : ∀ (k : Fin 16) (hd : RonHdr) (m : EpochMsg), DescWhole.Statement (.epochFrame k hd m) := by intros; exact descWhole _
theorem DescWhole.takeover : ∀ (k : Fin 16) (hd : RonHdr) (hid : Fin 16) (tick : Nat), DescWhole.Statement (.takeover k hd hid tick) := by intros; exact descWhole _
theorem DescWhole.handBack : ∀ (k : Fin 16) (hd : RonHdr) (hid : Fin 16) (tick : Nat), DescWhole.Statement (.handBack k hd hid tick) := by intros; exact descWhole _
theorem DescWhole.fence : ∀ (k : Fin 16) (hd : RonHdr) (hid : Fin 16), DescWhole.Statement (.fence k hd hid) := by intros; exact descWhole _
theorem DescWhole.ack : ∀ (k : Fin 16) (hd : RonHdr) (type : Nat) (seq : Nat), DescWhole.Statement (.ack k hd type seq) := by intros; exact descWhole _
theorem DescWhole.mirror : ∀ (k : Fin 16) (hd : RonHdr) (m : MirrorMsg), DescWhole.Statement (.mirror k hd m) := by intros; exact descWhole _
theorem DescWhole.media : ∀ (k : Fin 16) (hd : RonHdr) (recs : List MediaRec), DescWhole.Statement (.media k hd recs) := by intros; exact descWhole _
theorem DescWhole.dossier : ∀ (k : Fin 16) (hd : RonHdr) (chan : Nat) (spawn : Word) (record : Octets) (dossier : Octets), DescWhole.Statement (.dossier k hd chan spawn record dossier) := by intros; exact descWhole _
theorem DescWhole.catalogue : ∀ (k : Fin 16) (hd : RonHdr) (record : Octets), DescWhole.Statement (.catalogue k hd record) := by intros; exact descWhole _
theorem DescWhole.ledgerFrame : ∀ (k : Fin 16) (hd : RonHdr) (entries : List Octets), DescWhole.Statement (.ledgerFrame k hd entries) := by intros; exact descWhole _
theorem DescWhole.folioFrame : ∀ (k : Fin 16) (hd : RonHdr) (aux : Word) (block : Octets), DescWhole.Statement (.folioFrame k hd aux block) := by intros; exact descWhole _
theorem DescWhole.dossierBatchWrite : DescWhole.Statement .dossierBatchWrite := descWhole _
theorem DescWhole.dedupEnd : ∀ (h : Fin 16), DescWhole.Statement (.dedupEnd h) := by intros; exact descWhole _
theorem DescWhole.handback : ∀ (by_ : Requester) (h : Fin 16), DescWhole.Statement (.handback by_ h) := by intros; exact descWhole _
theorem DescWhole.switchover : ∀ (by_ : Requester), DescWhole.Statement (.switchover by_) := by intros; exact descWhole _
theorem DescWhole.managerTakeover : DescWhole.Statement .managerTakeover := descWhole _
theorem DescWhole.splitLane : DescWhole.Statement .splitLane := descWhole _
theorem DescWhole.pcieLinkDown : DescWhole.Statement .pcieLinkDown := descWhole _
theorem DescWhole.functionLevelReset : DescWhole.Statement .functionLevelReset := descWhole _
theorem DescWhole.dmaReadError : ∀ (ch : Fin 16), DescWhole.Statement (.dmaReadError ch) := by intros; exact descWhole _
theorem DescWhole.ndDatagram : DescWhole.Statement .ndDatagram := descWhole _
theorem DescWhole.ndHello : DescWhole.Statement .ndHello := descWhole _
theorem DescWhole.ndIdentity : DescWhole.Statement .ndIdentity := descWhole _
theorem DescWhole.ndPower : DescWhole.Statement .ndPower := descWhole _
theorem DescWhole.ndFaults : DescWhole.Statement .ndFaults := descWhole _
theorem DescWhole.ndLastGasp : DescWhole.Statement .ndLastGasp := descWhole _
theorem DescWhole.ndFaultLog : ∀ (badRecords : List Nat), DescWhole.Statement (.ndFaultLog badRecords) := by intros; exact descWhole _
theorem DescWhole.ndDomain : DescWhole.Statement .ndDomain := descWhole _
theorem DescWhole.ndReset : DescWhole.Statement .ndReset := descWhole _
theorem DescWhole.ndImageBegin : ∀ (flashOk : Bool), DescWhole.Statement (.ndImageBegin flashOk) := by intros; exact descWhole _
theorem DescWhole.ndImageWrite : ∀ (flashOk : Bool), DescWhole.Statement (.ndImageWrite flashOk) := by intros; exact descWhole _
theorem DescWhole.ndBootRetry : DescWhole.Statement .ndBootRetry := descWhole _
theorem DescWhole.ndTimeStep : DescWhole.Statement .ndTimeStep := descWhole _
theorem DescWhole.ndLcNonce : DescWhole.Statement .ndLcNonce := descWhole _
theorem DescWhole.ndLcTransition : ∀ (fuseOk : Bool), DescWhole.Statement (.ndLcTransition fuseOk) := by intros; exact descWhole _
theorem DescWhole.ndSelfTest : ∀ (m : TestMeasure), DescWhole.Statement (.ndSelfTest m) := by intros; exact descWhole _
theorem DescWhole.ndBadOpcode : DescWhole.Statement .ndBadOpcode := descWhole _
theorem DescWhole.phyPoll : ∀ (link : Bool) (full : Bool) (speed100 : Bool), DescWhole.Statement (.phyPoll link full speed100) := by intros; exact descWhole _
theorem DescWhole.rmiiReferenceMissing : DescWhole.Statement .rmiiReferenceMissing := descWhole _
theorem DescWhole.collision : ∀ (bits : Nat), DescWhole.Statement (.collision bits) := by intros; exact descWhole _
theorem DescWhole.backoffExpiry : DescWhole.Statement .backoffExpiry := descWhole _
theorem DescWhole.faultOccurrence : ∀ (src : Fin 1024) (o : OccData), DescWhole.Statement (.faultOccurrence src o) := by intros; exact descWhole _
theorem DescWhole.faultClear : ∀ (src : Fin 1024), DescWhole.Statement (.faultClear src) := by intros; exact descWhole _
theorem DescWhole.force : ∀ (by_ : Requester) (src : Fin 1024), DescWhole.Statement (.force by_ src) := by intros; exact descWhole _
theorem DescWhole.clear : ∀ (by_ : Requester) (src : Fin 1024), DescWhole.Statement (.clear by_ src) := by intros; exact descWhole _
theorem DescWhole.lock : ∀ (by_ : Requester), DescWhole.Statement (.lock by_) := by intros; exact descWhole _
theorem DescWhole.pairClear : ∀ (by_ : Requester), DescWhole.Statement (.pairClear by_) := by intros; exact descWhole _
theorem DescWhole.fltHbKick : ∀ (by_ : Requester), DescWhole.Statement (.fltHbKick by_) := by intros; exact descWhole _
theorem DescWhole.trapNotAnswered : ∀ (src : Fin 1024), DescWhole.Statement (.trapNotAnswered src) := by intros; exact descWhole _
theorem DescWhole.pairReadbackMismatch : DescWhole.Statement .pairReadbackMismatch := descWhole _
theorem DescWhole.firmwareWatchdog : DescWhole.Statement .firmwareWatchdog := descWhole _
theorem DescWhole.controlSramParity : ∀ (repaired : Bool), DescWhole.Statement (.controlSramParity repaired) := by intros; exact descWhole _
theorem DescWhole.domainEnWrite : ∀ (by_ : Requester) (value : Word), DescWhole.Statement (.domainEnWrite by_ value) := by intros; exact descWhole _
theorem DescWhole.drainTimeout : ∀ (domain : Fin 30), DescWhole.Statement (.drainTimeout domain) := by intros; exact descWhole _
theorem DescWhole.clkselWrite : ∀ (by_ : Requester) (value : Word), DescWhole.Statement (.clkselWrite by_ value) := by intros; exact descWhole _
theorem DescWhole.referenceCheck : ∀ (aOk : Bool) (bOk : Bool), DescWhole.Statement (.referenceCheck aOk bOk) := by intros; exact descWhole _
theorem DescWhole.pllLockLoss : DescWhole.Statement .pllLockLoss := descWhole _
theorem DescWhole.droopFire : ∀ (sensor : Fin 72), DescWhole.Statement (.droopFire sensor) := by intros; exact descWhole _
theorem DescWhole.droopHoldEnd : ∀ (domain : Fin 30), DescWhole.Statement (.droopHoldEnd domain) := by intros; exact descWhole _
theorem DescWhole.avsRun : ∀ (slack : List Int) (answered : Bool), DescWhole.Statement (.avsRun slack answered) := by intros; exact descWhole _
theorem DescWhole.telemetryRead : ∀ (core : Option (Nat × Nat)), DescWhole.Statement (.telemetryRead core) := by intros; exact descWhole _
theorem DescWhole.supplyWindowExit : ∀ (rail : Fin 4), DescWhole.Statement (.supplyWindowExit rail) := by intros; exact descWhole _
theorem DescWhole.temperatureRead : ∀ (readings : List Int), DescWhole.Statement (.temperatureRead readings) := by intros; exact descWhole _
theorem DescWhole.throttleStepDown : DescWhole.Statement .throttleStepDown := descWhole _
theorem DescWhole.throttleStepUp : DescWhole.Statement .throttleStepUp := descWhole _
theorem DescWhole.aonFastOscillatorStop : DescWhole.Statement .aonFastOscillatorStop := descWhole _
theorem DescWhole.debugWindowRead : ∀ (by_ : Requester) (off : Nat) (parityBad : Bool), DescWhole.Statement (.debugWindowRead by_ off parityBad) := by intros; exact descWhole _
theorem DescWhole.debugWindowWrite : ∀ (by_ : Requester) (off : Nat) (value : Word), DescWhole.Statement (.debugWindowWrite by_ off value) := by intros; exact descWhole _
theorem DescWhole.counterLowWordRead : ∀ (by_ : Requester) (addr : Nat), DescWhole.Statement (.counterLowWordRead by_ addr) := by intros; exact descWhole _
theorem DescWhole.rcRegisterRead : ∀ (by_ : Requester) (addr : Nat), DescWhole.Statement (.rcRegisterRead by_ addr) := by intros; exact descWhole _
theorem DescWhole.registerWrite : ∀ (by_ : Requester) (addr : Nat) (size : Nat) (value : BitVec 64), DescWhole.Statement (.registerWrite by_ addr size value) := by intros; exact descWhole _
theorem DescWhole.porstNLow : DescWhole.Statement .porstNLow := descWhole _
theorem DescWhole.wrstNLow : DescWhole.Statement .wrstNLow := descWhole _
theorem DescWhole.crystalAbsent : DescWhole.Statement .crystalAbsent := descWhole _
theorem DescWhole.tickLoRead : ∀ (by_ : Requester), DescWhole.Statement (.tickLoRead by_) := by intros; exact descWhole _
theorem DescWhole.gridSlewEnd : DescWhole.Statement .gridSlewEnd := descWhole _
theorem DescWhole.timeFrameSend : ∀ (k : Fin 16), DescWhole.Statement (.timeFrameSend k) := by intros; exact descWhole _
theorem DescWhole.correctionResend : DescWhole.Statement .correctionResend := descWhole _
theorem DescWhole.calibRepeat : ∀ (k : Fin 16), DescWhole.Statement (.calibRepeat k) := by intros; exact descWhole _
theorem DescWhole.outputShort : ∀ (pin : OutPin), DescWhole.Statement (.outputShort pin) := by intros; exact descWhole _
theorem DescWhole.pairHeartbeatHalf : DescWhole.Statement .pairHeartbeatHalf := descWhole _
theorem DescWhole.deferEnd : DescWhole.Statement .deferEnd := descWhole _
theorem DescWhole.slaveFsEdge : ∀ (h : Fin 8) (onTime : Bool), DescWhole.Statement (.slaveFsEdge h onTime) := by intros; exact descWhole _
theorem DescWhole.ptpTransmit : ∀ (mac : Fin 8) (kind : PtpKind) (oneStep : Bool) (id : Fin 65536) (frame : Octets), DescWhole.Statement (.ptpTransmit mac kind oneStep id frame) := by intros; exact descWhole _
theorem DescWhole.domainWakeDone : ∀ (domain : Fin 30), DescWhole.Statement (.domainWakeDone domain) := by intros; exact descWhole _

end Sys2Proof.Laws
end

