-- ==== Sys2Proof/Laws/Rings.lean ====
section
/-! SUPPORT. What taking a command from a ring changes (R143): two registers of the ring, and the unit PCI. -/

open Sys2Proof Sys2Proof.Machine

namespace Sys2Proof.Laws

set_option Elab.async false

theorem crAdvance_eq (r : Nat) (s : Dev) : ∃ l, crAdvance r s = { s with regs := l } := by
  unfold crAdvance
  extract_lets h t
  split
  · exact ⟨(t.setBit (Reg.pciCrStatus r) 1 (!crPhase t r)).regs, rfl⟩
  · exact ⟨t.regs, rfl⟩

/-- Taking a command changes registers and the unit PCI alone. -/
theorem taken_eq (r op : Nat) (d : Desc) (s : Dev) : ∃ l p, taken r op d s = { s with regs := l, pci := p } := by
  unfold taken addCmd
  obtain ⟨l, h⟩ := crAdvance_eq r (s.setEr (d.evr.toNat % 4) { s.er (d.evr.toNat % 4) with reserved := (s.er (d.evr.toNat % 4)).reserved + 1 })
  rw [h]
  exact ⟨_, _, rfl⟩

theorem crAdvance_reg (r a : Nat) (s : Dev) (h : a ≠ Reg.pciCrHead r) (k : a ≠ Reg.pciCrStatus r) : (crAdvance r s).reg a = s.reg a := by
  unfold crAdvance
  extract_lets b t
  have e : t.reg a = s.reg a := reg_setFld_other _ _ _ _ _ _ h
  split
  · exact (reg_setBit_other _ _ _ _ _ k).trans e
  · exact e

/-- Of the registers, taking a command from ring `r` changes the ring's HEAD and STATUS. -/
theorem taken_reg (r op a : Nat) (d : Desc) (s : Dev) (h : a ≠ Reg.pciCrHead r) (k : a ≠ Reg.pciCrStatus r) :
    (taken r op d s).reg a = s.reg a := by
  have e := crAdvance_reg r a (s.setEr (d.evr.toNat % 4) { s.er (d.evr.toNat % 4) with reserved := (s.er (d.evr.toNat % 4)).reserved + 1 }) h k
  have f : ∀ (c : PendingCmd) (g : Dev), (addCmd c g).reg a = g.reg a := fun _ _ => rfl
  rw [taken, f, e]
  rfl

end Sys2Proof.Laws
end

