-- ==== Sys2Proof/Tests/Slice0.lean ====
section
/-! SUPPORT. Tests: terms that WellFormed refuses, the manual's worked examples, and for every statement with hypotheses a state and operands
that meet them, clause by clause. -/

open Sys2Proof Sys2Proof.Machine

namespace Sys2Proof.Tests

set_option linter.unusedVariables false
set_option Elab.async false

/-- A running device: phase 8, every domain on, every cluster awake, the Ledger started, command and event ring 0 enabled with a descriptor
to take. -/
def up : Dev :=
  { boot := { porstLow := false, ledgerOn := true, ksets := [[1, 2, 3, 4, 5, 6, 7, 8, 9]] }
    time := { running := true }
    epochs := { cur := { templates := [(0, ⟨0, 0x7F, 0, [⟨0x12, 0, 0, 0, 0, 0, 0⟩]⟩)] } }
    regs := [(Reg.pwrDomainEn, 0x3FFFFFFF#32), (Reg.pwrDomainOn, 0x3FFFFFFF#32), (Reg.gduClState, 0xFFFFFFFF#32), (Reg.bootStatus, 8#32),
      (Reg.pciCrCtrl 0, 1#32), (Reg.pciCrTail 0, 1#32), (Reg.pciErCtrl 0, 1#32)] }

/-- The running state with its device changed by `f`. -/
def st (f : Dev → Dev) : State := { dev := f up }

/-- The device in phase `p`. -/
def inPhase (p : Nat) (s : Dev) : Dev := s.setPhase p

/-- A template of one node, statistics. -/
def tmpl : Template := ⟨0, 0x7F, 0, [⟨0x12, 0, 0, 0, 0, 0, 0⟩]⟩

/-- A channel parameter block: linear PCM at 8 kHz, no tone program and no filter profile. -/
def block : Octets := padTo 48 (zeros 9 ++ [0xFF, 0xFF, 0xFF])

/-- A channel of that block, homed on tile 5. -/
def chan (x : ChState) : Channel := { st := x, owner := 0, params := block, template := tmpl, phase := 0, home := 5, charge := {} }

/-- Channel `c` and no other. -/
def withChan (c : Nat) (k : Channel) (d : Dev) : Dev := { d with chans := [(c, k)] }

/-- An active instance of that channel. -/
def inst : Instance := ⟨.active, 3, 0, 0, 4, 0, tmpl, [.ready], block, {}, none, false, false, false, false, false, false, false, false, false, false⟩

/-- A descriptor with its PARAMS padded with zeros. -/
def dsc (channel aux : Nat) (p : Octets) : Desc := ⟨0, 0, 0, 7, BitVec.ofNat 32 channel, BitVec.ofNat 32 aux, padTo 48 p⟩

/-- The tick generator enabled. -/
def ticking (d : Dev) : Dev := d.setBit Reg.tbTickCtrl 0 true

/-- The boot tick of a verified image with a rollback level of 5. -/
def bootTicking (d : Dev) : Dev :=
  { (inPhase 7 (ticking d)).setFld Reg.bootLc 0 2 2 with
    boot := { d.boot with rwlLocked := true, image := some { flags := 1, version := 0x05000000 } } }

/-- Cluster 3 with channel 9 in service on its Echo Engine. -/
def serving (k : Channel) (d : Dev) : Dev := withChan 9 k { d with gdu := [(3, { service := [⟨.ee, 9, 0, 0, true⟩] })] }

/-- The octets of `tmpl`. -/
def templateOctets : Octets :=
  let o := putOcts (zeros 48) 0 (toLe 2 0x4754 ++ [0, 1, 0x7F])
  let o := putOcts o 32 [0x12]
  putOcts o 28 (toLe 4 (crc32c o))

/-- A channel of a transcoding template, which may be paired. -/
def pairChan (x : ChState) (h : Nat) : Channel :=
  { chan x with home := h, template := { tmpl with flags := 1 } }

/-- A tone section of one definition: 440 Hz. -/
def toneOctets : Octets :=
  zeros 6 ++ [1, 0] ++ zeros 8 ++ [1, 0] ++ toLe 2 4400 ++ zeros 7 ++ [1, 100] ++ zeros 15 ++ [1, 1, 5] ++ zeros 17

/-- A channel of a template with a record tap. -/
def tapChan (x : ChState) : Channel := { chan x with template := { tmpl with nodes := [⟨0x11, 0, 0, 0, 0, 0, 0⟩] } }

/-- Channels 9 and 2, which may be paired. -/
def withPair (d : Dev) : Dev := { d with chans := [(9, pairChan .opened 5), (2, pairChan .opened 6)] }

/-- A lane test in progress, with measurements at the limits. -/
def laneTestRun : Test := ⟨⟨1, 8⟩, { residual := -32, snr := 180, eyes := [(150, 0)] }, [], ⟨0, 0, 0⟩, 0, none, false⟩

/-- Channel 9 with the Echo Engine of its cluster enabled. -/
def echoOn (k : Channel) (d : Dev) : Dev := (withChan 9 k d).setBit (Reg.eeCfg 0) 0 true

/-- Filter profile 63 in the memory of cluster 3. -/
def profiled (d : Dev) : Dev := { d with eng := [(3, { profiles := [(63, ⟨[], [], [], false, none, none, 0, 0, false, false⟩)] })] }

/-- Highway 7 enabled as a slave, with the low bits of its status. -/
def slave (status : Nat) (d : Dev) : Dev := (d.setReg (Reg.tdmCfg 7) 0x80000005).setNat (Reg.tdmStatus 7) status

/-- Sink `k`, enabled. -/
def sinks (k : Nat) (x : Sink) (d : Dev) : Dev :=
  { (d.setBit (Reg.arcSinkCtrl k) 0 true).setFld (Reg.arcSinkSize k) 0 5 4 with arc := { d.arc with sinks := [(k, x)] } }

/-- Lane `m` in a training state. -/
def trained (x m : Nat) (d : Dev) : Dev := d.setFld (Reg.sdsStatus m) 8 3 x

/-- MAC 7 with its link up. -/
def linked (d : Dev) : Dev :=
  ((d.setNat (Reg.macGroup 4) 3).setReg (Reg.macCfg 7) 0x89).setBit (Reg.macStatus 7) 0 true

/-- A tone section of one program that listens to nothing. -/
def toneProgOctets : Octets := zeros 4 ++ [1] ++ zeros 75

/-- The same, with events relayed into the pair leg. -/
def relayProgOctets : Octets := putOcts toneProgOctets 22 [4]

/-- Role bits of the straps. -/
def inRole (role : Fin 4) (hid : Fin 16) (d : Dev) : Dev := { d with boot := { d.boot with straps := { d.boot.straps with role := role, hid := hid } } }

/-- A worker of HID 0 whose active manager has HID 0 on lane partners. -/
def follower (d : Dev) : Dev := inRole 2 0 d
def manager (d : Dev) : Dev := inRole 1 0 d
def reserve (d : Dev) : Dev := inRole 3 0 d

/-- Lane 15 in a state, with what it holds. -/
def lane (x : Nat) (l : RonLane) (d : Dev) : Dev := (d.setRl 15 l).setFld (Reg.ronLaneStatus 15) 0 3 x

/-- The same lane where encryption is not required. -/
def unsealed (x : Nat) (l : RonLane) (d : Dev) : Dev := (lane x l d).setBit Reg.ronCfg 1 false

/-- A hierarchy of managers 0 and 1, worker 2 and reserve 3. -/
def plan : Plan := ⟨[⟨0, 1, 0⟩, ⟨1, 1, 0⟩, ⟨2, 2, 0⟩, ⟨3, 3, 0⟩], 0⟩

/-- The active manager, of HID 0. -/
def active (f : Ron → Ron) (d : Dev) : Dev :=
  let d := ((manager d).setFld (Reg.ronAlias 2) 0 4 2).setNat (Reg.ronLaneStatus 1) 0x104
  { d with ron := f { d.ron with plan := some plan, active := true, activeHid := 0 } }

/-- The standby manager, of HID 0, with what it holds of manager 1's lane and of worker 2's. -/
def standby (m w : RonLane) (d : Dev) : Dev :=
  { (manager d).setNat (Reg.ronLaneStatus 2) 0x204 with ron := { d.ron with plan := some plan, activeHid := 1, lanes := [(1, m), (2, w)] } }

/-- A worker, of HID 1, whose lane 0 is in HELLO and has sent its own. -/
def hello (d : Dev) : Dev :=
  { (inRole 2 1 d).setFld (Reg.ronLaneStatus 0) 0 3 3 with ron := { d.ron with
      plan := some ⟨[⟨2, 1, 0⟩, ⟨1, 2, 0⟩], 2⟩, lanes := [(0, { helloSent := true })] } }

/-- A requester of the Night Desk. -/
def peer : NdPeer := ⟨zeros 6, none, false, 0, 0, 0⟩

/-- A request of the Night Desk, and the desk with it in service. -/
def req (op : Nat) (body : Octets) : NdReq := ⟨peer, op, true, [], 1, body⟩
def asked (op : Nat) (body : Octets) (d : Dev) : Dev := { d with night := { d.night with queue := [req op body] } }

/-- The Night Desk's link up in half duplex, with a frame to send. -/
def halfDuplex (d : Dev) : Dev :=
  { ((d.setBit Reg.ndkStatus 0 true).setBit Reg.ndkStatus 1 false).setBit Reg.ndkCfg 0 true with
    night := { d.night with attempts := 14, mac := { tx := [⟨0, zeros 60, none, false⟩] } } }
def sigR : Nat := 0x77a41d4606ffa1464793c7e5fdc7d98cb9d3910202dcd06bea4f240d3566da6b408bbae5026580d02d7e5c70500c831
def sigS : Nat := 0x83bd20ea3037fd0a323c9e3f2fee3ecc65ce9c881016e68343041fe163c6cdc3061164b04c6b7fc3f7e1ff98e8e2f8d2

/-- The key of the private key 1, and a signature block with a signature by it of `digest`: with w the inverse of s, digest · w = 1 and r · w = 2. -/
def key1 : Octets := [4] ++ toBe 48 p384G.x ++ toBe 48 p384G.y
def sigBlock1 : Octets := toLe 4 0x53190384 ++ key1 ++ zeros 3 ++ toBe 48 sigR ++ toBe 48 sigS ++ zeros 56

/-- Phase 6 with that block, and the digest that it signs. -/
def signed (d : Dev) : Dev := { inPhase 6 d with boot := { d.boot with sigBlock := sigBlock1, digest := toBe 48 sigS } }

/-- A heartbeat of role 2 that hears nothing. -/
def hb : HbMsg := ⟨2, false, false, false, false, 0, 0, 0, 0, 0, [], [], [], true⟩

/-- A closed block of no octets. -/
def noJob : ArcJob := { octets := [], content := 1, sid := 0, seq := 0, order := 0, stamp := ⟨0, 0, 0⟩, end_ := false, resumed := false, chan := none }

/-- Session `i` and no other. -/
def withSession (i : Nat) (x : Session) (d : Dev) : Dev := { d with mpe := { d.mpe with sessions := [(i, x)] } }

/-- A header for HID 0 on an UP lane. -/
def hdr (src : Fin 16) (n : Nat) : RonHdr := { src := src, dst := 0, length := n, seq := 0 }

/-- A running channel with a search span of 64 ms, with its canceller. -/
def longTail (e : Echo) : Channel := { chan .running with params := putOcts block 8 [16], echo := e }

/-- A locator that has heard both sides and found no likeness. -/
def heard : Locator := { px := List.replicate 64 1, py := 1 }

/-- The Night Desk's link up in full duplex, its MAC enabled. -/
def nightUp (d : Dev) : Dev := ((d.setBit Reg.ndkStatus 0 true).setBit Reg.ndkStatus 1 true).setBit Reg.ndkCfg 0 true

/-- Source `n` live. -/
def live (n : Nat) (d : Dev) : Dev := d.setBit (Reg.srcStatus n) 0 true

/-- A command of an opcode that waits for its completion. -/
def waiting (id op : Nat) : PendingCmd := { id := id, ring := 0, evr := 0, opcode := op, tag := 7, chan := none, field := 0, slot := true }

/-- A Night Desk with its port in RMII auto-negotiated mode. -/
def night (d : Dev) : Dev := { d.setFld Reg.ndkMode 0 2 2 with night := { d.night with phyFound := true } }

/-- What the register map says of a register. -/
def infoOf (a : Nat) : RegInfo := (regInfo a).getD ⟨.glb, 0, 0, .mk "" 0 0 0 0 0 0 0 0 0 false false⟩

/-! ### Terms that WellFormed refuses, one for each check -/

theorem test_wf_descriptor : (Instr.nop 0 ⟨0, 0, 0, 0, 0, 0, zeros 47⟩).wf = false := by decide +kernel
theorem test_wf_test_descriptor : (Instr.laneTest (.ring 0 ⟨0, 0, 0, 0, 0, 0, zeros 49⟩) {}).wf = false := by decide +kernel
theorem test_wf_whole_descriptor : (Instr.nop 0 (dsc 0 0 [])).wf = true := by decide +kernel
theorem test_wf_channel : (Instr.echoCopy 65536).wf = false := by decide
theorem test_wf_tick_channels : (Instr.frameTick [(65536, .ok)] []).wf = false ∧ (Instr.frameTick [] [65536]).wf = false := by decide
theorem test_wf_global_channel : (Instr.dossier 0 (hdr 0 20) (2 ^ 20) 0 (zeros 80) []).wf = false := by decide +kernel
theorem test_wf_session : (Instr.rtcpSendTimer 491520 ⟨.ok, false⟩).wf = false := by decide
theorem test_wf_rotation_entry : (Instr.rotationRelease 2048).wf = false := by decide
theorem test_wf_stamp : (Instr.tSync 0 (hdr 0 20) ⟨⟨2 ^ 48, 0, 0⟩, 0⟩).wf = false ∧ (Instr.tSync 0 (hdr 0 20) ⟨⟨0, 1000000000, 0⟩, 0⟩).wf = false ∧
    (Instr.tSync 0 (hdr 0 20) ⟨⟨0, 0, 256⟩, 0⟩).wf = false := by decide
theorem test_wf_ledger_event : (Instr.ledgerEventArrival ⟨⟨0, 0, 0⟩, 65536, 0, 0, none, []⟩).wf = false ∧
    (Instr.ledgerEventArrival ⟨⟨0, 0, 0⟩, 0, 65536, 0, none, []⟩).wf = false ∧
    (Instr.ledgerEventArrival ⟨⟨0, 0, 0⟩, 0, 0, 65536, none, []⟩).wf = false ∧
    (Instr.ledgerEventArrival ⟨⟨0, 0, 0⟩, 0, 0, 0, none, zeros 13⟩).wf = false := by decide
theorem test_wf_ronong_header : (Instr.ack 0 (hdr 0 65536) 1 0).wf = false ∧ (Instr.ack 0 { hdr 0 20 with seq := 2 ^ 32 } 1 0).wf = false := by decide
theorem test_wf_flash_headers : (Instr.flashHeadersRead (some ⟨true, 0, false, [], zeros 4096⟩)).wf = false := by decide
theorem test_wf_occurrence_data : (Instr.faultOccurrence 0 { data := zeros 13 }).wf = false := by decide
theorem test_wf_heartbeat : (Instr.heartbeat 0 (hdr 0 148) (zeros 127)).wf = false := by decide +kernel
theorem test_wf_completion : (Instr.completionFrame 0 (hdr 0 20) (zeros 31) 0).wf = false := by decide
theorem test_wf_records : (Instr.dossier 0 (hdr 0 20) 0 0 (zeros 79) []).wf = false ∧ (Instr.catalogue 0 (hdr 0 20) (zeros 79)).wf = false ∧
    (Instr.ledgerFrame 0 (hdr 0 20) [zeros 31]).wf = false := by decide +kernel
theorem test_wf_readings : (Instr.avsRun (List.replicate 15 0) true).wf = false ∧ (Instr.temperatureRead (List.replicate 21 0)).wf = false := by decide
theorem test_wf_window : (Instr.debugWindowRead .host 0x800000 true).wf = false ∧ (Instr.debugWindowWrite .host 0x800000 0).wf = false := by decide
theorem test_wf_register : (Instr.registerWrite .host 0x1000000 4 0).wf = false ∧ (Instr.registerWrite .host 0 3 0).wf = false ∧
    (Instr.rcRegisterRead .host 0x1000000).wf = false ∧ (Instr.counterLowWordRead .host 0x1000000).wf = false := by decide

/-! ### The manual's worked examples -/

/-- The device after a command, at a field. -/
def after {α : Type} (c : Instr) (s : State) (f : Dev → α) : Option α :=
  match exec c s with
  | .next t => some (f t.dev)
  | _ => none

/-- The worked example of spec/21: finding registers. -/
theorem test_register_addresses : Reg.tileState 183 = 0x1B3C00 ∧ Reg.rfeBankState 11 4 = 0x1B7410 ∧ Reg.srcStatus 0x349 = 0x2E924 ∧
    Reg.macRxFcs 4 = 0x314220 ∧ Reg.sdsStatus 17 = 0x331004 := by decide

/-- R7's example: local channel 0x2A05 on worker 9. -/
theorem test_global_id : globalId 9 0x2A05 = 600581 := by decide

/-- The example of R75: epoch 0x00 replaces 0xFF. -/
theorem test_epoch_wrap : tepochOlder 0xFF 0 = true ∧ tepochOlder 0 0xFF = false := by decide

/-- A template of every node kind but the transcoding link. -/
def allKinds : Template := ⟨0, 0x7F, 0, [1, 2, 3, 4, 6, 7, 8, 9, 0xA, 0xB, 0xC, 0xD, 0xE, 0xF, 0x11, 0x12, 0x13].map (fun k => ⟨k, 0, 0, 0, 0, 0, 0⟩)⟩

/-- The capacity table of spec/08: tile cycles and KiB of G.711, G.729AB, AMR-NB and G.722, each with EC. -/
theorem test_capacity_table :
    let c (codec rate : Byte) : Nat × Nat :=
      let x := chargeOf [] allKinds ([0, 0, rate, codec, 0, 0, 31] ++ zeros 41)
      (x.tile, x.sram / 1024)
    c 1 0 = (2270, 7) ∧ c 5 0 = (8570, 8) ∧ c 6 0 = (11670, 10) ∧ c 3 1 = (7920, 16) := by decide +kernel

/-- R31: NVM_MODE 0b11 is taken as 0b10 and sets STRAP_ERR. -/
theorem test_strap_nvm : after (.porstNRelease ⟨0, 0, 3, 0, false, true, false⟩) State.reset
    (fun d => (d.boot.straps.nvmMode, d.rbit Reg.bootStrap 16)) = some (2, true) := by decide +kernel

/-- R551: the host reset comes 10 µs after the write, 5,000 cycles of 500 MHz. -/
theorem test_glb_reset : after (.glbResetWrite .host 1) (st id) (·.boot.resetAt) = some (some 5000) := by decide +kernel

/-- The example of spec/15: y = +3.7 ppm is 2³³ + 31,783. -/
theorem test_incr : after (.incrIntWrite .fw 2) (st fun d => d.setNat Reg.tbIncrFrac 0x7C27) (·.time.incr) = some 8589966375 := by decide +kernel

/-- The worked example of spec/18: a real rise, its end, an injection in the cycle of a real rise, an injection while live and the end. -/
theorem test_link_rise : after (.faultOccurrence 0x34C {}) (st id) (·.reg (Reg.srcStatus 0x34C)) = some 0x103 := by decide +kernel
theorem test_link_return : after (.faultClear 0x34C) (st fun d => d.setNat (Reg.srcStatus 0x34C) 0x103)
    (·.reg (Reg.srcStatus 0x34C)) = some 0x102 := by decide +kernel
theorem test_link_forced : after (.faultOccurrence 0x34C {}) (st fun d => { d with flt := { d.flt with forced := [0x34C] } })
    (·.reg (Reg.srcStatus 0x34C)) = some 0x107 := by decide +kernel
theorem test_link_cleared : after (.faultClear 0x34C) (st fun d => d.setNat (Reg.srcStatus 0x34C) 0x207)
    (·.reg (Reg.srcStatus 0x34C)) = some 0x206 := by decide +kernel
theorem test_clear_write : after (.registerWrite .host (Reg.srcStatus 0x34C) 4 0x82) (st fun d => d.setNat (Reg.srcStatus 0x34C) 0x102)
    (·.reg (Reg.srcStatus 0x34C)) = some 0 := by decide +kernel

/-- The worked example of spec/02: slot B's greater VERSION is read first, and slot A after B has failed. -/
theorem test_slot_order :
    let d : Dev := { up with boot := { up.boot with hdrA := some { version := 0x03000012 }, hdrB := some { version := 0x04000003 } } }
    (nextCand d).map (·.1) = some 2 ∧ (nextCand { d with boot := { d.boot with tried := [2] } }).map (·.1) = some 1 := by decide +kernel

/-- The worked example of spec/19: CL6 at 100.0 °C goes from 1.0 GHz (code 40) to 975 MHz (code 39). -/
theorem test_throttle : after .throttleStepDown (st fun d => (d.setFld (Reg.pwrClClk 6) 0 6 40).setNat (Reg.pwrTemp 6) 1000)
    (fun d => d.rfld (Reg.pwrClClk 6) 0 6) = some 39 := by decide +kernel

/-- The worked example of spec/20: MIRROR tests with LOSS 500 that conceal 5.2 % and 6.4 % of the frames. -/
theorem test_mirror_verdict :
    let x (concealed : Nat) : Test := ⟨⟨3, 2⟩, { erle := 5712, delay := 1440, level := -2, concealed := concealed, frames := 1000 },
      zeros 10 ++ toLe 2 1440 ++ zeros 4 ++ toLe 2 500, ⟨0, 0, 0⟩, 0, none, false⟩
    testFail up (x 52) = 0 ∧ testFail up (x 64) = 16 := by decide +kernel

/-- The worked example of spec/14: quanta 0x0200 at 10 Gbit/s hold transmission for 26,214.4 ns, 13,107.2 cycles of 2 ns. -/
theorem test_pause_quanta : let d := (up.setNat (Reg.macGroup 0) 5).setNat (Reg.macCfg 0) 1
    quantaCycles d 0 0x200 = 13108 ∨ quantaCycles d 0 0x200 = 13107 := by decide +kernel

/-- R146, R148: NOP completes with OK, TAG as given, and one completion is written. -/
theorem test_nop : after (.nop 0 (dsc 0 0 [])) (st id) (fun d => (d.pci.cmds.length, d.rfld (Reg.pciErTail 0) 0 16)) = some (0, 1) := by
  decide +kernel

/-- R545: a two-octet write is a bad access. -/
theorem test_bad_access : after (.registerWrite .host Reg.glbScratch 2 1) (st id)
    (fun d => (d.reg Reg.glbBadAccess, d.reg Reg.glbScratch)) = some (1, 0) := by decide +kernel

/-- R548: SCRATCH holds what is written. -/
theorem test_scratch : after (.registerWrite .host Reg.glbScratch 4 0xA5A5A5A5) (st id) (·.reg Reg.glbScratch) = some 0xA5A5A5A5 := by decide +kernel

/-- R502: a FORCE write without FORCE_EN is counted and ignored. -/
theorem test_force_refused : after (.force .host 0x34C) (st fun d => d.setBit Reg.fltCfg 2 false)
    (fun d => (d.reg Reg.fltForceRefused, d.flt.forced)) = some (1, []) := by decide +kernel

/-- R134, R151: a channel opened on the emptiest tile is OPEN there. -/
theorem test_open : after (.open_ 0 (dsc 9 0 block)) (st fun d => (d.setNat Reg.gduClState 3).setReg (Reg.tileState 0) 0x80000000)
    (fun d => (d.chan? 9).map (fun k => (k.home, k.st)))
    = some (some (0, .opened)) := by decide +kernel

/-- R66: a frame tick fires at the boundary and numbers it. -/
theorem test_tick : after (.frameTick [] []) (st ticking) (fun d => (d.time.ticks, d.time.lastTick)) = some (1, some 0) := by decide +kernel

/-! ### The standards' own test vectors -/

/-- FIPS 180-4: SHA-384 of "abc", at its first and its last octets. -/
theorem test_sha384 : beNat ((sha384 [0x61, 0x62, 0x63]).take 8) = 0xCB00753F45A35E8B ∧ beNat ((sha384 [0x61, 0x62, 0x63]).drop 40) = 0x58BAECA134C825A7 := by
  decide +kernel

/-- RFC 3720: the check value of CRC-32C, of the digits 1 to 9. -/
theorem test_crc32c : crc32c [0x31, 0x32, 0x33, 0x34, 0x35, 0x36, 0x37, 0x38, 0x39] = 0xE3069283 := by decide +kernel

/-- RFC 3711, B.3: the cipher key from a master key and salt. -/
theorem test_srtp_key : srtpDerive (toBe 16 0xE1F97A0D3E018BE0D64FA32C06DE4139) (toBe 14 0x0EC675AD498AFEEBB6960B3AABE6) 0 16
    = toBe 16 0xC61E7A93744F39EE10734AFE3FF7A087 := by decide +kernel

/-- RFC 2202: HMAC-SHA-1 of "Hi There" under twenty octets 0x0B. -/
theorem test_hmac_sha1 : hmacSha1 (List.replicate 20 0x0B) [0x48, 0x69, 0x20, 0x54, 0x68, 0x65, 0x72, 0x65]
    = toBe 20 0xB617318655057264E28BC0B6FB378C8EF146BE00 := by decide +kernel

/-- The GCM specification, case 2: sixteen zeros under the zero key. -/
theorem test_gcm : gcmCrypt (zeros 16) (zeros 12) (zeros 16) = toBe 16 0x0388DACE60B6A392F328C2B971B2FE78 ∧
    gcmTag (zeros 16) (zeros 12) [] (toBe 16 0x0388DACE60B6A392F328C2B971B2FE78) = toBe 16 0xAB6E47D42CEC13BDF53A67B21257BDDF := by decide +kernel

/-- RFC 1951: a block of fixed codes that spells "a". -/
theorem test_inflate : (inflate 1 [0x4B, 0x04, 0x00]).toOption = some [0x61] := by decide +kernel

/-- G.711, tables 1a and 2a: the A-law code of the least positive value and the μ-law code of zero. -/
theorem test_silence_codes : silenceCode 0 = 0xD5 ∧ silenceCode 1 = 0xFF := by decide

/-! ### An image header whose CRC is right -/

/-- The octets that the header's CRC covers up to the padding. -/
def headerStart : Octets :=
  toLe 4 0xAC107320 ++ toLe 4 1 ++ toLe 4 1 ++ toLe 4 1 ++ toLe 4 12544 ++ toLe 4 2 ++ toLe 4 12288 ++ zeros 4

theorem crc_chunks :
    headerStart.foldl (crcOctet 0x82F63B78) 0xFFFFFFFF = 0x6D2D6DC9 ∧
    (zeros 32).foldl (crcOctet 0x82F63B78) 0x6D2D6DC9 = 0x6B9B42D8 ∧
    (zeros 32).foldl (crcOctet 0x82F63B78) 0x6B9B42D8 = 0x58918C25 ∧
    (zeros 32).foldl (crcOctet 0x82F63B78) 0x58918C25 = 0xB44BFDAD ∧
    (zeros 32).foldl (crcOctet 0x82F63B78) 0xB44BFDAD = 0xAB26DB24 ∧
    (zeros 32).foldl (crcOctet 0x82F63B78) 0xAB26DB24 = 0xFAA10D63 ∧
    (zeros 32).foldl (crcOctet 0x82F63B78) 0xFAA10D63 = 0x594E2465 ∧
    (zeros 32).foldl (crcOctet 0x82F63B78) 0x594E2465 = 0x63D889E6 := by decide +kernel

/-- The header's start with its CRC, and the octets of the check. -/
def headerCrc : Octets := putOcts headerStart 28 (toLe 4 0x9C277619)
def headerInput : Octets :=
  headerStart ++ zeros 32 ++ zeros 32 ++ zeros 32 ++ zeros 32 ++ zeros 32 ++ zeros 32 ++ zeros 32

/-- An image header with sections of types 3 and 13. -/
def imageHeader : Octets :=
  headerCrc ++ zeros 224 ++
    (toLe 4 3 ++ toLe 4 4096 ++ zeros 8 ++ toLe 4 13 ++ toLe 4 8192 ++ zeros 8)

theorem headerCrc_length : headerCrc.length = 32 := by decide +kernel

theorem headerCrc_take : headerCrc.take 28 ++ zeros 4 = headerStart := by decide +kernel

theorem headerInput_eq : headerStart ++ zeros 224 = headerInput := by
  simp only [headerInput, zeros, List.append_assoc, List.replicate_append_replicate]

theorem headerInput_fold : headerInput.foldl (crcOctet 0x82F63B78) 0xFFFFFFFF = 0x63D889E6 := by
  obtain ⟨h0, h1, h2, h3, h4, h5, h6, h7⟩ := crc_chunks
  rw [headerInput, List.foldl_append, List.foldl_append, List.foldl_append, List.foldl_append, List.foldl_append, List.foldl_append,
    List.foldl_append, h0, h1, h2, h3, h4, h5, h6, h7]

theorem headerInput_crc : crc32c headerInput = 0x9C277619 := by
  rw [crc32c, crc32With, headerInput_fold]; rfl

theorem header_octets : octs imageHeader 0 256 = headerCrc ++ zeros 224 := by
  unfold octs imageHeader
  exact List.take_left' (by simp only [List.length_append, headerCrc_length, zeros, List.length_replicate])

theorem header_crc : crc32c (putOcts (octs imageHeader 0 256) 28 (zeros 4)) = 0x9C277619 := by
  rw [header_octets, putOcts, List.take_append_of_le_length (by rw [headerCrc_length]; omega),
    List.drop_left' (by rw [headerCrc_length]; rfl), headerCrc_take, headerInput_eq]
  exact headerInput_crc

theorem header_parses : parseHeader imageHeader =
    { magic := 0xAC107320, format := 1, version := 1, flags := 1, imageLen := 12544, sectionCount := 2, sigOffset := 12288, crcOk := true,
      entries := [⟨3, 4096, 0, 0⟩, ⟨13, 8192, 0, 0⟩], tailZero := true, raw := octs imageHeader 0 4096 } := by
  unfold parseHeader
  rw [header_crc]
  decide +kernel

/-- Phase 5 with the host's header and an image pulled. -/
def pulled : Dev := { (inPhase 5 up).setNat Reg.bootHbLen 0x4000 with boot := { up.boot with pulling := true } }

/-- The header's sections are empty. -/
theorem header_sections : sectionsRead imageHeader none (flashOrder (parseHeader imageHeader)) = .ok [(3, []), (13, [])] := by
  rw [header_parses]; rfl

theorem witness_ImagesAreReadVerifiedAndApplied_pull :
    (let x : ImageRead := ⟨imageHeader, none⟩; let l : List (Nat × Octets) := [(3, []), (13, [])]; let s : State := { dev := pulled }
     let d := { s.dev with boot := { s.dev.boot with pulling := false } }; let h := parseHeader x.octets
     noInjection s ∧ s.dev.phase = 5 ∧ s.dev.boot.pulling = true ∧ headerCode h (s.dev.reg Reg.bootHbLen).toNat d = 0 ∧ tableCode h = 0 ∧
       x.parity = none ∧ sectionsRead x.octets none (flashOrder h) = .ok l ∧ (∀ o ∈ kvGet l 6, toneSectionOk o = true)) := by
  dsimp only
  refine ⟨rfl, by decide +kernel, rfl, ?_, ?_, rfl, header_sections, nofun⟩
  all_goals rw [header_parses]; decide +kernel

/-- Phase 5 with that header read. -/
def headed : Dev := { inPhase 5 up with boot := { up.boot with image := some (parseHeader imageHeader) } }

theorem witness_ImagesAreReadVerifiedAndApplied_read :
    (let r : ImageRead := ⟨[], none⟩; let h := parseHeader imageHeader; let l : List (Nat × Octets) := [(3, []), (13, [])]
     let s : State := { dev := headed }
     noInjection s ∧ s.dev.phase = 5 ∧ s.dev.boot.pulling = false ∧ s.dev.boot.image = some h ∧ r.parity = none ∧
       sectionsRead (h.raw ++ r.octets) none (flashOrder h) = .ok l ∧ (∀ o ∈ kvGet l 6, toneSectionOk o = true)) := by
  dsimp only
  refine ⟨rfl, by decide +kernel, rfl, rfl, rfl, ?_, nofun⟩
  rw [header_parses]; rfl

/-- A descriptor that stages an empty section of templates, and the device that takes it. -/
def stageDesc : Desc := dsc 0 1 (zeros 12 ++ [2])
def staging : Dev := { setEpochState 1 up with epochs := { up.epochs with next := some {} } }

theorem witness_EpochsAreStagedScheduledAndReleased_section :
    (let r : Fin 4 := 0; let d := stageDesc; let p : Octets := []; let o : Octets := []; let b : Bank := {}; let lim := 2097152; let entry := 1
     let s : State := { dev := staging }; let ty := d.arg 12 2
     noInjection s ∧ takesHere r 0x1B d s.dev ∧ s.dev.role = 0 ∧ descClean d = true ∧ d.aux = 1 ∧ d.zeroFrom 14 47 = true ∧
       s.dev.epochs.next = some b ∧ epochState s.dev = 1 ∧ sectionLimit ty = some (lim, entry) ∧
       folioDecode ty (p.take (d.arg 8 4)) = .ok o ∧ o.length ≤ lim ∧ o.length % entry = 0 ∧
       (ty = 2 → (sectionTemplates sectionFuel o []).2 = [])) := by
  refine ⟨rfl, by decide +kernel, rfl, by decide +kernel, rfl, by decide +kernel, rfl, by decide +kernel, by decide +kernel, rfl,
    by decide, by decide, by decide +kernel⟩

/-! ### Statements whose hypotheses are about steps -/

theorem witness_EpochNumbersCompareModulo256 : (let a : Nat := 255; let b : Nat := 127; a < 256 ∧ b < 256) := by decide

theorem witness_SettlingShowsStatusOnly : quiet (st id).dev := by
  unfold quiet; decide +kernel

theorem witness_EveryStepTakesOneCommand :
    (let s : State := { dev := up, pending := [.porstNLow, .slewEnd] }; s.pending = .porstNLow :: [.slewEnd] ∧ ∃ t, step s = .next t) :=
  ⟨rfl, _, rfl⟩

theorem witness_SafeQueuesNeverStop : safe { dev := up, pending := [.porstNLow] } := by
  simp only [safe, List.forall_mem_singleton]; decide

theorem witness_FusesNeverFallBack : ∃ t, step { dev := up, pending := [.porstNLow] } = .next t := ⟨_, rfl⟩

theorem witness_FewCommandsWriteFuses :
    (let c : Instr := .porstNLow
     (∀ n e, c ≠ .frameTick n e) ∧ (∀ r d k a, c ≠ .lcTransition r d k a) ∧ (∀ a, c ≠ .ndLcTransition a) ∧
       ∃ t, exec c (st id) = .next t) :=
  ⟨nofun, nofun, nofun, _, rfl⟩

/-! ### Hypotheses of the statements, met clause by clause -/

theorem witness_StepRunsFrontCommand :
    (let c : Instr := .porstNLow; let rest : List Instr := [.slewEnd]; let s : State := { dev := up, pending := [.porstNLow, .slewEnd] };
      (s.pending = c :: rest)) := by
  decide +kernel

theorem witness_EmptyQueueStepIsOneCycle :
    (let s : State := st id; (s.pending = []) ∧ (noInjection s)) := by
  decide +kernel

theorem witness_StrapsAreCorrectedAndReported :
    (let pins : StrapPins := ⟨1, 0, 3, 0, false, true, true⟩; let s : State := State.reset; (noInjection s) ∧
      (s.dev.boot.porstLow = true) ∧ (s.dev.boot.wrstLow = false)) := by
  decide +kernel

theorem witness_ResetsHoldAndRestart :
    (let s : State := st id; (noInjection s)) ∧
    (let s : State := st id; (noInjection s)) ∧
    (let s : State := st id; (noInjection s) ∧ (s.dev.boot.porstLow = false) ∧ (s.dev.boot.wrstLow = false)) ∧
    (let s : State := st fun d => { d with boot := { d.boot with wrstLow := true } }; (noInjection s) ∧ (s.dev.boot.porstLow = false) ∧
      (s.dev.boot.wrstLow = true) ∧ (s.dev.boot.coldHold = false)) ∧
    (let by_ : Requester := .host; let v : Word := 1; let s : State := st id; (noInjection s) ∧ (accepts by_ Reg.glbReset s) ∧
      (bit v 0 = true) ∧ (s.dev.boot.resetAt = none)) ∧
    (let by_ : Requester := .fw; let v : Word := 1;
      let s : State := st (fun d => { d with boot := { d.boot with resetAt := some 5000 } }); let t : Nat := 5000; (noInjection s) ∧
      (accepts by_ Reg.glbReset s) ∧ (s.dev.boot.resetAt = some t)) ∧
    (let by_ : Requester := .nd; let v : Word := 0xFFFFFFFE; let s : State := st id; (noInjection s) ∧ (accepts by_ Reg.glbReset s) ∧
      (bit v 0 = false)) ∧
    (let s : State := st (fun d => { d with boot := { d.boot with resetAt := some 5000 } }); let t : Nat := 5000; (noInjection s) ∧
      (s.dev.boot.resetAt = some t)) :=
  ⟨by decide +kernel, by decide +kernel, by decide +kernel, by decide +kernel, by decide +kernel, by decide +kernel,
    by decide +kernel, by decide +kernel⟩

theorem witness_BootReachesTheImage :
    (let s : State := st (inPhase 1); (noInjection s) ∧ (s.dev.phase = 1)) ∧
    (let s : State := st (inPhase 1); (noInjection s) ∧ (s.dev.phase ≠ 0)) ∧
    (let s : State := st id; (noInjection s) ∧ (s.dev.phase ≠ 0)) ∧
    (let r : WiringResult := ⟨false, false, false, false, List.finRange 24, [], false, false⟩; let s : State := st (inPhase 2);
      (noInjection s) ∧ (s.dev.phase = 2) ∧ (r.flashAbsent = false) ∧ (r.refclkABad = false) ∧ (r.refclkBBad = false) ∧
      (r.pcieRefAbsent = false) ∧ ((∀ m : Fin 24, m ∈ r.laneSignal)) ∧ (r.tdmShort = []) ∧ (r.pairMismatch = false) ∧
      (r.phyAbsent = false) ∧ (s.dev.rbit (Reg.srcStatus 1) 0 = false) ∧ (s.dev.rbit (Reg.srcStatus 2) 0 = false)) ∧
    (let s : State := st (fun d => { inPhase 3 d with flt := { d.flt with storm := 3 } }); (noInjection s) ∧ (s.dev.phase = 3) ∧
      (s.dev.boot.lcCopy = s.fuses.state) ∧ (s.dev.boot.cold = false) ∧ (s.dev.lc ≠ 3) ∧ (s.dev.flt.storm < 4) ∧
      (s.dev.rbit Reg.pwrClksel 5 = false)) ∧
    (let r : FlashRead := ⟨true, 0x4000000, false, [], []⟩; let s : State := st (inPhase 4); (noInjection s) ∧ (s.dev.phase = 4) ∧
      (s.dev.rbit Reg.pwrClksel 5 = false) ∧ (s.dev.boot.straps.nvmMode ≠ 2) ∧ (s.dev.boot.flashSeen = true) ∧ (r.sfdpOk = true)) :=
  ⟨by decide +kernel, by decide +kernel, by decide +kernel, by decide +kernel, by decide +kernel, by decide +kernel⟩

theorem witness_ImagesAreReadVerifiedAndApplied :
    (let s : State := { st (fun d => (signed d).setFld Reg.bootLc 0 2 1) with fuses := { provA := true, rootHash := sha384 key1 } };
      (noInjection s) ∧ (s.dev.phase = 6) ∧ (sigVerifies s.dev.boot.sigBlock s.dev.boot.digest = true) ∧ ((s.dev.lc = 1 ∨ s.dev.lc = 2)) ∧
      (sha384 (sigKey s.dev.boot.sigBlock) = s.fuses.rootHash)) ∧
    (let s : State := st signed; (noInjection s) ∧ (s.dev.phase = 6) ∧ (sigVerifies s.dev.boot.sigBlock s.dev.boot.digest = true) ∧
      (s.dev.lc = 0)) ∧
    (let s : State := st (fun d => { signed d with boot := { (signed d).boot with digest := toBe 48 sigR } }); (noInjection s) ∧
      (s.dev.phase = 6) ∧ (sigVerifies s.dev.boot.sigBlock s.dev.boot.digest = false)) ∧
    (let tiles : List (Fin 256 × TestMeasure) := []; let lanes : List (Fin 8 × TestMeasure) := []; let s : State := st (inPhase 7);
      (noInjection s) ∧ (s.dev.phase = 7) ∧ (s.dev.boot.rwlLocked = false) ∧ ((listEntries (sectionOf s.dev 1)).any entryBoot = false)) ∧
    (let by_ : Requester := .host; let v : Word := 1; let s : State := st (inPhase 9); (noInjection s) ∧ (accepts by_ Reg.bootHbCtrl s) ∧
      (bit v 0 = true) ∧ (s.dev.phase = 9) ∧ (s.dev.rbit Reg.bootHbCtrl 1 = false) ∧ (s.dev.rbit Reg.pwrClksel 5 = false) ∧
      ((s.dev.reg Reg.bootHbSrcLo).toNat % 4096 = 0)) ∧
    (let by_ : Requester := .fw; let v : Word := 1; let s : State := st id; (noInjection s) ∧ (accepts by_ Reg.bootHbCtrl s) ∧
      (bit v 0 = true) ∧ (s.dev.phase ≠ 9)) ∧
    (let s : State := st (fun d => { inPhase 5 d with boot := { d.boot with pulling := true } }); (noInjection s) ∧ (s.dev.phase = 5) ∧
      (s.dev.boot.pulling = true)) :=
  ⟨by decide +kernel, by decide +kernel, by decide +kernel, by decide +kernel, by decide +kernel, by decide +kernel,
    by decide +kernel⟩

theorem witness_FrameTickFiresAndIsNumbered :
    (let par : List (Nat × RecPar) := []; let bad : List Nat := []; let s : State := st ticking;
      let d : Dev := (tickFire (ticking up)).getD {}; (noInjection s) ∧ (tickFire s.dev = some d) ∧ (bootTick s.dev = false)) ∧
    (let par : List (Nat × RecPar) := []; let bad : List Nat := []; let s : State := st bootTicking;
      let d : Dev := (tickFire (bootTicking up)).getD {}; let v : Nat := 5; (noInjection s) ∧ (tickFire s.dev = some d) ∧
      (bootTick s.dev = true) ∧ (raiseLevel s.dev = some v)) ∧
    (let s : Dev := ticking up; let n : Nat := 0; (s.rbit Reg.tbTickCtrl 0 = true) ∧ (s.time.running = true) ∧ (s.domainOn 26 = true) ∧
      (s.time.nextTickAt = n * tickUnits)) ∧
    (let by_ : Requester := .fw; let v : Word := 1; let s : State := st id; (noInjection s) ∧ (accepts by_ Reg.tbTickCtrl s) ∧
      (bit v 0 = true) ∧ (s.dev.rbit Reg.tbTickCtrl 0 = false)) :=
  ⟨by decide +kernel, by decide +kernel, by decide +kernel, by decide +kernel⟩

theorem witness_NodesAreDispatchedAndEnd :
    (let n : Fin 16 := 3; let r : Resource := .tile 15;
      let s : State := st (fun d => { d with gcycle := 7, gdu := [(3, { ready := [⟨9, 0, 1, .tile 15, 7⟩] })] });
      let e : ListEntry := ⟨9, 0, 1, .tile 15, 7⟩; (noInjection s) ∧ (s.dev.clState n = 3) ∧
      (let d : Dev := { s.dev with gcycle := s.dev.gcycle + 1 }; (pickEntry d n r = some e))) ∧
    (let n : Fin 16 := 3; let r : Resource := .ee; let c : Nat := 9; let out : NodeOutcome := .plain;
      let s : State := st (serving (chan .running)); let v : Service := ⟨.ee, 9, 0, 0, true⟩; let k : Channel := chan .running;
      (noInjection s) ∧ (findService (s.dev.cg n) r c = some v) ∧ (s.dev.chan? c = some k) ∧ (k.st ≠ .closing)) ∧
    (let n : Fin 16 := 3; let r : Resource := .ee; let c : Nat := 9; let s : State := st (serving (chan .running));
      let v : Service := ⟨.ee, 9, 0, 0, true⟩; let k : Channel := chan .running; (noInjection s) ∧
      (findService (s.dev.cg n) r c = some v) ∧ (s.dev.chan? c = some k)) ∧
    (let c : Nat := 9; let s : State := st (withChan 9 { chan .running with active := some inst });
      let k : Channel := { chan .running with active := some inst }; let i : Instance := inst; (noInjection s) ∧
      (s.dev.chan? c = some k) ∧ (k.active = some i) ∧ (i.late = false) ∧ (i.closing = false)) ∧
    (let c : Nat := 9; let s : State := st (withChan 9 { chan .running with deferred := some inst });
      let k : Channel := { chan .running with deferred := some inst }; let i : Instance := inst; (noInjection s) ∧
      (s.dev.chan? c = some k) ∧ (k.deferred = some i) ∧ (i.late = false) ∧ (i.closing = false)) ∧
    (let c : Nat := 9; let b : Bool := false;
      let s : State := st (withChan 9 { chan .running with active := some { inst with late := true } });
      let k : Channel := { chan .running with active := some { inst with late := true } }; let i : Instance := { inst with late := true };
      (noInjection s) ∧ (s.dev.chan? c = some k) ∧ (k.inst b = some i) ∧ (i.late = true)) ∧
    (let c : Nat := 9; let s : State := st (withChan 9 { chan .running with active := some { inst with late := true } });
      let k : Channel := { chan .running with active := some { inst with late := true } }; let i : Instance := { inst with late := true };
      (noInjection s) ∧ (s.dev.chan? c = some k) ∧ (k.active = some i) ∧ (i.aborting = false) ∧ (i.closing = false)) ∧
    (let c : Nat := 9; let s : State := st (withChan 9 { chan .running with deferred := some { inst with late := true } });
      let k : Channel := { chan .running with deferred := some { inst with late := true } };
      let i : Instance := { inst with late := true }; (noInjection s) ∧ (s.dev.chan? c = some k) ∧ (k.deferred = some i) ∧
      (i.aborting = false) ∧ (i.closing = false)) :=
  ⟨by decide +kernel, by decide +kernel, by decide +kernel, by decide +kernel, by decide +kernel, by decide +kernel,
    by decide +kernel, by decide +kernel⟩

theorem witness_ClustersAreConfiguredAndEmptied :
    (let by_ : Requester := .fw; let en : Bool := false; let s : State := st (fun d => d.setBit Reg.gduCfg 0 true); (noInjection s) ∧
      (accepts by_ Reg.gduCfg s) ∧ (en ≠ s.dev.rbit Reg.gduCfg 0)) ∧
    (let spare : Bool := true; let s : State := st id; (noInjection s) ∧ (accepts .host Reg.gduCfg s) ∧ (s.dev.chans = [])) ∧
    (let by_ : Requester := .fw; let spare : Bool := true; let s : State := st (withChan 9 (chan .opened)); (noInjection s) ∧
      (accepts by_ Reg.gduCfg s) ∧ (s.dev.chans ≠ [])) ∧
    (let n : Fin 16 := 15; let s : State := st (fun d => d.setFld Reg.gduClState 30 2 2); (noInjection s) ∧ (s.dev.clState n = 2) ∧
      ((s.dev.cg n).waking = none) ∧ (nextSpawnIn s.dev n = none)) ∧
    (let n : Fin 16 := 15; let s : State := st (fun d => d.setFld Reg.gduClState 30 2 1); (noInjection s) ∧ (s.dev.clState n = 1) ∧
      (nextSpawnIn s.dev n = none) ∧ ((s.dev.cg n).waking = none) ∧ (s.dev.rbit Reg.pwrDomainFail (1 + n) = false)) ∧
    (let n : Fin 16 := 0; let s : State := st (fun d => { d.setFld Reg.gduClState 0 2 2 with gdu := [(0, { waking := some 4 })] });
      let t : Nat := 4; (noInjection s) ∧ ((s.dev.cg n).waking = some t) ∧ (s.dev.rbit Reg.pwrDomainFail (1 + n) = false) ∧
      (s.dev.clState n = 2)) ∧
    (let n : Fin 16 := 0; let s : State := st (fun d => { d.setFld Reg.gduClState 0 2 2 with gdu := [(0, { waking := some 4 })] });
      let t : Nat := 4; (noInjection s) ∧ ((s.dev.cg n).waking = some t) ∧ (s.dev.rbit Reg.pwrDomainFail (1 + n) = false)) ∧
    (let s : State := st (fun d => { d.setNat Reg.gduClState 0xF with consol := { lowSince := some 4 } }); let t : Nat := 4;
      (noInjection s) ∧ (s.dev.consol.lowSince = some t) ∧ (consolLow s.dev = true)) ∧
    (let r : Fin 4 := 0; let d : Desc := dsc 0 0 [1];
      let s : State := st (fun d => withChan 9 (chan .opened) (d.setNat Reg.gduClState 0xF)); (noInjection s) ∧
      (takesHere r 0x13 d s.dev) ∧ (descClean d = true) ∧ (d.aux = 0) ∧ (oct d.params 0 = 1) ∧ (d.zeroFrom 1 47 = true) ∧
      ((consolStart (taken r 0x13 d s.dev)).consol.cluster.isSome = true)) ∧
    (let r : Fin 4 := 0; let d : Desc := dsc 0 0 [2]; let s : State := st id; let m : PendingCmd := newCmd 0 0x13 (dsc 0 0 [2]) up;
      (noInjection s) ∧ (takesHere r 0x13 d s.dev) ∧ (descClean d = true) ∧ (d.aux = 0) ∧ (oct d.params 0 = 2) ∧
      (d.zeroFrom 1 47 = true) ∧ (let e := consolEnd (taken r 0x13 d s.dev); (findCmd e s.dev.pci.nextId = some m) ∧ (m.done = none))) ∧
    (let r : Fin 4 := 0; let d : Desc := dsc 0 0 [2]; let s : State := st (fun d => { d with consol := { cluster := some 3 } });
      (noInjection s) ∧ (takesHere r 0x13 d s.dev) ∧ (descClean d = true) ∧ (d.aux = 0) ∧ (oct d.params 0 = 2) ∧
      (d.zeroFrom 1 47 = true) ∧ ((taken r 0x13 d s.dev).consol.cluster.isSome = true) ∧
      (findCmd (consolEnd (taken r 0x13 d s.dev)) s.dev.pci.nextId = none)) :=
  ⟨by decide +kernel, by decide +kernel, by decide +kernel, by decide +kernel, by decide +kernel, by decide +kernel,
    by decide +kernel, by decide +kernel, by decide +kernel, by decide +kernel, by decide +kernel⟩

theorem witness_EpochsAreStagedScheduledAndReleased :
    (let r : Fin 4 := 0; let d : Desc := dsc 0 0 (toLe 7 1000000 ++ [1]); let b : Bank := {};
      let s : State := st (fun d => { setEpochState 5 d with epochs := { d.epochs with next := some {} } }); (noInjection s) ∧
      (takesHere r 0x0F d s.dev) ∧ (s.dev.role = 0) ∧ (descClean d = true) ∧ (d.aux = 0) ∧ (d.zeroFrom 8 47 = true) ∧
      (let T := taken r 0x0F d s.dev; (let e := s.dev.epochs; (e.next = some b) ∧ (epochState s.dev = 5) ∧
      (d.arg 7 1 = (e.cur.epoch + 1) % 256) ∧ (s.dev.tickNow + 2 ≤ d.arg 0 7) ∧ (stagedInUse T b = false)))) ∧
    (let r : Fin 4 := 0; let d : Desc := dsc 0 0 (toLe 7 1 ++ [1]); let b : Bank := {};
      let s : State := st (fun d => { setEpochState 5 d with epochs := { d.epochs with next := some {} } }); (noInjection s) ∧
      (takesHere r 0x0F d s.dev) ∧ (s.dev.role = 0) ∧ (descClean d = true) ∧ (d.aux = 0) ∧ (d.zeroFrom 8 47 = true) ∧
      (let e := s.dev.epochs; (e.next = some b) ∧ (epochState s.dev = 5) ∧ (d.arg 7 1 = (e.cur.epoch + 1) % 256) ∧
      (d.arg 0 7 < s.dev.tickNow + 2))) ∧
    (let r : Fin 4 := 0; let d : Desc := dsc 0 0 []; let s : State := st id; (noInjection s) ∧ (takesHere r 0x0F d s.dev) ∧
      (descClean d = true) ∧ (d.aux = 0) ∧ (d.zeroFrom 8 47 = true)) ∧
    (let by_ : Requester := .fw; let v : Word := 1; let b : Bank := {};
      let s : State := st (fun d => { setEpochState 5 ((d.setNat Reg.gduEpochSchedHi 0x01000000).setNat Reg.gduEpochSchedLo 1000000) with epochs := { d.epochs with next := some {} } });
      (noInjection s) ∧ (accepts by_ Reg.gduEpochCmd s) ∧ (bit v 0 = true) ∧ (s.dev.role = 0) ∧
      (let n := s.dev.rfld Reg.gduEpochSchedHi 24 8;
      (let k := (s.dev.reg Reg.gduEpochSchedLo).toNat + 2 ^ 32 * s.dev.rfld Reg.gduEpochSchedHi 0 24; (let e := s.dev.epochs;
      (e.next = some b) ∧ (epochState s.dev = 5) ∧ (n = (e.cur.epoch + 1) % 256) ∧ (s.dev.tickNow + 2 ≤ k) ∧
      (stagedInUse s.dev b = false))))) ∧
    (let by_ : Requester := .fw; let v : Word := 1; let s : State := st id; (noInjection s) ∧ (accepts by_ Reg.gduEpochCmd s) ∧
      (bit v 0 = true)) ∧
    (let r : Fin 4 := 0; let d : Desc := dsc 0 0 []; let s : State := st id; (noInjection s) ∧ (takesHere r 0x1B d s.dev) ∧
      (s.dev.role = 0) ∧ (descClean d = true) ∧ (d.aux = 0) ∧ (d.zeroFrom 0 47 = true) ∧ (epochState s.dev = 0)) ∧
    (let r : Fin 4 := 0; let d : Desc := dsc 0 2 [];
      let s : State := st (fun d => { setEpochState 1 d with epochs := { d.epochs with next := some {} } }); (noInjection s) ∧
      (takesHere r 0x1B d s.dev) ∧ (s.dev.role = 0) ∧ (descClean d = true) ∧ (d.aux = 2) ∧ (d.zeroFrom 0 47 = true) ∧
      (epochState s.dev = 1) ∧ (s.dev.epochs.next.isSome = true)) ∧
    (let r : Fin 4 := 0; let d : Desc := dsc 0 3 []; let s : State := st (setEpochState 5); (noInjection s) ∧
      (takesHere r 0x1B d s.dev) ∧ (s.dev.role = 0) ∧ (descClean d = true) ∧ (d.aux = 3) ∧ (d.zeroFrom 0 47 = true) ∧
      (epochState s.dev = 5)) ∧
    (let r : Fin 4 := 0; let d : Desc := dsc 0 0 []; let o : Octets := templateOctets; let b : Bank := {}; let t : Template := tmpl;
      let s : State := st (fun d => { setEpochState 1 d with epochs := { d.epochs with next := some {} } }); (noInjection s) ∧
      (takesHere r 0x10 d s.dev) ∧ (descClean d = true) ∧ (d.aux = 0) ∧ (d.zeroFrom 10 47 = true) ∧ (s.dev.epochs.next = some b) ∧
      (epochState s.dev = 1) ∧ (checkTemplate o true [] = (0, some t))) ∧
    (let s : State := st (fun d => { d with epochs := { d.epochs with prev := some { epoch := 255 } } });
      let b : Bank := { epoch := 255 }; (noInjection s) ∧ (s.dev.epochs.prev = some b) ∧ (prevDrained s.dev b.epoch = true)) ∧
    
      (let s : State := st (fun d => { setEpochState 3 d with epochs := { d.epochs with master := true, releaseTick := some 4, switchWait := [15] }, time := { d.time with ticks := 12 } });
      let t : Nat := 4; (noInjection s) ∧ (s.dev.epochs.releaseTick = some t) ∧ (s.dev.epochs.master = true) ∧ (epochState s.dev = 3) ∧
      (t + 8 ≤ s.dev.time.ticks) ∧ (s.dev.epochs.switchWait ≠ [])) :=
  ⟨by decide +kernel, by decide +kernel, by decide +kernel, by decide +kernel, by decide +kernel, by decide +kernel,
    by decide +kernel, by decide +kernel, by decide +kernel, by decide +kernel, by decide +kernel⟩

theorem witness_LedgerBuffersWritesAndExports :
    (let e : LedgerEvent := ⟨⟨1, 999999999, 255⟩, 0x3FF, 0x0100, 0, none, zeros 8⟩; let s : State := st id; (noInjection s) ∧
      (s.dev.boot.ledgerOn = true) ∧ (s.dev.domainOn 17 = true) ∧ (s.dev.ledger.buf.length < 1024)) ∧
    (let s : State := st (fun d => { d with ledger := { d.ledger with buf := [⟨⟨⟨1, 0, 0⟩, 0x10, 0x0100, 0, some 9, zeros 8⟩, 5⟩] } });
      let h : Held := ⟨⟨⟨1, 0, 0⟩, 0x10, 0x0100, 0, some 9, zeros 8⟩, 5⟩; (noInjection s) ∧ (s.dev.ledger.buf = [h])) ∧
    (let s : State := st (fun d => { d with ledger := { d.ledger with exportAt := some 7 } }); let t : Nat := 7; (noInjection s) ∧
      (s.dev.ledger.exportAt = some t)) :=
  ⟨by decide +kernel, by decide +kernel, by decide +kernel⟩

theorem witness_OpenPlacesTheChannel :
    (let r : Fin 4 := 0; let d : Desc := dsc 9 0 block; let s : State := st (fun d => d.setNat Reg.gduClState 3);
      let t : Template := tmpl; let c : Nat := 9; let home : Nat := 0; let wake : Bool := false; (noInjection s) ∧
      (takesHere r 0x01 d s.dev) ∧ (descClean d = true) ∧ (d.aux = 0) ∧ (oct d.params 0 ≤ 63) ∧
      ((if bit d.channel 31 then lowestFree (taken r 0x01 d s.dev) else some (fld d.channel 0 16)) = some c) ∧ (let o := descHid d;
      (let e := modCmd s.dev.pci.nextId (fun m => { m with chan := some (globalId o c), field := globalId o c }) (taken r 0x01 d s.dev);
      (e.chan? c = none) ∧ (templateFor e d.params = some t) ∧ (paramsOk e t d.params = true) ∧
      ((firstSet e (oct d.params 3)).isSome = true) ∧ (place e (chargeOf e.epochs.cur.cost t d.params) d.params = some (home, wake))))) ∧
    (let r : Fin 4 := 0; let d : Desc := dsc 9 0 block; let s : State := st (withChan 9 (chan .opened)); let k : Channel := chan .opened;
      (noInjection s) ∧ (takesHere r 0x01 d s.dev) ∧ (bit d.channel 31 = false) ∧
      ((taken r 0x01 d s.dev).chan? (fld d.channel 0 16) = some k)) :=
  ⟨by decide +kernel, by decide +kernel⟩

theorem witness_ChannelCommandsActOnTheChannel :
    (let r : Fin 4 := 0; let d : Desc := dsc 9 0x10000000 (padTo 28 [] ++ [127]); let s : State := st (withChan 9 (chan .running));
      let c : Nat := 9; let k : Channel := chan .running; (noInjection s) ∧ (takesHere r 0x02 d s.dev) ∧ (let T := taken r 0x02 d s.dev;
      (let p := mergeParams d.aux.toNat k.params d.params; (onOpen d c k T) ∧ (maskOk d.aux.toNat = true) ∧
      (allZero (octs d.params 30 2) = true) ∧ (allZero (octs d.params 36 12) = true) ∧ (paramsOk T k.template p = true) ∧
      (modifyAdmits T c k p = true)))) ∧
    (let r : Fin 4 := 0; let d : Desc := dsc 9 0 (zeros 8 ++ [1]); let ok : Bool := true;
      let s : State := st (withChan 9 (chan .running)); let c : Nat := 9; let k : Channel := chan .running; (noInjection s) ∧
      (takesHere r 0x07 d s.dev) ∧ (let T := taken r 0x07 d s.dev; (onOpen d c k T) ∧ (k.st = .running) ∧ (d.aux = 0) ∧
      (oct d.params 8 ≤ 1) ∧ (d.zeroFrom 9 47 = true))) ∧
    (let r : Fin 4 := 0; let d : Desc := dsc 9 0 (zeros 8 ++ [1]); let s : State := st (withChan 9 (chan .opened)); let c : Nat := 9;
      let k : Channel := chan .opened;
      let m : PendingCmd := { newCmd 0 0x07 (dsc 9 0 (zeros 8 ++ [1])) up with addr := 0, aux := 1, dmaOk := true }; (noInjection s) ∧
      (takesHere r 0x07 d s.dev) ∧ (let T := taken r 0x07 d s.dev;
      (let u := modCmd s.dev.pci.nextId (fun m => { m with addr := d.arg 0 8, aux := oct d.params 8, dmaOk := true }) T;
      (onOpen d c k T) ∧ (k.st = .opened) ∧ (d.aux = 0) ∧ (oct d.params 8 ≤ 1) ∧ (d.zeroFrom 9 47 = true) ∧
      (findCmd u s.dev.pci.nextId = some m)))) ∧
    (let r : Fin 4 := 0; let d : Desc := dsc 9 0 [255]; let s : State := st (withChan 9 (chan .opened)); let c : Nat := 9;
      let k : Channel := chan .opened;
      let u : Dev := (migrateGo 9 255 (taken 0 0x12 (dsc 9 0 [255]) (withChan 9 (chan .opened) up))).getD {}; (noInjection s) ∧
      (takesHere r 0x12 d s.dev) ∧ (let T := taken r 0x12 d s.dev; (onOpen d c k T) ∧ (d.aux = 0) ∧ (d.zeroFrom 1 47 = true) ∧
      (oct d.params 0 ≠ k.home) ∧ (migrateAdmits T (oct d.params 0) k = true) ∧ (migrateGo c (oct d.params 0) T = some u))) ∧
    (let r : Fin 4 := 0; let d : Desc := dsc 9 0 [255]; let s : State := st (withChan 9 (chan .running)); let c : Nat := 9;
      let k : Channel := chan .running; (noInjection s) ∧ (takesHere r 0x12 d s.dev) ∧ (let T := taken r 0x12 d s.dev; (onOpen d c k T) ∧
      (d.aux = 0) ∧ (d.zeroFrom 1 47 = true) ∧ (oct d.params 0 ≠ k.home) ∧ (migrateAdmits T (oct d.params 0) k = true) ∧
      (partnerOf T k = none) ∧ (k.st = .running))) ∧
    (let r : Fin 4 := 0; let d : Desc := dsc 9 0 [5]; let s : State := st (withChan 9 (chan .running)); let c : Nat := 9;
      let k : Channel := chan .running; (noInjection s) ∧ (takesHere r 0x12 d s.dev) ∧ (let T := taken r 0x12 d s.dev; (onOpen d c k T) ∧
      (d.aux = 0) ∧ (d.zeroFrom 1 47 = true) ∧ (oct d.params 0 = k.home))) ∧
    (let r : Fin 4 := 0; let d : Desc := dsc 0xFFFF 0 []; let s : State := st (withChan 0xFFFF (chan .opened)); let c : Nat := 0xFFFF;
      let k : Channel := chan .opened; (noInjection s) ∧ (takesHere r 0x06 d s.dev) ∧ (let T := taken r 0x06 d s.dev; (onOpen d c k T) ∧
      (d.aux = 0) ∧ (d.zeroFrom 8 47 = true))) :=
  ⟨by decide +kernel, by decide +kernel, by decide +kernel, by decide +kernel, by decide +kernel, by decide +kernel,
    by decide +kernel⟩

theorem witness_LegsJoinAndLeaveUntilClose :
    (let r : Fin 4 := 0; let d : Desc := dsc 9 0 [0, 0, 0, 0, 3];
      let s : State := st (fun d => (withChan 9 (chan .opened) d).setReg (Reg.tdmCfg 3) 0x80000002); let c : Nat := 9;
      let k : Channel := chan .opened; (noInjection s) ∧ (takesHere r 0x03 d s.dev) ∧ (let T := taken r 0x03 d s.dev; (let l := d.arg 4 4;
      (onOpen d c k T) ∧ (d.aux = 0) ∧ (oct d.params 0 = 0) ∧ (d.arg 0 4 = 0) ∧ (d.zeroFrom 8 47 = true) ∧ (lineOk T l = true) ∧
      (k.legs.line = none) ∧ (k.legs.partner = none) ∧ (hasPair k = false) ∧
      ((∀ p ∈ T.chans, ∀ m ∈ p.2.legs.line, linesOverlap l m = false))))) ∧
    (let r : Fin 4 := 0; let d : Desc := dsc 9 0 [1, 0, 0, 0, 1];
      let s : State := st (fun d => withSession 1 { chan := 9 } (withChan 9 (chan .opened) d)); let c : Nat := 9;
      let k : Channel := chan .opened; (noInjection s) ∧ (takesHere r 0x03 d s.dev) ∧ (let T := taken r 0x03 d s.dev; (onOpen d c k T) ∧
      (d.aux = 0) ∧ (oct d.params 0 = 1) ∧ (d.arg 0 4 = 1) ∧ (d.zeroFrom 8 47 = true) ∧ (d.arg 4 4 < sessionCount) ∧
      (k.legs.session = none) ∧ ((T.leads = true → sessionNames T (d.arg 4 4) (globalId k.owner c) = true)))) ∧
    (let r : Fin 4 := 0; let d : Desc := dsc 9 0 [1, 0, 0, 0, 1]; let s : State := st (withChan 9 (chan .opened)); let c : Nat := 9;
      let k : Channel := chan .opened; (noInjection s) ∧ (takesHere r 0x03 d s.dev) ∧ (let T := taken r 0x03 d s.dev; (onOpen d c k T) ∧
      (d.aux = 0) ∧ (oct d.params 0 = 1) ∧ (d.arg 0 4 = 1) ∧ (d.zeroFrom 8 47 = true) ∧ (d.arg 4 4 < sessionCount) ∧ (T.leads = true) ∧
      (sessionNames T (d.arg 4 4) (globalId k.owner c) = false))) ∧
    (let r : Fin 4 := 0; let d : Desc := dsc 9 0 [2, 0, 0, 0, 2, 0, 0, 0, 1]; let s : State := st (withPair); let c : Nat := 9;
      let k : Channel := pairChan .opened 5; let q : Channel := pairChan .opened 6; (noInjection s) ∧ (takesHere r 0x03 d s.dev) ∧
      (let T := taken r 0x03 d s.dev; (let p := d.arg 4 4 % 0x10000; (onOpen d c k T) ∧ (d.aux = 0) ∧ (oct d.params 0 = 2) ∧
      (d.arg 0 4 = 2) ∧ (d.arg 4 4 < 2 ^ 20) ∧ (oct d.params 8 ≤ 1) ∧ (d.zeroFrom 9 47 = true) ∧ (T.chan? p = some q) ∧
      (d.arg 4 4 / 0x10000 = q.owner) ∧ (p ≠ c) ∧ ((k.st = .opened ∨ k.st = .running)) ∧ ((q.st = .opened ∨ q.st = .running)) ∧
      (q.migrate = none) ∧ (k.legs.line = none) ∧ (q.legs.line = none) ∧ (hasPair k = false) ∧ (hasPair q = false) ∧
      (pairRule k q = true) ∧ (k.home / 16 = q.home / 16) ∧ (pairStands T c p = true)))) ∧
    (let r : Fin 4 := 0; let d : Desc := dsc 9 0 [0]; let s : State := st (withChan 9 { chan .running with legs := { line := some 3 } });
      let c : Nat := 9; let k : Channel := { chan .running with legs := { line := some 3 } }; (noInjection s) ∧
      (takesHere r 0x04 d s.dev) ∧ (let T := taken r 0x04 d s.dev; (onOpen d c k T) ∧ (d.aux = 0) ∧ (oct d.params 0 = 0) ∧
      (d.zeroFrom 1 47 = true))) ∧
    (let r : Fin 4 := 0; let d : Desc := dsc 9 0 [1];
      let s : State := st (withChan 9 { chan .running with legs := { session := some 3 } }); let c : Nat := 9;
      let k : Channel := { chan .running with legs := { session := some 3 } }; (noInjection s) ∧ (takesHere r 0x04 d s.dev) ∧
      (let T := taken r 0x04 d s.dev; (onOpen d c k T) ∧ (d.aux = 0) ∧ (oct d.params 0 = 1) ∧ (d.zeroFrom 1 47 = true))) ∧
    (let r : Fin 4 := 0; let d : Desc := dsc 9 0 [2];
      let s : State := st (withChan 9 { chan .running with legs := { partner := some 3 } }); let c : Nat := 9; let p : Nat := 3;
      let k : Channel := { chan .running with legs := { partner := some 3 } }; (noInjection s) ∧ (takesHere r 0x04 d s.dev) ∧
      (let T := taken r 0x04 d s.dev; (onOpen d c k T) ∧ (d.aux = 0) ∧ (oct d.params 0 = 2) ∧ (d.zeroFrom 1 47 = true) ∧ (p ≠ noPartner) ∧
      (((k.legs.partner = some p ∧ k.pairNext = none) ∨ k.pairNext = some (some p))))) ∧
    (let r : Fin 4 := 0; let d : Desc := dsc 9 0 [8]; let ok : Bool := true; let s : State := st (withChan 9 (chan .running));
      let c : Nat := 9; let k : Channel := chan .running; (noInjection s) ∧ (takesHere r 0x05 d s.dev) ∧ (descClean d = true) ∧
      (d.aux = 0) ∧ (d.zeroFrom 8 47 = true) ∧ (c = fld d.channel 0 16) ∧ ((taken r 0x05 d s.dev).chan? c = some k) ∧
      (k.owner = descHid d) ∧ ((k.st = .opened ∨ k.st = .running))) ∧
    (let r : Fin 4 := 0; let d : Desc := dsc 9 0 [8]; let ok : Bool := true; let s : State := st (withChan 9 (chan .opening));
      let c : Nat := 9; let k : Channel := chan .opening; (noInjection s) ∧ (takesHere r 0x05 d s.dev) ∧ (descClean d = true) ∧
      (d.aux = 0) ∧ (d.zeroFrom 8 47 = true) ∧ (c = fld d.channel 0 16) ∧ ((taken r 0x05 d s.dev).chan? c = some k) ∧
      (k.owner = descHid d) ∧ (k.st = .opening)) ∧
    (let r : Fin 4 := 0; let d : Desc := dsc 9 0 [8]; let ok : Bool := true; let s : State := st (withChan 9 (chan .closing));
      let k : Channel := chan .closing; (noInjection s) ∧ (takesHere r 0x05 d s.dev) ∧
      ((taken r 0x05 d s.dev).chan? (fld d.channel 0 16) = some k) ∧ (k.owner = descHid d) ∧ (k.st = .closing)) :=
  ⟨by decide +kernel, by decide +kernel, by decide +kernel, by decide +kernel, by decide +kernel, by decide +kernel,
    by decide +kernel, by decide +kernel, by decide +kernel, by decide +kernel⟩

theorem witness_TonesAndRecordingsAreCommanded :
    (let r : Fin 4 := 0; let d : Desc := dsc 9 0 [2, 0, 0, 0, 0, 0x80];
      let s : State := st (fun d => { withChan 9 (chan .opened) d with boot := { d.boot with sections := [(6, toneOctets)] } });
      let c : Nat := 9; let k : Channel := chan .opened; let rcd : Octets := octs toneOctets 16 48; (noInjection s) ∧
      (takesHere r 0x08 d s.dev) ∧ (let T := taken r 0x08 d s.dev; (let lv := d.arg 4 2; (let dir := oct d.params 0; (onOpen d c k T) ∧
      (d.aux = 0) ∧ (dir < 3) ∧ (d.zeroFrom 6 47 = true) ∧ (toneDef (toneSection T) (oct d.params 1) = some rcd) ∧
      ((lv = 0x8000 ∨ toneLevel lv = true)) ∧ ((defFreqs rcd).any (fun f => decide (5 * rateHz (k.par 2 1) ≤ f)) = false))))) ∧
    (let r : Fin 4 := 0; let d : Desc := dsc 9 0 []; let s : State := st (withChan 9 (chan .opened)); let c : Nat := 9;
      let k : Channel := chan .opened; (noInjection s) ∧ (takesHere r 0x09 d s.dev) ∧ (let T := taken r 0x09 d s.dev;
      (let dir := oct d.params 0; (onOpen d c k T) ∧ (d.aux = 0) ∧ (dir < 3) ∧ (d.zeroFrom 1 47 = true)))) ∧
    (let r : Fin 4 := 0; let d : Desc := dsc 9 0 [1, 0, 0, 0, 2];
      let s : State := st (fun d => (withChan 9 (tapChan .opened) d).setBit (Reg.arcSinkCtrl 0) 0 true |>.setNat Reg.arcRecPoolFree 1000);
      let c : Nat := 9; let k : Channel := tapChan .opened; (noInjection s) ∧ (takesHere r 0x0A d s.dev) ∧ (let T := taken r 0x0A d s.dev;
      (let dirs := oct d.params 0; (let order := oct d.params 4; (let n := (dirs.testBit 0).toNat + (dirs.testBit 1).toNat;
      (onOpen d c k T) ∧ (d.aux = 0) ∧ (dirs ≠ 0) ∧ (dirs < 4) ∧ ((order ≤ 2 ∨ order = 0xFF)) ∧ (oct d.params 1 = 0) ∧
      (d.zeroFrom 5 47 = true) ∧ (k.recs = []) ∧ (k.template.holds 0x11 = true) ∧ ((T.leads = true → recordStartPre T = none)) ∧
      ((recBits T + n * 16 * rateHz (k.par 2 1) + 999999) / 1000000 ≤ min 8000 (T.rfld Reg.arcRecLimit 0 16)) ∧
      (n * recCells T (k.par 2 1) ≤ T.rfld Reg.arcRecPoolFree 0 21)))))) ∧
    (let r : Fin 4 := 0; let d : Desc := dsc 9 0 []; let s : State := st (withChan 9 (tapChan .running)); let c : Nat := 9;
      let k : Channel := tapChan .running; (noInjection s) ∧ (takesHere r 0x0B d s.dev) ∧ (let T := taken r 0x0B d s.dev;
      (onOpen d c k T) ∧ (d.aux = 0) ∧ (d.zeroFrom 0 47 = true))) :=
  ⟨by decide +kernel, by decide +kernel, by decide +kernel, by decide +kernel⟩

theorem witness_SessionsTakeKeysAndGo :
    (let r : Fin 4 := 0; let d : Desc := dsc 0 0x500005 []; let s : State := st (withSession 5 {}); let i : Nat := 5;
      let x : Session := {}; (noInjection s) ∧ (takesHere r 0x0C d s.dev) ∧ (let T := taken r 0x0C d s.dev; (let suite := fld d.aux 22 3;
      (onEntry d i T) ∧ (descClean d = true) ∧ (keyAuxOk d = true) ∧ (session? T i = some x) ∧ (fld d.aux 20 2 = 1) ∧ (suite ≠ 0) ∧
      (suiteMismatch x 1 suite (bit d.aux 25) = false)))) ∧
    (let r : Fin 4 := 0; let d : Desc := dsc 0 0x600005 []; let s : State := st (withSession 5 {}); let i : Nat := 5;
      let x : Session := {}; (noInjection s) ∧ (takesHere r 0x0C d s.dev) ∧ (let T := taken r 0x0C d s.dev; (let suite := fld d.aux 22 3;
      (onEntry d i T) ∧ (descClean d = true) ∧ (keyAuxOk d = true) ∧ (session? T i = some x) ∧ (fld d.aux 20 2 = 2) ∧ (suite ≠ 0) ∧
      (suiteMismatch x 2 suite (bit d.aux 25) = false) ∧ (x.lostTx = false)))) ∧
    (let r : Fin 4 := 0; let d : Desc := dsc 0 0x500005 []; let s : State := st (withSession 5 { suite := 1, rxSet := true });
      let i : Nat := 5; let j : Nat := 0; let x : Session := { suite := 1, rxSet := true }; (noInjection s) ∧ (takesHere r 0x0D d s.dev) ∧
      (let T := taken r 0x0D d s.dev; (onEntry d i T) ∧ (descClean d = true) ∧ (keyAuxOk d = true) ∧ (fld d.aux 20 2 = 1) ∧
      (session? T i = some x) ∧ (suiteMismatch x 1 (fld d.aux 22 3) (bit d.aux 25) = false) ∧ (x.rot = false) ∧
      (freeKey T.mpe.rot rotSize = some j))) ∧
    (let r : Fin 4 := 0; let d : Desc := dsc 0 0x600005 []; let s : State := st (withSession 5 { suite := 1, rxSet := true });
      let i : Nat := 5; let x : Session := { suite := 1, rxSet := true }; (noInjection s) ∧ (takesHere r 0x0D d s.dev) ∧
      (let T := taken r 0x0D d s.dev; (let suite := fld d.aux 22 3; (onEntry d i T) ∧ (descClean d = true) ∧ (keyAuxOk d = true) ∧
      (session? T i = some x) ∧ (fld d.aux 20 2 = 2) ∧ (suite ≠ 0) ∧ (suiteMismatch x 2 suite (bit d.aux 25) = false) ∧
      (x.lostTx = false)))) ∧
    (let r : Fin 4 := 0; let d : Desc := dsc 0 0x77FFF []; let s : State := st (withSession 491519 {}); let i : Nat := 491519;
      let x : Session := {}; (noInjection s) ∧ (takesHere r 0x0E d s.dev) ∧ (let T := taken r 0x0E d s.dev; (onEntry d i T) ∧
      (descClean d = true) ∧ (d.aux.toNat / 2 ^ 19 = 0) ∧ (d.zeroFrom 34 47 = true) ∧ (d.arg 0 4 < 2 ^ 20) ∧ (oct d.params 6 < 16) ∧
      (oct d.params 7 < 64) ∧ ((oct d.params 7).testBit 0 = false) ∧ (session? T i = some x) ∧ (inUse T i = false))) ∧
    (let r : Fin 4 := 0; let d : Desc := dsc 0 5 [];
      let s : State := st (fun d => withSession 5 { chan := 9 } (withChan 9 { chan .running with legs := { session := some 5 } } d));
      let i : Nat := 5; let x : Session := { chan := 9 }; (noInjection s) ∧ (takesHere r 0x0E d s.dev) ∧ (let T := taken r 0x0E d s.dev;
      (onEntry d i T) ∧ (descClean d = true) ∧ (d.aux.toNat / 2 ^ 19 = 0) ∧ (d.zeroFrom 34 47 = true) ∧ (d.arg 0 4 < 2 ^ 20) ∧
      (oct d.params 6 < 16) ∧ (oct d.params 7 < 64) ∧ ((oct d.params 7).testBit 0 = false) ∧ (session? T i = some x) ∧
      (inUse T i = true))) ∧
    (let r : Fin 4 := 0; let d : Desc := dsc 0 5 (zeros 7 ++ [9] ++ zeros 10 ++ [0xFF, 0xFF, 10, 0, 0, 1]);
      let s : State := st (fun d => withSession 5 {} (d.setReg (Reg.mpeAddrCfg 0) 0x80400000)); let i : Nat := 5; let x : Session := {};
      (noInjection s) ∧ (takesHere r 0x0E d s.dev) ∧ (let T := taken r 0x0E d s.dev; (let fl := oct d.params 7; (let a := oct d.params 6;
      (let g := d.arg 0 4; (let port := d.arg 4 2; (let ip := be d.params 8 16; (let mux := fl.testBit 3; (onEntry d i T) ∧
      (descClean d = true) ∧ (d.aux.toNat / 2 ^ 19 = 0) ∧ (d.zeroFrom 34 47 = true) ∧ (g < 2 ^ 20) ∧ (a < 16) ∧ (fl < 64) ∧
      (fl.testBit 0 = true) ∧ (session? T i = some x) ∧ ((inUse T i = true → x.chan = g)) ∧ (portTaken T i a port = false) ∧
      ((mux = true ∨ (port % 2 = 0 ∧ portTaken T i a (port + 1) = false))) ∧ ((∃ l ∈ localAddr T a, l.v6 = !isV4 ip)))))))))) :=
  ⟨by decide +kernel, by decide +kernel, by decide +kernel, by decide +kernel, by decide +kernel, by decide +kernel,
    by decide +kernel⟩

theorem witness_DeviceCommandsComplete :
    (let r : Fin 4 := 0; let d : Desc := dsc 0 0 (zeros 16 ++ [1]); let o : Octets := [7]; let s : State := st id; (noInjection s) ∧
      (takesHere r 0x14 d s.dev) ∧ (descClean d = true) ∧ (d.aux = 0) ∧ (d.arg 0 1 ≤ 1) ∧ (d.zeroFrom 1 3 = true) ∧
      (d.zeroFrom 20 47 = true) ∧ (d.arg 16 4 ≠ 0) ∧ (let T := taken r 0x14 d s.dev; (d.arg 4 4 + d.arg 16 4 ≤ slotSize T (d.arg 0 1)) ∧
      (flashPresent T = true) ∧ (slotRead T (d.arg 0 1) = false) ∧ (slotOwned T (d.arg 0 1) false = false))) ∧
    (let r : Fin 4 := 0; let d : Desc := dsc 0 0 (zeros 12 ++ [0, 0, 1]); let bad : List Nat := [];
      let s : State := st (fun d => d.setNat Reg.ldgWrCount 1); (noInjection s) ∧ (takesHere r 0x15 d s.dev) ∧ (descClean d = true) ∧
      (d.aux = 0) ∧ (1 ≤ d.arg 12 4) ∧ (d.arg 12 4 ≤ 65536) ∧ (d.zeroFrom 16 47 = true)) ∧
    (let r : Fin 4 := 0; let d : Desc := dsc 0 0 (zeros 8 ++ [1]); let s : State := st id; (noInjection s) ∧ (takesHere r 0x16 d s.dev) ∧
      (descClean d = true) ∧ (d.aux = 0) ∧ (d.arg 8 1 ≤ 1) ∧ (d.zeroFrom 9 47 = true)) ∧
    (let r : Fin 4 := 0; let d : Desc := dsc 0 0 []; let s : State := st id; (noInjection s) ∧ (takesHere r 0x17 d s.dev) ∧
      (descClean d = true) ∧ (d.aux = 0) ∧ (d.zeroFrom 0 47 = true)) ∧
    (let r : Fin 4 := 0; let d : Desc := dsc 0 0 []; let s : State := st id; (noInjection s) ∧ (takesHere r 0x19 d s.dev) ∧
      (descClean d = true) ∧ (d.aux = 0) ∧ (d.zeroFrom 0 47 = true)) ∧
    (let r : Fin 4 := 0; let d : Desc := dsc 0 0 (List.replicate 12 0xFF); let s : State := st id; (noInjection s) ∧
      (takesHere r 0x1A d s.dev) ∧ (descClean d = true) ∧ (d.aux = 0) ∧ (d.zeroFrom 12 47 = true)) ∧
    (let r : Fin 4 := 0; let op : Byte := 0x1C; let d : Desc := dsc 0 0 []; let s : State := st id; (noInjection s) ∧ (takes r d s.dev) ∧
      ((op.toNat = 0 ∨ 0x1C ≤ op.toNat)) ∧ (s.dev.phase = 8) ∧ ((taken r op.toNat d s.dev).phase = 8)) :=
  ⟨by decide +kernel, by decide +kernel, by decide +kernel, by decide +kernel, by decide +kernel, by decide +kernel,
    by decide +kernel⟩

theorem witness_MalformedDescriptorsFault :
    (let i : Instr := .nop 0 ⟨0, 0, 0, 0, 0, 0, zeros 47⟩; let d : Desc := ⟨0, 0, 0, 0, 0, 0, zeros 47⟩; let s : State := st id;
      (i.desc? = some d) ∧ (d.params.length ≠ 48)) := by
  decide +kernel

theorem witness_RingRegistersAct :
    (let r : Fin 4 := 0; let v : Word := 5; let s : State := st id; (noInjection s) ∧ (s.dev.domainOn 24 = true) ∧
      (s.dev.rbit (Reg.pciCrCtrl r) 0 = true)) ∧
    (let r : Fin 4 := 0; let v : Word := 5; let s : State := st id; (noInjection s) ∧ (s.dev.domainOn 24 = true) ∧
      (s.dev.rbit (Reg.pciErCtrl r) 0 = true)) ∧
    (let r : Fin 4 := 3; let v : Word := 31; let s : State := st id; (noInjection s) ∧ (accepts .host (Reg.pciCrCtrl r) s) ∧
      (s.dev.rbit (Reg.pciCrCtrl r) 0 = false) ∧ (bit v 0 = true) ∧ (v.toNat < 32)) ∧
    (let r : Fin 4 := 3; let v : Word := 0xFFFFFF1F; let s : State := st id; (noInjection s) ∧ (accepts .host (Reg.pciErCtrl r) s) ∧
      (s.dev.rbit (Reg.pciErCtrl r) 0 = false) ∧ (bit v 0 = true) ∧ (v.toNat &&& 0xFFFFFF1F = v.toNat)) ∧
    (let r : Fin 4 := 3; let s : State := st (fun d => d.setEr 3 { firstAt := some 7 }); let t : Nat := 7; (noInjection s) ∧
      ((s.dev.er r).firstAt = some t)) :=
  ⟨by decide +kernel, by decide +kernel, by decide +kernel, by decide +kernel, by decide +kernel⟩

theorem witness_TestsStartAndEnd :
    (let r : Fin 4 := 0; let d : Desc := dsc 0 0 [1, 23]; let m : TestMeasure := {}; let s : State := st id; (noInjection s) ∧
      (takesHere r 0x11 d s.dev) ∧ (descClean d = true) ∧ (d.aux = 0) ∧ (oct d.params 0 = 1) ∧
      (testAsk d.params (taken r 0x11 d s.dev) = .ok)) ∧
    (let r : Fin 4 := 0; let d : Desc := dsc 0 0 [2, 255, 0]; let m : TestMeasure := {};
      let s : State := st (fun d => d.setReg (Reg.tileState 255) 0x80000000); let k : Nat := 0; (noInjection s) ∧
      (takesHere r 0x11 d s.dev) ∧ (descClean d = true) ∧ (d.aux = 0) ∧ (oct d.params 0 = 2) ∧
      (testAsk d.params (taken r 0x11 d s.dev) = .ok) ∧ (let T := taken r 0x11 d s.dev; (let u := oct d.params 1;
      (let x : Test := { key := ⟨2, u⟩, m := m, params := d.params, start := T.now, abandon := 0, cmd := some s.dev.pci.nextId, night := false };
      (testSet T u d.params = some k) ∧ (T.clState (u / 16) ≠ 0) ∧ (tileSet T u = some k))))) ∧
    (let r : Fin 4 := 0; let d : Desc := dsc 0 0 ([3, 255] ++ zeros 20 ++ [0xD0, 7]); let m : TestMeasure := {};
      let s : State := st (fun d => d.setReg (Reg.tileState 255) 0x80000000); (noInjection s) ∧ (takesHere r 0x11 d s.dev) ∧
      (descClean d = true) ∧ (d.aux = 0) ∧ (oct d.params 0 = 3) ∧ (testAsk d.params (taken r 0x11 d s.dev) = .ok) ∧
      (let T := taken r 0x11 d s.dev; (let u := oct d.params 1;
      (let x : Test := { key := ⟨3, u⟩, m := m, params := d.params, start := T.now, abandon := 0, cmd := some s.dev.pci.nextId, night := false };
      (tileWillServe T u (oct d.params 5) = true) ∧ (kvGet T.loads u = none) ∧ (T.clState (u / 16) ≠ 0))))) ∧
    (let t : Fin 256 := 255; let m : TestMeasure := {}; let s : State := st (fun d => d.setFld (Reg.tileState 255) 0 2 2);
      (noInjection s) ∧ (tileState s.dev t = 2) ∧ (s.dev.tests = [])) ∧
    (let k : TestKey := ⟨1, 8⟩; let x : Test := laneTestRun; let s : State := st (fun d => { d with tests := [laneTestRun] });
      (noInjection s) ∧ (s.dev.tests = [x]) ∧ (x.key = k) ∧ ((k.kind = 1 ∨ s.dev.clState (k.unit / 16) ≠ 0))) :=
  ⟨by decide +kernel, by decide +kernel, by decide +kernel, by decide +kernel, by decide +kernel⟩

theorem witness_LifeCycleMovesForward :
    (let r : Fin 4 := 0; let d : Desc := dsc 0 1 (List.replicate 48 0xFF); let token : Option Octets := none; let s : State := st id;
      let m : PendingCmd := newCmd 0 0x18 (dsc 0 1 (List.replicate 48 0xFF)) up; (noInjection s) ∧ (takesHere r 0x18 d s.dev) ∧
      (let T := taken r 0x18 d s.dev; (let target := fld d.aux 0 2; (descClean d = true) ∧ (d.aux.toNat / 4 = 0) ∧
      ((target = 1 ∨ d.zeroFrom 8 47 = true)) ∧ (findCmd T s.dev.pci.nextId = some m) ∧ (lcMove s.fuses target = true) ∧
      ((s.fuses.state = 0 ∨ token.isSome = true)) ∧ (lcAuthorised s.fuses target (token.getD []) T = true)))) ∧
    (let r : Fin 4 := 0; let d : Desc := dsc 0 2 []; let token : Option Octets := none; let ok : Bool := true; let s : State := st id;
      let m : PendingCmd := newCmd 0 0x18 (dsc 0 2 []) up; (noInjection s) ∧ (takesHere r 0x18 d s.dev) ∧ (let T := taken r 0x18 d s.dev;
      (let target := fld d.aux 0 2; (descClean d = true) ∧ (d.aux.toNat / 4 = 0) ∧ ((target = 1 ∨ d.zeroFrom 8 47 = true)) ∧
      (findCmd T s.dev.pci.nextId = some m) ∧ ((lcMove s.fuses target = true → token.isSome = true ∧
      lcAuthorised s.fuses target (token.getD []) T = false))))) ∧
    (let q : NdReq := req 14 (1 :: zeros 48); let s : State := st (asked 14 (1 :: zeros 48)); (noInjection s) ∧
      (nightHead s.dev (· == 14) = some q) ∧ (s.dev.pwr.shutdown = false) ∧ (let target := oct q.body 0; (target ≤ 3) ∧
      (q.body.length = (if target = 1 then 49 else 97)) ∧ (lcMove s.fuses target = true) ∧
      (lcAuthorised s.fuses target (octs q.body 1 96) s.dev = true))) ∧
    (let q : NdReq := req 14 (zeros 97); let ok : Bool := true; let s : State := st (asked 14 (zeros 97)); (noInjection s) ∧
      (nightHead s.dev (· == 14) = some q) ∧ (s.dev.pwr.shutdown = false) ∧ (let target := oct q.body 0; (target ≤ 3) ∧
      (q.body.length = (if target = 1 then 49 else 97)) ∧
      ((lcMove s.fuses target && lcAuthorised s.fuses target (octs q.body 1 96) s.dev) = false))) :=
  ⟨by decide +kernel, by decide +kernel, by decide +kernel, by decide +kernel⟩

theorem witness_TilesReloadTheirKernels :
    (let n : Fin 16 := 0; let t : Fin 16 := 15; let a : Word := 0x1FFFC; let ok : Bool := true;
      let s : State := st (fun d => d.setReg (Reg.tileState 15) 0x80000300); let k : Nat := 3; (noInjection s) ∧ (s.dev.clState n = 3) ∧
      (tileState s.dev (16 * n.val + t.val) ≠ 3) ∧ (tileSet s.dev (16 * n.val + t.val) = some k)) ∧
    (let n : Fin 16 := 0; let t : Fin 16 := 15; let s : State := st (fun d => d.setFld (Reg.tileState 15) 0 2 1); (noInjection s) ∧
      (tileState s.dev (16 * n.val + t.val) = 1)) ∧
    (let n : Fin 16 := 15; let t : Fin 16 := 0; let s : State := st (fun d => d.setFld Reg.gduClState 30 2 1); (noInjection s) ∧
      (s.dev.clState n ≠ 0)) :=
  ⟨by decide +kernel, by decide +kernel, by decide +kernel⟩

theorem witness_PacketsFlowThroughTheMpe :
    (let by_ : Requester := .fw; let en : Bool := false; let s : State := st id; (noInjection s) ∧ (accepts by_ Reg.mpeCfg s)) ∧
    (let by_ : Requester := .host; let en : Bool := true; let s : State := st id; (noInjection s) ∧ (accepts by_ Reg.secCfg s)) ∧
    (let e : Fin 8 := 7; let x : EntryCheck := ⟨.ok, false⟩;
      let s : State := st (fun d => { d with macs := [(7, { rx := [⟨[], 64, 0⟩] })] }); let f : RxHeld := ⟨[], 64, 0⟩;
      let d : Dev := (macTake 7 s.dev).elim {} (·.2); (noInjection s) ∧ (s.dev.leads = true) ∧ (s.dev.domainOn 18 = true) ∧
      (macTake e s.dev = some (f, d))) ∧
    
      (let s : State := st (fun d => { d with mpe := { d.mpe with egress := [⟨some 5, 0, 0, 0, 0, false, [], 0⟩], sessions := [(5, {})] } });
      let k : EntryCheck := ⟨.oneBad, true⟩; let p : EgPkt := ⟨some 5, 0, 0, 0, 0, false, [], 0⟩; let rest : List EgPkt := [];
      let i : Nat := 5; let x : Session := {}; (noInjection s) ∧ (s.dev.leads = true) ∧ (s.dev.domainOn 18 = true) ∧
      (s.dev.mpe.egress = p :: rest) ∧ (p.session = some i) ∧ (let d : Dev := { s.dev with mpe := { s.dev.mpe with egress := rest } };
      (session? d i = some x) ∧ (k.route ≠ .lost) ∧ (keyLostNow d x = false) ∧ (x.fetching = false) ∧ ((k.ctxBad = true → x.suite = 0)))) ∧
    (let i : Nat := 5; let k : EntryCheck := ⟨.ok, true⟩; let x : Session := { chan := 9 };
      let s : State := st (fun d => withSession 5 { chan := 9 } (withChan 9 { chan .running with legs := { session := some 5 } } d));
      (noInjection s) ∧ (s.dev.leads = true) ∧ (s.dev.domainOn 18 = true) ∧ (session? s.dev i = some x) ∧ (runningLeg s.dev i x = true) ∧
      (k.route ≠ .lost) ∧ (let secured := x.srtcp && x.suite != 0; ((secured = true → keyLostNow s.dev x = false ∧ x.fetching = false ∧
      k.ctxBad = false)) ∧ (let z := rtcpPacket x (s.dev.rbit Reg.mpeCfg 1) false s.dev;
      (let y := { x with expPrior := z.2.1.expected, recvPrior := z.2.1.received };
      (let o := if secured then srtcpProtect x.suite x.ctx.txKey x.ctx.txSalt x.ctx.srtcpIdx z.1 else z.1;
      (let w := if secured then { y with ctx := { y.ctx with srtcpIdx := (y.ctx.srtcpIdx + 1) % 2 ^ 31 } } else y;
      (let u := setSession i w (if secured then z.2.2.bump64 Reg.secProtect else z.2.2); (let up := (!x.rtcpMux).toNat;
      (let v := (sendUdp w ((x.remotePort + up) % 65536) ((x.localPort + up) % 65536) (u.rfld Reg.mpeRtcpCfg 0 6) (rtcpTxq u) o u).2;
      (x.remotePort < 65536) ∧ (x.localPort < 65536)))))))))) ∧
    (let j : Nat := 2047; let e : RotEntry := ⟨5, true, 0, [], [], 0⟩; let x : Session := {};
      let s : State := st (fun d => { d with mpe := { d.mpe with rot := [(2047, ⟨5, true, 0, [], [], 0⟩)], sessions := [(5, {})] }, time := { d.time with lastTick := some 400 } });
      (noInjection s) ∧ (kvGet s.dev.mpe.rot j = some e) ∧ (e.retained = true) ∧ (session? s.dev e.session = some x) ∧ (((x.rot = true ∧
      x.rotIdx = j ∧
      e.from_ + 64 < x.ctx.roc * 65536 + x.ctx.sl) ∨ 400 ≤ (s.dev.time.lastTick.getD 0 % 2 ^ 32 + 2 ^ 32 - e.promo) % 2 ^ 32))) ∧
    (let i : Nat := 5; let x : Session := { fetching := true }; let c : CryptoCtx := {};
      let s : State := st (withSession 5 { fetching := true }); (noInjection s) ∧ (session? s.dev i = some x) ∧ (x.fetching = true)) ∧
    (let c : Nat := 9; let k : Channel := chan .running; let s : State := st (withChan 9 (chan .running)); (noInjection s) ∧
      (s.dev.chan? c = some k)) ∧
    (let c : Nat := 9; let k : Channel := chan .running; let s : State := st (withChan 9 (chan .running)); (noInjection s) ∧
      (s.dev.chan? c = some k) ∧ (k.template.holds 7 = false)) ∧
    (let c : Nat := 9; let t : Nat := 4;
      let k : Channel := { chan .running with live := putOcts block 12 [2], jb := { srAt := some 4, mapping := some ⟨0, 0, 8, 1⟩ } };
      let s : State := st (withChan 9 { chan .running with live := putOcts block 12 [2], jb := { srAt := some 4, mapping := some ⟨0, 0, 8, 1⟩ } });
      (noInjection s) ∧ (s.dev.chan? c = some k) ∧ (k.jb.srAt = some t) ∧ (k.now 12 1 = 2) ∧ (k.jb.stale = false)) :=
  ⟨by decide +kernel, by decide +kernel, by decide +kernel, by decide +kernel, by decide +kernel, by decide +kernel,
    by decide +kernel, by decide +kernel, by decide +kernel, by decide +kernel⟩

theorem witness_EchoFiltersCopyMoveAndClear :
    (let c : Nat := 9; let k : Channel := chan .running; let s : State := st (echoOn (chan .running)); (noInjection s) ∧
      (s.dev.chan? c = some k) ∧ (echoFree s.dev k = true) ∧ (k.echo.shadow = none)) ∧
    (let c : Nat := 9; let k : Channel := { chan .running with echo := { shadow := some ⟨3, 100, 36⟩ } }; let x : Shadow := ⟨3, 100, 36⟩;
      let s : State := st (echoOn { chan .running with echo := { shadow := some ⟨3, 100, 36⟩ } }); (noInjection s) ∧
      (s.dev.chan? c = some k) ∧ (echoFree s.dev k = true) ∧ (k.echo.shadow = some x)) ∧
    (let c : Nat := 9; let n : Nat := 0; let k : Channel := chan .running; let s : State := st (echoOn (chan .running));
      (noInjection s) ∧ (s.dev.chan? c = some k) ∧ (echoFree s.dev k = true) ∧ (k.echo.shadow = none)) ∧
    (let c : Nat := 9; let n : Nat := 65535; let k : Channel := { chan .running with echo := { shadow := some ⟨3, 100, 36⟩ } };
      let q : Channel := { chan .running with echo := { held := 0 } }; let x : Shadow := ⟨3, 100, 36⟩;
      let s : State := st (echoOn { chan .running with echo := { shadow := some ⟨3, 100, 36⟩ } }); (noInjection s) ∧
      (s.dev.chan? c = some k) ∧ (echoFree s.dev k = true) ∧ (k.echo.shadow = some x) ∧
      (let u := (echoEvent c 0x0401 ([BitVec.ofNat 8 x.window] ++ toLe 2 x.start ++ [1]) ((s.dev.setChan c { k with echo := { k.echo with bg := k.echo.bg.set x.window (k.echo.fg.getD x.window []), bgStarts := k.echo.bgStarts.set x.window x.oldStart, shadow := none, held := 0 } }).bump (Reg.eeAbandons (k.home / 16))));
      (u.chan? c = some q))) ∧
    (let c : Nat := 9; let p : Nat := 36; let k : Channel := longTail { loc := heard };
      let s : State := st (echoOn (longTail { loc := heard })); (noInjection s) ∧ (s.dev.chan? c = some k) ∧ (echoFree s.dev k = true) ∧
      (48 < ecTailMs k.params) ∧ (k.echo.shadow = none) ∧ (proposal k.echo (ecTailMs k.params) (leastWindow k.echo) = some p) ∧
      (let near := decide ((p : Int) - k.echo.lastProp ≤ 2) && decide ((k.echo.lastProp : Int) - p ≤ 2); (let held := if 0 < k.echo.held ∧
      near = true then k.echo.held + 1 else 1; (held < echoField s.dev k 7 2 10 3)))) ∧
    (let c : Nat := 9; let p : Nat := 36; let k : Channel := longTail { held := 9, lastProp := 38, loc := heard };
      let s : State := st (echoOn (longTail { held := 9, lastProp := 38, loc := heard })); (noInjection s) ∧ (s.dev.chan? c = some k) ∧
      (echoFree s.dev k = true) ∧ (48 < ecTailMs k.params) ∧ (k.echo.shadow = none) ∧ (let least := leastWindow k.echo;
      (let old := k.echo.starts.getD least 0; (proposal k.echo (ecTailMs k.params) least = some p) ∧ (0 < k.echo.held) ∧
      ((p : Int) - k.echo.lastProp ≤ 2) ∧ ((k.echo.lastProp : Int) - p ≤ 2) ∧ (echoField s.dev k 7 2 10 3 ≤ k.echo.held + 1) ∧
      (regionEnergy k.echo.loc old ^ 20 * 10 ^ echoField s.dev k 8 2 40 6 ≤ regionEnergy k.echo.loc p ^ 20)))) ∧
    (let c : Nat := 9; let k : Channel := { chan .running with echo := { fade := some ⟨3, 100, 36⟩ } }; let x : Shadow := ⟨3, 100, 36⟩;
      let s : State := st (echoOn { chan .running with echo := { fade := some ⟨3, 100, 36⟩ } }); (noInjection s) ∧
      (s.dev.chan? c = some k) ∧ (k.echo.fade = some x)) ∧
    (let c : Nat := 9; let k : Channel := { chan .running with echo := { shadow := some ⟨3, 100, 36⟩ } }; let x : Shadow := ⟨3, 100, 36⟩;
      let why : AbandonCause := .tone; let s : State := st (echoOn { chan .running with echo := { shadow := some ⟨3, 100, 36⟩ } });
      (noInjection s) ∧ (s.dev.chan? c = some k) ∧ (k.echo.shadow = some x)) ∧
    (let c : Nat := 9; let k : Channel := { chan .running with echo := { dt := true } };
      let s : State := st (echoOn { chan .running with echo := { dt := true } }); (noInjection s) ∧ (s.dev.chan? c = some k)) ∧
    (let c : Nat := 9; let k : Channel := { chan .running with echo := { tone := .disabled } };
      let s : State := st (echoOn { chan .running with echo := { tone := .disabled } }); (noInjection s) ∧ (s.dev.chan? c = some k) ∧
      (k.echo.tone ≠ .enabled) ∧ (echoRuns s.dev k = true)) ∧
    (let by_ : Requester := .fw; let n : Fin 16 := 15; let en : Bool := true; let s : State := st id; (noInjection s) ∧
      (accepts by_ (Reg.eeCfg n) s)) :=
  ⟨by decide +kernel, by decide +kernel, by decide +kernel, by decide +kernel, by decide +kernel, by decide +kernel,
    by decide +kernel, by decide +kernel, by decide +kernel, by decide +kernel, by decide +kernel⟩

theorem witness_FilterChainsAndTonesAreControlled :
    (let by_ : Requester := .fw; let n : Fin 16 := 3; let p : Fin 64 := 63; let b : Bool := true;
      let x : Profile := { record := [], bankA := [], bankB := [] }; let s : State := st profiled; (noInjection s) ∧
      (accepts by_ (Reg.rfeBankCmd n) s) ∧ (rfeProfile s.dev n p = some x)) ∧
    (let by_ : Requester := .fw; let n : Fin 16 := 3; let p : Fin 64 := 63; let b : Bool := true;
      let x : Profile := { record := [], bankA := [], bankB := [] }; let s : State := st profiled; (noInjection s) ∧
      (accepts by_ (Reg.rfeBankCmd n) s) ∧ (rfeProfile s.dev n p = some x)) ∧
    (let by_ : Requester := .fw; let n : Fin 16 := 3; let p : Fin 64 := 63; let b : Bool := true;
      let x : Profile := { record := [], bankA := [], bankB := [] }; let s : State := st profiled; (noInjection s) ∧
      (accepts by_ (Reg.rfeBankCmd n) s) ∧ (rfeProfile s.dev n p = some x)) ∧
    (let by_ : Requester := .fw; let n : Fin 16 := 3; let p : Fin 64 := 63; let f : Fin 128 := 64;
      let x : Profile := { record := [], bankA := [], bankB := [] }; let s : State := st profiled; (noInjection s) ∧
      (accepts by_ (Reg.rfeBankCmd n) s) ∧ (f.val ≤ 64) ∧ (rfeProfile s.dev n p = some x)) ∧
    (let by_ : Requester := .fw; let n : Fin 16 := 3; let p : Fin 64 := 63; let f : Fin 128 := 64; let b : Bool := true;
      let s : State := st id; (noInjection s) ∧ (accepts by_ (Reg.rfeBankCmd n) s) ∧ (rfeProfile s.dev n p = none)) ∧
    (let by_ : Requester := .fw; let n : Fin 16 := 3; let op : Fin 8 := 5; let s : State := st id; (noInjection s) ∧
      (accepts by_ (Reg.rfeBankCmd n) s) ∧ ((op.val = 0 ∨ 5 ≤ op.val))) ∧
    (let n : Fin 16 := 3; let p : Fin 64 := 63;
      let x : Profile := { record := [], bankA := [], bankB := [], swap := some ⟨10, 64, true, 0⟩ }; let w : Swap := ⟨10, 64, true, 0⟩;
      let s : State := st (fun d => { d with eng := [(3, { profiles := [(63, { record := [], bankA := [], bankB := [], swap := some ⟨10, 64, true, 0⟩ })] })], time := { d.time with ticks := 124 } });
      (noInjection s) ∧ (rfeProfile s.dev n p = some x) ∧ (x.swap = some w) ∧ (w.begun = true) ∧
      (w.t0 + 50 + fadeTicks w.fade ≤ s.dev.time.ticks) ∧ (profileBusy s.dev n p true = false) ∧ (x.latched = none) ∧
      (homedIn s.dev n = [])) ∧
    (let by_ : Requester := .fw; let n : Fin 16 := 3; let v : Word := 1;
      let s : State := st (fun d => d.setNat (Reg.rfeSyncLo 3) 1000000 |>.setNat (Reg.rfeSyncHi 3) 0x3F000000); (noInjection s) ∧
      (accepts by_ (Reg.rfeSyncCmd n) s) ∧ (bit v 0 = true) ∧
      (let t := (s.dev.reg (Reg.rfeSyncLo n)).toNat + 2 ^ 32 * s.dev.rfld (Reg.rfeSyncHi n) 0 24;
      (let sel := s.dev.rfld (Reg.rfeSyncHi n) 24 8; (s.dev.tickNow + 2 ≤ t) ∧ ((s.dev.ce n).sync = none) ∧ (¬ (64 ≤ sel ∧ sel ≤ 0xFD))))) ∧
    (let by_ : Requester := .fw; let n : Fin 16 := 0; let v : Word := 9; let k : Channel := chan .running;
      let s : State := st (withChan 9 (chan .running)); (noInjection s) ∧ (accepts by_ (Reg.rfeLvlSel n) s) ∧
      (s.dev.chan? (fld v 0 16) = some k) ∧ (k.home / 16 = n)) ∧
    (let by_ : Requester := .fw; let n : Fin 16 := 1; let v : Word := 9; let s : State := st (withChan 9 (chan .running));
      (noInjection s) ∧ (accepts by_ (Reg.rfeLvlSel n) s) ∧ ((∀ k ∈ s.dev.chan? (fld v 0 16), k.home / 16 ≠ n))) ∧
    (let by_ : Requester := .fw; let n : Fin 16 := 15; let en : Bool := true; let s : State := st id; (noInjection s) ∧
      (accepts by_ (Reg.rfeCfg n) s)) ∧
    (let c : Nat := 9; let k : Channel := { chan .running with vbd := true, params := putOcts (putOcts block 6 [4]) 9 [0] };
      let s : State := st (fun d => { (withChan 9 { chan .running with vbd := true, params := putOcts (putOcts block 6 [4]) 9 [0] } d).setBit (Reg.tdCfg 0) 0 true with boot := { d.boot with sections := [(6, toneProgOctets)] } });
      (noInjection s) ∧ (s.dev.chan? c = some k) ∧ (k.vbd = true) ∧ (s.dev.domainServed (1 + k.home / 16) = true) ∧
      (s.dev.rbit (Reg.tdCfg (k.home / 16)) 0 = true) ∧ ((k.par 6 2).testBit 2 = true) ∧ ((progOf s.dev k.params).isSome = true)) ∧
    (let c : Nat := 9; let k : Channel := { chan .running with rxEvent := some ⟨0, 5, 10, 400, false, true, 0, 0, 0⟩ };
      let e : RxEvent := ⟨0, 5, 10, 400, false, true, 0, 0, 0⟩;
      let s : State := st (withChan 9 { chan .running with rxEvent := some ⟨0, 5, 10, 400, false, true, 0, 0, 0⟩ }); (noInjection s) ∧
      (s.dev.chan? c = some k) ∧ (k.rxEvent = some e) ∧
      (let u := s.dev.setChan c { (if e.playing then lineEnds s.dev k else k) with rxEvent := none }; (crossTo u k = none))) ∧
    (let c : Nat := 9;
      let k : Channel := { chan .running with rxEvent := some ⟨0, 5, 10, 400, false, true, 0, 0, 0⟩, params := putOcts block 9 [0], legs := { partner := some 2 } };
      let e : RxEvent := ⟨0, 5, 10, 400, false, true, 0, 0, 0⟩; let q : Nat := 2;
      let s : State := st (fun d => { d with chans := [(2, chan .running), (9, { chan .running with rxEvent := some ⟨0, 5, 10, 400, false, true, 0, 0, 0⟩, params := putOcts block 9 [0], legs := { partner := some 2 } })], boot := { d.boot with sections := [(6, relayProgOctets)] } });
      (noInjection s) ∧ (s.dev.chan? c = some k) ∧ (k.rxEvent = some e) ∧
      (let u := s.dev.setChan c { (if e.playing then lineEnds s.dev k else k) with rxEvent := none }; (crossTo u k = some q))) ∧
    (let by_ : Requester := .fw; let n : Fin 16 := 15; let en : Bool := true; let s : State := st id; (noInjection s) ∧
      (accepts by_ (Reg.tdCfg n) s)) :=
  ⟨by decide +kernel, by decide +kernel, by decide +kernel, by decide +kernel, by decide +kernel, by decide +kernel,
    by decide +kernel, by decide +kernel, by decide +kernel, by decide +kernel, by decide +kernel, by decide +kernel,
    by decide +kernel, by decide +kernel, by decide +kernel⟩

theorem witness_HighwaysRunAndFail :
    (let by_ : Requester := .fw; let h : Fin 8 := 7; let w : Word := 0x00000006; let s : State := st id; (noInjection s) ∧
      (accepts by_ (Reg.tdmCfg h) s) ∧ (let v := w.toNat &&& tdmMask; (let old := (s.dev.reg (Reg.tdmCfg h)).toNat;
      ((6 ≤ v % 8 ∨ (old.testBit 31 = true ∧ v % 2 ^ 31 ≠ old % 2 ^ 31) ∨ (v.testBit 31 = true ∧
      legsFit s.dev h (v % 8) = false) ∨ (v.testBit 31 = true ∧ old.testBit 31 = false ∧ masterFits s.dev v = false)))))) ∧
    (let by_ : Requester := .fw; let h : Fin 8 := 7; let w : Word := 0x80000005; let s : State := st id; (noInjection s) ∧
      (accepts by_ (Reg.tdmCfg h) s) ∧ (let v := w.toNat &&& tdmMask; (let old := (s.dev.reg (Reg.tdmCfg h)).toNat; (v % 8 < 6) ∧
      ((v.testBit 31 = true → legsFit s.dev h (v % 8) = true))))) ∧
    (let h : Fin 8 := 7; let s : State := st (slave 0x7); (noInjection s) ∧ (tdmSlave s.dev h = true) ∧ (fallbackOn s.dev h = false) ∧
      (s.dev.rbit (Reg.tdmStatus h) 1 = true)) ∧
    (let h : Fin 8 := 7; let s : State := st (slave 0x7); (noInjection s) ∧ (tdmSlave s.dev h = true) ∧ (fallbackOn s.dev h = false) ∧
      (s.dev.rbit (Reg.tdmStatus h) 2 = true)) ∧
    (let h : Fin 8 := 7; let s : State := st (slave 0x5); (noInjection s) ∧ (tdmSlave s.dev h = true) ∧ (fallbackOn s.dev h = false) ∧
      (tdmLost s.dev h = true)) ∧
    (let h : Fin 8 := 7; let t : Nat := 4;
      let s : State := st (fun d => { (slave 0 d).setBit (Reg.tdmCfg 7) 23 true with tdm := [(7, { lostAt := some 4 })] });
      (noInjection s) ∧ ((tdmOf s.dev h).lostAt = some t) ∧ (tdmSlave s.dev h = true) ∧ (fallbackOn s.dev h = false) ∧
      (s.dev.rbit (Reg.tdmCfg h) 23 = true)) ∧
    (let h : Fin 8 := 7; let s : State := st (slave 0x7); (noInjection s) ∧ (tdmSlave s.dev h = true) ∧ (fallbackOn s.dev h = false)) ∧
    (let h : Fin 8 := 7; let receive : Bool := true; let again : Bool := false; let s : State := st (slave 0x7); (noInjection s) ∧
      (tdmSlave s.dev h = true) ∧ (tdmLost s.dev h = false) ∧ (fallbackOn s.dev h = false)) ∧
    (let h : Fin 8 := 7; let p : TdmPin := .fs; let s : State := st (fun d => d.setReg (Reg.tdmCfg 7) 0x81000005); (noInjection s) ∧
      (drives s.dev h p = true)) ∧
    (let by_ : Requester := .fw; let h : Fin 8 := 7; let v : Word := 1; let s : State := st id; (noInjection s) ∧
      (accepts by_ (Reg.tdmRearm h) s)) ∧
    (let h : Fin 8 := 7; let c : Nat := 9; let k : Channel := { chan .running with legs := { line := some 7 }, supplied := true };
      let s : State := st (fun d => withChan 9 { chan .running with legs := { line := some 7 }, supplied := true } (slave 7 d));
      (noInjection s) ∧ (s.dev.chan? c = some k) ∧ (tdmOn s.dev h = true) ∧ (k.legs.line.map lineHighway = some h.val) ∧
      (k.supplied = true) ∧ ((s.dev.rbit (Reg.tdmStatus h) 0 = true ∨ s.dev.rbit (Reg.tdmCfg h) 24 = true))) :=
  ⟨by decide +kernel, by decide +kernel, by decide +kernel, by decide +kernel, by decide +kernel, by decide +kernel,
    by decide +kernel, by decide +kernel, by decide +kernel, by decide +kernel, by decide +kernel⟩

theorem witness_ArchiveEngineMovesBlocks :
    (let k : Fin 2 := 1; let r : CompressOut := { coded := [0], inParity := false }; let j : ArcJob := noJob;
      let rest : List ArcJob := []; let s : State := st (sinks 1 { jobs := [noJob] }); (noInjection s) ∧
      ((s.dev.sink k).jobs = j :: rest) ∧ (s.dev.domainOn 28 = true) ∧ (j.remote = false) ∧ ((s.dev.sink 0).job = none) ∧
      ((s.dev.sink 1).job = none) ∧ (codedOk j r.coded = true)) ∧
    (let by_ : Requester := .host; let k : Fin 2 := 1; let v : Word := 5; let bufs : List (Nat × Nat) := [(0x1000, 65536)];
      let s : State := st id; (noInjection s) ∧ (accepts by_ (Reg.arcSinkTail k) s)) ∧
    (let k : Fin 2 := 0; let t : Nat := 4; let b : SinkBuf := ⟨0x1000, 65536, 64⟩; let rest : List SinkBuf := [];
      let s : State := st (sinks 0 { lastEnd := some 4, bufs := [⟨0x1000, 65536, 64⟩] }); (noInjection s) ∧
      ((s.dev.sink k).lastEnd = some t) ∧ ((s.dev.sink k).bufs = b :: rest) ∧ (b.used ≠ 0) ∧ (sinkOn s.dev k = true)) ∧
    (let k : Fin 2 := 0; let s : State := st (sinks 0 { lastEnd := some 4, bufs := [⟨0x1000, 65536, 64⟩] }); (noInjection s) ∧
      (sinkOn s.dev k = true) ∧ ((s.dev.sink k).bufs ≠ [])) ∧
    (let k : Fin 2 := 0; let j : ArcJob := noJob; let t : Nat := 4;
      let s : State := st (fun d => { d with arc := { d.arc with sinks := [(0, { job := some noJob, heldAt := some 4 })] } });
      (noInjection s) ∧ ((s.dev.sink k).job = some j) ∧ ((s.dev.sink k).heldAt = some t) ∧ (let x := s.dev.sink k;
      (¬ ((x.fifo.head?.map (·.octets.length)).getD 1 ≤ sinkRoom x ∧ sinkOn s.dev k = true)))) ∧
    (let by_ : Requester := .fw; let en : Bool := true; let s : State := st id; (noInjection s) ∧ (accepts by_ Reg.arcCfg s) ∧
      ((en = true ∨ s.dev.rbit Reg.arcCfg 0 = false))) ∧
    (let by_ : Requester := .fw; let s : State := st (fun d => d.setBit Reg.arcCfg 0 true); (noInjection s) ∧
      (accepts by_ Reg.arcCfg s) ∧ (s.dev.rbit Reg.arcCfg 0 = true)) ∧
    (let by_ : Requester := .fw; let f : Fin 6 := 5; let v : Word := 16; let s : State := st id; (noInjection s) ∧
      (accepts by_ (Reg.arcFifoCfg f) s)) :=
  ⟨by decide +kernel, by decide +kernel, by decide +kernel, by decide +kernel, by decide +kernel, by decide +kernel,
    by decide +kernel, by decide +kernel⟩

theorem witness_GroupWriteNeedsTheGroupOff :
    (let by_ : Requester := .fw; let b : Bool := true; let v : Word := 0x25; let s : State := st id; (noInjection s) ∧
      (accepts by_ (Reg.macGroup (if b then 4 else 0)) s) ∧ (let h := if b then 4 else 0; (groupOk (v.toNat % 64) = true) ∧
      ((∀ i < 4, s.dev.rbit (Reg.macCfg (h + i)) 0 = false ∧ s.dev.rbit (Reg.sdsCfg (h + i)) 0 = false)))) ∧
    (let by_ : Requester := .fw; let b : Bool := true; let v : Word := 5; let i : Nat := 3;
      let s : State := st (fun d => d.setBit (Reg.sdsCfg 7) 0 true); (noInjection s) ∧
      (accepts by_ (Reg.macGroup (if b then 4 else 0)) s) ∧ (let h := if b then 4 else 0; ((groupOk (v.toNat % 64) = false ∨ (i < 4 ∧
      (s.dev.rbit (Reg.macCfg (h + i)) 0 = true ∨ s.dev.rbit (Reg.sdsCfg (h + i)) 0 = true)))))) :=
  ⟨by decide +kernel, by decide +kernel⟩

theorem witness_LanesTrainAndMeasure :
    (let by_ : Requester := .fw; let m : Fin 24 := 7; let en : Bool := true; let s : State := st id; (noInjection s) ∧
      (accepts by_ (Reg.sdsCfg m) s) ∧ (m.val < 8)) ∧
    (let by_ : Requester := .fw; let m : Fin 24 := 23; let l : Fin 4 := 2; let s : State := st id; (noInjection s) ∧
      (accepts by_ (Reg.sdsCfg m) s)) ∧
    (let m : Fin 24 := 7; let s : State := st (trained 1 7); (noInjection s) ∧ (trainState s.dev m = 1) ∧ (m.val < 8) ∧
      (carriesNet s.dev = true)) ∧
    (let m : Fin 24 := 7; let e : Nat := 7; let s : State := st (fun d => (trained 2 7 d).setNat (Reg.macGroup 4) 3); (noInjection s) ∧
      (trainState s.dev m = 2) ∧ (anLane s.dev m = m) ∧ (macOfLane s.dev m = some e)) ∧
    (let m : Fin 24 := 7; let r : TrainOut := ⟨true, 0, 0⟩; let s : State := st (trained 3 7); (noInjection s) ∧
      (trainState s.dev m = 3) ∧ (m.val < 8)) ∧
    (let m : Fin 24 := 23; let s : State := st (trained 3 23); (noInjection s) ∧ (trainState s.dev m = 3)) ∧
    (let m : Fin 24 := 23; let t : Nat := 4; let s : State := st (fun d => { d with lanes := [(23, { failedAt := some 4 })] });
      (noInjection s) ∧ ((s.dev.lane m).failedAt = some t)) ∧
    (let m : Fin 24 := 7; let s : State := st (fun d => ((trained 4 7 d).setBit (Reg.sdsCfg 7) 6 true).setBit (Reg.sdsCfg 7) 4 false);
      (noInjection s) ∧ (trainState s.dev m = 4) ∧ (s.dev.rbit (Reg.sdsCfg m) 6 = true) ∧ (s.dev.rbit (Reg.sdsCfg m) 4 = false) ∧
      ((∀ e ∈ macOfLane s.dev m, linkIs s.dev e = false))) ∧
    (let m : Fin 24 := 7; let s : State := st id; (noInjection s) ∧ (m.val < 8)) ∧
    (let m : Fin 24 := 7; let eyes : List (Nat × Nat) := [(1, 2), (3, 4), (5, 6)]; let n : Nat := 7; let s : State := st (trained 4 7);
      (noInjection s) ∧ (trainState s.dev m = 4)) :=
  ⟨by decide +kernel, by decide +kernel, by decide +kernel, by decide +kernel, by decide +kernel, by decide +kernel,
    by decide +kernel, by decide +kernel, by decide +kernel, by decide +kernel⟩

theorem witness_LinksCarryFrames :
    (let by_ : Requester := .fw; let e : Fin 8 := 7; let en : Bool := true; let s : State := st id; (noInjection s) ∧
      (accepts by_ (Reg.macCfg e) s)) ∧
    (let e : Fin 8 := 7; let lm : Byte := 0; let s : State := st (fun d => (trained 4 7 d).setNat (Reg.macGroup 4) 3); (noInjection s) ∧
      (carriesNet s.dev = true) ∧ (s.dev.domainOn (netDomain e) = true) ∧ (lanesOf s.dev e ≠ []) ∧
      ((∀ m ∈ lanesOf s.dev e, trainState s.dev m = 4))) ∧
    (let e : Fin 8 := 7; let l : Bool := true; let r : Bool := false; let s : State := st id; (noInjection s) ∧
      (s.dev.domainOn (netDomain e) = true)) ∧
    (let e : Fin 8 := 7; let f : RxFrame := ⟨zeros 60, 64, true, true, 0, 0, []⟩; let s : State := st (linked); (noInjection s) ∧
      (loopOf s.dev e = 0) ∧ (macRuns s.dev e = true) ∧ (let d := fecCount e f s.dev; (rxTest d e f = none) ∧
      (be f.octets 12 2 ≠ 0x8808))) ∧
    (let e : Fin 8 := 7; let f : RxFrame := ⟨zeros 59, 63, true, true, 0, 0, []⟩; let c : MacCount := .rxRunt;
      let s : State := st (linked); (noInjection s) ∧ (loopOf s.dev e = 0) ∧ (macRuns s.dev e = true) ∧ (let d := fecCount e f s.dev;
      (rxTest d e f = some c))) ∧
    (let f : RxFrame := ⟨List.replicate 6 0xFF ++ zeros 54, 64, true, true, 0, 0, []⟩; let s : State := st nightUp; (noInjection s) ∧
      (macRuns s.dev 8 = true) ∧ (nightHalf (frameEnd 8 f s.dev) = false) ∧ (let d := fecCount 8 f s.dev; (rxTest d 8 f = none) ∧
      (be f.octets 12 2 ≠ 0x8808))) ∧
    (let e : Fin 8 := 7; let ok : Bool := true; let x : Fin 16 := 15; let f : TxFrame := ⟨7, zeros 60, none, false⟩;
      let s : State := st (fun d => { linked d with macs := [(7, { tx := [⟨7, zeros 60, none, false⟩] })] }); (noInjection s) ∧
      (macRuns s.dev e = true) ∧ ((portOf s.dev e).pauseUntil = none) ∧ (s.dev.ron.fenced = false) ∧
      (nextTx (portOf s.dev e).tx = some f)) ∧
    (let ok : Bool := true; let x : Fin 16 := 15; let f : TxFrame := ⟨0, zeros 60, none, false⟩;
      let s : State := st (fun d => { nightUp d with night := { d.night with mac := { tx := [⟨0, zeros 60, none, false⟩] } } });
      (noInjection s) ∧ (macRuns s.dev 8 = true) ∧ (s.dev.night.mac.pauseUntil = none) ∧ (s.dev.night.defer = none) ∧
      (s.dev.night.backoff = none) ∧ (nextTx s.dev.night.mac.tx = some f) ∧ (f.insert = false) ∧ (f.stampId = none)) ∧
    (let e : Fin 8 := 7; let t : Nat := 4; let s : State := st (fun d => { linked d with macs := [(7, { pauseUntil := some 4 })] });
      (noInjection s) ∧ ((portOf s.dev e).pauseUntil = some t)) ∧
    (let t : Nat := 4; let s : State := st (fun d => { d with night := { d.night with mac := { pauseUntil := some 4 } } });
      (noInjection s) ∧ (s.dev.night.mac.pauseUntil = some t)) ∧
    (let p : MacPort := .mac 7; let t : Nat := 4;
      let s : State := st (fun d => { (linked d).setNat (Reg.macWm 7) 32 with macs := [(7, { xoffAt := some 4, rx := [⟨[], 65537, 0⟩] })] });
      (noInjection s) ∧ (let e := portNum p; ((portOf s.dev e).xoffAt = some t) ∧ (let d := s.dev.elapseTo t;
      (lowMark d e * rxBuffer d e < 64 * rxUsed (portOf d e)) ∧ (sendsPause d e = true)))) :=
  ⟨by decide +kernel, by decide +kernel, by decide +kernel, by decide +kernel, by decide +kernel, by decide +kernel,
    by decide +kernel, by decide +kernel, by decide +kernel, by decide +kernel, by decide +kernel⟩

theorem witness_TimeReadsLatch :
    (let by_ : Requester := .host; let s : State := st id; (noInjection s) ∧ (reaches by_ s.dev = true) ∧ (s.dev.domainOn 26 = true)) ∧
    (let by_ : Requester := .fw; let s : State := st (fun d => { d with time := { d.time with lastTick := some 0xFFFFFFFFFF } });
      (noInjection s) ∧ (reaches by_ s.dev = true) ∧ (s.dev.domainOn 26 = true)) ∧
    (let by_ : Requester := .nd; let e : Fin 8 := 7; let s : State := st id; (noInjection s) ∧ (reaches by_ s.dev = true) ∧
      (s.dev.domainOn 26 = true)) ∧
    (let by_ : Requester := .host; let s : State := st id; (noInjection s) ∧ (reaches by_ s.dev = true) ∧ (s.dev.domainOn 26 = true)) :=
  ⟨by decide +kernel, by decide +kernel, by decide +kernel, by decide +kernel⟩

theorem witness_TheScaleIsSteered :
    (let by_ : Requester := .fw; let v : Word := 2; let s : State := st (fun d => d.setNat Reg.tbIncrFrac 4294967); (noInjection s) ∧
      (accepts by_ Reg.tbIncrInt s) ∧ (let w := fld v 0 8 * 2 ^ 32 + (s.dev.reg Reg.tbIncrFrac).toNat; (incrNominal - incrLimit ≤ w) ∧
      (w ≤ incrNominal + incrLimit))) ∧
    (let by_ : Requester := .fw; let v : Word := 2; let s : State := st (fun d => d.setNat Reg.tbIncrFrac 4294968); (noInjection s) ∧
      (accepts by_ Reg.tbIncrInt s)) ∧
    (let by_ : Requester := .fw; let v : Word := 1; let s : State := st id; (noInjection s) ∧ (accepts by_ Reg.tbAdjCmd s) ∧
      (bit v 0 = true)) ∧
    (let by_ : Requester := .fw; let v : Word := 0xFFFFFFFE; let s : State := st id; (noInjection s) ∧ (accepts by_ Reg.tbAdjCmd s) ∧
      (bit v 0 = false)) ∧
    (let s : State := st (fun d => { d with time := { d.time with slewLeft := -1 } }); (noInjection s) ∧ (s.dev.time.slewLeft ≠ 0) ∧
      (s.dev.time.running = true)) ∧
    (let c : Correction := ⟨1000, -5, false, 0, true⟩;
      let s : State := st (fun d => { d with time := { d.time with corr := some ⟨1000, -5, false, 0, true⟩ } }); (noInjection s) ∧
      (s.dev.time.corr = some c)) ∧
    (let c : Correction := ⟨1000, -5, false, 0, true⟩;
      let s : State := st (fun d => { d with time := { d.time with corr := some ⟨1000, -5, false, 0, true⟩ } }); (noInjection s) ∧
      (s.dev.time.corr = some c) ∧ (s.dev.leads = true)) ∧
    (let s : State := st (fun d => { d with time := { d.time with gridRes := -7 } }); (noInjection s) ∧ (s.dev.time.gridRes ≠ 0)) :=
  ⟨by decide +kernel, by decide +kernel, by decide +kernel, by decide +kernel, by decide +kernel, by decide +kernel,
    by decide +kernel, by decide +kernel⟩

theorem witness_StepMovesTimeAndTimeEpoch :
    (let delta : Int := -1000000; let s : Dev := up; (s.standalone = true)) := by
  decide +kernel

theorem witness_TheServoLocksAndHoldsOver :
    (let m : PtpExchange := ⟨7, -300, 500⟩; let s : State := st id; (noInjection s) ∧ (s.dev.leads = true) ∧
      ((servo s.dev = 0 ∨ servo s.dev = 5))) ∧
    (let m : PtpExchange := ⟨7, -300, 500⟩; let s : State := st (fun d => d.setFld Reg.tbServo 0 3 2); (noInjection s) ∧
      (s.dev.leads = true) ∧ (servo s.dev ≠ 0) ∧ (servo s.dev ≠ 5) ∧ (s.dev.rfld Reg.tbServo 4 3 ≠ m.mac.val)) ∧
    (let c : Nat := 4; let s : State := st (fun d => { d.setFld Reg.tbServo 0 3 1 with time := { d.time with lockSince := some 4 } });
      (noInjection s) ∧ (s.dev.leads = true) ∧ (servo s.dev = 1) ∧ (s.dev.time.lockSince = some c)) ∧
    (let s : State := st (fun d => d.setFld Reg.tbServo 0 3 4); (noInjection s) ∧ (s.dev.leads = true) ∧
      ((servo s.dev = 1 ∨ servo s.dev = 2 ∨ servo s.dev = 4))) ∧
    (let s : State := st (fun d => follower (d.setFld Reg.tbServo 0 3 5)); (noInjection s) ∧ (s.dev.leads = false) ∧ (servo s.dev = 5)) ∧
    (let e : Fin 8 := 7; let k : PtpKind := .announce; let one : Bool := true; let id : Fin 65536 := 65535; let f : Octets := [];
      let s : State := st fun d => d; (noInjection s) ∧ (s.dev.domainOn 25 = true)) :=
  ⟨by decide +kernel, by decide +kernel, by decide +kernel, by decide +kernel, by decide +kernel, by decide +kernel⟩

theorem witness_PulsesAndSynthesisers :
    (let s : State := st (fun d => d.setBit Reg.tbPpsOut 0 true); (noInjection s) ∧ (s.dev.rbit Reg.tbPpsOut 0 = true) ∧
      (s.dev.time.running = true)) ∧
    (let c : Nat := 4; let s : State := st (fun d => { d with time := { d.time with ppsHigh := true, ppsRiseAt := some 4 } });
      (noInjection s) ∧ (s.dev.time.ppsHigh = true) ∧ (s.dev.time.ppsRiseAt = some c)) ∧
    (let w : Nat := 99; let x : Fin 16 := 15; let s : State := st (fun d => d.setBit Reg.tbPpsIn 0 true); (noInjection s) ∧
      (s.dev.rbit Reg.tbPpsIn 0 = true) ∧ (s.dev.domainOn 26 = true) ∧ (w < 100)) ∧
    (let w : Nat := 100; let x : Fin 16 := 15; let s : State := st (fun d => follower (d.setBit Reg.tbPpsIn 0 true)); (noInjection s) ∧
      (s.dev.rbit Reg.tbPpsIn 0 = true) ∧ (s.dev.domainOn 26 = true) ∧ (100 ≤ w)) ∧
    (let s : State := st (fun d => d.setBit Reg.tbPpsIn 0 true); (noInjection s) ∧ (s.dev.rbit Reg.tbPpsIn 0 = true) ∧
      (s.dev.domainOn 26 = true)) ∧
    (let by_ : Requester := .fw; let n : Fin 8 := 7; let v : Word := 0xFFFFFFFF; let s : State := st id; (noInjection s) ∧
      (accepts by_ (Reg.tbSynthCfg n) s)) :=
  ⟨by decide +kernel, by decide +kernel, by decide +kernel, by decide +kernel, by decide +kernel, by decide +kernel⟩

theorem witness_RonongLanesRunAndSend :
    (let k : Fin 16 := 15; let x : Int := -32; let s : State := st (lane 1 {}); (noInjection s) ∧ (ronState s.dev k = 1) ∧
      ((s.dev.rl k).calBad = false) ∧ (x.natAbs ≤ calMax (s.dev.setNat (Reg.ronLaneCal k) (satInt 32 x)))) ∧
    (let k : Fin 16 := 15; let x : Int := 33; let s : State := st (lane 1 {}); (noInjection s) ∧ (ronState s.dev k = 1) ∧
      ((s.dev.rl k).calBad = false) ∧ (let d := s.dev.setNat (Reg.ronLaneCal k) (satInt 32 x); (calMax d < x.natAbs))) ∧
    (let k : Fin 16 := 15; let s : State := st (lane 1 { calBad := true }); (noInjection s) ∧ (ronState s.dev k = 1) ∧
      ((s.dev.rl k).calBad = true)) ∧
    (let k : Fin 16 := 15; let s : State := st (fun d => (lane 3 {} d).setBit Reg.ronCfg 1 false); (noInjection s) ∧
      (ronState s.dev k = 3) ∧ (helloCan s.dev = true)) ∧
    (let k : Fin 16 := 15; let s : State := st (lane 5 {}); (noInjection s) ∧ ((ronState s.dev k ≠ 3 ∨ helloCan s.dev = false))) ∧
    (let k : Fin 16 := 15; let s : State := st (lane 5 {}); (noInjection s) ∧ (ronState s.dev k = 5)) ∧
    (let k : Fin 16 := 15; let s : State := st (lane 4 { heardAt := some 4 }); (noInjection s) ∧ ((s.dev.rl k).lost = false) ∧
      ((s.dev.rl k).heardAt.isSome = true) ∧ (ronState s.dev k ≠ 0)) ∧
    (let k : Fin 16 := 15; let t : Nat := 4;
      let s : State := st (fun d => { lane 4 {} d with ron := { (lane 4 {} d).ron with hbKickAt := some 4 } }); (noInjection s) ∧
      (s.dev.ron.hbKickAt = some t) ∧ (s.dev.cycles ≤ t + 100000) ∧ ((ronState s.dev k = 3 ∨ ronState s.dev k = 4))) ∧
    (let by_ : Requester := .fw; let s : State := st id; (noInjection s) ∧ (accepts by_ Reg.ronHbKick s)) ∧
    (let k : Fin 16 := 15; let s : State := st (fun d => follower (lane 4 {} d)); (noInjection s) ∧ (s.dev.leads = false) ∧
      (ronState s.dev k = 4) ∧ (ronPartner s.dev k = s.dev.ron.activeHid)) ∧
    (let k : Fin 16 := 15; let o : Octets := []; let s : State := st (fun d => (lane 4 {} d).setBit (Reg.ronLaneStatus 15) 3 true);
      (noInjection s) ∧ (ronState s.dev k = 4) ∧ (s.dev.rbit (Reg.ronLaneStatus k) 3 = true)) :=
  ⟨by decide +kernel, by decide +kernel, by decide +kernel, by decide +kernel, by decide +kernel, by decide +kernel,
    by decide +kernel, by decide +kernel, by decide +kernel, by decide +kernel, by decide +kernel⟩

theorem witness_TimeAndControlFramesAreTaken :
    (let k : Fin 16 := 15; let hd : RonHdr := hdr 2 52; let t1 : FineStamp := ⟨⟨0, 0, 0⟩, 15⟩; let s : State := st (unsealed 4 {});
      (noInjection s) ∧ (framesHere k hd 0 1 s.dev)) ∧
    (let k : Fin 16 := 15; let hd : RonHdr := hdr 0 20; let t1 : FineStamp := ⟨⟨0, 0, 0⟩, 0⟩; let t2 : FineStamp := ⟨⟨0, 9, 0⟩, 15⟩;
      let t3 : FineStamp := ⟨⟨0, 10, 0⟩, 0⟩; let s : State := st (fun d => follower (unsealed 4 {} d)); (noInjection s) ∧
      (framesHere k hd 0 2 s.dev) ∧ (let d := counted k hd 0 s.dev; (d.leads = false) ∧ (hd.src.val = d.ron.activeHid))) ∧
    (let k : Fin 16 := 15; let hd : RonHdr := hdr 2 52; let c : Correction := ⟨1000, -5, false, 0, true⟩;
      let s : State := st (fun d => follower (unsealed 4 {} d)); (noInjection s) ∧ (framesHere k hd 0 3 s.dev) ∧
      (let d := counted k hd 0 s.dev; (d.leads = false) ∧ (let u := ackSend hd 3 d;
      (let v : Dev := { u with once := kvSet u.once 0x04A00 c.applyAt }; (u.time.corr ≠ some c) ∧
      ((u.time.corr = none → kvGet u.once 0x04A00 ≠ some c.applyAt)))))) ∧
    (let k : Fin 16 := 0; let hd : RonHdr := { hdr 2 2048 with dst := 1 }; let o : Octets := zeros 403; let s : State := st hello;
      (noInjection s) ∧ (framesHere k hd 1 2 s.dev) ∧ (let d := counted k hd 1 s.dev; (ronState d k = 3))) ∧
    (let k : Fin 16 := 15; let hd : RonHdr := hdr 2 148; let o : Octets := zeros 128; let s : State := st (unsealed 4 {});
      (noInjection s) ∧ (framesHere k hd 1 1 s.dev)) ∧
    (let k : Fin 16 := 15; let hd : RonHdr := hdr 2 52; let type : Nat := 6; let seq : Nat := 9;
      let s : State := st (fun d => { unsealed 4 {} d with ron := { (unsealed 4 {} d).ron with acks := [⟨2, 6, 9⟩] } }); (noInjection s) ∧
      (framesHere k hd 1 7 s.dev) ∧ (let d := counted k hd 1 s.dev; (d.ron.acks = [⟨hd.src, type, seq⟩]))) ∧
    (let k : Fin 16 := 15; let hd : RonHdr := hdr 2 52; let e : Nat := 255; let t : Nat := 4; let b : Bank := {};
      let s : State := st (fun d => { unsealed 4 {} d with epochs := { d.epochs with next := some {} } }); (noInjection s) ∧
      (framesHere k hd 1 5 s.dev) ∧ (let d := counted k hd 1 s.dev; (d.epochs.sched = none) ∧ (d.epochs.cur.epoch ≠ e) ∧
      (d.epochs.next = some b))) ∧
    (let k : Fin 16 := 15; let hd : RonHdr := hdr 2 52; let e : Nat := 255; let t : Nat := 4; let s : State := st (unsealed 4 {});
      (noInjection s) ∧ (framesHere k hd 1 5 s.dev) ∧ (let d := counted k hd 1 s.dev;
      ((d.epochs.sched.isSome = true ∨ d.epochs.cur.epoch = e ∨ d.epochs.next = none)))) ∧
    (let k : Fin 16 := 15; let hd : RonHdr := hdr 2 52; let m : MirrorMsg := ⟨5, none, {}, none⟩;
      let s : State := st (fun d => manager (unsealed 4 {} d)); (noInjection s) ∧ (framesHere k hd 1 8 s.dev) ∧
      ((counted k hd 1 s.dev).role = 1) ∧ ((counted k hd 1 s.dev).ron.active = false)) :=
  ⟨by decide +kernel, by decide +kernel, by decide +kernel, by decide +kernel, by decide +kernel, by decide +kernel,
    by decide +kernel, by decide +kernel, by decide +kernel⟩

theorem witness_CommandAndDataFramesAreTaken :
    (let k : Fin 16 := 15; let hd : RonHdr := hdr 2 84; let op : Byte := 0x19; let d : Desc := dsc 0 0 []; let aux : Word := 0xC0000005;
      let ok : Bool := false; let s : State := st (fun d => follower (unsealed 4 {} d)); (noInjection s) ∧ (framesHere k hd 1 3 s.dev) ∧
      (d.params.length = 48)) ∧
    (let k : Fin 16 := 15; let hd : RonHdr := hdr 2 84; let o : Octets := []; let aux : Word := 5; let c : PendingCmd := waiting 5 6;
      let s : State := st (fun d => { unsealed 4 {} d with pci := { d.pci with cmds := [waiting 5 6] } }); (noInjection s) ∧
      (framesHere k hd 1 4 s.dev) ∧ (let d := counted k hd 1 s.dev; (let id := aux.toNat % 2 ^ 30; (findCmd d id = some c) ∧
      (c.origin = none) ∧ (c.done = none) ∧ (c.opcode ≠ 0x1B)))) ∧
    (let k : Fin 16 := 15; let hd : RonHdr := hdr 2 2048; let rs : List MediaRec := [⟨9, 1, ⟨0, 0, 0⟩, [], none⟩];
      let s : State := st (unsealed 4 {}); (noInjection s) ∧ (framesHere k hd 2 1 s.dev)) ∧
    (let k : Fin 16 := 15; let hd : RonHdr := hdr 2 2048; let r : MediaRec := ⟨9, 0, ⟨0, 0, 0⟩, 0x80 :: zeros 11, none⟩;
      let q : Channel := chan .running; let n : Nat := 12; let s : State := st (fun d => withChan 9 (chan .running) (unsealed 4 {} d));
      (noInjection s) ∧ (framesHere k hd 2 1 s.dev) ∧ (let d := counted k hd 2 s.dev; (let c := r.chan % 65536; (let ssrc := be r.rtp 8 4;
      (r.kind ≠ 1) ∧ (d.chan? c = some q) ∧ (q.owner = r.chan / 65536) ∧ (q.awaits = false) ∧ (rtpHeader r.rtp = some n) ∧
      ((q.jb.ssrc = none ∨ q.jb.ssrc = some ssrc)))))) ∧
    (let k : Fin 16 := 15; let hd : RonHdr := hdr 2 84; let g : Nat := 0x20009; let w : Word := 0; let rcd : Octets := zeros 80;
      let o : Octets := []; let s : State := st (fun d => reserve (unsealed 4 {} d)); (noInjection s) ∧ (framesHere k hd 3 1 s.dev) ∧
      (let d := counted k hd 3 s.dev; ((d.role = 3 ∨ d.ron.takeover.isSome = true)) ∧ (d.activeManager = false))) ∧
    (let k : Fin 16 := 15; let hd : RonHdr := hdr 2 84; let g : Nat := 0x20009; let r : Nat := 3; let w : Word := 0;
      let rcd : Octets := zeros 80; let o : Octets := []; let s : State := st (fun d => unsealed 4 {} (active id d)); (noInjection s) ∧
      (framesHere k hd 3 1 s.dev) ∧ (let d := recordNote rcd (counted k hd 3 s.dev); ((counted k hd 3 s.dev).activeManager = true) ∧
      (reserveHid d = some r) ∧ (let h := if hd.src.val = r then g / 65536 else r; (h ≠ d.hid)))) ∧
    (let k : Fin 16 := 15; let hd : RonHdr := hdr 2 100; let rcd : Octets := putOcts (zeros 80) 66 [1];
      let s : State := st (fun d => manager (unsealed 4 {} d)); (noInjection s) ∧ (framesHere k hd 3 2 s.dev) ∧ (rcd.length = 80)) ∧
    (let k : Fin 16 := 15; let hd : RonHdr := hdr 2 52; let es : List Octets := [zeros 32];
      let s : State := st (fun d => manager (unsealed 4 {} d)); (noInjection s) ∧ (framesHere k hd 4 1 s.dev)) ∧
    (let k : Fin 16 := 15; let hd : RonHdr := hdr 2 52; let aux : Word := 0x80000000; let o : Octets := [];
      let s : State := st (unsealed 4 {}); (noInjection s) ∧ (framesHere k hd 5 1 s.dev)) ∧
    (let k : Fin 16 := 15; let s : State := st (lane 3 { badRun := 62 }); (noInjection s) ∧
      ((ronState s.dev k = 3 ∨ ronState s.dev k = 4))) ∧
    (let k : Fin 16 := 15; let s : State := st (fun d => (lane 4 {} d).setBit (Reg.ronLaneStatus 15) 3 true); (noInjection s) ∧
      ((ronState s.dev k = 3 ∨ ronState s.dev k = 4)) ∧ (s.dev.rbit (Reg.ronLaneStatus k) 3 = true)) ∧
    (let k : Fin 16 := 15; let s : State := st (fun d => (lane 4 {} d).setBit Reg.ronCfg 1 true); (noInjection s) ∧
      (ronState s.dev k = 4) ∧ (s.dev.rbit Reg.ronCfg 1 = true)) ∧
    (let k : Fin 16 := 15; let w : RonDrop := .vl; let s : State := st (lane 4 {}); (noInjection s) ∧
      ((ronState s.dev k = 3 ∨ ronState s.dev k = 4)) ∧ ((w = .length ∨ w = .dst ∨ w = .vl ∨ w = .type))) :=
  ⟨by decide +kernel, by decide +kernel, by decide +kernel, by decide +kernel, by decide +kernel, by decide +kernel,
    by decide +kernel, by decide +kernel, by decide +kernel, by decide +kernel, by decide +kernel, by decide +kernel,
    by decide +kernel⟩

theorem witness_TakeoversRunTheirCourse :
    (let k : Fin 16 := 15; let hd : RonHdr := hdr 2 52; let h : Fin 16 := 2; let s : State := st (fun d => reserve (unsealed 4 {} d));
      let n : Nat := 0; (noInjection s) ∧ (framesHere k hd 1 6 s.dev) ∧ (let d := ackSend hd 6 (counted k hd 1 s.dev); (d.role = 3))) ∧
    (let k : Fin 16 := 15; let hd : RonHdr := hdr 2 52; let h : Fin 16 := 2;
      let s : State := st (fun d => { reserve (unsealed 4 {} d) with ron := { (unsealed 4 {} d).ron with takeover := some ⟨2, none, false, none⟩ } });
      let n : Nat := 81; let t : Takeover := ⟨2, none, false, none⟩; (noInjection s) ∧ (framesHere k hd 1 6 s.dev) ∧
      (let d := ackSend hd 6 (counted k hd 1 s.dev); (d.role = 3) ∧ (d.ron.takeover = some t) ∧ (t.hid = h))) ∧
    (let k : Fin 16 := 15; let hd : RonHdr := hdr 2 52; let h : Fin 16 := 0; let s : State := st (unsealed 4 {}); let n : Nat := 81;
      (noInjection s) ∧ (framesHere k hd 1 6 s.dev) ∧ (let d := ackSend hd 6 (counted k hd 1 s.dev); (d.role ≠ 3) ∧ (h.val = d.hid))) ∧
    (let k : Fin 16 := 15; let hd : RonHdr := hdr 2 52; let h : Fin 16 := 0; let s : State := st (unsealed 4 {}); (noInjection s) ∧
      (framesHere k hd 1 6 s.dev)) ∧
    (let h : Fin 16 := 2; let s : State := st (fun d => active (fun r => { r with lanes := [(2, { lost := true })] }) d);
      let d : PlanDev := ⟨2, 2, 0⟩; (noInjection s) ∧ (s.dev.activeManager = true) ∧ (h.val ≠ s.dev.hid) ∧ ((s.dev.rl h).lost = true) ∧
      (s.dev.rbit (Reg.ronAlias h) 9 = false) ∧ (s.dev.rfld (Reg.ronAlias h) 0 4 = h) ∧ (let u := standbyWait (s.dev.rl h).lostAt s.dev;
      ((planOthers u).find? (fun d => d.hid == h.val) = some d))) ∧
    (let s : State := st id; (noInjection s) ∧ (s.dev.ron.stagedDossiers = []) ∧ (s.dev.ron.stagedRecords = [])) ∧
    
      (let s : State := st (fun d => { reserve d with ron := { d.ron with stagedRecords := [(0x20009, putOcts (zeros 80) 0 (toLe 4 0x0FF00000))] } } |>.setFld Reg.gduClState 30 2 2);
      let g : Nat := 0x20009; let r : Octets := putOcts (zeros 80) 0 (toLe 4 0x0FF00000); (noInjection s) ∧
      (s.dev.ron.stagedDossiers = []) ∧ (s.dev.ron.stagedRecords = [(g, r)]) ∧ (s.dev.role = 3) ∧ (s.dev.spare = false) ∧
      (s.dev.clState (nfld (le r 0 4) 20 8 / 16) = 2) ∧ (nfld (le r 0 4) 20 8 / 16 < 16)) ∧
    (let h : Fin 16 := 15; let t : Nat := 4; let s : State := st (fun d => { d with ron := { d.ron with dedup := [(15, 5)] } });
      (noInjection s) ∧ (kvGet s.dev.ron.dedup h = some (t + 1))) ∧
    (let by_ : Requester := .fw; let s : State := st (active id); (noInjection s) ∧ (accepts by_ Reg.ronCtrl s) ∧
      (s.dev.activeManager = true) ∧ (s.dev.ron.switchAt = none) ∧ (s.dev.ron.takeover = none) ∧ ((otherManager s.dev).isSome = true)) ∧
    (let by_ : Requester := .fw; let h : Fin 16 := 0; let s : State := st (fun d => (active id d).setFld (Reg.ronAlias 0) 0 4 3);
      let r : Nat := 3; (noInjection s) ∧ (accepts by_ Reg.ronCtrl s) ∧ (s.dev.activeManager = true) ∧ (reserveHid s.dev = some r) ∧
      (s.dev.rfld (Reg.ronAlias h) 0 4 = r) ∧ (h.val ≠ r) ∧ (s.dev.ron.switchAt = none) ∧ ((∀ t ∈ s.dev.ron.takeover, t.handback = none ∧
      t.hid = h)) ∧ ((h.val = s.dev.hid ∨ ((directLane s.dev h).isSome = true ∧
      ∀ j ∈ otherManager s.dev, ∃ m ∈ (s.dev.rl j).peer, m.heard.toNat.testBit h = true)))) ∧
    (let s : State := st (standby { lost := true, lostAt := 5 } { heardAt := some 6, peer := some hb }); let t : Nat := 5;
      (noInjection s) ∧ (s.dev.role = 1) ∧ (s.dev.ron.active = false) ∧ (s.dev.ron.plan.isSome = true) ∧ (s.dev.ron.fenced = false) ∧
      (peerLostAt s.dev = some t) ∧ (quorum t s.dev = true)) ∧
    (let s : State := st (standby { lost := true, lostAt := 5 } {}); let t : Nat := 5; (noInjection s) ∧ (s.dev.role = 1) ∧
      (s.dev.ron.active = false) ∧ (peerLostAt s.dev = some t) ∧ (quorum t s.dev = false)) :=
  ⟨by decide +kernel, by decide +kernel, by decide +kernel, by decide +kernel, by decide +kernel, by decide +kernel,
    by decide +kernel, by decide +kernel, by decide +kernel, by decide +kernel, by decide +kernel, by decide +kernel⟩

theorem witness_PcieEndpointIsResetAndStops :
    (let s : State := st id; (noInjection s) ∧ (s.dev.domainOn 24 = true)) ∧
    (let s : State := st id; (noInjection s) ∧ (s.dev.domainOn 24 = true)) ∧
    (let ch : Fin 16 := 4; let s : State := st (fun d => d.setBit (Reg.pciCrCtrl 3) 0 true); (noInjection s) ∧
      (s.dev.domainOn 24 = true) ∧ (1 ≤ ch.val) ∧ (ch.val ≤ 4) ∧ (s.dev.rbit (Reg.pciCrCtrl (ch - 1)) 0 = true)) ∧
    (let ch : Fin 16 := 11; let s : State := st id; (noInjection s) ∧ (s.dev.domainOn 24 = true) ∧ ((ch.val = 0 ∧ ¬ (s.dev.phase = 5 ∧
      s.dev.boot.pulling = true)) ∨ (9 ≤ ch.val ∧ ch.val ≤ 11))) ∧
    (let ch : Fin 16 := 0; let s : State := st (fun d => { inPhase 5 d with boot := { d.boot with pulling := true } }); (noInjection s) ∧
      (s.dev.domainOn 24 = true) ∧ (ch.val = 0) ∧ (s.dev.phase = 5) ∧ (s.dev.boot.pulling = true)) :=
  ⟨by decide +kernel, by decide +kernel, by decide +kernel, by decide +kernel, by decide +kernel⟩

theorem witness_NightDeskAnswersRequests :
    (let f : Bool := true; let h : Bool := true; let s : State := st id; (noInjection s) ∧ (s.dev.phase ≠ 0)) ∧
    (let f : Bool := true; let h : Bool := false; let s : State := st night; (noInjection s) ∧ (s.dev.phase ≠ 0) ∧
      (let mode := s.dev.rfld Reg.ndkMode 0 2; (let d := s.dev.setBit Reg.ndkStatus 9 (!s.dev.rbit (Reg.srcStatus 0x0D1) 0);
      (let on (b : Bool) : Bool := mode == 1 || (mode == 2 && b); (nightPort d = true))))) ∧
    (let s : State := st (fun d => d.setFld Reg.ndkMode 0 2 1); (noInjection s) ∧ (s.dev.phase ≠ 0) ∧ (s.dev.rfld Reg.ndkMode 0 2 ≠ 0)) ∧
    (let n : Nat := 512; let s : State := st halfDuplex; (noInjection s) ∧ (nightHalf s.dev = true) ∧ (s.dev.rbit Reg.ndkCfg 0 = true) ∧
      (s.dev.night.mac.tx ≠ []) ∧ (s.dev.night.defer = none) ∧ (s.dev.night.backoff = none)) ∧
    (let t : Nat := 4; let s : State := st (fun d => { d with night := { d.night with backoff := some 4 } }); (noInjection s) ∧
      (s.dev.night.backoff = some t)) ∧
    (let t : Nat := 4; let s : State := st (fun d => { d with night := { d.night with defer := some 4 } }); (noInjection s) ∧
      (s.dev.night.defer = some t)) ∧
    (let s : State := st (fun d => { night d with night := { (night d).night with mac := { rx := [⟨zeros 60, 60, 0⟩] } } });
      let h : RxHeld := ⟨zeros 60, 60, 0⟩; let r : List RxHeld := []; (noInjection s) ∧ (nightPort s.dev = true) ∧
      (s.dev.night.mac.rx = h :: r)) ∧
    (let p : NdPeer := peer; let o : Octets := [0x4E, 0x44, 1, 1] ++ zeros 20; let q : NdReq := ⟨peer, 1, false, zeros 8, 0, []⟩;
      let s : Dev := up; (nightRequest p o = some q)) ∧
    (let q : NdReq := req 1 []; let s : State := st (asked 1 []); (noInjection s) ∧ (nightHead s.dev (· == 1) = some q) ∧ (q.body = [])) ∧
    (let q : NdReq := req 2 []; let s : State := { st (asked 2 []) with fuses := { identity := .present } }; (noInjection s) ∧
      (nightHead s.dev (· == 2) = some q) ∧ (q.body = [])) ∧
    (let q : NdReq := req 3 []; let s : State := st (asked 3 []); (noInjection s) ∧ (nightHead s.dev (· == 3) = some q) ∧ (q.body = [])) ∧
    (let q : NdReq := req 4 []; let s : State := st (asked 4 []); (noInjection s) ∧ (nightHead s.dev (· == 4) = some q) ∧ (q.body = [])) ∧
    (let q : NdReq := req 5 []; let s : State := st (asked 5 []); (noInjection s) ∧ (nightHead s.dev (· == 5) = some q) ∧ (q.body = [])) ∧
    (let q : NdReq := req 6 [3, 32]; let s : State := st (asked 6 [3, 32]); let i : Byte := 3; let n : Byte := 32;
      let bad : List Nat := []; (noInjection s) ∧ (nightHead s.dev (· == 6) = some q) ∧ (q.body = [i, n]) ∧ (0 < n.toNat) ∧
      (n.toNat ≤ 32)) ∧
    (let q : NdReq := req 5 [0]; let c : Instr := .ndLastGasp; let op : Nat := 5; let s : State := st (asked 5 [0]); (noInjection s) ∧
      ((op, c) ∈ [(1, Instr.ndHello), (2, Instr.ndIdentity), (3, Instr.ndPower), (4, Instr.ndFaults), (5, Instr.ndLastGasp)]) ∧
      (nightHead s.dev (· == op) = some q) ∧ (q.body ≠ [])) ∧
    (let q : NdReq := req 16 []; let s : State := st (asked 16 []); (noInjection s) ∧
      (nightHead s.dev (fun op => op == 0 || decide (16 ≤ op)) = some q)) :=
  ⟨by decide +kernel, by decide +kernel, by decide +kernel, by decide +kernel, by decide +kernel, by decide +kernel,
    by decide +kernel, by decide +kernel, by decide +kernel, by decide +kernel, by decide +kernel, by decide +kernel,
    by decide +kernel, by decide +kernel, by decide +kernel, by decide +kernel⟩

theorem witness_NightDeskActs :
    (let q : NdReq := req 7 [29, 1]; let s : State := st (asked 7 [29, 1]); let d : Byte := 29; (noInjection s) ∧
      (nightHead s.dev (· == 7) = some q) ∧ (q.body = [d, 1]) ∧ (1 ≤ d.toNat) ∧ (d.toNat ≤ 29)) ∧
    (let q : NdReq := req 7 [1, 0]; let s : State := st (asked 7 [1, 0]); let d : Byte := 1; (noInjection s) ∧
      (nightHead s.dev (· == 7) = some q) ∧ (q.body = [d, 0]) ∧ (1 ≤ d.toNat) ∧ (d.toNat ≤ 29)) ∧
    (let q : NdReq := req 8 [29]; let s : State := st (asked 8 [29]); let d : Byte := 29; (noInjection s) ∧
      (nightHead s.dev (· == 8) = some q) ∧ (q.body = [d]) ∧ (1 ≤ d.toNat) ∧ (d.toNat ≤ 29)) ∧
    (let q : NdReq := req 8 [0]; let s : State := st (asked 8 [0]); (noInjection s) ∧ (nightHead s.dev (· == 8) = some q) ∧
      (q.body = [0])) ∧
    (let q : NdReq := req 9 [1]; let s : State := st (asked 9 [1]); let b : Byte := 1; (noInjection s) ∧
      (nightHead s.dev (· == 9) = some q) ∧ (s.dev.pwr.shutdown = false) ∧ (q.body = [b]) ∧ (b.toNat ≤ 1) ∧
      (slotRead s.dev b.toNat = false) ∧ (slotOwned s.dev b.toNat true = false) ∧ (let d := slotOwn b.toNat true (nightAction 9 s.dev);
      (flashPresent d = true))) ∧
    (let q : NdReq := req 9 [1]; let s : State := st (fun d => { inPhase 5 (asked 9 [1] d) with boot := { d.boot with loading := 2 } });
      let b : Byte := 1; let ok : Bool := true; (noInjection s) ∧ (nightHead s.dev (· == 9) = some q) ∧ (s.dev.pwr.shutdown = false) ∧
      (q.body = [b]) ∧ (b.toNat ≤ 1) ∧ ((slotRead s.dev b.toNat = true ∨ slotOwned s.dev b.toNat true = true))) ∧
    (let q : NdReq := req 9 [1]; let s : State := st (asked 9 [1]); let b : Byte := 1; let ok : Bool := false; (noInjection s) ∧
      (nightHead s.dev (· == 9) = some q) ∧ (s.dev.pwr.shutdown = false) ∧ (q.body = [b]) ∧ (b.toNat ≤ 1) ∧
      (slotRead s.dev b.toNat = false) ∧ (slotOwned s.dev b.toNat true = false) ∧ (let d := slotOwn b.toNat true (nightAction 9 s.dev);
      ((flashPresent d = false ∨ ok = false)))) ∧
    (let q : NdReq := req 10 ([1] ++ zeros 7 ++ [4] ++ zeros 4);
      let s : State := st (fun d => { asked 10 ([1] ++ zeros 7 ++ [4] ++ zeros 4) d with boot := { d.boot with erased := [⟨1, [(4, 4)]⟩] } });
      (noInjection s) ∧ (nightHead s.dev (· == 10) = some q) ∧ (s.dev.pwr.shutdown = false) ∧ (let slot := oct q.body 0;
      (let off := be q.body 1 4; (let n := be q.body 5 4; (slot ≤ 1) ∧ (0 < n) ∧ (n ≤ 1024) ∧ (q.body.length = 9 + n) ∧ (off % 4 = 0) ∧
      (slotErased s.dev slot off n = true) ∧ (slotRead s.dev slot = false) ∧ (slotOwned s.dev slot true = false))))) ∧
    (let q : NdReq := req 11 []; let s : State := st (fun d => inPhase 9 (asked 11 [] d)); (noInjection s) ∧
      (nightHead s.dev (· == 11) = some q) ∧ (s.dev.pwr.shutdown = false) ∧ (q.body = []) ∧ (s.dev.phase = 9)) ∧
    (let q : NdReq := req 11 []; let s : State := st (asked 11 []); (noInjection s) ∧ (nightHead s.dev (· == 11) = some q) ∧
      (s.dev.pwr.shutdown = false) ∧ (q.body = []) ∧ (s.dev.phase ≠ 9)) ∧
    (let q : NdReq := req 13 []; let c : Instr := .ndLcNonce; let op : Nat := 13;
      let s : State := st fun d => let d := asked 13 [] d; { d with pwr := { d.pwr with shutdown := true } }; (noInjection s) ∧
      ((op, c) ∈ [(11, Instr.ndBootRetry), (13, Instr.ndLcNonce)]) ∧ (nightHead s.dev (· == op) = some q) ∧ (q.body = []) ∧
      (s.dev.pwr.shutdown = true)) ∧
    (let q : NdReq := req 12 (zeros 8 ++ [1]); let s : State := st (asked 12 (zeros 8 ++ [1])); (noInjection s) ∧
      (nightHead s.dev (· == 12) = some q) ∧ (q.body.length = 9) ∧ (oct q.body 8 ≤ 1) ∧ (s.dev.domainOn 26 = true) ∧
      (s.dev.domainOn 25 = true)) ∧
    (let q : NdReq := req 13 []; let s : State := st (asked 13 []); (noInjection s) ∧ (nightHead s.dev (· == 13) = some q) ∧
      (s.dev.pwr.shutdown = false) ∧ (q.body = [])) ∧
    (let q : NdReq := req 15 ([1, 23] ++ zeros 26); let m : TestMeasure := {}; let s : State := st (asked 15 ([1, 23] ++ zeros 26));
      (noInjection s) ∧ (nightHead s.dev (· == 15) = some q) ∧ (q.body.length = 28) ∧ (let p := padTo 48 q.body; (testParamsOk p = true) ∧
      ((testDomains ⟨oct p 0, oct p 1⟩).all s.dev.domainOn = true) ∧ (testAsk p s.dev = .ok))) ∧
    (let q : NdReq := req 15 ([1, 8] ++ zeros 26); let m : TestMeasure := {};
      let s : State := st (fun d => { asked 15 ([1, 8] ++ zeros 26) d with tests := [laneTestRun] }); let c : Nat := 1; (noInjection s) ∧
      (nightHead s.dev (· == 15) = some q) ∧ (q.body.length = 28) ∧ (let p := padTo 48 q.body; (testParamsOk p = true) ∧
      ((testDomains ⟨oct p 0, oct p 1⟩).all s.dev.domainOn = true) ∧ (testAsk p s.dev = .refused c))) :=
  ⟨by decide +kernel, by decide +kernel, by decide +kernel, by decide +kernel, by decide +kernel, by decide +kernel,
    by decide +kernel, by decide +kernel, by decide +kernel, by decide +kernel, by decide +kernel, by decide +kernel,
    by decide +kernel, by decide +kernel, by decide +kernel⟩

theorem witness_OccurrencesAreCollected :
    (let n : Fin 1024 := 0x3E7; let o : OccData := {}; let s : State := st id; (noInjection s) ∧ (sourceSensed n.val s.dev = true) ∧
      ((hasLive n.val && s.dev.rbit (Reg.srcStatus n.val) 0) = false)) ∧
    (let n : Fin 1024 := 0x3C0; let o : OccData := {}; let s : State := st (live 0x3C0); (noInjection s) ∧ (hasLive n.val = true) ∧
      (s.dev.rbit (Reg.srcStatus n.val) 0 = true)) ∧
    (let n : Fin 1024 := 0x3E7; let s : State := st (live 0x3E7); (noInjection s) ∧ (sourceSensed n.val s.dev = true)) ∧
    (let by_ : Requester := .host; let n : Fin 1024 := 0x3E7; let s : State := st (fun d => d.setBit Reg.fltCfg 2 true);
      (noInjection s) ∧ (accepts by_ (Reg.srcCtrl n.val) s) ∧ ((sourceMask n.val).isSome = true) ∧ (s.dev.rbit Reg.fltCfg 2 = true)) ∧
    (let by_ : Requester := .host; let n : Fin 1024 := 0x3E7; let s : State := st (fun d => d.setBit Reg.fltCfg 2 false);
      (noInjection s) ∧ (accepts by_ (Reg.srcCtrl n.val) s) ∧ ((sourceMask n.val).isSome = true) ∧ (s.dev.rbit Reg.fltCfg 2 = false)) ∧
    (let by_ : Requester := .host; let n : Fin 1024 := 0x3E7; let s : State := st (live 0x3E7); (noInjection s) ∧
      (accepts by_ (Reg.srcStatus n.val) s)) ∧
    (let by_ : Requester := .fw; let s : State := st id; (noInjection s) ∧ (accepts by_ Reg.fltCfg s)) ∧
    (let n : Fin 1024 := 0x3E7; let t : Nat := 4;
      let s : State := st (fun d => { d with flt := { d.flt with trapSince := [(0x3E7, 4)] } }); (noInjection s) ∧
      (kvGet s.dev.flt.trapSince n.val = some t) ∧ (n.val ≠ 0x0C3) ∧ (s.dev.domainOn 25 = true)) ∧
    (let s : State := st (fun d => d.setBit Reg.ctlStatus 1 true); (noInjection s) ∧ (s.dev.domainOn 25 = true) ∧
      (s.dev.rbit Reg.ctlStatus 1 = true)) ∧
    (let s : State := st (fun d => d.setBit Reg.ctlStatus 0 true); (noInjection s) ∧ (s.dev.domainOn 25 = true) ∧
      (s.dev.rbit Reg.ctlStatus 0 = true)) :=
  ⟨by decide +kernel, by decide +kernel, by decide +kernel, by decide +kernel, by decide +kernel, by decide +kernel,
    by decide +kernel, by decide +kernel, by decide +kernel, by decide +kernel⟩

theorem witness_OutputsShowAndRelease :
    (let by_ : Requester := .host; let s : State := st (fun d => d.setBit Reg.fltStatus 0 true); (noInjection s) ∧
      (accepts by_ Reg.fltPairClear s) ∧ ((∀ n < 1024, s.dev.rbit (Reg.srcStatus n) 0 = true → (maskOf s.dev n).testBit 4 = false))) ∧
    (let by_ : Requester := .host; let n : Nat := 0x000; let s : State := st (live 0); (noInjection s) ∧
      (accepts by_ Reg.fltPairClear s) ∧ (n < 1024) ∧ (s.dev.rbit (Reg.srcStatus n) 0 = true) ∧ ((maskOf s.dev n).testBit 4 = true)) ∧
    (let by_ : Requester := .fw; let s : State := st id; (noInjection s) ∧ (accepts by_ Reg.fltHbKick s)) ∧
    (let s : State := st (fun d => (d.setBit Reg.fltCfg 1 true).setBit Reg.fltStatus 0 false); (noInjection s) ∧ (s.dev.phase ≠ 0) ∧
      (s.dev.rbit Reg.fltCfg 1 = true) ∧ (s.dev.rbit Reg.fltStatus 0 = false)) ∧
    (let s : State := st id; (noInjection s) ∧ (s.dev.phase ≠ 0) ∧ (s.dev.rbit Reg.fltStatus 2 = false)) ∧
    (let p : OutPin := .jtag; let s : State := st (fun d => { d with shorts := [.ppsOut] }); (noInjection s) ∧ (s.dev.phase ≠ 0) ∧
      (s.dev.shorts.contains p = false)) :=
  ⟨by decide +kernel, by decide +kernel, by decide +kernel, by decide +kernel, by decide +kernel, by decide +kernel⟩

theorem witness_DomainsAndClocksSwitch :
    (let by_ : Requester := .fw; let v : Word := 0xFFFFFFFF; let s : State := st id; (noInjection s) ∧ (accepts by_ Reg.pwrDomainEn s)) ∧
    (let d : Fin 30 := 18; let t : Nat := 4; let s : State := st (fun d => { d with pwr := { d.pwr with draining := [(18, 4)] } });
      (noInjection s) ∧ (kvGet s.dev.pwr.draining d.val = some t)) ∧
    (let d : Fin 30 := 29; let t : Nat := 4; let s : State := st (fun d => { d with pwr := { d.pwr with waking := [(29, 4)] } });
      (noInjection s) ∧ (kvGet s.dev.pwr.waking d.val = some t)) ∧
    (let by_ : Requester := .host; let v : Word := 1; let s : State := st (fun d => live 1 ((inPhase 9 d).setBit Reg.pwrClksel 0 false));
      (noInjection s) ∧ (accepts by_ Reg.pwrClksel s)) ∧
    (let a : Bool := false; let b : Bool := true; let s : State := st id; (noInjection s) ∧ (s.dev.boot.porstLow = false)) ∧
    (let s : State := st (fun d => (d.setBit Reg.pwrClksel 3 true).setBit Reg.pwrClksel 5 false); (noInjection s) ∧
      (s.dev.boot.porstLow = false) ∧ (s.dev.rbit Reg.pwrClksel 3 = true) ∧ (s.dev.rbit Reg.pwrClksel 5 = false)) ∧
    (let t : Nat := 4; let s : State := st (fun d => { d with pwr := { d.pwr with fastOsc := some 4 } }); (noInjection s) ∧
      (s.dev.pwr.fastOsc = some t)) ∧
    (let k : Fin 72 := 63; let s : State := st id; (noInjection s) ∧ (let n := droopDomain k.val; (s.dev.domainOn n = true))) ∧
    (let n : Fin 30 := 17; let t : Nat := 4; let s : State := st (fun d => { d with pwr := { d.pwr with halted := [(17, 4)] } });
      (noInjection s) ∧ (kvGet s.dev.pwr.halted n.val = some t)) :=
  ⟨by decide +kernel, by decide +kernel, by decide +kernel, by decide +kernel, by decide +kernel, by decide +kernel,
    by decide +kernel, by decide +kernel, by decide +kernel⟩

theorem witness_SupplyAndHeatAreManaged :
    (let l : List Int := []; let s : State := st (fun d => d.setBit Reg.pwrAvsCtrl 0 true); (noInjection s) ∧
      (s.dev.boot.porstLow = false) ∧ (s.dev.pwr.shutdown = false)) ∧
    (let l : List Int := []; let s : State := st (fun d => { d with pwr := { d.pwr with avsMiss := 2 } }); (noInjection s) ∧
      (s.dev.boot.porstLow = false) ∧ (s.dev.pwr.shutdown = false)) ∧
    (let v : Nat := 750; let i : Nat := 40; let s : State := st id; (noInjection s) ∧ (s.dev.boot.porstLow = false)) ∧
    (let s : State := st (fun d => { d with pwr := { d.pwr with pmbMiss := 2 } }); (noInjection s) ∧ (s.dev.boot.porstLow = false)) ∧
    (let r : Fin 4 := 3; let s : State := st id; (noInjection s) ∧ (s.dev.boot.porstLow = false)) ∧
    (let l : List Int := List.replicate 20 1149; let s : State := st id; (noInjection s) ∧ (s.dev.boot.porstLow = false)) ∧
    (let s : State := st id; (noInjection s)) ∧
    (let s : State := st id; (noInjection s) ∧ (profClFreq s.dev < 64)) :=
  ⟨by decide +kernel, by decide +kernel, by decide +kernel, by decide +kernel, by decide +kernel, by decide +kernel,
    by decide +kernel, by decide +kernel⟩

theorem witness_RegistersAreAccessed :
    (let a : Nat := Reg.tbServo; let v : BitVec 64 := 1; let i : RegInfo := infoOf Reg.tbServo; let s : State := st id; (noInjection s) ∧
      (a % 4 = 0) ∧ (a < 0x400000) ∧ (s.dev.domainOn 24 = true) ∧ (regInfo a = some i) ∧ (fwOwned a = true)) ∧
    (let by_ : Requester := .host; let a : Nat := Reg.macMaxFrame 7; let v : BitVec 64 := 1;
      let i : RegInfo := infoOf (Reg.macMaxFrame 7); let s : State := st (fun d => d.setNat Reg.pwrDomainOn 0x3FDFFFFF); (noInjection s) ∧
      (a % 4 = 0) ∧ (a < 0x400000) ∧ (clearsSource a = false) ∧ (reaches by_ s.dev = true) ∧ (regInfo a = some i) ∧ (fwOwned a = false) ∧
      (s.dev.served i = false)) ∧
    (let by_ : Requester := .host; let a : Nat := Reg.glbScratch; let n : Nat := 8; let v : BitVec 64 := 1; let s : State := st id;
      (noInjection s) ∧ (clearsSource a = false) ∧ (reaches by_ s.dev = true) ∧ (¬ (n = 4 ∧ a % 4 = 0)) ∧ (¬ (n = 8 ∧ a % 8 = 0))) ∧
    (let by_ : Requester := .host; let a : Nat := Reg.glbScratch; let v : BitVec 64 := 1; let b : RegBlock := .glb; let u : Nat := 0;
      let o : Nat := Reg.glbScratch; let s : State := st id; (noInjection s) ∧ (a % 4 = 0) ∧ (a < 0x400000) ∧ (clearsSource a = false) ∧
      (accepts by_ a s) ∧ (locate a = some (b, u, o)) ∧ ((regAct by_ b u o).isNone = true)) ∧
    (let by_ : Requester := .host; let a : Nat := Reg.glbBadAccess; let i : RegInfo := infoOf Reg.glbBadAccess; let s : State := st id;
      (noInjection s) ∧ (reaches by_ s.dev = true) ∧ (regInfo a = some i) ∧ (i.row.rc64 = false) ∧ (i.row.rc = true) ∧
      (s.dev.served i = true)) ∧
    (let a : Nat := Reg.macFecCorr 7; let i : RegInfo := infoOf (Reg.macFecCorr 7); let s : State := st id; (noInjection s) ∧
      (reaches .host s.dev = true) ∧ (regInfo a = some i) ∧ (i.row.rc64 = true) ∧ (i.row.isHigh i.off = false) ∧ (s.dev.served i = true)) :=
  ⟨by decide +kernel, by decide +kernel, by decide +kernel, by decide +kernel, by decide +kernel, by decide +kernel⟩

theorem witness_DebugWindowShowsTileMemory :
    (let by_ : Requester := .host; let off : Nat := 0; let b : Bool := false; let s : State := st id; (noInjection s) ∧
      (reaches by_ s.dev = true) ∧ (s.dev.rbit Reg.glbDbgStatus 0 = false)) ∧
    (let by_ : Requester := .host; let off : Nat := 0; let v : Word := 1;
      let s : State := st (fun d => (d.setBit Reg.glbDbgStatus 0 true).setNat Reg.gduClState 1); (noInjection s) ∧
      (reaches by_ s.dev = true) ∧ (s.dev.rbit Reg.glbDbgStatus 0 = true) ∧ (debugAwake s.dev = false)) ∧
    (let by_ : Requester := .host; let off : Nat := 0x27FFFC; let b : Bool := true;
      let s : State := st (fun d => d.setBit Reg.glbDbgStatus 0 true); (noInjection s) ∧ (reaches by_ s.dev = true) ∧
      (s.dev.rbit Reg.glbDbgStatus 0 = true) ∧ (debugAwake s.dev = true) ∧ (off < 0x280000)) ∧
    (let by_ : Requester := .host; let off : Nat := 0x44000; let v : Word := 1;
      let s : State := st (fun d => (d.setBit Reg.glbDbgStatus 0 true).setBit (Reg.tileCtrl 0) 0 true); (noInjection s) ∧
      (reaches by_ s.dev = true) ∧ (s.dev.rbit Reg.glbDbgStatus 0 = true) ∧ (debugAwake s.dev = true) ∧ (278528 ≤ off) ∧
      (off < 0x280000) ∧ (let t := debugTile s.dev; (s.dev.rbit (Reg.tileCtrl t) 0 = true) ∧ (s.dev.rfld (Reg.tileChCount t) 0 16 = 0))) :=
  ⟨by decide +kernel, by decide +kernel, by decide +kernel, by decide +kernel⟩

theorem witness_WellFormedCommandsComplete :
    (let c : Instr := .porstNLow; let s : State := st id; (c.wf = true)) := by
  decide +kernel

theorem witness_LedgerEntriesAreLaidOut :
    (let e : LedgerEvent := ⟨⟨0xFFFFFFFFFFFF, 999999999, 255⟩, 0x3FF, 0xFFFF, 0, some 0xFFFFF, zeros 8⟩; let flags : Nat := 0xFFFF;
      (e.wf = true) ∧ ((∀ g, e.chan = some g → g < 2 ^ 20)) ∧ (flags < 2 ^ 16)) := by
  decide +kernel

theorem witness_OccurrencesUpdateTheirStatus :
    (let n : Fin 1024 := 0x3FF; let real : Bool := true; let forced : Bool := false; let t : Stamp := ⟨0xFFFFFFFFFFFF, 999999999, 255⟩;
      let s : Dev := up; (t.wf = true)) := by
  decide +kernel

end Sys2Proof.Tests
end

section
/-! PROOFS. Register accesses (R11, R472, R514, R545, R546): what `REGISTER_WRITE` and the reads with an effect come to where no injection is due,
by the way the write's gate decides. -/

namespace Sys2Proof.Proofs

set_option Elab.async false

open Sys2Proof.Machine Sys2Proof.Laws

/-! ### The gate of a register write -/

/-- A write that the gate lets through comes from a requester that reaches the registers. -/
theorem reaches_of_accepts {by_ : Requester} {a : Nat} {s : State} (h : accepts by_ a s) : reaches by_ s.dev = true := by
  cases hr : reaches by_ s.dev with
  | true => rfl
  | false => simp [accepts, gate, hr] at h

/-- The host's write of a register that firmware owns stops at the gate, and `PCI.FW_OWN_WR` counts it (R472). -/
theorem gate_fwOwned {a : Nat} {i : RegInfo} {s : Dev} (hr : reaches .host s = true) (hi : regInfo a = some i) (ho : fwOwned a = true) :
    gate .host a s = (false, s.bump Reg.pciFwOwnWr) := by
  simp [gate, hr, hi, ho]

/-- A write of a block that is off stops at the gate, and `PWR.OFF_WR` counts it (R514). -/
theorem gate_off {by_ : Requester} {a : Nat} {i : RegInfo} {s : Dev} (hr : reaches by_ s = true) (hi : regInfo a = some i)
    (ho : fwOwned a = false) (hs : s.served i = false) : gate by_ a s = (false, s.bump Reg.pwrOffWr) := by
  simp [gate, hr, hi, ho, hs]

/-- A write that stops at the gate asks for no action: only the gate's count stands. -/
theorem gated_of_discarded {by_ : Requester} {a : Nat} {s d : Dev} (f : Dev → Dev) (h : gate by_ a s = (false, d)) : gated by_ a f s = d := by
  simp [gated, h]

/-- A write of a register without an effect of its own that the gate lets through sets the register's fields. -/
theorem wordWrite_plain {by_ : Requester} {a : Nat} {b : RegBlock} {u o : Nat} {s : State} (v : Word) (hg : accepts by_ a s)
    (hl : locate a = some (b, u, o)) (hp : regAct by_ b u o = none) : wordWrite by_ a v s.dev = writeFields a v.toNat s.dev := by
  rw [wordWrite, gated_of_accepts _ _ _ _ hg]
  simp [hl, hp]

/-! ### `REGISTER_WRITE` -/

/-- The registers of the fault sources lie in page 2 (R548): every other page of the map is another block's. -/
theorem page_of_locate_src {a u o : Nat} (h : locate a = some (.src, u, o)) : a / 0x10000 = 2 := by
  unfold locate at h
  split at h
  case h_3 page => exact page
  all_goals grind

/-- The block of a register is the one that its address is located in. -/
theorem locate_of_regInfo {a : Nat} {i : RegInfo} (h : regInfo a = some i) : locate a = some (i.block, i.unit, i.off) := by
  unfold regInfo at h
  split at h
  · simp at h
  next b u o hl =>
    split at h
    · simp at h
    · obtain ⟨r, -, rfl⟩ := Option.map_eq_some_iff.mp h
      exact hl

/-- Only a write in page 2 clears a source's STATUS. -/
theorem clearsSource_of_page_ne {a : Nat} (h : a / 0x10000 ≠ 2) : clearsSource a = false := by
  unfold clearsSource
  split
  next i hi =>
    have hb : i.block ≠ .src := fun hb => h (by
      have := page_of_locate_src (hb ▸ locate_of_regInfo hi)
      omega)
    simp [hb]
  · rfl

/-- Firmware owns no register of page 2 (R472, R553), so that none of its registers is a source's STATUS. -/
theorem clearsSource_of_fwOwned {a : Nat} (h : fwOwned a = true) : clearsSource a = false := by
  apply clearsSource_of_page_ne
  simp only [fwOwned, Bool.or_eq_true, List.contains_iff_mem, beq_iff_eq] at h
  rcases h with hm | hp
  · have pages : ∀ b ∈ [Reg.tbIncrFrac, Reg.tbIncrInt, Reg.tbAdjLo, Reg.tbAdjHi, Reg.tbAdjCmd, Reg.tbServo, Reg.gduEpochSchedLo,
        Reg.gduEpochSchedHi, Reg.gduEpochCmd, Reg.ronHbKick], b / 0x10000 ≠ 2 := by decide
    exact pages a hm
  · omega

/-- An aligned write of four octets below the windows is a write of one register. -/
theorem registerWrite_word {by_ : Requester} {a : Nat} (v : BitVec 64) {s : Dev} (hr : reaches by_ s = true) (ha : a % 4 = 0)
    (hb : a < 0x400000) : registerWrite by_ a 4 v s = wordWrite by_ a (BitVec.ofNat 32 v.toNat) s := by
  have h1 : ¬ (0x400000 ≤ a ∧ a < 0x600000) := by omega
  have h2 : ¬ 0x800000 ≤ a := by omega
  simp [registerWrite, bar0Word, hr, ha, h1, h2]

/-- A write of a size or an alignment that the device does not serve is discarded, and `GLB.BAD_ACCESS` counts it (R545). -/
theorem registerWrite_badAccess {by_ : Requester} {a n : Nat} (v : BitVec 64) {s : Dev} (hr : reaches by_ s = true)
    (h4 : ¬ (n = 4 ∧ a % 4 = 0)) (h8 : ¬ (n = 8 ∧ a % 8 = 0)) : registerWrite by_ a n v s = s.bump Reg.glbBadAccess := by
  simp [registerWrite, hr, h4, h8]

/-- With no injection due, a write that clears no source's STATUS acts on the device as it stands, and ends. -/
theorem exec_registerWrite {by_ : Requester} {a n : Nat} {v : BitVec 64} {s : State} (hn : noInjection s) (hc : clearsSource a = false) :
    exec (.registerWrite by_ a n v) s = .next (ended s (registerWrite by_ a n v s.dev)) := by
  change Host.Outcome.next (settle { s with dev := registerStep by_ a n v s.dev }) = _
  simp [registerStep, hc, takeInjections_none _ hn, ended]

/-- A write of one register, with no injection due, that clears no source's STATUS. -/
theorem exec_registerWrite_word {by_ : Requester} {a : Nat} {v : BitVec 64} {s : State} (hn : noInjection s) (hc : clearsSource a = false)
    (hr : reaches by_ s.dev = true) (ha : a % 4 = 0) (hb : a < 0x400000) :
    exec (.registerWrite by_ a 4 v) s = .next (ended s (wordWrite by_ a (BitVec.ofNat 32 v.toNat) s.dev)) := by
  rw [exec_registerWrite hn hc, registerWrite_word v hr ha hb]

/-! ### Reads with an effect -/

theorem exec_rcRegisterRead {by_ : Requester} {a : Nat} {s : State} (hn : noInjection s) :
    exec (.rcRegisterRead by_ a) s = .next (ended s (rcRead by_ a s.dev)) := run_of_noInjection _ s hn

theorem exec_counterLowWordRead {by_ : Requester} {a : Nat} {s : State} (hn : noInjection s) :
    exec (.counterLowWordRead by_ a) s = .next (ended s (counterRead by_ a s.dev)) := run_of_noInjection _ s hn

/-- A served register that a read clears returns its value and then holds zero (R11). -/
theorem rcRead_served {by_ : Requester} {a : Nat} {i : RegInfo} {s : Dev} (hr : reaches by_ s = true) (hi : regInfo a = some i)
    (h64 : i.row.rc64 = false) (hrc : i.row.rc = true) (hs : s.served i = true) :
    rcRead by_ a s = (s.emit (.read by_ a (s.reg a).toNat)).setNat a 0 := by
  simp [rcRead, readAs, hr, hi, h64, hrc, hs]

/-- The low word of a served counter returns, its high word is latched for the requester, and both words then hold zero (R546). -/
theorem counterRead_served {by_ : Requester} {a : Nat} {i : RegInfo} {s : Dev} (hr : reaches by_ s = true) (hi : regInfo a = some i)
    (h64 : i.row.rc64 = true) (hl : i.row.isHigh i.off = false) (hs : s.served i = true) :
    counterRead by_ a s =
      ((setLatch by_ a (s.reg (a + 4)) (s.emit (.read by_ a (s.reg a).toNat))).setNat a 0).setNat (a + 4) 0 := by
  simp [counterRead, readAs, hr, hi, h64, hl, hs]

/-! ### The statement -/

/-- Settles O49: each clause is the command's run with no injection due, and what the gate, the size or the row of the register makes of it. -/
theorem registersAreAccessed : Obligations.RegistersAreAccessed := by
  unfold Obligations.RegistersAreAccessed
  refine ⟨?fwOwned, ?off, ?badAccess, ?plain, ?clearing, ?counter⟩
  case fwOwned =>
    intro a v i s hn ha hb hd hi ho
    have hr : reaches .host s.dev = true := hd
    rw [exec_registerWrite_word hn (clearsSource_of_fwOwned ho) hr ha hb, wordWrite, gated_of_discarded _ (gate_fwOwned hr hi ho)]
  case off =>
    intro by_ a v i s hn ha hb hc hr hi ho hs
    rw [exec_registerWrite_word hn hc hr ha hb, wordWrite, gated_of_discarded _ (gate_off hr hi ho hs)]
  case badAccess =>
    intro by_ a n v s hn hc hr h4 h8
    rw [exec_registerWrite hn hc, registerWrite_badAccess v hr h4 h8]
  case plain =>
    intro by_ a v b u o s hn ha hb hc hg hl hp
    rw [exec_registerWrite_word hn hc (reaches_of_accepts hg) ha hb, wordWrite_plain _ hg hl (Option.isNone_iff_eq_none.mp hp),
      BitVec.toNat_ofNat]
  case clearing =>
    intro by_ a i s hn hr hi h64 hrc hs
    rw [exec_rcRegisterRead hn, rcRead_served hr hi h64 hrc hs]
  case counter =>
    intro a i s hn hr hi h64 hl hs
    rw [exec_counterLowWordRead hn, counterRead_served hr hi h64 hl hs]
    rfl

end Sys2Proof.Proofs
end

section
/-! PROOFS. The fuses (R55, R58 to R62): which commands write them, and that none of these unmakes one. -/

namespace Sys2Proof.Proofs

set_option Elab.async false

open Sys2Proof.Machine Sys2Proof.Laws

/-! ### Commands that write no fuse -/

/-- What a command leaves due at its end writes no fuse. -/
theorem fuses_of_settled {d : Dev} {s t : State} (h : Host.Outcome.next (settle { s with dev := d }) = (.next t : Host.Outcome State Fault Refusal)) :
    t.fuses = s.fuses := by
  cases h
  exact settle_fuses _

/-- A command that faults on a malformed descriptor, and else acts on the device alone, writes no fuse. -/
theorem fuses_of_tested {p : Prop} [Decidable p] {e : Fault} {d : Dev} {s t : State}
    (h : (if p then .next (settle { s with dev := d }) else .fault e : Host.Outcome State Fault Refusal) = .next t) : t.fuses = s.fuses := by
  split at h
  · exact fuses_of_settled h
  · cases h

/-- Settles O57: every other command ends in a state that takes its fuses from the state before, whatever it makes of the device; a command with a
descriptor may fault instead. -/
theorem fewCommandsWriteFuses : Obligations.FewCommandsWriteFuses := by
  unfold Obligations.FewCommandsWriteFuses
  intro c s t hTick hRing hNight h
  cases c
  case frameTick n e => exact absurd rfl (hTick n e)
  case lcTransition r d k a => exact absurd rfl (hRing r d k a)
  case ndLcTransition a => exact absurd rfl (hNight a)
  case open_ | modify | connectLine | connectPacket | connectPair | disconnectLine | disconnectPacket | disconnectPair | close | query | stats
      | tonePlay | toneStop | recordStart | recordStop | keySet | keyRotateReceive | keyRotateTransmit | sessionSet | epochSchedule | epochStageBegin
      | epochStageSection | epochStageEnd | epochStageAbort | templateLoad | migrate | consolidateNow | consolidateStop | imageWrite | ledgerRead
      | timeStep | lcNonce | nop | eventTest | badOpcode | commandFrame | laneTest | tileTest | mirrorPairTest => exact fuses_of_tested h
  all_goals exact fuses_of_settled h

/-! ### What the writers do -/

theorem fusesUpTo_refl (f : Fuses) : Fuses.upTo f f where
  serial := rfl
  root _ := rfl
  identity _ h := h
  state := Nat.le_refl _
  provA h := h
  provB h := h
  deplA h := h
  deplB h := h
  retdA h := h
  retdB h := h
  rollback := Nat.le_refl _

/-- The rollback counter rises alone, and never falls (R55). -/
theorem fusesUpTo_rollbackRaise (v : Nat) (f : Fuses) : Fuses.upTo f (rollbackRaise v f) :=
  { fusesUpTo_refl f with rollback := Nat.le_max_left _ _ }

/-- Where no step's fuse is whole again, the life cycle does not go back (R62). -/
theorem state_le_of_steps {f g : Fuses} (hp : (f.provA || f.provB) = true → (g.provA || g.provB) = true)
    (hd : (f.deplA || f.deplB) = true → (g.deplA || g.deplB) = true) (hr : (f.retdA || f.retdB) = true → (g.retdA || g.retdB) = true) :
    f.state ≤ g.state := by
  unfold Fuses.state
  grind

theorem lcMove_cases {f : Fuses} {target : Nat} (h : lcMove f target = true) : (f.state = 0 ∧ target = 1) ∨ target = 2 ∨ target = 3 := by
  simp only [lcMove, Bool.or_eq_true, Bool.and_eq_true, beq_iff_eq] at h
  omega

/-- A transition that the life cycle allows unmakes no fuse, whichever of its two fuses reads back (R60, R62): the root hash and the identity key are
written in BLANK alone. -/
theorem fusesUpTo_lcBlow {f : Fuses} {target : Nat} (root key : Octets) (a b : Bool) (h : lcMove f target = true) :
    Fuses.upTo f (lcBlow target root key a b f) := by
  obtain ⟨blank, rfl⟩ | rfl | rfl := lcMove_cases h
  · exact { fusesUpTo_refl f with
      root := fun past => absurd blank past
      identity := fun past => absurd blank past
      state := by rw [blank]; exact Nat.zero_le _
      provA := fun h => by simp [lcBlow, h]
      provB := fun h => by simp [lcBlow, h] }
  · exact { fusesUpTo_refl f with
      state := state_le_of_steps id (fun h => by simp only [lcBlow]; grind) id
      deplA := fun h => by simp [lcBlow, h]
      deplB := fun h => by simp [lcBlow, h] }
  · exact { fusesUpTo_refl f with
      identity := fun _ _ => rfl
      state := state_le_of_steps id id (fun h => by simp only [lcBlow]; grind)
      retdA := fun h => by simp [lcBlow, h]
      retdB := fun h => by simp [lcBlow, h] }

/-- A request for a transition leaves the fuses where it is refused, and else blows those of an allowed move. -/
theorem fusesUpTo_lcRequest (target : Nat) (root token : Octets) (fuseOk : Bool) (s : State) :
    Fuses.upTo s.fuses (lcRequest target root token fuseOk s).2.fuses := by
  unfold lcRequest
  extract_lets ok d
  by_cases allowed : ok = true
  · have move : lcMove s.fuses target = true := (Bool.and_eq_true_iff.mp allowed).1
    rw [if_neg (not_not_intro allowed)]
    cases fuseOk
    · exact fusesUpTo_lcBlow root _ _ _ move
    · exact fusesUpTo_lcBlow root _ true true move
  · rw [if_pos allowed]
    exact fusesUpTo_refl _

/-- What becomes of the device is no matter of the fuses. -/
theorem fusesUpTo_withDev {f : Fuses} {s : State} (d : Dev) (h : Fuses.upTo f s.fuses) : Fuses.upTo f ({ s with dev := d } : State).fuses := h

theorem fusesUpTo_lcTransitionRun (d : Desc) (token : Option Octets) (fuseOk : Bool) (id : Nat) (s : State) :
    Fuses.upTo s.fuses (lcTransitionRun d token fuseOk id s).fuses := by
  unfold lcTransitionRun
  dsimp only
  split
  · exact fusesUpTo_withDev _ (fusesUpTo_refl _)
  split
  · exact fusesUpTo_withDev _ (fusesUpTo_refl _)
  · have request := fusesUpTo_lcRequest (fld d.aux 0 2) (d.octs 0 48) (token.getD []) fuseOk s
    generalize lcRequest (fld d.aux 0 2) (d.octs 0 48) (token.getD []) fuseOk s = x at request ⊢
    obtain ⟨_ | _ | _, u⟩ := x <;> exact fusesUpTo_withDev _ request

theorem fusesUpTo_lcTransitionRing (r : Nat) (d : Desc) (token : Option Octets) (fuseOk : Bool) (s : State) :
    Fuses.upTo s.fuses (lcTransitionRing r d token fuseOk s).fuses := by
  unfold lcTransitionRing
  extract_lets id u
  split
  · exact fusesUpTo_refl _
  · exact fusesUpTo_lcTransitionRun d token fuseOk id u

theorem fusesUpTo_ndLcTransition (fuseOk : Bool) (s : State) : Fuses.upTo s.fuses (ndLcTransition fuseOk s).fuses := by
  unfold ndLcTransition
  cases nightHead s.dev (· == 14) with
  | none => exact fusesUpTo_refl _
  | some q =>
    dsimp only
    generalize (if oct q.body 0 = 1 then 49 else 97) = m
    split
    · exact fusesUpTo_withDev _ (fusesUpTo_refl _)
    split
    · exact fusesUpTo_withDev _ (fusesUpTo_refl _)
    · have request := fusesUpTo_lcRequest (oct q.body 0) (octs q.body 1 48) (octs q.body 1 96) fuseOk s
      generalize lcRequest (oct q.body 0) (octs q.body 1 48) (octs q.body 1 96) fuseOk s = x at request ⊢
      obtain ⟨_ | _ | _, u⟩ := x <;> exact fusesUpTo_withDev _ request

theorem fusesUpTo_frameTickRun (par : List (Nat × RecPar)) (bad : List Nat) (s : State) : Fuses.upTo s.fuses (frameTickRun par bad s).fuses := by
  unfold frameTickRun
  extract_lets d
  split
  · split
    · exact fusesUpTo_refl _
    · exact fusesUpTo_rollbackRaise _ _
  · exact fusesUpTo_refl _

/-- Whatever command is run, in whatever state, no fuse is unmade. -/
theorem fusesUpTo_exec {c : Instr} {s t : State} (h : exec c s = .next t) : Fuses.upTo s.fuses t.fuses := by
  by_cases tick : ∃ n e, c = .frameTick n e
  · obtain ⟨n, e, rfl⟩ := tick
    rw [(runFuses_keeps h).2]
    exact fusesUpTo_frameTickRun n e { s with dev := takeInjections s.dev }
  by_cases ring : ∃ r d k a, c = .lcTransition r d k a
  · obtain ⟨r, d, k, a, rfl⟩ := ring
    change (if Desc.whole d then runFuses (lcTransitionRing r.val d k a) s else .fault .malformedDescriptor) = _ at h
    split at h
    · rw [(runFuses_keeps h).2]
      exact fusesUpTo_lcTransitionRing r.val d k a { s with dev := takeInjections s.dev }
    · cases h
  by_cases night : ∃ a, c = .ndLcTransition a
  · obtain ⟨a, rfl⟩ := night
    rw [(runFuses_keeps h).2]
    exact fusesUpTo_ndLcTransition a { s with dev := takeInjections s.dev }
  · rw [fewCommandsWriteFuses c s t (fun n e hc => tick ⟨n, e, hc⟩) (fun r d k a hc => ring ⟨r, d, k, a, hc⟩) (fun a hc => night ⟨a, hc⟩) h]
    exact fusesUpTo_refl _

/-- Settles O56: a step is a command, which unmakes no fuse, or a cycle of the clock, which writes none. -/
theorem fusesNeverFallBack : Obligations.FusesNeverFallBack := by
  unfold Obligations.FusesNeverFallBack
  intro s t h
  unfold step at h
  split at h
  · cases h
    rw [idle, finish_fuses]
    exact fusesUpTo_refl _
  · next c rest _ => exact fusesUpTo_exec (s := { s with pending := rest }) h

/-- Settles O58: a device as made has every fuse whole, so that any fuses with its serial number are as far as it or further. -/
theorem fusesAsMadeAreBlank : Obligations.FusesAsMadeAreBlank := by
  unfold Obligations.FusesAsMadeAreBlank
  refine ⟨rfl, rfl, fun f serial => ?_⟩
  have blank : State.reset.fuses.state = 0 := rfl
  exact { fusesUpTo_refl f with
    serial := serial
    root := fun past => absurd blank past
    identity := fun past => absurd blank past
    state := blank ▸ Nat.zero_le _
    provA := nofun
    provB := nofun
    deplA := nofun
    deplB := nofun
    retdA := nofun
    retdB := nofun
    rollback := Nat.zero_le _ }

end Sys2Proof.Proofs
end

section
/-! PROOFS. Straps and resets (R31, R34, R36, R134, R551, R559, R560): what the device holds in reset, and how the pins and the host's write restart it. -/

namespace Sys2Proof.Proofs

set_option Elab.async false

open Sys2Proof.Machine Sys2Proof.Laws

/-- With no injection due, a command on the device ends where its operation leaves the device. -/
theorem run_ends {f : Dev → Dev} {s : State} {d : Dev} (hn : noInjection s) (h : f s.dev = d) : run f s = .next (ended s d) := by
  rw [run_of_noInjection f s hn, h]

/-! ### Power-on reset -/

/-- Settles O3: at reset the register file lists nothing, so that every register reads as its table says. -/
theorem resetLeavesEverythingAtReset : Obligations.ResetLeavesEverythingAtReset := by
  unfold Obligations.ResetLeavesEverythingAtReset
  refine ⟨fun _ => rfl, ?phase, rfl, fun _ => rfl, rfl, rfl, rfl, rfl⟩
  case phase => decide +kernel

/-- PORST_N low holds the device in phase 0. -/
theorem porstLow_phase (s : Dev) : (porstLow s).phase = 0 := by
  have empty : fld (regReset Reg.bootStatus) 0 4 = 0 := by decide +kernel
  exact empty

/-- What PORST_N low makes of the device stands: in reset nothing is due at a command's end. -/
theorem run_porstLow {s : State} (hn : noInjection s) : run porstLow s = .next { s with dev := porstLow s.dev } := by
  rw [run_ends hn rfl, ended, settle_of_reset _ (porstLow_phase _)]

/-! ### Straps (R31, R32) -/

/-- The corrections of R31, spelled out. -/
theorem correctStraps_eq (pins : StrapPins) : correctStraps pins =
    ({ pins with nvmMode := if pins.nvmMode = 3 then 2 else pins.nvmMode, spareCl := pins.spareCl && decide (pins.role = 0) },
      decide (pins.nvmMode = 3) || (pins.spareCl && decide (pins.role ≠ 0))) := by
  have nvm : (pins.nvmMode == 3) = decide (pins.nvmMode = 3) := rfl
  have role : (pins.role != 0) = decide (pins.role ≠ 0) := by simp only [bne, decide_not]; rfl
  have spare : (pins.spareCl && !(pins.spareCl && decide (pins.role ≠ 0))) = (pins.spareCl && decide (pins.role = 0)) := by
    cases pins.spareCl <;> simp
  simp only [correctStraps, nvm, role, spare, decide_eq_true_eq]

/-- STRAP_ERR is bit 16 of `BOOT.STRAP`: the straps lie below it (R32). -/
theorem bit_strapWord (p : StrapPins) (err : Bool) : bit (BitVec.ofNat 32 (strapWord p err)) 16 = err := by
  have hr := p.role.isLt
  have hh := p.hid.isLt
  have hn := p.nvmMode.isLt
  have hm := p.mgmtMode.isLt
  have h1 := Bool.toNat_le p.refsel
  have h2 := Bool.toNat_le p.pcieEn
  have h3 := Bool.toNat_le p.spareCl
  have value : strapWord p err / 65536 = err.toNat := by
    unfold strapWord
    omega
  have small : strapWord p err < 2 ^ 32 := by
    have := Bool.toNat_le err
    omega
  rw [bit, BitVec.toNat_ofNat, Nat.mod_eq_of_lt small, Nat.testBit_eq_decide_div_mod_eq, show 2 ^ 16 = 65536 from rfl, value]
  cases err <;> rfl

/-- Of the boot unit, the straps and fuses that are shown set the identity key alone. -/
theorem strapShow_boot (f : Fuses) (s : Dev) :
    (strapShow f s).boot = { s.boot with identity := if f.identity = .present then some f.identityKey else none } := by
  have serial (g : Nat → Nat) (l : List Nat) (d : Dev) : (l.foldl (fun d i => d.setNat (Reg.glbSerial i) (g i)) d).boot = d.boot :=
    foldl_keeps (fun e : Dev => e.boot = d.boot) (fun d i => d.setNat (Reg.glbSerial i) (g i)) (fun _ _ h => (setNat_boot ..).trans h) l d rfl
  unfold strapShow setSpare
  simp only [setFld_boot, setBit_boot, serial, setNat_boot]

/-- A reset leaves the straps and the level of WRST_N as latched. -/
theorem resetCore_wrstLow (cold : Bool) (f : Fuses) (s : Dev) : (resetCore cold f s).boot.wrstLow = s.boot.wrstLow := by
  unfold resetCore
  cases cold <;> simp [strapShow_boot, keptBoot, Dev.drawOctets]

theorem causeBit_boot (kind : Nat) (s : Dev) : (causeBit kind s).boot = s.boot := rfl

/-- The device as the release of PORST_N resets it, with straps `p` latched and strap error `err` (R31, R34). -/
def porstReset (p : StrapPins) (err : Bool) (f : Fuses) (s : Dev) : Dev :=
  causeBit 0 (resetCore true f { s with boot := { s.boot with straps := p, strapErr := err, porstLow := false } })

theorem calm_porstReset (p : StrapPins) (err : Bool) (f : Fuses) (s : Dev) : Calm p err (porstReset p err f s) :=
  calm_causeBit 0 (calm_resetCore true f { s with boot := { s.boot with straps := p, strapErr := err, porstLow := false } })

theorem porstReset_wrstLow (p : StrapPins) (err : Bool) (f : Fuses) (s : Dev) : (porstReset p err f s).boot.wrstLow = s.boot.wrstLow := by
  rw [porstReset, causeBit_boot, resetCore_wrstLow]

/-- With WRST_N high the release of PORST_N starts the boot, and a strap that was corrected is an occurrence of source 0x010. -/
theorem porstRelease_eq {pins p : StrapPins} {err : Bool} {f : Fuses} {s : Dev} (hp : s.boot.porstLow = true) (hw : s.boot.wrstLow = false)
    (hc : correctStraps pins = (p, err)) :
    porstRelease pins f s =
      if err then occur 0x010 {} (bootAt 1 f (porstReset p err f s)) else bootAt 1 f (porstReset p err f s) := by
  have high : (porstReset p err f s).boot.wrstLow = false := (porstReset_wrstLow ..).trans hw
  unfold porstReset at high ⊢
  simp only [porstRelease, hp, hc, not_true_eq_false, if_false, high, Bool.false_eq_true]

/-- Settles O4: with WRST_N high the release of PORST_N corrects the straps, resets everything, and starts the boot with what was latched. -/
theorem strapsAreCorrectedAndReported : Obligations.StrapsAreCorrectedAndReported := by
  unfold Obligations.StrapsAreCorrectedAndReported
  intro pins s hn hp hw
  have corrected := correctStraps_eq pins
  revert corrected
  generalize ({ pins with nvmMode := if pins.nvmMode = 3 then 2 else pins.nvmMode,
                          spareCl := pins.spareCl && decide (pins.role = 0) } : StrapPins) = p
  generalize (decide (pins.nvmMode = 3) || (pins.spareCl && decide (pins.role ≠ 0))) = err
  intro corrected _ _ d
  have started : d = bootAt 1 s.fuses (porstReset p err s.fuses s.dev) := rfl
  clear_value d
  subst started
  have latched := calm_porstReset p err s.fuses s.dev
  obtain ⟨-, straps, strapErr⟩ := calm_bootAt 1 s.fuses latched
  refine ⟨?_, straps, strapErr, ?_, bootAt_phase 1 _ _ (by omega)⟩
  · exact run_ends hn (porstRelease_eq hp hw corrected)
  · rw [Dev.rbit, bootAt_strap 1 s.fuses latched]
    exact bit_strapWord p err

/-! ### Reset pins and the host's reset (R34, R551, R559, R560) -/

theorem wrstLow_high {f : Fuses} {s : Dev} (hp : s.boot.porstLow = false) (hw : s.boot.wrstLow = false) :
    wrstLow f s = { resetCore false f s with boot := { (resetCore false f s).boot with wrstLow := true } } := by
  simp [wrstLow, hp, hw]

theorem wrstRelease_warm {f : Fuses} {s : Dev} (hp : s.boot.porstLow = false) (hw : s.boot.wrstLow = true) (hc : s.boot.coldHold = false) :
    wrstRelease f s =
      let r := warmReset 1 f { s with boot := { s.boot with wrstLow := false, coldHold := false } }
      { r with boot := { r.boot with held := s.boot.held } } := by
  simp [wrstRelease, hp, hw, hc]

/-- A write that asks for the host reset, and finds none asked for, sets its time; any other does nothing. -/
theorem resetWrite_asks {v : Word} {s : Dev} (hv : bit v 0 = true) (hr : s.boot.resetAt = none) :
    resetWrite v s = { s with boot := { s.boot with resetAt := some (s.cycles + 5000) } } := by
  simp [resetWrite, hv, hr, usCycles]

theorem resetWrite_asked {v : Word} {s : Dev} {t : Nat} (hr : s.boot.resetAt = some t) : resetWrite v s = s := by
  simp [resetWrite, hr]

theorem resetWrite_clear {v : Word} {s : Dev} (hv : bit v 0 = false) : resetWrite v s = s := by
  simp [resetWrite, hv]

/-- A write of `GLB.RESET` that reaches its block does what the write asks for. -/
theorem exec_glbResetWrite {by_ : Requester} {v : Word} {s : State} (hn : noInjection s) (hg : accepts by_ Reg.glbReset s) :
    exec (.glbResetWrite by_ v) s = .next (ended s (resetWrite v s.dev)) :=
  run_ends hn (gated_of_accepts _ _ _ _ hg)

theorem hostReset_due {f : Fuses} {s : Dev} {t : Nat} (hr : s.boot.resetAt = some t) : hostReset f s = warmReset 4 f (s.elapseTo t) := by
  simp [hostReset, hr]

/-- Settles O5: PORST_N and VDD_AON hold the device as `porstLow` leaves it; WRST_N and the host reset are resets with AON running, which drop every
call and restart the boot at phase 2. -/
theorem resetsHoldAndRestart : Obligations.ResetsHoldAndRestart := by
  unfold Obligations.ResetsHoldAndRestart
  refine ⟨?porst, ?vddAon, ?wrst, ?release, ?ask, ?asked, ?clear, ?comes⟩
  case porst =>
    intro s hn
    exact ⟨_, run_porstLow hn, porstLow_phase _, rfl, rfl, rfl, rfl, rfl, rfl⟩
  case vddAon =>
    intro s hn
    exact ⟨_, run_porstLow hn, porstLow_phase _, rfl, rfl, rfl, rfl, rfl, rfl⟩
  case wrst =>
    intro s hn hp hw r
    obtain ⟨noCalls, -⟩ := calm_resetCore false s.fuses s.dev
    exact ⟨run_ends hn (wrstLow_high hp hw), noCalls⟩
  case release =>
    intro s hn hp hw hc r
    obtain ⟨noCalls, -⟩ := calm_warmReset 1 s.fuses { s.dev with boot := { s.dev.boot with wrstLow := false, coldHold := false } }
    refine ⟨run_ends hn ?_, noCalls, warmReset_phase 1 _ _⟩
    rw [wrstRelease_warm hp hw hc]
  case ask =>
    intro by_ v s hn hg hv hr
    rw [exec_glbResetWrite hn hg, resetWrite_asks hv hr]
  case asked =>
    intro by_ v s t hn hg hr
    rw [exec_glbResetWrite hn hg, resetWrite_asked hr]
  case clear =>
    intro by_ v s hn hg hv
    rw [exec_glbResetWrite hn hg, resetWrite_clear hv]
  case comes =>
    intro s t hn hr r
    obtain ⟨noCalls, -⟩ := calm_warmReset 4 s.fuses (s.dev.elapseTo t)
    exact ⟨run_ends hn (hostReset_due hr), noCalls, warmReset_phase 4 _ _⟩

end Sys2Proof.Proofs
end

section
/-! PROOFS. Phases 1 to 4 of the boot (R36, R39 to R46, R486): what each phase's end makes of a device in which nothing is found wrong. -/

namespace Sys2Proof.Proofs

set_option Elab.async false

open Sys2Proof.Machine Sys2Proof.Laws

/-! ### Phases 1 and 2 (R36, R39) -/

theorem pllLocked_phase1 {s : Dev} (h : s.phase = 1) : pllLocked s = (s.setBit Reg.pwrClksel 3 true).setPhase 2 := if_pos h

theorem crystalStable_running {s : Dev} (h : s.phase ≠ 0) : crystalStable s = faultEnd 0x004 [] (s.setBit Reg.pwrClksel 4 true) := if_neg h

theorem crystalAbsent_running {s : Dev} (h : s.phase ≠ 0) : crystalAbsent s = occur 0x004 {} (s.setBit Reg.pwrClksel 4 false) := if_neg h

/-- A condition that is not live has no end. -/
theorem faultEnd_notLive {n : Nat} (o : Octets) {s : Dev} (h : s.rbit (Reg.srcStatus n) 0 = false) : faultEnd n o s = s := by
  simp [faultEnd, h]

/-- A reference that is counted right, and was before, is marked OK. -/
theorem referenceIs_ok {b : Bool} {s : Dev} (h : s.rbit (Reg.srcStatus (if b then 2 else 1)) 0 = false) :
    referenceIs b true s = s.setBit Reg.pwrClksel (if b then 2 else 1) true := by
  have apart : Reg.srcStatus (if b then 2 else 1) ≠ Reg.pwrClksel := by cases b <;> decide
  exact faultEnd_notLive _ ((rbit_setBit_other _ _ _ _ _ _ (by cases b <;> decide) (.inl apart)).trans h)

/-- `PWR.CLKSEL` once both references are counted right: OK, the PLL locked, and the selected one not failed. -/
def refsOk (s : Dev) : Dev :=
  (((s.setBit Reg.pwrClksel 1 true).setBit Reg.pwrClksel 2 true).setBit Reg.pwrClksel 3 true).setBit Reg.pwrClksel 5 false

theorem wiringRefs_ok {r : WiringResult} {s : Dev} (ha : r.refclkABad = false) (hb : r.refclkBBad = false)
    (h1 : s.rbit (Reg.srcStatus 1) 0 = false) (h2 : s.rbit (Reg.srcStatus 2) 0 = false) : wiringRefs r s = refsOk s := by
  have h2' : (s.setBit Reg.pwrClksel 1 true).rbit (Reg.srcStatus 2) 0 = false :=
    (rbit_setBit_other _ _ _ _ _ _ (by decide) (.inl (by decide))).trans h2
  have first : referenceIs false true s = s.setBit Reg.pwrClksel 1 true := referenceIs_ok (b := false) h1
  have second : referenceIs true true (s.setBit Reg.pwrClksel 1 true) = (s.setBit Reg.pwrClksel 1 true).setBit Reg.pwrClksel 2 true :=
    referenceIs_ok (b := true) h2'
  simp [wiringRefs, refsOk, ha, hb, first, second]

theorem refsOk_bits (s : Dev) : (refsOk s).rbit Reg.pwrClksel 1 = true ∧ (refsOk s).rbit Reg.pwrClksel 2 = true ∧
    (refsOk s).rbit Reg.pwrClksel 3 = true ∧ (refsOk s).rbit Reg.pwrClksel 5 = false := by
  simp [refsOk, rbit_setBit_same, rbit_setBit_other]

/-- A flash that is seen, and no highway found shorted, is noted, and no register changes. -/
theorem wiringFlash_seen {r : WiringResult} (s : Dev) (hf : r.flashAbsent = false) (ht : r.tdmShort = []) :
    (wiringFlash r s).boot = { s.boot with flashSeen := true, tdmShort := [] } ∧ (wiringFlash r s).night = s.night ∧
      (wiringFlash r s).chans = s.chans ∧ (wiringFlash r s).regs = s.regs := by
  unfold wiringFlash
  simp only [hf, ht, List.map_nil, Bool.not_false, Bool.false_eq_true, if_false]
  split <;> exact ⟨rfl, rfl, rfl, rfl⟩

theorem rbit_of_regs {s t : Dev} (h : s.regs = t.regs) (a i : Nat) : s.rbit a i = t.rbit a i := by
  rw [Dev.rbit, Dev.rbit, Dev.reg, Dev.reg, h]

/-- Steps over a list that each leave things as they are leave them so together. -/
theorem foldl_fixed_of_mem {α β : Type} {f : β → α → β} {b : β} : ∀ {l : List α}, (∀ a ∈ l, f b a = b) → l.foldl f b = b
  | [], _ => rfl
  | a :: l, h => by
    rw [List.foldl_cons, h a List.mem_cons_self]
    exact foldl_fixed_of_mem (fun c hc => h c (List.mem_cons_of_mem a hc))

/-- Lanes that all see a signal record nothing. -/
theorem wiringLanes_signal {r : WiringResult} (s : Dev) (hl : ∀ m : Fin 24, m ∈ r.laneSignal) : wiringLanes r s = s := by
  refine foldl_fixed_of_mem fun m hm => ?_
  have seen : r.laneSignal.any (fun l => l.val == m) = true :=
    List.any_eq_true.mpr ⟨⟨m, List.mem_range.mp hm⟩, hl _, beq_self_eq_true m⟩
  simp only [seen, not_true_eq_false, and_false, if_false]

theorem wiringPins_ok {r : WiringResult} (s : Dev) (hp : r.pcieRefAbsent = false) (hl : ∀ m : Fin 24, m ∈ r.laneSignal) (ht : r.tdmShort = [])
    (hm : r.pairMismatch = false) : wiringPins r s = s := by
  simp [wiringPins, hp, wiringLanes_signal _ hl, ht, hm]

/-- A PHY that answers where one is strapped is found, at whatever address. -/
theorem wiringPhy_found {r : WiringResult} (s : Dev) (h : r.phyAbsent = false) :
    (wiringPhy r s).boot = s.boot ∧ (wiringPhy r s).night = { s.night with phyFound := s.boot.straps.mgmtMode != 0 } ∧
      (wiringPhy r s).chans = s.chans ∧ ∀ i, (wiringPhy r s).rbit Reg.pwrClksel i = s.rbit Reg.pwrClksel i := by
  simp only [wiringPhy, Dev.drawBelow, h, Bool.not_false, Bool.and_true, Bool.and_false, Bool.false_eq_true, if_false]
  refine ⟨rfl, rfl, rfl, fun i => ?_⟩
  have apart : Reg.pwrClksel ≠ Reg.ndkStatus := by decide
  exact congrArg (bit · i) (reg_setFld_other { s with free := s.free + 1 } _ _ _ _ _ apart)

theorem refsOk_boot (s : Dev) : (refsOk s).boot = s.boot := rfl
theorem refsOk_night (s : Dev) : (refsOk s).night = s.night := rfl
theorem refsOk_chans (s : Dev) : (refsOk s).chans = s.chans := rfl

/-! ### Phases 3 and 4 (R40 to R46) -/

/-- A wipe without a bad bank, of a device that boots on as it was, leads to flash discovery. -/
theorem wipeDone_clean {f : Fuses} {s : Dev} (hp : s.phase = 3) (hc : s.boot.lcCopy = f.state) (hw : s.boot.cold = false) (hl : s.lc ≠ 3)
    (hs : s.flt.storm < 4) (hr : s.rbit Reg.pwrClksel 5 = false) : wipeDone [] f s = s.setPhase 4 := by
  simp [wipeDone, hp, hc, hw, hl, hr, Nat.not_le.mpr hs]

/-- Slot headers that are read from a flash with SFDP are judged, their codes shown, and the candidates selected from. -/
theorem headersRead_sfdp {r : FlashRead} {s : Dev} (hp : s.phase = 4) (hr : s.rbit Reg.pwrClksel 5 = false) (hm : s.boot.straps.nvmMode ≠ 2)
    (hf : s.boot.flashSeen = true) (ho : r.sfdpOk = true) :
    headersRead (some r) s =
      let offB := min (r.density / 2) 0x4000000
      let u := flashDiscover r s
      let ca := headerCode (parseHeader r.hdrA) offB u
      let cb := headerCode (parseHeader r.hdrB) (r.density - offB) u
      let d := setFail 2 cb (setFail 1 ca u)
      selectSlot 2 { d with boot := { d.boot with
        sizeA := offB, sizeB := min (r.density - offB) mib64, hdrA := if ca = 0 then some (parseHeader r.hdrA) else none
        hdrB := if cb = 0 then some (parseHeader r.hdrB) else none } } := by
  simp [headersRead, hp, hr, hm, hf, ho]

/-- Settles O6: each clause is the end of one phase, in a device in which nothing is found wrong. -/
theorem bootReachesTheImage : Obligations.BootReachesTheImage := by
  unfold Obligations.BootReachesTheImage
  refine ⟨?pll, ?stable, ?absent, ?wiring, ?wipe, ?headers⟩
  case pll =>
    intro s hn hp
    exact run_ends hn (pllLocked_phase1 hp)
  case stable =>
    intro s hn hp
    exact run_ends hn (crystalStable_running hp)
  case absent =>
    intro s hn hp
    exact run_ends hn (crystalAbsent_running hp)
  case wiring =>
    intro r s hn hp hFlash hA hB hPcie hLanes hTdm hPair hPhy h1 h2
    obtain ⟨fBoot, fNight, fChans, fRegs⟩ := wiringFlash_seen s.dev hFlash hTdm
    have refs : wiringRefs r (wiringFlash r s.dev) = refsOk (wiringFlash r s.dev) :=
      wiringRefs_ok hA hB ((rbit_of_regs fRegs _ _).trans h1) ((rbit_of_regs fRegs _ _).trans h2)
    obtain ⟨boot, night, chans, bits⟩ := wiringPhy_found (refsOk (wiringFlash r s.dev)) hPhy
    obtain ⟨b1, b2, b3, b5⟩ := refsOk_bits (wiringFlash r s.dev)
    have done : wiringDone r s.dev = (wiringPhy r (refsOk (wiringFlash r s.dev))).setPhase 3 := by
      simp only [wiringDone, hp, ne_eq, not_true_eq_false, if_false, wiringPins_ok _ hPcie hLanes hTdm hPair, refs]
    refine ⟨wiringPhy r (refsOk (wiringFlash r s.dev)), run_ends hn done, ?_, ?_, ?_,
      (bits 1).trans b1, (bits 2).trans b2, (bits 3).trans b3, (bits 5).trans b5⟩
    · rw [boot, refsOk_boot, fBoot]
    · rw [night, refsOk_night, refsOk_boot, fNight, fBoot]
    · rw [chans, refsOk_chans, fChans]
  case wipe =>
    intro s hn hp hc hw hl hs hr
    exact run_ends hn (wipeDone_clean hp hc hw hl hs hr)
  case headers =>
    intro r s hn hp hr hm hf ho
    exact run_ends hn (headersRead_sfdp hp hr hm hf ho)

end Sys2Proof.Proofs
end

section
/-! PROOFS. Phases 5 to 7 and the host boot (R49 to R57): what an image that is read well, signed well and applied makes of the device. -/

namespace Sys2Proof.Proofs

set_option Elab.async false

open Sys2Proof.Machine Sys2Proof.Laws

/-! ### The body of the image (R49, R51) -/

/-- The image's sections `l` are staged, with the kernel sets and limits of its library, its digest and its signature block: `img` is the image as
read, and `sig` where its signature block lies. -/
def staged (l : List (Nat × Octets)) (img : Octets) (sig : Nat) (s : Dev) : Dev :=
  { s with boot := { s.boot with
      sections := l, ksets := (Config.kernelSets ((kvGet l 3).getD [])).take 32, limits := Config.limitRecord ((kvGet l 3).getD [])
      digest := sha384 (octs img 0 sig), sigBlock := octs img sig 256 } }

/-- A body that decompresses, with tone definitions that pass where it brings some, is staged in phase 6. -/
theorem bodyRead_ok {h : Header} {img : Octets} {l : List (Nat × Octets)} {s : Dev} (hs : sectionsRead img none (flashOrder h) = .ok l)
    (ht : ∀ o ∈ kvGet l 6, toneSectionOk o = true) : bodyRead h img none s = staged l img h.sigOffset ((decodeJob none s).setPhase 6) := by
  unfold bodyRead
  simp only [hs, Bool.false_eq_true, if_false]
  cases tones : kvGet l 6 with
  | none => rfl
  | some o => simp only [ht o tones, if_true]; rfl

theorem imageRead_ok {r : ImageRead} {h : Header} {l : List (Nat × Octets)} {s : Dev} (hp : s.phase = 5) (hb : s.boot.pulling = false)
    (hi : s.boot.image = some h) (hr : r.parity = none) (hs : sectionsRead (h.raw ++ r.octets) none (flashOrder h) = .ok l)
    (ht : ∀ o ∈ kvGet l 6, toneSectionOk o = true) :
    imageRead r s = staged l (h.raw ++ r.octets) h.sigOffset ((decodeJob none s).setPhase 6) := by
  rw [← bodyRead_ok hs ht]
  simp [imageRead, hi, hp, hb, hr]

/-! ### The signature (R51) -/

/-- A signature that verifies, by the key that PROVISIONED and DEPLOYED ask for, accepts the image and keeps its signer. -/
theorem signatureDone_accepted {f : Fuses} {s : Dev} (hp : s.phase = 6) (hv : sigVerifies s.boot.sigBlock s.boot.digest = true)
    (hl : s.lc = 1 ∨ s.lc = 2) (hk : sha384 (sigKey s.boot.sigBlock) = f.rootHash) :
    signatureDone f s = { s.setPhase 7 with boot := { s.boot with signer := sigKey s.boot.sigBlock } } := by
  have programmed : s.lc ≠ 0 := by omega
  simp [signatureDone, hp, hv, hk, programmed]

/-- In BLANK any key is taken, and source 0x018 occurs. -/
theorem signatureDone_blank {f : Fuses} {s : Dev} (hp : s.phase = 6) (hv : sigVerifies s.boot.sigBlock s.boot.digest = true) (hl : s.lc = 0) :
    signatureDone f s =
      { (occur 0x018 {} s).setPhase 7 with boot := { (occur 0x018 {} s).boot with signer := sigKey s.boot.sigBlock } } := by
  simp [signatureDone, hp, hv, hl]

theorem signatureDone_refused {f : Fuses} {s : Dev} (hp : s.phase = 6) (hv : sigVerifies s.boot.sigBlock s.boot.digest = false) :
    signatureDone f s = refuseImage 6 s := by
  simp [signatureDone, hp, hv]

/-! ### APPLY (R53) -/

/-- A register list that leaves the BOOT block alone is written, RWL fields are locked, and the sections are handed over. -/
theorem applyRun_applies {tiles : List (Fin 256 × TestMeasure)} {lanes : List (Fin 8 × TestMeasure)} {s : Dev} (hp : s.phase = 7)
    (hr : s.boot.rwlLocked = false) (hl : (listEntries (sectionOf s 1)).any entryBoot = false) :
    applyRun tiles lanes s =
      let d := (listEntries (sectionOf s 1)).foldl (fun d e => applyEntry e d) (firmwareStart s)
      let p := postRun tiles lanes { d with boot := { d.boot with rwlLocked := true } }
      imageShow (ticksStart (planOpen (sectionOf p 7) (ledgerStart (applySections p)))) := by
  simp only [applyRun, hp, hr, hl, ne_eq, not_true_eq_false, Bool.false_eq_true, or_self, if_false]

/-! ### Host boot (R57) -/

/-- A write of `BOOT.HB_CTRL` that reaches its block does what the write asks for. -/
theorem exec_hostBootGo {by_ : Requester} {v : Word} {s : State} (hn : noInjection s) (hg : accepts by_ Reg.bootHbCtrl s) :
    exec (.hostBootGo by_ v) s = .next (ended s (hostBootGo v s.dev)) :=
  run_ends hn (gated_of_accepts _ _ _ _ hg)

theorem hostBootGo_starts {v : Word} {s : Dev} (hv : bit v 0 = true) (hp : s.phase = 9) (hb : s.rbit Reg.bootHbCtrl 1 = false)
    (hr : s.rbit Reg.pwrClksel 5 = false) (ha : (s.reg Reg.bootHbSrcLo).toNat % 4096 = 0) :
    hostBootGo v s =
      let d := leaveWait 5 ((s.setBit Reg.bootHbCtrl 1 true).setBit Reg.bootHbCtrl 2 false)
      { d with boot := { d.boot.unload with pulling := true, loading := 3, tried := [1, 2] } } := by
  simp only [hostBootGo, hv, hp, hb, hr, ha, ne_eq, not_true_eq_false, Bool.false_eq_true, or_self, if_false]

theorem hostBootGo_elsewhere {v : Word} {s : Dev} (hv : bit v 0 = true) (hp : s.phase ≠ 9) :
    hostBootGo v s = s.setBit Reg.bootHbCtrl 2 true := by
  simp [hostBootGo, hv, hp]

/-- The device whose pull has ended. -/
def pulled (s : Dev) : Dev := { s with boot := { s.boot with pulling := false } }

theorem hostPullDone_ok {x : ImageRead} {l : List (Nat × Octets)} {s : Dev} (hp : s.phase = 5) (hb : s.boot.pulling = true)
    (hc : headerCode (parseHeader x.octets) (s.reg Reg.bootHbLen).toNat (pulled s) = 0) (ht : tableCode (parseHeader x.octets) = 0)
    (hr : x.parity = none) (hs : sectionsRead x.octets none (flashOrder (parseHeader x.octets)) = .ok l)
    (hd : ∀ o ∈ kvGet l 6, toneSectionOk o = true) :
    hostPullDone (some x) s = staged l x.octets (parseHeader x.octets).sigOffset
      ((decodeJob none { pulled s with boot := { (pulled s).boot with image := some (parseHeader x.octets) } }).setPhase 6) := by
  have len : (s.reg Reg.bootHbLen).toNat = ((pulled s).reg Reg.bootHbLen).toNat := rfl
  rw [len] at hc
  rw [← bodyRead_ok hs hd]
  unfold pulled at hc ⊢
  simp only [hostPullDone, hp, hb, hc, ht, hr, ne_eq, not_true_eq_false, or_self, if_false]

theorem hostPullDone_failed {s : Dev} (hp : s.phase = 5) (hb : s.boot.pulling = true) :
    hostPullDone none s = refuseImage 10 (occur 0x0CB {} (pulled s)) := by
  simp only [hostPullDone, hp, hb, ne_eq, not_true_eq_false, or_self, if_false, pulled]

/-- Settles O7: each clause is one command of phases 5 to 7 or of the host boot, on a device that meets its conditions. -/
theorem imagesAreReadVerifiedAndApplied : Obligations.ImagesAreReadVerifiedAndApplied := by
  unfold Obligations.ImagesAreReadVerifiedAndApplied
  refine ⟨?read, ?accepted, ?blank, ?refused, ?applied, ?go, ?goElsewhere, ?pull, ?pullFailed⟩
  case read =>
    intro r h l s hn hp hb hi hr hs ht
    exact run_ends hn (imageRead_ok hp hb hi hr hs ht)
  case accepted =>
    intro s hn hp hv hl hk
    exact run_ends hn (signatureDone_accepted hp hv hl hk)
  case blank =>
    intro s hn hp hv hl
    exact run_ends hn (signatureDone_blank hp hv hl)
  case refused =>
    intro s hn hp hv
    exact run_ends hn (signatureDone_refused hp hv)
  case applied =>
    intro tiles lanes s hn hp hr hl
    exact run_ends hn (applyRun_applies hp hr hl)
  case go =>
    intro by_ v s hn hg hv hp hb hr ha
    rw [exec_hostBootGo hn hg, hostBootGo_starts hv hp hb hr ha]
  case goElsewhere =>
    intro by_ v s hn hg hv hp
    rw [exec_hostBootGo hn hg, hostBootGo_elsewhere hv hp]
  case pull =>
    intro x l s hn hp hb _ _ hc ht hr hs hd
    exact run_ends hn (hostPullDone_ok hp hb hc ht hr hs hd)
  case pullFailed =>
    intro s hn hp hb
    exact run_ends hn (hostPullDone_failed hp hb)

end Sys2Proof.Proofs
end

section
/-! PROOFS. The frame tick (R65 to R67): when it falls, how it is numbered, and the end of a boot at the first one (R55). -/

namespace Sys2Proof.Proofs

set_option Elab.async false

open Sys2Proof.Machine Sys2Proof.Laws

/-! ### When a tick falls -/

/-- A multiple lies at no distance from itself. -/
theorem nearest_mul (n : Nat) {m : Nat} (h : 0 < m) : nearest ((n * m : Nat) : Int) (m : Int) = 0 := by
  have rest : ((n * m : Nat) : Int) % (m : Int) = 0 := by rw [← Int.natCast_emod, Nat.mul_mod_left]; rfl
  unfold nearest
  rw [rest, if_pos (by omega)]

/-- The number of a boundary. -/
theorem boundary_number (n : Nat) {m : Nat} (h : 0 < m) : (((n * m : Nat) : Int) / (m : Int)).toNat = n := by
  rw [← Int.natCast_ediv, Int.toNat_natCast, Nat.mul_div_cancel _ h]

theorem tickUnits_pos : 0 < tickUnits := by decide

theorem elapseToTime_ticks (s : Dev) (t : Nat) : (s.elapseToTime t).time.ticks = s.time.ticks := by
  unfold Dev.elapseToTime Dev.elapse Dev.timeAfter
  split
  · dsimp only
    split <;> rfl
  · rfl

/-- A tick that falls on a boundary takes the boundary's number, and the next falls one boundary on. -/
theorem tickFire_boundary {s : Dev} {n : Nat} (he : s.rbit Reg.tbTickCtrl 0 = true) (hr : s.time.running = true) (hd : s.domainOn 26 = true)
    (ha : s.time.nextTickAt = n * tickUnits) :
    ∃ d, tickFire s = some d ∧ d.time.lastTick = some n ∧ d.time.nextTickAt = (n + 1) * tickUnits ∧ d.time.ticks = s.time.ticks + 1 := by
  unfold tickFire
  simp only [he, hr, hd, ha, nearest_mul n tickUnits_pos, Int.sub_zero, boundary_number n tickUnits_pos, not_true_eq_false, or_self, if_false,
    Int.natAbs_zero, Nat.zero_le, decide_true, if_true]
  refine ⟨_, rfl, rfl, rfl, ?_⟩
  exact congrArg (· + 1) (elapseToTime_ticks s (n * tickUnits))

/-- Enabling the generator sets its first tick at the next boundary (R65). -/
theorem tickCtrl_enables {v : Word} {s : Dev} (hv : bit v 0 = true) (he : s.rbit Reg.tbTickCtrl 0 = false) :
    tickCtrl v s = { s.setBit Reg.tbTickCtrl 0 true with time := { s.time with nextTickAt := (s.time.t / tickUnits + 1) * tickUnits } } := by
  simp [tickCtrl, hv, he, Dev.modTime]

/-! ### What a tick does -/

theorem exec_frameTick {par : List (Nat × RecPar)} {bad : List Nat} {s : State} (hn : noInjection s) :
    exec (.frameTick par bad) s = .next (settle (frameTickRun par bad s)) := runFuses_of_noInjection _ s hn

/-- A tick that ends no boot acts on the device alone. -/
theorem frameTickRun_plain {par : List (Nat × RecPar)} {bad : List Nat} {s : State} {d : Dev} (hf : tickFire s.dev = some d)
    (hb : bootTick s.dev = false) :
    frameTickRun par bad s = { s with dev := tickWork par bad (decide (s.dev.time.ticks = 0)) d } := by
  simp [frameTickRun, frameTickDev, hf, hb]

/-- The tick that ends a boot raises the rollback counter to the level that the image asks for (R55). -/
theorem frameTickRun_boot {par : List (Nat × RecPar)} {bad : List Nat} {s : State} {d : Dev} {v : Nat} (hf : tickFire s.dev = some d)
    (hb : bootTick s.dev = true) (hv : raiseLevel s.dev = some v) :
    frameTickRun par bad s = { s with
      dev := (tickWork par bad (decide (s.dev.time.ticks = 0)) (bootEnd d)).setFld Reg.bootLc 8 8 (rollbackRaise v s.fuses).rollback
      fuses := rollbackRaise v s.fuses } := by
  simp [frameTickRun, frameTickDev, hf, hb, hv]

/-- Settles O8: a tick that fires does the tick's work, with the end of a boot before it where one is due; on a boundary it takes its number. -/
theorem frameTickFiresAndIsNumbered : Obligations.FrameTickFiresAndIsNumbered := by
  unfold Obligations.FrameTickFiresAndIsNumbered
  refine ⟨?plain, ?boot, ?numbered, ?enabled⟩
  case plain =>
    intro par bad s d hn hf hb
    rw [exec_frameTick hn, frameTickRun_plain hf hb, ended]
  case boot =>
    intro par bad s d v hn hf hb hv
    rw [exec_frameTick hn, frameTickRun_boot hf hb hv]
    rfl
  case numbered =>
    intro s n he hr hd ha
    exact tickFire_boundary he hr hd ha
  case enabled =>
    intro by_ v s hn hg hv he
    exact run_ends hn ((gated_of_accepts _ _ _ _ hg).trans (tickCtrl_enables hv he))

end Sys2Proof.Proofs
end

section
/-! PROOFS. Commands of the rings about the device (R58, R60, R148, R409): a descriptor that is taken here runs its command's body, and completes. -/

namespace Sys2Proof.Proofs

set_option Elab.async false

open Sys2Proof.Machine Sys2Proof.Laws

/-! ### Descriptors that run here -/

/-- A descriptor that is taken, and executed on this device, runs its body on the device with the descriptor taken. -/
theorem runRing_here {r : Fin 4} {op : Nat} {d : Desc} {body : Nat → Dev → Dev} {s : State} {e : Dev} (hn : noInjection s)
    (ht : takesHere r op d s.dev) (he : body s.dev.pci.nextId (taken r op d s.dev) = e) : runRing r op d body s = .next (ended s e) := by
  have ⟨⟨whole, _⟩, _⟩ := ht
  rw [runRing_whole r op d body s whole]
  exact run_ends hn ((takeRing_here r op d _ body s.dev ht).trans he)

/-- A reserved opcode is refused with BAD_OPCODE in phase 8 (R148, R150). -/
theorem takeRing_badOpcode {r op : Nat} {d : Desc} {pre : Dev → Option (Status × Octets)} {body : Nat → Dev → Dev} {s : Dev} (ht : takes r d s)
    (ho : op = 0 ∨ 0x1C ≤ op) (hp : (taken r op d s).phase = 8) :
    takeRing r op d pre body s = complete s.pci.nextId .badOpcode [] (taken r op d s) := by
  obtain ⟨-, ready, phase, slot⟩ := ht
  have refused : route op d false (taken r op d s) = .refuse .badOpcode := by simp [route, hp, ho]
  simp only [taken, newCmd] at refused ⊢
  simp [takeRing, ready, phase, slot, refused, completeWith]

/-! ### The commands' bodies -/

/-- Flash data that fits a slot which nobody reads or owns is programmed, and the writer owns the slot (R58, R482). -/
theorem imageWriteCmd_programs {d : Desc} {o : Octets} {id : Nat} {s : Dev} (hc : descClean d = true) (ha : d.aux = 0) (hs : d.arg 0 1 ≤ 1)
    (h1 : d.zeroFrom 1 3 = true) (h2 : d.zeroFrom 20 47 = true) (hl : d.arg 16 4 ≠ 0) (hf : d.arg 4 4 + d.arg 16 4 ≤ slotSize s (d.arg 0 1))
    (hp : flashPresent s = true) (hr : slotRead s (d.arg 0 1) = false) (ho : slotOwned s (d.arg 0 1) false = false) :
    imageWriteCmd d (some o) true id s = complete id .ok (toLe 4 (d.arg 16 4))
      (slotProgram (d.arg 0 1) (d.arg 4 4) (padTo (d.arg 16 4) o) (slotOwn (d.arg 0 1) false s)) := by
  simp [imageWriteCmd, hc, ha, Nat.not_lt.mpr hs, h1, h2, hl, Nat.not_lt.mpr hf, hp, hr, ho]

/-- A range of entries that reaches host memory completes with the number of entries and the write count, those that fail parity as 0xFF (R92, R148). -/
theorem ledgerReadCmd_reads {d : Desc} {bad : List Nat} {id : Nat} {s : Dev} (hc : descClean d = true) (ha : d.aux = 0) (hm : 1 ≤ d.arg 12 4)
    (hx : d.arg 12 4 ≤ 65536) (hz : d.zeroFrom 16 47 = true) :
    let i := d.arg 8 4
    let es := (ledgerRange s i (d.arg 12 4)).zipIdx.map (fun p => if bad.contains ((i + p.2) % 2 ^ 32) then List.replicate 32 0xFF else p.1)
    let u := if (upTo es.length).any (fun j => bad.contains ((i + j) % 2 ^ 32)) then occur 0x0B2 {} s else s
    let v := if es.isEmpty then u else u.emit (.dma 9 (d.arg 0 8) es.flatten)
    ledgerReadCmd d true bad id s = complete id .ok (toLe 4 es.length ++ toLe 4 (v.reg Reg.ldgWrCount).toNat) v := by
  have some : d.arg 12 4 ≠ 0 := by omega
  simp only [ledgerReadCmd, hc, ha, some, Nat.not_lt.mpr hx, hz, not_true_eq_false, ne_eq, or_self, if_false, true_or, if_true]

/-- A correction is judged, and its code answers (R409). -/
theorem timeStepCmd_answers {d : Desc} {id : Nat} {s : Dev} (hc : descClean d = true) (ha : d.aux = 0) (hf : d.arg 8 1 ≤ 1)
    (hz : d.zeroFrom 9 47 = true) :
    let x := correct (signed 64 (d.arg 0 8)) ((d.arg 8 1).testBit 0) 1 s
    timeStepCmd d id s = complete id (if x.1 ≤ 1 then .ok else .refused) [BitVec.ofNat 8 x.1] x.2 := by
  have flag : ¬ 2 ≤ d.arg 8 1 := by omega
  simp [timeStepCmd, hc, ha, flag, hz]

theorem lcNonceCmd_issues {d : Desc} {id : Nat} {s : Dev} (hc : descClean d = true) (ha : d.aux = 0) (hz : d.zeroFrom 0 47 = true) :
    lcNonceCmd d id s = complete id .ok (newNonce s).1 (newNonce s).2 := by
  simp [lcNonceCmd, hc, ha, hz]

theorem nopCmd_completes {d : Desc} {id : Nat} {s : Dev} (hc : descClean d = true) (ha : d.aux = 0) (hz : d.zeroFrom 0 47 = true) :
    nopCmd d id s = complete id .ok [] s := by
  simp [nopCmd, hc, ha, hz, completeWith]

/-- EVENT_TEST completes, then posts its event and records source 0x0C6 with the data's first eight octets (R148). -/
theorem eventTestCmd_posts {d : Desc} {id : Nat} {s : Dev} (hc : descClean d = true) (ha : d.aux = 0) (hz : d.zeroFrom 12 47 = true) :
    let u := complete id .ok [] s
    eventTestCmd d id s = occur 0x0C6 { data := octs d.params 0 8 }
      (postEvent (d.evr.toNat % 4) (eventOf u 0x0C6 1 none (octs d.params 0 12)) u) := by
  have first : (octs d.params 0 12).take 8 = octs d.params 0 8 := by simp [octs, List.take_take]
  simp only [eventTestCmd, hc, ha, hz, first, not_true_eq_false, ne_eq, or_self, if_false, completeWith]

/-- Settles O19: each command is taken here, and completes as its body says. -/
theorem deviceCommandsComplete : Obligations.DeviceCommandsComplete := by
  unfold Obligations.DeviceCommandsComplete
  refine ⟨?imageWrite, ?ledgerRead, ?timeStep, ?nonce, ?nop, ?eventTest, ?badOpcode⟩
  case imageWrite =>
    intro r d o s hn ht hc ha hs h1 h2 hl T hf hp hr ho
    exact runRing_here hn ht (imageWriteCmd_programs hc ha hs h1 h2 hl hf hp hr ho)
  case ledgerRead =>
    intro r d bad s hn ht hc ha hm hx hz
    exact runRing_here hn ht (ledgerReadCmd_reads hc ha hm hx hz)
  case timeStep =>
    intro r d s hn ht hc ha hf hz
    exact runRing_here hn ht (timeStepCmd_answers hc ha hf hz)
  case nonce =>
    intro r d s hn ht hc ha hz
    exact runRing_here hn ht (lcNonceCmd_issues hc ha hz)
  case nop =>
    intro r d s hn ht hc ha hz
    exact runRing_here hn ht (nopCmd_completes hc ha hz)
  case eventTest =>
    intro r d s hn ht hc ha hz
    exact runRing_here hn ht (eventTestCmd_posts hc ha hz)
  case badOpcode =>
    intro r op d s hn ht ho _ hp
    have ⟨whole, _⟩ := ht
    change (if Desc.whole d then run (badOpcodeTake r.val op.toNat d) s else .fault .malformedDescriptor) = _
    rw [if_pos whole]
    refine run_ends hn ?_
    rw [badOpcodeTake, if_pos ho, takeRing_badOpcode ht ho hp]

end Sys2Proof.Proofs
end

section
/-! PROOFS. The life cycle (R60 to R62): a request for a transition, from a ring and from the Night Desk. -/

namespace Sys2Proof.Proofs

set_option Elab.async false

open Sys2Proof.Machine Sys2Proof.Laws

/-! ### The request -/

/-- The device whose nonce a request has used up: in BLANK there is none to use. -/
def nonceUsed (f : Fuses) (s : Dev) : Dev := if f.state = 0 then s else { s with boot := { s.boot with nonce := none } }

/-- The identity key that a move to PROVISIONED draws, and the device afterwards. -/
def identityDrawn (target : Nat) (s : Dev) : Octets × Dev := if target = 1 then s.drawOctets 48 else ([], s)

theorem nonceUsed_eq (f : Fuses) (s : Dev) :
    (if f.state ≠ 0 then { s with boot := { s.boot with nonce := none } } else s) = nonceUsed f s := by
  by_cases blank : f.state = 0 <;> simp [nonceUsed, blank]

/-- A move that is allowed and authorised, and reads back, uses the nonce up and blows both fuses of its step. -/
theorem lcRequest_accepted {target : Nat} {root token : Octets} {s : State} (hm : lcMove s.fuses target = true)
    (ha : lcAuthorised s.fuses target token s.dev = true) :
    lcRequest target root token true s = (.accepted, { s with
      dev := (identityDrawn target (nonceUsed s.fuses s.dev)).2
      fuses := lcBlow target root (identityDrawn target (nonceUsed s.fuses s.dev)).1 true true s.fuses }) := by
  simp only [lcRequest, hm, ha, nonceUsed_eq, identityDrawn, Bool.and_self, not_true_eq_false, if_false, if_true]

/-- Any other move is refused, and recorded as source 0x019. -/
theorem lcRequest_refused {target : Nat} {root token : Octets} {ok : Bool} {s : State}
    (h : (lcMove s.fuses target && lcAuthorised s.fuses target token s.dev) = false) :
    lcRequest target root token ok s = (.refused, { s with dev := occur 0x019 {} (nonceUsed s.fuses s.dev) }) := by
  simp only [lcRequest, h, nonceUsed_eq, Bool.false_eq_true, not_false_eq_true, if_true]

/-! ### From a ring -/

/-- An LC_TRANSITION that is taken here runs on the fuses. -/
theorem exec_lcTransition {r : Fin 4} {d : Desc} {token : Option Octets} {ok : Bool} {s : State} {m : PendingCmd} (hn : noInjection s)
    (ht : takesHere r 0x18 d s.dev) (hf : findCmd (taken r 0x18 d s.dev) s.dev.pci.nextId = some m) :
    exec (.lcTransition r d token ok) s =
      .next (settle (lcTransitionRun d token ok s.dev.pci.nextId { s with dev := taken r 0x18 d s.dev })) := by
  have ⟨⟨whole, _⟩, _⟩ := ht
  change (if Desc.whole d then runFuses (lcTransitionRing r.val d token ok) s else .fault .malformedDescriptor) = _
  rw [if_pos whole, runFuses_of_noInjection _ s hn]
  simp only [lcTransitionRing, takeRing_here r 0x18 d _ _ s.dev ht, hf]

theorem lcTransitionRun_accepted {d : Desc} {token : Option Octets} {id : Nat} {s : State} (hc : descClean d = true) (ha : d.aux.toNat / 4 = 0)
    (hz : fld d.aux 0 2 = 1 ∨ d.zeroFrom 8 47 = true) (hm : lcMove s.fuses (fld d.aux 0 2) = true)
    (ht : s.fuses.state = 0 ∨ token.isSome = true) (hv : lcAuthorised s.fuses (fld d.aux 0 2) (token.getD []) s.dev = true) :
    let z := identityDrawn (fld d.aux 0 2) (nonceUsed s.fuses s.dev)
    let f := lcBlow (fld d.aux 0 2) (d.octs 0 48) z.1 true true s.fuses
    lcTransitionRun d token true id s = { s with dev := lifeCycleReset f (complete id .ok [0] z.2), fuses := f } := by
  have params : ¬ (¬ descClean d ∨ d.aux.toNat / 4 ≠ 0 ∨ (fld d.aux 0 2 ≠ 1 ∧ ¬ d.zeroFrom 8 47)) := by grind
  have read : ¬ (lcMove s.fuses (fld d.aux 0 2) ∧ s.fuses.state ≠ 0 ∧ token.isNone) := by cases token <;> grind
  simp only [lcTransitionRun, if_neg params, if_neg read, lcRequest_accepted hm hv]

theorem lcTransitionRun_refused {d : Desc} {token : Option Octets} {ok : Bool} {id : Nat} {s : State} (hc : descClean d = true)
    (ha : d.aux.toNat / 4 = 0) (hz : fld d.aux 0 2 = 1 ∨ d.zeroFrom 8 47 = true)
    (hv : lcMove s.fuses (fld d.aux 0 2) = true → token.isSome = true ∧ lcAuthorised s.fuses (fld d.aux 0 2) (token.getD []) s.dev = false) :
    lcTransitionRun d token ok id s = { s with dev := complete id .refused [1] (occur 0x019 {} (nonceUsed s.fuses s.dev)) } := by
  have params : ¬ (¬ descClean d ∨ d.aux.toNat / 4 ≠ 0 ∨ (fld d.aux 0 2 ≠ 1 ∧ ¬ d.zeroFrom 8 47)) := by grind
  have read : ¬ (lcMove s.fuses (fld d.aux 0 2) ∧ s.fuses.state ≠ 0 ∧ token.isNone) := by cases token <;> grind
  have not : (lcMove s.fuses (fld d.aux 0 2) && lcAuthorised s.fuses (fld d.aux 0 2) (token.getD []) s.dev) = false := by grind
  simp only [lcTransitionRun, if_neg params, if_neg read, lcRequest_refused not]

/-! ### From the Night Desk -/

/-- The form of a request: a target of R59, and 48 octets of root hash or 96 of token. -/
theorem nightForm {target n m : Nat} (ht : target ≤ 3) (hl : n = m) : ¬ (3 < target ∨ n ≠ m) := by omega

theorem exec_ndLcTransition {ok : Bool} {s : State} (hn : noInjection s) :
    exec (.ndLcTransition ok) s = .next (settle (ndLcTransition ok s)) := runFuses_of_noInjection _ s hn

/-- A request of the right form is a request for the transition that it names, and one that is accepted ends in a life-cycle reset. -/
theorem ndLcTransition_accepted {q : NdReq} {ok : Bool} {s u : State} (hq : nightHead s.dev (· == 14) = some q) (hs : s.dev.pwr.shutdown = false)
    (ht : oct q.body 0 ≤ 3) (hl : q.body.length = (if oct q.body 0 = 1 then 49 else 97))
    (hu : lcRequest (oct q.body 0) (octs q.body 1 48) (octs q.body 1 96) ok s = (.accepted, u)) :
    ndLcTransition ok s = { u with dev := lifeCycleReset u.fuses (nightEnd q 0 [0] u.dev) } := by
  simp only [ndLcTransition, hq, if_neg (nightForm ht hl), hs, hu, Bool.false_eq_true, if_false]

theorem ndLcTransition_refused {q : NdReq} {ok : Bool} {s u : State} (hq : nightHead s.dev (· == 14) = some q) (hs : s.dev.pwr.shutdown = false)
    (ht : oct q.body 0 ≤ 3) (hl : q.body.length = (if oct q.body 0 = 1 then 49 else 97))
    (hu : lcRequest (oct q.body 0) (octs q.body 1 48) (octs q.body 1 96) ok s = (.refused, u)) :
    ndLcTransition ok s = { u with dev := nightEnd q 7 [1] (fastOscRun u.dev) } := by
  simp only [ndLcTransition, hq, if_neg (nightForm ht hl), hs, hu, Bool.false_eq_true, if_false]

/-- Either fuse of a step counts as the step (R62). -/
theorem state_of_fuse (f : Fuses) : 2 ≤ ({ f with deplA := true } : Fuses).state ∧ 2 ≤ ({ f with deplB := true } : Fuses).state ∧
    ({ f with retdA := true } : Fuses).state = 3 ∧ ({ f with retdB := true } : Fuses).state = 3 := by
  refine ⟨?_, ?_, ?_, ?_⟩ <;> simp only [Fuses.state] <;> grind

/-- Settles O23: from a ring and from the Night Desk, a move that is allowed and authorised is made, and any other refused. -/
theorem lifeCycleMovesForward : Obligations.LifeCycleMovesForward := by
  unfold Obligations.LifeCycleMovesForward
  refine ⟨?accepted, ?refused, ?nightAccepted, ?nightRefused, state_of_fuse⟩
  case accepted =>
    intro r d token s m hn ht T target hc ha hz hf hm hk hv
    rw [exec_lcTransition hn ht hf, lcTransitionRun_accepted (s := { s with dev := T }) hc ha hz hm hk hv]
    rfl
  case refused =>
    intro r d token ok s m hn ht T target hc ha hz hf hv
    rw [exec_lcTransition hn ht hf, lcTransitionRun_refused (s := { s with dev := T }) hc ha hz hv]
    rfl
  case nightAccepted =>
    intro q s hn hq hs target ht hl hm hv
    rw [exec_ndLcTransition hn, ndLcTransition_accepted hq hs ht hl (lcRequest_accepted hm hv)]
    rfl
  case nightRefused =>
    intro q ok s hn hq hs target ht hl hv
    rw [exec_ndLcTransition hn, ndLcTransition_refused hq hs ht hl (lcRequest_refused hv)]
    rfl

end Sys2Proof.Proofs
end

section
/-! PROOFS. What the Night Desk does (R60, R409, R480 to R483, R528, R539): the request at the head of its queue, by its opcode. -/

namespace Sys2Proof.Proofs

set_option Elab.async false

open Sys2Proof.Machine Sys2Proof.Laws

/-! ### DOMAIN and RESET (R481, R482) -/

section
variable {q : NdReq} {s : Dev}

theorem ndDomain_on {d : Byte} (hq : nightHead s (· == 7) = some q) (hb : q.body = [d, 1]) (h1 : 1 ≤ d.toNat) (h29 : d.toNat ≤ 29) :
    ndDomain s = nightEnd q 0 [] (domainForce d.toNat (nightAction 7 s)) := by
  have some : d.toNat ≠ 0 := by omega
  simp [ndDomain, hq, hb, oct, some, Nat.not_lt.mpr h29]

theorem ndDomain_off {d : Byte} (hq : nightHead s (· == 7) = some q) (hb : q.body = [d, 0]) (h1 : 1 ≤ d.toNat) (h29 : d.toNat ≤ 29) :
    ndDomain s = nightEnd q 0 [] (domainCut d.toNat (nightAction 7 s)) := by
  have some : d.toNat ≠ 0 := by omega
  simp [ndDomain, hq, hb, oct, some, Nat.not_lt.mpr h29]

theorem ndReset_domain {f : Fuses} {d : Byte} (hq : nightHead s (· == 8) = some q) (hb : q.body = [d]) (h1 : 1 ≤ d.toNat) (h29 : d.toNat ≤ 29) :
    ndReset f s = nightEnd q 0 [] (domainReset d.toNat (nightAction 8 s)) := by
  have some : d.toNat ≠ 0 := by omega
  simp [ndReset, hq, hb, oct, some, Nat.not_lt.mpr h29]

/-- The chip restarts; a host reset that falls due with it leaves its bit too (R482). -/
theorem ndReset_chip {f : Fuses} (hq : nightHead s (· == 8) = some q) (hb : q.body = [0])
    (hr : ∀ t, (nightAction 8 s).boot.resetAt = some t → (nightAction 8 s).cycles < t) :
    ndReset f s = warmReset 3 f (nightEnd q 0 [] (nightAction 8 s)) := by
  simp only [ndReset, hq, hb]
  cases reset : (nightAction 8 s).boot.resetAt with
  | none => simp [oct]
  | some t => simp [oct, Nat.not_le.mpr (hr t reset)]

theorem ndReset_both {f : Fuses} {t : Nat} (hq : nightHead s (· == 8) = some q) (hb : q.body = [0])
    (hr : (nightAction 8 s).boot.resetAt = some t) (ht : t ≤ (nightAction 8 s).cycles) :
    ndReset f s = causeBit 4 (warmReset 3 f (nightEnd q 0 [] (nightAction 8 s))) := by
  simp [ndReset, hq, hb, oct, hr, ht]

/-! ### Images and BOOT_RETRY (R480) -/

/-- A request for a slot that somebody reads or owns is turned away. -/
theorem ndImageBegin_busy {b : Byte} {ok : Bool} (hq : nightHead s (· == 9) = some q) (hs : s.pwr.shutdown = false) (hb : q.body = [b])
    (h1 : b.toNat ≤ 1) (hf : slotRead s b.toNat = true ∨ slotOwned s b.toNat true = true) : ndImageBegin ok s = nightEnd q 5 [] s := by
  simp [ndImageBegin, hq, hs, hb, oct, Nat.not_lt.mpr h1, hf]

/-- A slot that is free is owned, whatever the flash then does. -/
theorem ndImageBegin_fails {b : Byte} {ok : Bool} (hq : nightHead s (· == 9) = some q) (hs : s.pwr.shutdown = false) (hb : q.body = [b])
    (h1 : b.toNat ≤ 1) (hr : slotRead s b.toNat = false) (ho : slotOwned s b.toNat true = false)
    (hf : flashPresent (slotOwn b.toNat true (nightAction 9 s)) = false ∨ ok = false) :
    ndImageBegin ok s = nightEnd q 8 [] (slotOwn b.toNat true (nightAction 9 s)) := by
  simp [ndImageBegin, hq, hs, hb, oct, Nat.not_lt.mpr h1, hr, ho, hf]

theorem ndImageBegin_erases {b : Byte} (hq : nightHead s (· == 9) = some q) (hs : s.pwr.shutdown = false) (hb : q.body = [b])
    (h1 : b.toNat ≤ 1) (hr : slotRead s b.toNat = false) (ho : slotOwned s b.toNat true = false)
    (hf : flashPresent (slotOwn b.toNat true (nightAction 9 s)) = true) :
    let e := (slotOwn b.toNat true (nightAction 9 s)).emit (.erase b.toNat)
    ndImageBegin true s = nightEnd q 0 []
      { e with boot := { e.boot with erased := ⟨b.toNat, []⟩ :: e.boot.erased.filter (fun x => x.slot != b.toNat) } } := by
  simp [ndImageBegin, hq, hs, hb, oct, Nat.not_lt.mpr h1, hr, ho, hf]

/-- A request of the right form writes into an area erased before, of a slot that is free. -/
theorem ndImageWrite_owns {ok : Bool} (hq : nightHead s (· == 10) = some q) (hs : s.pwr.shutdown = false) (h1 : oct q.body 0 ≤ 1)
    (h0 : 0 < be q.body 5 4) (hx : be q.body 5 4 ≤ 1024) (hl : q.body.length = 9 + be q.body 5 4) (ha : be q.body 1 4 % 4 = 0)
    (he : slotErased s (oct q.body 0) (be q.body 1 4) (be q.body 5 4) = true) (hr : slotRead s (oct q.body 0) = false)
    (ho : slotOwned s (oct q.body 0) true = false) :
    let d := slotOwn (oct q.body 0) true (nightAction 10 s)
    ndImageWrite ok s = if flashPresent d = true ∧ ok = true then
      nightEnd q 0 (toBe 4 (be q.body 5 4)) (slotProgram (oct q.body 0) (be q.body 1 4) (q.body.drop 9) d) else nightEnd q 8 [] d := by
  have form : ¬ (q.body.length < 9 ∨ 1 < oct q.body 0 ∨ be q.body 5 4 = 0 ∨ 1024 < be q.body 5 4 ∨ q.body.length ≠ 9 + be q.body 5 4 ∨
      be q.body 1 4 % 4 ≠ 0 ∨ ¬ slotErased s (oct q.body 0) (be q.body 1 4) (be q.body 5 4)) := by
    simp only [he, not_true_eq_false, or_false]
    omega
  simp only [ndImageWrite, hq, if_neg form, hs, hr, ho, Bool.or_self, Bool.false_eq_true, if_false]
  grind

theorem ndBootRetry_waiting (hq : nightHead s (· == 11) = some q) (hs : s.pwr.shutdown = false) (hb : q.body = []) (hp : s.phase = 9) :
    ndBootRetry s = bootRetry (nightEnd q 0 [] (fastOscRun s)) := by
  simp [ndBootRetry, hq, hs, hb, hp]

theorem ndBootRetry_elsewhere (hq : nightHead s (· == 11) = some q) (hs : s.pwr.shutdown = false) (hb : q.body = []) (hp : s.phase ≠ 9) :
    ndBootRetry s = nightEnd q 7 [0] s := by
  simp [ndBootRetry, hq, hs, hb, hp]

/-- After a thermal shutdown BOOT stays off (R528). -/
theorem ndBootRetry_shutdown (hq : nightHead s (· == 11) = some q) (hs : s.pwr.shutdown = true) (hb : q.body = []) :
    ndBootRetry s = nightEnd q 6 [] s := by
  simp [ndBootRetry, hq, hs, hb]

/-! ### TIME_STEP, LC_NONCE and SELF_TEST (R60, R409, R539) -/

theorem ndTimeStep_answers (hq : nightHead s (· == 12) = some q) (hl : q.body.length = 9) (h1 : oct q.body 8 ≤ 1) (h26 : s.domainOn 26 = true)
    (h25 : s.domainOn 25 = true) :
    let r := correct (signed 64 (be q.body 0 8)) (oct q.body 8 == 1) 2 (fastOscRun s)
    ndTimeStep s = nightEnd q (if r.1 ≤ 1 then 0 else 7) [BitVec.ofNat 8 r.1] r.2 := by
  simp only [ndTimeStep, hq, hl, Nat.not_lt.mpr h1, h26, h25, ne_eq, not_true_eq_false, or_self, if_false]

theorem ndLcNonce_issues (hq : nightHead s (· == 13) = some q) (hs : s.pwr.shutdown = false) (hb : q.body = []) :
    ndLcNonce s = nightEnd q 0 (newNonce s).1 (fastOscRun (newNonce s).2) := by
  simp [ndLcNonce, hq, hs, hb]

theorem ndLcNonce_shutdown (hq : nightHead s (· == 13) = some q) (hs : s.pwr.shutdown = true) (hb : q.body = []) :
    ndLcNonce s = nightEnd q 6 [] s := by
  simp [ndLcNonce, hq, hs, hb]

/-- Octets that are cut or filled to a length have it. -/
theorem length_padTo (n : Nat) (o : Octets) : (padTo n o).length = n := by
  simp only [padTo, zeros, List.length_append, List.length_take, List.length_replicate]
  omega

theorem ndSelfTest_begins {m : TestMeasure} (hq : nightHead s (· == 15) = some q) (hl : q.body.length = 28)
    (hp : testParamsOk (padTo 48 q.body) = true)
    (hd : (testDomains ⟨oct (padTo 48 q.body) 0, oct (padTo 48 q.body) 1⟩).all s.domainOn = true) (ha : testAsk (padTo 48 q.body) s = .ok) :
    let d := testBegin (padTo 48 q.body) m none true (fastOscRun s)
    ndSelfTest (fun _ => true) m s = { d with night := { d.night with testing := true } } := by
  simp only [ndSelfTest, hq, hl, hp, hd, ha, ne_eq, not_true_eq_false, or_self, if_false]

theorem ndSelfTest_refused {m : TestMeasure} {c : Nat} (hq : nightHead s (· == 15) = some q) (hl : q.body.length = 28)
    (hp : testParamsOk (padTo 48 q.body) = true)
    (hd : (testDomains ⟨oct (padTo 48 q.body) 0, oct (padTo 48 q.body) 1⟩).all s.domainOn = true)
    (ha : testAsk (padTo 48 q.body) s = .refused c) :
    ndSelfTest (fun _ => true) m s = nightEnd q 7 [BitVec.ofNat 8 c] s := by
  simp only [ndSelfTest, hq, hl, hp, hd, ha, ne_eq, not_true_eq_false, or_self, if_false]

end

/-- Settles O44: each clause is one opcode of the request at the head of the queue, with a body that its function takes. -/
theorem nightDeskActs : Obligations.NightDeskActs := by
  unfold Obligations.NightDeskActs
  refine ⟨?on, ?off, ?reset, ?chip, ?erases, ?busy, ?fails, ?writes, ?retry, ?noRetry, ?shutdown, ?timeStep, ?nonce, ?test, ?testRefused⟩
  case on =>
    intro q s d hn hq hb h1 h29
    exact run_ends hn (ndDomain_on hq hb h1 h29)
  case off =>
    intro q s d hn hq hb h1 h29
    exact run_ends hn (ndDomain_off hq hb h1 h29)
  case reset =>
    intro q s d hn hq hb h1 h29
    exact run_ends hn (ndReset_domain hq hb h1 h29)
  case chip =>
    intro q s hn hq hb
    exact ⟨fun hr => run_ends hn (ndReset_chip hq hb hr), fun t hr ht => run_ends hn (ndReset_both hq hb hr ht)⟩
  case erases =>
    intro q s b hn hq hs hb h1 hr ho d hf
    exact run_ends hn (ndImageBegin_erases hq hs hb h1 hr ho hf)
  case busy =>
    intro q s b hn hq hs hb h1 hf ok
    exact run_ends hn (ndImageBegin_busy hq hs hb h1 hf)
  case fails =>
    intro q s b ok hn hq hs hb h1 hr ho d hf
    exact run_ends hn (ndImageBegin_fails hq hs hb h1 hr ho hf)
  case writes =>
    intro q s hn hq hs slot off n h1 h0 hx hl ha he hr ho d
    refine ⟨fun hf => run_ends hn ?_, run_ends hn ?_⟩
    · rw [ndImageWrite_owns hq hs h1 h0 hx hl ha he hr ho, if_pos ⟨hf, rfl⟩]
    · rw [ndImageWrite_owns hq hs h1 h0 hx hl ha he hr ho, if_neg (fun h => Bool.false_ne_true h.2)]
  case retry =>
    intro q s hn hq hs hb hp
    exact run_ends hn (ndBootRetry_waiting hq hs hb hp)
  case noRetry =>
    intro q s hn hq hs hb hp
    exact run_ends hn (ndBootRetry_elsewhere hq hs hb hp)
  case shutdown =>
    intro q c op s hn hc hq hb hs
    simp only [List.mem_cons, Prod.mk.injEq, List.not_mem_nil, or_false] at hc
    obtain ⟨rfl, rfl⟩ | ⟨rfl, rfl⟩ := hc
    · exact run_ends hn (ndBootRetry_shutdown hq hs hb)
    · exact run_ends hn (ndLcNonce_shutdown hq hs hb)
  case timeStep =>
    intro q s hn hq hl h1 h26 h25
    exact run_ends hn (ndTimeStep_answers hq hl h1 h26 h25)
  case nonce =>
    intro q s hn hq hs hb
    exact ⟨(newNonce s.dev).1, s.dev.free + 1, length_padTo 16 _, run_ends hn (ndLcNonce_issues hq hs hb)⟩
  case test =>
    intro q m s hn hq hl p hp hd ha
    exact run_ends hn (ndSelfTest_begins hq hl hp hd ha)
  case testRefused =>
    intro q m s c hn hq hl p hp hd ha
    exact run_ends hn (ndSelfTest_refused hq hl hp hd ha)

end Sys2Proof.Proofs
end

section
/-! PROOFS. The debug window (R552, R59): what a read and a write of it come to, shut, refused and served. -/

namespace Sys2Proof.Proofs

set_option Elab.async false

open Sys2Proof.Machine Sys2Proof.Laws

section
variable {by_ : Requester} {off : Nat} {s : Dev}

/-- A window that is shut reads zero. -/
theorem debugRead_shut (b : Bool) (hr : reaches by_ s = true) (hs : s.rbit Reg.glbDbgStatus 0 = false) :
    debugRead by_ off b s = (debugStatus false false s).emit (.read by_ (0x800000 + off / 4 * 4) 0) := by
  simp [debugRead, debugShut, hr, hs]

/-- An access to a tile that sleeps is refused and counted. -/
theorem debugWrite_asleep (v : Word) (hr : reaches by_ s = true) (hs : s.rbit Reg.glbDbgStatus 0 = true) (ha : debugAwake s = false) :
    debugWrite by_ off v s = debugStatus true false (s.bump Reg.glbBadAccess) := by
  simp [debugWrite, debugShut, debugRefuse, hr, hs, ha]

/-- Data memory of a tile that is awake reads as it stands. -/
theorem debugRead_data (b : Bool) (hr : reaches by_ s = true) (hs : s.rbit Reg.glbDbgStatus 0 = true) (ha : debugAwake s = true)
    (hd : off < 0x280000) :
    debugRead by_ off b s =
      (debugStatus false b (debugWord off s).2).emit (.read by_ (0x800000 + off / 4 * 4) (debugWord off s).1.toNat) := by
  have data : debugData off = true := decide_eq_true hd
  simp [debugRead, debugShut, hr, hs, ha, data]

/-- Data memory above the resident area, of a tile that is fenced and holds no channel, is written. -/
theorem debugWrite_data (v : Word) (hr : reaches by_ s = true) (hs : s.rbit Reg.glbDbgStatus 0 = true) (ha : debugAwake s = true)
    (hl : residentSize ≤ off) (hd : off < 0x280000) (hf : s.rbit (Reg.tileCtrl (debugTile s)) 0 = true)
    (hc : s.rfld (Reg.tileChCount (debugTile s)) 0 16 = 0) :
    debugWrite by_ off v s = debugStatus false false { s with
      tileMem := (upTo 4).foldl (fun m i => tilePut s.tileUsed m (tileAddr (debugTile s) (off / 4 * 4) + i)
        (BitVec.ofNat 8 (v.toNat / 2 ^ (8 * i)))) s.tileMem } := by
  have data : debugData off = true := decide_eq_true hd
  have notInstr : debugInstr off = false := by
    rw [debugInstr, decide_eq_false (by omega), Bool.false_and]
  simp only [debugWrite, debugShut, hr, hs, ha, data, notInstr, Nat.not_lt.mpr hl, hf, hc, not_true_eq_false, Bool.not_true, Bool.false_eq_true, ne_eq,
    or_self, if_false]

end

/-- Settles O50: a window that is shut, a tile that sleeps, and data memory that is read and written. -/
theorem debugWindowShowsTileMemory : Obligations.DebugWindowShowsTileMemory := by
  unfold Obligations.DebugWindowShowsTileMemory
  refine ⟨?shut, ?asleep, ?read, ?write⟩
  case shut =>
    intro by_ off b s hn hr hs
    exact run_ends hn (debugRead_shut b hr hs)
  case asleep =>
    intro by_ off v s hn hr hs ha
    exact run_ends hn (debugWrite_asleep v hr hs ha)
  case read =>
    intro by_ off b s hn hr hs ha hd r
    exact run_ends hn (debugRead_data b hr hs ha hd)
  case write =>
    intro by_ off v s hn hr hs ha hl hd t hf hc
    exact run_ends hn (debugWrite_data v hr hs ha hl hd hf hc)

end Sys2Proof.Proofs
end

section
/-! PROOFS. Channel commands (R127, R149, R152, R156, R157): a command meets its channel, and MODIFY, STATS, MIGRATE and QUERY act on an open one. -/

namespace Sys2Proof.Proofs

set_option Elab.async false

open Sys2Proof.Machine Sys2Proof.Laws

/-! ### A command meets its channel (R156) -/

section
variable {d : Desc} {c : Nat} {k : Channel} {s : Dev}

/-- A channel takes a command of its owner unless it is closing, or migrating under a command that waits for migrations. -/
theorem chanState_eq_none_iff {served : Bool} (hk : s.chan? (fld d.channel 0 16) = some k) :
    chanState d served s = none ↔ k.owner = descHid d ∧ k.st ≠ .closing ∧ (k.migrate = none ∨ served = true) := by
  unfold chanState
  rw [hk]
  by_cases owner : k.owner = descHid d
  · cases migrate : k.migrate <;> cases st : k.st <;> simp [owner, st, migrate]
  · simp [owner]

/-- A channel command whose fields pass acts on its open channel, whether or not a migration stops it. -/
theorem onChannel_acts {act : Nat → Channel → Dev → Dev} (ho : onOpen d c k s) (id : Nat) (served : Bool) {ok : Bool} (hok : ok = true) :
    onChannel d id served ok act s = act c k s := by
  obtain ⟨rfl, free, hk, clean⟩ := ho
  obtain ⟨owner, live, still⟩ := (chanState_eq_none_iff hk).mp free
  have meets : chanState d served s = none := (chanState_eq_none_iff hk).mpr ⟨owner, live, still.imp_right (by simp)⟩
  simp [onChannel, meets, hk, clean, hok]

/-- An open channel is its commander's own, and is not closing. -/
theorem owner_of_onOpen (ho : onOpen d c k s) : k.owner = descHid d ∧ k.st ≠ .closing := by
  obtain ⟨rfl, free, hk, -⟩ := ho
  obtain ⟨owner, live, -⟩ := (chanState_eq_none_iff hk).mp free
  exact ⟨owner, live⟩

/-! ### MODIFY, STATS, MIGRATE and QUERY -/

/-- Parameters that pass and are admitted replace the old ones, with their charge (R152). -/
theorem modifyCmd_admitted (id : Nat) (ho : onOpen d c k s) (hm : maskOk d.aux.toNat = true) (h1 : allZero (octs d.params 30 2) = true)
    (h2 : allZero (octs d.params 36 12) = true) (hp : paramsOk s k.template (mergeParams d.aux.toNat k.params d.params) = true)
    (ha : modifyAdmits s c k (mergeParams d.aux.toNat k.params d.params) = true) :
    let p := mergeParams d.aux.toNat k.params d.params
    modifyCmd d id s = catalogueNow c (completeWith id .ok (refreshRec (refreshLoads (k.home / 16)
      (s.setChan c { k with params := p, charge := chargeOf s.epochs.cur.cost k.template p })))) := by
  rw [modifyCmd, onChannel_acts ho id false rfl]
  simp [hm, h1, h2, hp, ha]

/-- The fields of a STATS descriptor pass (R157). -/
theorem statsFields (ha : d.aux = 0) (hc : oct d.params 8 ≤ 1) (hz : d.zeroFrom 9 47 = true) :
    (d.aux == 0 && decide (oct d.params 8 ≤ 1) && d.zeroFrom 9 47) = true := by
  simp [ha, hc, hz]

/-- STATS of a running channel waits for the next statistics node (R157). -/
theorem statsCmd_running (id : Nat) (b : Bool) (ho : onOpen d c k s) (hst : k.st = .running) (ha : d.aux = 0) (hc : oct d.params 8 ≤ 1)
    (hz : d.zeroFrom 9 47 = true) :
    statsCmd d b id s = modCmd id (fun m => { m with addr := d.arg 0 8, aux := oct d.params 8, dmaOk := b }) s := by
  rw [statsCmd, onChannel_acts ho id true (statsFields ha hc hz)]
  simp [hst]

/-- A change of a pending command leaves the channels alone. -/
@[simp] theorem modCmd_chan (id : Nat) (f : PendingCmd → PendingCmd) (s : Dev) (c : Nat) : (modCmd id f s).chan? c = s.chan? c := rfl

/-- A block that reaches host memory carries the statistics with the snapshot's tick, and completes STATS (R157). -/
theorem statsServe_written (n : Nat) (m : PendingCmd) (hk : s.chan? c = some k) :
    let k' := { k with shown := { k.shown with snapTick := n } }
    statsServe c n m true s =
      complete m.id .ok (toLe 8 n) ((s.emit (.dma 9 m.addr (statsBlock s c k'))).setChan c (if m.aux = 1 then clearStats k' else k')) := by
  simp [statsServe, hk]

/-- STATS of a channel that is OPEN is served at once, under the number of the last tick (R157). -/
theorem statsCmd_opened {id : Nat} {m : PendingCmd} (ho : onOpen d c k s) (hst : k.st = .opened) (ha : d.aux = 0)
    (hc : oct d.params 8 ≤ 1) (hz : d.zeroFrom 9 47 = true)
    (hm : findCmd (modCmd id (fun m => { m with addr := d.arg 0 8, aux := oct d.params 8, dmaOk := true }) s) id = some m) :
    let u := modCmd id (fun m => { m with addr := d.arg 0 8, aux := oct d.params 8, dmaOk := true }) s
    let n := u.time.lastTick.getD 0
    let k' := { k with shown := { k.shown with snapTick := n } }
    statsCmd d true id s =
      complete m.id .ok (toLe 8 n) ((u.emit (.dma 9 m.addr (statsBlock u c k'))).setChan c (if m.aux = 1 then clearStats k' else k')) := by
  intro u
  have ⟨_, _, hk, _⟩ := ho
  have marked : u.chan? c = some k := (modCmd_chan id _ s c).trans hk
  have served : statsCmd d true id s = statsServe c (u.time.lastTick.getD 0) m true u := by
    rw [statsCmd, onChannel_acts ho id true (statsFields ha hc hz)]
    simp [hst, hm, u]
  exact served.trans (statsServe_written _ m marked)

/-- A channel without a partner and with a flow of its own waits for its migrate node (R127). -/
theorem migrateGo_alone {t : Nat} (hk : s.chan? c = some k) (hp : partnerOf s k = none) (hst : k.st = .running) (ht : t ≠ k.home) :
    migrateGo c t s = some (migrateStart c t s) := by
  simp [migrateGo, migrateNow, hk, hp, hst, ht.symm]

/-- A channel moves to another tile that admits it (R127). -/
theorem migrateCmd_admitted (id : Nat) {u : Dev} (ho : onOpen d c k s) (ha : d.aux = 0) (hz : d.zeroFrom 1 47 = true)
    (ht : oct d.params 0 ≠ k.home) (hm : migrateAdmits s (oct d.params 0) k = true) (hu : migrateGo c (oct d.params 0) s = some u) :
    migrateCmd d id s = u := by
  have ⟨_, _, hk, _⟩ := ho
  have moves : migrateTo c (oct d.params 0) s = some u := by simp [migrateTo, hk, hm, hu]
  rw [migrateCmd, onChannel_acts ho id false (by simp [ha, hz])]
  simp [ht, moves]

/-- A channel that is already there has nothing to move. -/
theorem migrateCmd_home (id : Nat) (ho : onOpen d c k s) (ha : d.aux = 0) (hz : d.zeroFrom 1 47 = true) (ht : oct d.params 0 = k.home) :
    migrateCmd d id s = complete id .ok [BitVec.ofNat 8 k.home] s := by
  rw [migrateCmd, onChannel_acts ho id false (by simp [ha, hz])]
  simp [ht]

/-- QUERY answers the channel's state, and writes its block where it is given an address (R149). -/
theorem queryCmd_answers (id : Nat) (ho : onOpen d c k s) (ha : d.aux = 0) (hz : d.zeroFrom 8 47 = true) :
    queryCmd d true id s = complete id .ok (queryResult k) (if d.arg 0 8 = 0 then s else s.emit (.dma 9 (d.arg 0 8) (queryBlock k))) := by
  obtain ⟨owner, live⟩ := owner_of_onOpen ho
  obtain ⟨rfl, -, hk, clean⟩ := ho
  by_cases address : d.arg 0 8 = 0 <;> simp [queryCmd, hk, owner, live, clean, ha, hz, address]

end

/-- Settles O15: each command is taken here, and its fields pass, so that it acts on its open channel. -/
theorem channelCommandsActOnTheChannel : Obligations.ChannelCommandsActOnTheChannel := by
  unfold Obligations.ChannelCommandsActOnTheChannel
  refine ⟨?modify, ?marked, ?written, ?moves, ?alone, ?home, ?query⟩
  case modify =>
    intro r d s c k hn ht T p ho hm h1 h2 hp ha
    exact runRing_here hn ht (modifyCmd_admitted _ ho hm h1 h2 hp ha)
  case marked =>
    intro r d ok s c k hn ht T ho hst ha hc hz
    exact runRing_here hn ht (statsCmd_running _ ok ho hst ha hc hz)
  case written =>
    intro r d s c k m hn ht T u ho hst ha hc hz hm n k' v
    exact runRing_here hn ht (statsCmd_opened ho hst ha hc hz hm)
  case moves =>
    intro r d s c k u hn ht T ho ha hz hh hm hu
    exact runRing_here hn ht (migrateCmd_admitted _ ho ha hz hh hm hu)
  case alone =>
    intro r d s c k hn ht T ho ha hz hh hm hp hst
    have ⟨_, _, hk, _⟩ := ho
    exact runRing_here hn ht (migrateCmd_admitted _ ho ha hz hh hm (migrateGo_alone hk hp hst hh))
  case home =>
    intro r d s c k hn ht T ho ha hz hh
    exact runRing_here hn ht (migrateCmd_home _ ho ha hz hh)
  case query =>
    intro r d s c k hn ht T ho ha hz
    exact runRing_here hn ht (queryCmd_answers _ ho ha hz)

end Sys2Proof.Proofs
end

section
/-! PROOFS. Legs and CLOSE (R120, R153, R154, R156, R182): a leg joins a channel, is refused or leaves it, and a close begins. -/

namespace Sys2Proof.Proofs

set_option Elab.async false

open Sys2Proof.Machine Sys2Proof.Laws

/-- A descriptor that is tested before it is forwarded runs its body where it is executed here. -/
theorem runRingPre_here {r : Fin 4} {op : Nat} {d : Desc} {pre : Dev → Option (Status × Octets)} {body : Nat → Dev → Dev} {s : State} {e : Dev}
    (hn : noInjection s) (ht : takesHere r op d s.dev) (he : body s.dev.pci.nextId (taken r op d s.dev) = e) :
    runRingPre r op d pre body s = .next (ended s e) := by
  have ⟨⟨whole, _⟩, _⟩ := ht
  rw [runRingPre_whole r op d pre body s whole]
  exact run_ends hn ((takeRing_here r op d pre body s.dev ht).trans he)

/-! ### CONNECT (R153, R154, R182) -/

section
variable {d : Desc} {c : Nat} {k q : Channel} {s : Dev}

/-- A leg that joins completes its CONNECT with the home tile (R148). -/
theorem legEnd_ok (id c : Nat) (s : Dev) : legEnd id c (.ok, s) = catalogueNow c (complete id .ok (homeResult s c) s) := if_pos rfl

theorem legEnd_refused {st : Status} (id c : Nat) (s : Dev) (h : st ≠ .ok) : legEnd id c (st, s) = completeWith id st s := if_neg h

/-- A line leg joins a channel that has none and no pair, where no channel's leg holds a slot of its group (R153). -/
theorem connectLine_joins {l : Nat} (hk : s.chan? c = some k) (hl : lineOk s l = true) (h1 : k.legs.line = none) (h2 : k.legs.partner = none)
    (h3 : hasPair k = false) (hs : ∀ p ∈ s.chans, ∀ m ∈ p.2.legs.line, linesOverlap l m = false) :
    connectLine c l s = (.ok, s.setChan c { nowRunning k with legs := { k.legs with line := some l }, supplied := false
                                                              rfeIn := { k.rfeIn with fresh := true }, rfeOut := { k.rfeOut with fresh := true } }) := by
  simp only [connectLine, hk, hl, not_true_eq_false, if_false]
  refine if_neg ?_
  rintro (line | pair | partner | taken)
  · simp [h1] at line
  · simp [h3] at pair
  · simp [h2] at partner
  · obtain ⟨p, hp, overlap⟩ := List.any_eq_true.mp taken
    split at overlap
    next m line => exact Bool.false_ne_true ((hs p hp m line).symm.trans overlap)
    next => exact Bool.false_ne_true overlap

/-- A packet leg joins a channel that has none, where its session names the channel (R182). -/
theorem connectPacket_joins {i : Nat} (hk : s.chan? c = some k) (hi : i < sessionCount) (h1 : k.legs.session = none)
    (hs : s.leads = true → sessionNames s i (globalId k.owner c) = true) :
    connectPacket c i s = (.ok, s.setChan c { nowRunning k with legs := { k.legs with session := some i } }) := by
  have free : ¬ (k.legs.session.isSome ∨ (s.leads ∧ ¬ sessionNames s i (globalId k.owner c))) := by
    rintro (leg | ⟨leads, other⟩)
    · simp [h1] at leg
    · exact other (hs leads)
  simp only [connectPacket, hk, if_neg (Nat.not_le.mpr hi), if_neg free]

/-- A session that names another channel gives this one no leg (R182). -/
theorem connectPacket_conflicts {i : Nat} (hk : s.chan? c = some k) (hi : i < sessionCount) (hl : s.leads = true)
    (hs : sessionNames s i (globalId k.owner c) = false) : connectPacket c i s = (.legConflict, s) := by
  simp [connectPacket, hk, Nat.not_le.mpr hi, hl, hs]

theorem connectByLeg_line (id : Nat) (ho : onOpen d c k s) (ha : d.aux = 0) (hg : oct d.params 0 = 0) (h0 : d.arg 0 4 = 0)
    (hz : d.zeroFrom 8 47 = true) : connectByLeg d id s = legEnd id c (connectLine c (d.arg 4 4) s) := by
  simp only [connectByLeg, hg, connectLineCmd]
  exact onChannel_acts ho id false (by simp [ha, h0, hz])

theorem connectByLeg_packet (id : Nat) (ho : onOpen d c k s) (ha : d.aux = 0) (hg : oct d.params 0 = 1) (h0 : d.arg 0 4 = 1)
    (hz : d.zeroFrom 8 47 = true) : connectByLeg d id s = legEnd id c (connectPacket c (d.arg 4 4) s) := by
  simp only [connectByLeg, hg, connectPacketCmd]
  exact onChannel_acts ho id false (by simp [ha, h0, hz])

/-- The fields of a CONNECT of a pair pass (R154). -/
theorem pairFields (ha : d.aux = 0) (h0 : d.arg 0 4 = 2) (hx : d.arg 4 4 < 2 ^ 20) (hm : oct d.params 8 ≤ 1) (hz : d.zeroFrom 9 47 = true) :
    (d.aux == 0 && d.arg 0 4 == 2 && decide (d.arg 4 4 < 2 ^ 20) && decide (oct d.params 8 ≤ 1) && d.zeroFrom 9 47) = true := by
  simp only [ha, h0, hx, hm, hz, beq_self_eq_true, decide_true, Bool.and_self]

/-- What two channels must be to stand as a pair: OPEN or RUNNING, in one cluster, of formats that pair, and without line legs (R154). -/
theorem of_pairStands {p : Nat} (hk : s.chan? c = some k) (hq : s.chan? p = some q) (hs : pairStands s c p = true) :
    (k.st = .opened ∨ k.st = .running) ∧ (q.st = .opened ∨ q.st = .running) ∧ k.home / 16 = q.home / 16 ∧ pairRule k q = true ∧
      k.legs.line = none ∧ q.legs.line = none := by
  simp only [pairStands, hk, hq, Bool.and_eq_true, Bool.or_eq_true, beq_iff_eq, Option.isNone_iff_eq_none] at hs
  obtain ⟨⟨⟨⟨⟨⟨hks, hqs⟩, hh⟩, hr⟩, hkl⟩, hql⟩, -⟩ := hs
  exact ⟨hks, hqs, hh, hr, hkl, hql⟩

/-- Channels that stand as a pair, neither of them with a pair leg and the partner not migrating, are joined (R154). -/
theorem connectByLeg_pair (id : Nat) (ho : onOpen d c k s) (hg : oct d.params 0 = 2)
    (hf : (d.aux == 0 && d.arg 0 4 == 2 && decide (d.arg 4 4 < 2 ^ 20) && decide (oct d.params 8 ≤ 1) && d.zeroFrom 9 47) = true)
    (hq : s.chan? (d.arg 4 4 % 0x10000) = some q) (hw : d.arg 4 4 / 0x10000 = q.owner) (hne : d.arg 4 4 % 0x10000 ≠ c)
    (hqm : q.migrate = none) (hkp : hasPair k = false) (hqp : hasPair q = false) (hs : pairStands s c (d.arg 4 4 % 0x10000) = true) :
    connectByLeg d id s = legEnd id c (.ok, catalogueNow (d.arg 4 4 % 0x10000) (pairJoin c (d.arg 4 4 % 0x10000) s)) := by
  have ⟨_, _, hk, _⟩ := ho
  obtain ⟨hks, hqs, hh, hr, hkl, hql⟩ := of_pairStands hk hq hs
  have named : ¬ (d.arg 4 4 / 0x10000 ≠ q.owner ∨ d.arg 4 4 % 0x10000 = c) := by simp [hw, hne]
  have still : ¬ (q.st = .closing ∨ q.migrate.isSome) := by rcases hqs with h | h <;> simp [h, hqm]
  have live : ¬ (q.st = .opening ∨ k.st = .opening) := by rcases hqs with h | h <;> rcases hks with h' | h' <;> simp [h, h']
  have free : ¬ (k.legs.line.isSome ∨ q.legs.line.isSome ∨ hasPair k ∨ hasPair q) := by simp [hkl, hql, hkp, hqp]
  simp only [connectByLeg, hg, connectPairCmd]
  rw [onChannel_acts ho id false hf]
  simp only [hq, if_neg named, if_neg still, if_neg live, if_neg free, hr, not_true_eq_false, if_false, if_pos hh, hs, if_true]

/-- A pair leg is to appear on both channels, which run (R134, R154). -/
theorem pairJoin_eq (c p : Nat) (s : Dev) : pairJoin c p s = (s.modChan c (fun k => nowRunning { k with pairNext := some (some p) })).modChan p
    (fun q => nowRunning { q with pairNext := some (some c) }) := rfl

/-! ### DISCONNECT (R153, R154) -/

/-- The line leg that a channel has is taken off it. -/
theorem disconnectByLeg_line (id : Nat) (ho : onOpen d c k s) (ha : d.aux = 0) (hg : oct d.params 0 = 0) (hz : d.zeroFrom 1 47 = true) :
    disconnectByLeg d id s = if k.legs.line.isSome then
      catalogueNow c (completeWith id .ok (s.setChan c { k with legs := { k.legs with line := none } })) else completeWith id .badParam s := by
  simp only [disconnectByLeg, hg, disconnectCmd]
  rw [onChannel_acts ho id false (by simp [ha, hz])]
  exact ite_not ..

/-- The packet leg that a channel has is taken off it. -/
theorem disconnectByLeg_packet (id : Nat) (ho : onOpen d c k s) (ha : d.aux = 0) (hg : oct d.params 0 = 1) (hz : d.zeroFrom 1 47 = true) :
    disconnectByLeg d id s = if k.legs.session.isSome then
      catalogueNow c (completeWith id .ok (s.setChan c { k with legs := { k.legs with session := none } })) else completeWith id .badParam s := by
  simp only [disconnectByLeg, hg, disconnectCmd]
  rw [onChannel_acts ho id false (by simp [ha, hz])]
  exact ite_not ..

/-- A pair leg, standing or to come, is to leave both channels at their common spawn tick (R154). -/
theorem disconnectByLeg_pair (id : Nat) {p : Nat} (ho : onOpen d c k s) (ha : d.aux = 0) (hg : oct d.params 0 = 2) (hz : d.zeroFrom 1 47 = true)
    (hp : p ≠ noPartner) (hl : (k.legs.partner = some p ∧ k.pairNext = none) ∨ k.pairNext = some (some p)) :
    disconnectByLeg d id s = catalogueNow c (completeWith id .ok
      ((s.modChan c (fun k => { k with pairNext := some none })).modChan p (fun q => { q with pairNext := some none }))) := by
  simp only [disconnectByLeg, hg, disconnectPairCmd]
  rw [onChannel_acts ho id false (by simp [ha, hz])]
  obtain ⟨partner, next⟩ | next := hl
  · simp only [partner, next, if_neg hp]
  · simp only [next, if_neg hp]

/-! ### CLOSE (R120, R156) -/

/-- A channel that spawns, or may come to, begins its close. -/
theorem closeCmd_begins (id : Nat) (b : Bool) (hc : descClean d = true) (ha : d.aux = 0) (hz : d.zeroFrom 8 47 = true)
    (hk : s.chan? (fld d.channel 0 16) = some k) (ho : k.owner = descHid d) (hst : k.st = .opened ∨ k.st = .running) :
    closeCmd d b id s = closeBegin (fld d.channel 0 16) (modCmd id (fun m => { m with addr := d.arg 0 8, dmaOk := b }) s) := by
  rcases hst with h | h <;> simp [closeCmd, hk, ho, h, hc, ha, hz]

/-- A channel that waits for its cluster goes at once, and its OPEN is cancelled (R156). -/
theorem closeCmd_cancels (id : Nat) (b : Bool) (hc : descClean d = true) (ha : d.aux = 0) (hz : d.zeroFrom 8 47 = true)
    (hk : s.chan? (fld d.channel 0 16) = some k) (ho : k.owner = descHid d) (hst : k.st = .opening) :
    let u := (cmdsOn s 1 (globalId k.owner (fld d.channel 0 16))).foldl (fun s m => completeWith m.id .cancelled s) s
    closeCmd d b id s = complete id .ok (zeros 16) (refreshLoads (k.home / 16) { u with chans := kvDel u.chans (fld d.channel 0 16) }) := by
  simp [closeCmd, hk, ho, hst, hc, ha, hz]

/-- A channel that is closing is busy, whatever else the descriptor says. -/
theorem closeCmd_busy (id : Nat) (b : Bool) (hk : s.chan? (fld d.channel 0 16) = some k) (ho : k.owner = descHid d) (hst : k.st = .closing) :
    closeCmd d b id s = completeWith id .busy s := by
  simp [closeCmd, hk, ho, hst]

end

/-- Settles O16: each command is taken here, LEG chooses its body, and the leg's own rule its end. -/
theorem legsJoinAndLeaveUntilClose : Obligations.LegsJoinAndLeaveUntilClose := by
  unfold Obligations.LegsJoinAndLeaveUntilClose
  refine ⟨?line, ?packet, ?conflict, ?pair, ?lineOff, ?packetOff, ?pairOff, ?closes, ?cancels, ?busy⟩
  case line =>
    intro r d s c k hn ht T l ho ha hg h0 hz hl h1 h2 h3 hs u
    have ⟨_, _, hk, _⟩ := ho
    refine runRingPre_here hn ht ?_
    rw [connectByLeg_line _ ho ha hg h0 hz, connectLine_joins hk hl h1 h2 h3 hs, legEnd_ok]
  case packet =>
    intro r d s c k hn ht T ho ha hg h0 hz hi h1 hs u
    have ⟨_, _, hk, _⟩ := ho
    refine runRingPre_here hn ht ?_
    rw [connectByLeg_packet _ ho ha hg h0 hz, connectPacket_joins hk hi h1 hs, legEnd_ok]
  case conflict =>
    intro r d s c k hn ht T ho ha hg h0 hz hi hl hs
    have ⟨_, _, hk, _⟩ := ho
    refine runRingPre_here hn ht ?_
    rw [connectByLeg_packet _ ho ha hg h0 hz, connectPacket_conflicts hk hi hl hs, legEnd_refused _ _ _ (by decide)]
  case pair =>
    intro r d s c k q hn ht T p ho ha hg h0 hx hm hz hq hw hne hks hqs hqm hkl hql hkp hqp hr hh hs u
    refine runRingPre_here hn ht ?_
    rw [connectByLeg_pair _ ho hg (pairFields ha h0 hx hm hz) hq hw hne hqm hkp hqp hs, legEnd_ok, pairJoin_eq]
  case lineOff =>
    intro r d s c k hn ht T ho ha hg hz
    exact runRing_here hn ht (disconnectByLeg_line _ ho ha hg hz)
  case packetOff =>
    intro r d s c k hn ht T ho ha hg hz
    exact runRing_here hn ht (disconnectByLeg_packet _ ho ha hg hz)
  case pairOff =>
    intro r d s c p k hn ht T ho ha hg hz hp hl
    exact runRing_here hn ht (disconnectByLeg_pair _ ho ha hg hz hp hl)
  case closes =>
    intro r d ok s c k hn ht hc ha hz e hk ho hst
    subst e
    exact runRing_here hn ht (closeCmd_begins _ ok hc ha hz hk ho hst)
  case cancels =>
    intro r d ok s c k hn ht hc ha hz e hk ho hst u
    subst e
    exact runRing_here hn ht (closeCmd_cancels _ ok hc ha hz hk ho hst)
  case busy =>
    intro r d ok s k hn ht hk ho hst
    exact runRing_here hn ht (closeCmd_busy _ ok hk ho hst)

end Sys2Proof.Proofs
end

section
/-! PROOFS. How commands end (R141): every command leaves the queue's rest alone, and only a descriptor without 48 PARAMS octets keeps one from
completing. -/

namespace Sys2Proof.Proofs

set_option Elab.async false

open Sys2Proof.Machine Sys2Proof.Laws

/-! ### The commands on the fuses leave the queue alone -/

theorem lcRequest_pending (target : Nat) (root token : Octets) (fuseOk : Bool) (s : State) :
    (lcRequest target root token fuseOk s).2.pending = s.pending := by
  unfold lcRequest
  extract_lets ok d
  split
  · rfl
  · cases fuseOk <;> rfl

theorem lcTransitionRun_pending (d : Desc) (token : Option Octets) (fuseOk : Bool) (id : Nat) (s : State) :
    (lcTransitionRun d token fuseOk id s).pending = s.pending := by
  unfold lcTransitionRun
  dsimp only
  split
  · exact state_dev_pending s _
  split
  · exact state_dev_pending s _
  · have request := lcRequest_pending (fld d.aux 0 2) (d.octs 0 48) (token.getD []) fuseOk s
    generalize lcRequest (fld d.aux 0 2) (d.octs 0 48) (token.getD []) fuseOk s = x at request ⊢
    obtain ⟨_ | _ | _, u⟩ := x <;> exact (state_dev_pending u _).trans request

theorem lcTransitionRing_pending (r : Nat) (d : Desc) (token : Option Octets) (fuseOk : Bool) (s : State) :
    (lcTransitionRing r d token fuseOk s).pending = s.pending := by
  unfold lcTransitionRing
  extract_lets id u
  split
  · rfl
  · exact lcTransitionRun_pending d token fuseOk id u

theorem ndLcTransition_pending (fuseOk : Bool) (s : State) : (ndLcTransition fuseOk s).pending = s.pending := by
  unfold ndLcTransition
  cases nightHead s.dev (· == 14) with
  | none => rfl
  | some q =>
    dsimp only
    generalize (if oct q.body 0 = 1 then 49 else 97) = m
    split
    · exact state_dev_pending s _
    split
    · exact state_dev_pending s _
    · have request := lcRequest_pending (oct q.body 0) (octs q.body 1 48) (octs q.body 1 96) fuseOk s
      generalize lcRequest (oct q.body 0) (octs q.body 1 48) (octs q.body 1 96) fuseOk s = x at request ⊢
      obtain ⟨_ | _ | _, u⟩ := x <;> exact (state_dev_pending u _).trans request

theorem frameTickRun_pending (par : List (Nat × RecPar)) (bad : List Nat) (s : State) : (frameTickRun par bad s).pending = s.pending := by
  unfold frameTickRun
  extract_lets d
  split
  · split <;> rfl
  · rfl

/-! ### Completion or fault -/

/-- `o` is how a command that brings descriptor `d?` may end in `s`: with a whole descriptor, or with none, it completes and leaves the queue alone;
else it faults. -/
def EndsBy (d? : Option Desc) (s : State) (o : Host.Outcome State Fault Refusal) : Prop :=
  ∃ t : State, (o = if d?.all Desc.whole then .next t else .fault .malformedDescriptor) ∧ t.pending = s.pending

/-- A command without a descriptor completes. -/
theorem endsBy_run {s : State} {d : Dev} : EndsBy none s (.next (settle { s with dev := d })) := ⟨_, rfl, settle_pending _⟩

/-- So does one on the fuses too, whose operation leaves the queue alone. -/
theorem endsBy_runFuses {f : State → State} {s : State} (h : ∀ u, (f u).pending = u.pending) : EndsBy none s (runFuses f s) :=
  ⟨_, rfl, (settle_pending _).trans (h _)⟩

/-- A command with a descriptor tests it first. -/
theorem endsBy_tested {d : Desc} {s : State} {e : Dev} :
    EndsBy (some d) s (if Desc.whole d then .next (settle { s with dev := e }) else .fault .malformedDescriptor) := ⟨_, rfl, settle_pending _⟩

/-- LC_TRANSITION of a ring tests its descriptor, and acts on the fuses too. -/
theorem endsBy_lcTransition {r : Fin 4} {d : Desc} {token : Option Octets} {ok : Bool} {s : State} :
    EndsBy (some d) s (exec (.lcTransition r d token ok) s) :=
  ⟨_, rfl, (settle_pending _).trans (lcTransitionRing_pending r d token ok { s with dev := takeInjections s.dev })⟩

/-- A test has a descriptor to be tested only where MIRROR_TEST asks for it. -/
theorem endsBy_test {o : TestOrigin} {s : State} {d : Dev} :
    EndsBy o.desc? s (if testWhole o then .next (settle { s with dev := d }) else .fault .malformedDescriptor) := by
  cases o with
  | ring r d => exact endsBy_tested
  | nd => exact endsBy_run
  | service t => exact endsBy_run

/-- How every command ends, in every state. -/
theorem exec_endsBy (i : Instr) (s : State) : EndsBy i.desc? s (exec i s) := by
  cases i
  case frameTick par bad => exact endsBy_runFuses (frameTickRun_pending par bad)
  case ndLcTransition ok => exact endsBy_runFuses (ndLcTransition_pending ok)
  case lcTransition => exact endsBy_lcTransition
  case laneTest | tileTest | mirrorPairTest => exact endsBy_test
  case open_ | modify | connectLine | connectPacket | connectPair | disconnectLine | disconnectPacket | disconnectPair | close | query | stats
      | tonePlay | toneStop | recordStart | recordStop | keySet | keyRotateReceive | keyRotateTransmit | sessionSet | epochSchedule | epochStageBegin
      | epochStageSection | epochStageEnd | epochStageAbort | templateLoad | migrate | consolidateNow | consolidateStop | imageWrite | ledgerRead
      | timeStep | lcNonce | nop | eventTest | badOpcode | commandFrame => exact endsBy_tested
  all_goals exact endsBy_run

/-- A command whose descriptor is whole, or that brings none, completes and leaves the queue alone. -/
theorem exec_completes {i : Instr} (s : State) (h : i.desc?.all Desc.whole = true) : ∃ t : State, exec i s = .next t ∧ t.pending = s.pending := by
  obtain ⟨t, ends, rest⟩ := exec_endsBy i s
  exact ⟨t, ends.trans (if_pos h), rest⟩

/-- A command whose descriptor is not whole faults. -/
theorem exec_faults {i : Instr} {d : Desc} (s : State) (hd : i.desc? = some d) (h : Desc.whole d = false) :
    exec i s = .fault .malformedDescriptor := by
  obtain ⟨t, ends, -⟩ := exec_endsBy i s
  exact ends.trans (if_neg (by simp [hd, h]))

/-- A sender's descriptor is whole (R141). -/
theorem desc_whole_of_wf {i : Instr} (h : i.wf = true) : i.desc?.all Desc.whole = true := (Bool.and_eq_true_iff.mp h).1

/-! ### The statements -/

/-- Settles O20: a descriptor whose PARAMS are not 48 octets is not whole, and a command that brings one faults. -/
theorem malformedDescriptorsFault : Obligations.MalformedDescriptorsFault := by
  unfold Obligations.MalformedDescriptorsFault
  intro i d s hd length
  exact exec_faults s hd (beq_false_of_ne length)

/-- Settles O55: the descriptor of a sender's command is whole, so that it completes whatever the state. -/
theorem wellFormedCommandsComplete : Obligations.WellFormedCommandsComplete := by
  unfold Obligations.WellFormedCommandsComplete
  intro c s wf
  obtain ⟨t, completes, -⟩ := exec_completes s (desc_whole_of_wf wf)
  exact ⟨t, completes⟩

/-- With nothing waiting, a step is one cycle of the clock. -/
theorem step_of_empty {s : State} (h : s.pending = []) : step s = .next (idle s) := by simp only [step, h]

/-- A step takes the command at the front of the queue. -/
theorem step_of_front {s : State} {c : Instr} {rest : List Instr} (h : s.pending = c :: rest) : step s = exec c { s with pending := rest } := by
  simp only [step, h]

/-- Settles O54: a cycle of the clock leaves the queue empty, and a command at its front completes and leaves the commands behind it, which are
a sender's too. -/
theorem safeQueuesNeverStop : Obligations.SafeQueuesNeverStop := by
  unfold Obligations.SafeQueuesNeverStop
  intro s queue
  unfold safe at queue ⊢
  cases front : s.pending with
  | nil => exact ⟨idle s, step_of_empty front, by simp [idle, front]⟩
  | cons c rest =>
    rw [front, List.forall_mem_cons] at queue
    obtain ⟨front_wf, rest_wf⟩ := queue
    obtain ⟨t, completes, left⟩ := exec_completes { s with pending := rest } (desc_whole_of_wf front_wf)
    exact ⟨t, (step_of_front front).trans completes, left ▸ rest_wf⟩

end Sys2Proof.Proofs
end

section
/-! PROOFS. OPEN (R7, R151): the ID is chosen, the parameters pass, and the channel is placed where admission puts it. -/

namespace Sys2Proof.Proofs

set_option Elab.async false

open Sys2Proof.Machine Sys2Proof.Laws

section
variable {d : Desc} {c : Nat} {s : Dev}

/-- A channel whose template and parameters pass, whose codec a kernel set holds and which admission places, has its record there (R151). -/
theorem openChannel_places {owner home : Nat} {params : Octets} {t : Template} {wake : Bool} (hp : oct params 0 ≤ 63)
    (ht : templateFor s params = some t) (hk : paramsOk s t params = true) (hf : (firstSet s (oct params 3)).isSome = true)
    (hl : place s (chargeOf s.epochs.cur.cost t params) params = some (home, wake)) :
    let n := needSet home (oct params 3) s.drawWord.2
    let f := refreshLoads (home / 16) (n.setChan c { newChannel n owner params t home with tsOffset := s.drawWord.1.toNat })
    openChannel c owner params s = (.ok, finishOpen c (if wake then wakeRequest (home / 16) f else f)) := by
  simp only [openChannel, if_neg (Nat.not_lt.mpr hp), ht, hk, hf, hl, not_true_eq_false, if_false, if_true]

/-- OPEN of a FREE ID opens the channel, its command from then on under the channel's global ID. -/
theorem openCmd_opens {id : Nat} {u : Dev} (hi : (if bit d.channel 31 then lowestFree s else some (fld d.channel 0 16)) = some c)
    (hn : s.chan? c = none) (hc : descClean d = true) (ha : d.aux = 0)
    (ho : openChannel c (descHid d) d.params
      (modCmd id (fun m => { m with chan := some (globalId (descHid d) c), field := globalId (descHid d) c }) s) = (.ok, u)) :
    openCmd d id s = u := by
  simp [openCmd, hi, hn, hc, ha, ho]

/-- A named ID that is not FREE is in use. -/
theorem openCmd_inUse {id : Nat} {k : Channel} (hb : bit d.channel 31 = false) (hk : s.chan? (fld d.channel 0 16) = some k) :
    openCmd d id s = completeWith id .inUse s := by
  simp [openCmd, hb, hk]

end

/-- Settles O14: OPEN is taken here; its ID is FREE, so that the channel opens where admission places it, or it is in use. -/
theorem openPlacesTheChannel : Obligations.OpenPlacesTheChannel := by
  unfold Obligations.OpenPlacesTheChannel
  refine ⟨?opens, ?inUse⟩
  case opens =>
    intro r d s t c home wake hn ht hc ha hp hi o e free template params sets placed
    exact runRing_here hn ht (openCmd_opens hi ((modCmd_chan _ _ _ c).symm.trans free) hc ha (openChannel_places hp template params sets placed))
  case inUse =>
    intro r d s k hn ht hb hk
    exact runRing_here hn ht (openCmd_inUse hb hk)

end Sys2Proof.Proofs
end

section
/-! PROOFS. Sessions and their keys (R178 to R180, R184): what the session table holds after a write and after its mirror, and what KEY_SET,
KEY_ROTATE and SESSION_SET make of an entry. -/

namespace Sys2Proof.Proofs

set_option Elab.async false

open Sys2Proof.Machine Sys2Proof.Laws

section
variable {d : Desc} {i : Nat} {x : Session} {s : Dev}

/-! ### The session table -/

@[simp] theorem session?_setSession_same (i : Nat) (x : Session) (s : Dev) : session? (setSession i x s) i = some x := kvGet_kvSet_same ..

theorem modSession_of_session? (f : Session → Session) (hx : session? s i = some x) : modSession i f s = setSession i (f x) s := by
  simp only [modSession, hx]

@[simp] theorem keyFound_ctx (x : Session) : (keyFound x).ctx = x.ctx := by unfold keyFound; split <;> rfl

/-! ### The mirror (R184) -/

theorem ronStart_mpe {k vl type dst aux : Nat} {o : Octets} {t : Dev} (h : ronStart k vl type dst aux o s = some t) : t.mpe = s.mpe := by
  unfold ronStart at h
  extract_lets at h
  split at h
  · exact Option.some.inj h ▸ rfl
  · cases h

/-- A frame that goes, waits or cannot be carried leaves the MPE alone. -/
theorem ronPut_mpe (k vl type dst aux : Nat) (o : Octets) (s : Dev) : (ronPut k vl type dst aux o s).mpe = s.mpe := by
  unfold ronPut
  split
  · rfl
  · extract_lets
    split
    · rfl
    · split
      next started => exact ronStart_mpe started
      next => rfl

/-- A MIRROR frame leaves the MPE alone, whether it goes or not. -/
theorem mirrorSend_mpe (m : MirrorMsg) (s : Dev) : (mirrorSend m s).mpe = s.mpe := by
  unfold mirrorSend
  split
  · rfl
  · split
    · rfl
    · exact ronPut_mpe ..

/-- A session that is mirrored notes its transmit index, and stands otherwise. -/
theorem session?_mirrorSession (hx : session? s i = some x) :
    session? (mirrorSession i s) i = some { x with mirrored := x.ctx.txRoc * 65536 + x.ctx.seq } := by
  have stands (m : MirrorMsg) : session? (mirrorSend m s) i = some x := by rw [session?, mirrorSend_mpe, ← session?, hx]
  simp only [mirrorSession, hx, modSession_of_session? _ (stands _), session?_setSession_same]

/-! ### KEY_SET and KEY_ROTATE (R179, R180) -/

/-- A command on a session of the table, on a device that leads, acts on it. -/
theorem onSession_acts {ok : Bool} {act : Nat → Dev → Dev} (id : Nat) (he : onEntry d i s) (hc : descClean d = true) (ho : ok = true) :
    onSession d id ok act s = act i s := by
  obtain ⟨rfl, leads, entry⟩ := he
  simp only [onSession, leads, hc, ho, Nat.not_le.mpr entry, not_true_eq_false, or_self, if_false]

/-- A receive key frees the session's rotation, restarts the index and clears STARTED. -/
theorem keyInstall_receive {suite : Nat} (srtcp : Bool) (key salt : Octets) (hx : session? s i = some x) (hs : suite ≠ 0) :
    keyInstall i 1 suite srtcp key salt s =
      modSession i (fun x => keyFound { x with suite := suite, srtcp := srtcp, rxSet := true, started := false, lostRx := false
                                               ctx := { x.ctx with rxKey := key, rxSalt := salt, sl := 0, roc := 0
                                                                   replay := 0, srtcpHi := 0, srtcpValid := false } }) (rotFree i s) := by
  simp only [keyInstall, hx, if_neg hs, if_true]

/-- A transmit key of a session that has not lost its context leaves the index where it stands. -/
theorem keyInstall_transmit {suite : Nat} (srtcp : Bool) (key salt : Octets) (hx : session? s i = some x) (hs : suite ≠ 0)
    (hl : x.lostTx = false) :
    keyInstall i 2 suite srtcp key salt s =
      setSession i (keyFound { x with suite := suite, srtcp := srtcp, txSet := true, lostTx := false
                                      ctx := { x.ctx with txKey := key, txSalt := salt } }) s := by
  simp [keyInstall, hx, hs, hl]

/-- A receive key that fits the session is installed and mirrored, and the answer carries no index. -/
theorem keySetCmd_receive (id : Nat) (he : onEntry d i s) (hc : descClean d = true) (ha : keyAuxOk d = true) (hx : session? s i = some x)
    (hd : fld d.aux 20 2 = 1) (hs : fld d.aux 22 3 ≠ 0) (hm : suiteMismatch x 1 (fld d.aux 22 3) (bit d.aux 25) = false) :
    let suite := fld d.aux 22 3
    keySetCmd d id s = complete id .ok [] (mirrorSession i
      (modSession i (fun x => keyFound { x with suite := suite, srtcp := bit d.aux 25, rxSet := true, started := false, lostRx := false
                                                ctx := { x.ctx with rxKey := keyOf d suite, rxSalt := saltOf d suite, sl := 0, roc := 0
                                                                    replay := 0, srtcpHi := 0, srtcpValid := false } }) (rotFree i s))) := by
  intro suite
  rw [keySetCmd, onSession_acts id he hc ha, ← keyInstall_receive _ _ _ hx hs]
  simp [hx, hd, hm, suite]

/-- A transmit key that fits the session is installed and mirrored, and the answer carries the session's index. -/
theorem keySetCmd_transmit (id : Nat) (he : onEntry d i s) (hc : descClean d = true) (ha : keyAuxOk d = true) (hx : session? s i = some x)
    (hd : fld d.aux 20 2 = 2) (hs : fld d.aux 22 3 ≠ 0) (hm : suiteMismatch x 2 (fld d.aux 22 3) (bit d.aux 25) = false)
    (hl : x.lostTx = false) :
    let suite := fld d.aux 22 3
    let u := mirrorSession i (setSession i (keyFound { x with suite := suite, srtcp := bit d.aux 25, txSet := true, lostTx := false
                                                              ctx := { x.ctx with txKey := keyOf d suite, txSalt := saltOf d suite } }) s)
    keySetCmd d id s = complete id .ok (toLe 6 (x.ctx.txRoc * 65536 + x.ctx.seq)) u := by
  intro suite u
  have mirrored := session?_mirrorSession (session?_setSession_same i (keyFound { x with
    suite := suite, srtcp := bit d.aux 25, txSet := true, lostTx := false
    ctx := { x.ctx with txKey := keyOf d suite, txSalt := saltOf d suite } }) s)
  rw [keySetCmd, onSession_acts id he hc ha]
  simp only [hx, hd, hm, keyInstall_transmit _ _ _ hx hs hl, mirrored, keyFound_ctx, suite, u]
  simp

/-- A receive key that fits a session without a rotation waits in the lowest free entry of the rotation cache. -/
theorem keyRotateCmd_waits {j : Nat} (id : Nat) (he : onEntry d i s) (hc : descClean d = true) (ha : keyAuxOk d = true)
    (hx : session? s i = some x) (hm : suiteMismatch x 1 (fld d.aux 22 3) (bit d.aux 25) = false) (hr : x.rot = false)
    (hj : freeKey s.mpe.rot rotSize = some j) :
    let e : RotEntry := { session := i, retained := false, from_ := 0, key := keyOf d (fld d.aux 22 3)
                          salt := saltOf d (fld d.aux 22 3), promo := 0 }
    let u := { s with mpe := { s.mpe with rot := kvSet s.mpe.rot j e } }
    keyRotateCmd d id s = complete id .ok [] (mirrorSession i (setSession i { x with rot := true, rotIdx := j } (rotUsed u))) := by
  intro e u
  rw [keyRotateCmd, onSession_acts id he hc ha]
  simp [hx, hm, hr, hj, e, u]

/-! ### SESSION_SET (R178) -/

/-- The reserved fields and the ranges that SESSION_SET tests (R178), as its body writes them. -/
abbrev sessionFields (d : Desc) : Bool :=
  d.aux.toNat / 2 ^ 19 == 0 && d.arg 0 4 / 2 ^ 20 == 0 && oct d.params 6 / 16 == 0 && oct d.params 7 / 64 == 0 && d.zeroFrom 34 47

theorem sessionFields_of_lt (ha : d.aux.toNat / 2 ^ 19 = 0) (hz : d.zeroFrom 34 47 = true) (hg : d.arg 0 4 < 2 ^ 20)
    (h6 : oct d.params 6 < 16) (h7 : oct d.params 7 < 64) : sessionFields d = true := by
  simp only [sessionFields, ha, Nat.div_eq_of_lt hg, Nat.div_eq_of_lt h6, Nat.div_eq_of_lt h7, hz, beq_self_eq_true, Bool.and_self]

/-- A session that no leg uses is removed, its rotation and its ports with it. -/
theorem sessionSetCmd_removes (id : Nat) (he : onEntry d i s) (hc : descClean d = true)
    (hf : sessionFields d = true) (hv : (oct d.params 7).testBit 0 = false) (hx : session? s i = some x) (hu : inUse s i = false) :
    let u := unmapPorts i (rotFree i s)
    sessionSetCmd d id s =
      completeWith id .ok (mirrorSession i { u with mpe := { u.mpe with sessions := kvDel u.mpe.sessions i } }) := by
  rw [sessionSetCmd, onSession_acts id he hc hf]
  simp [hv, hx, hu]

/-- A session that a leg uses is not removed. -/
theorem sessionSetCmd_inUse (id : Nat) (he : onEntry d i s) (hc : descClean d = true)
    (hf : sessionFields d = true) (hv : (oct d.params 7).testBit 0 = false) (hx : session? s i = some x) (hu : inUse s i = true) :
    sessionSetCmd d id s = sessionRefuse id 1 s := by
  rw [sessionSetCmd, onSession_acts id he hc hf]
  simp [hv, hx, hu]

/-- An entry is replaced with its addresses, its flags and its ports, where its leg stays with its channel, no other session holds its ports, and its
local address is of its remote address's family. -/
theorem sessionSetCmd_replaces (id : Nat) (he : onEntry d i s) (hc : descClean d = true)
    (hf : sessionFields d = true) (hg : d.arg 0 4 < 2 ^ 20) (h6 : oct d.params 6 < 16) (hv : (oct d.params 7).testBit 0 = true)
    (hx : session? s i = some x) (hu : inUse s i = true → x.chan = d.arg 0 4) (hp : portTaken s i (oct d.params 6) (d.arg 4 2) = false)
    (hr : (oct d.params 7).testBit 3 = true ∨ (d.arg 4 2 % 2 = 0 ∧ portTaken s i (oct d.params 6) (d.arg 4 2 + 1) = false))
    (hl : ∃ l ∈ localAddr s (oct d.params 6), l.v6 = !isV4 (be d.params 8 16)) :
    let fl := oct d.params 7
    let a := oct d.params 6
    let ip := be d.params 8 16
    let n := neighbourOf a ip s
    let y : Session := { x with
      chan := d.arg 0 4, neigh := n.1, addr := a, latch := fl.testBit 1, checkSrc := fl.testBit 2, rtcpMux := fl.testBit 3
      ssrcLock := fl.testBit 4, latched := x.latched && !(x.remoteIp != ip || x.remotePort != d.arg 24 2), remoteIp := ip
      remotePort := d.arg 24 2, localPort := d.arg 4 2
      rxSsrc := if fl.testBit 4 then BitVec.ofNat 32 (d.arg 26 4) else x.rxSsrc }
    sessionSetCmd d id s = completeWith id .ok
      (mirrorSession i (mapPorts i a (d.arg 4 2) (fl.testBit 3) (unmapPorts i (setSession i y n.2)))) := by
  obtain ⟨l, address, family⟩ := hl
  have stays : (inUse s i && x.chan != d.arg 0 4) = false := by
    cases used : inUse s i
    · rfl
    · simp [hu used]
  have free : ¬ (portTaken s i (oct d.params 6) (d.arg 4 2) = true ∨ (¬ (oct d.params 7).testBit 3 = true ∧
      (d.arg 4 2 % 2 = 1 ∨ portTaken s i (oct d.params 6) (d.arg 4 2 + 1) = true))) := by
    rintro (taken | ⟨pair, odd | taken⟩)
    · simp [hp] at taken
    · have := (hr.resolve_left pair).1; omega
    · simp [(hr.resolve_left pair).2] at taken
  have same : (l.v6 != isV4 (be d.params 8 16)) = true := by simp [family]
  intro fl a ip n y
  rw [sessionSetCmd, onSession_acts id he hc hf]
  simp only [hv, hx, Option.mem_def.mp address, Nat.mod_eq_of_lt hg, Nat.mod_eq_of_lt h6, stays, if_neg free, same, not_true_eq_false, if_false,
    Bool.false_eq_true, Option.isSome_some, if_true, Option.getD_some]
  rfl

end

/-- Settles O18: each command is taken here and names a session of the table, so that it acts on the session's entry. -/
theorem sessionsTakeKeysAndGo : Obligations.SessionsTakeKeysAndGo := by
  unfold Obligations.SessionsTakeKeysAndGo
  refine ⟨?receive, ?transmit, ?rotate, ?rotateTransmit, ?removes, ?used, ?replaces⟩
  case receive =>
    intro r d s i x hn ht T suite he hc ha hx hd hs hm
    exact runRing_here hn ht (keySetCmd_receive _ he hc ha hx hd hs hm)
  case transmit =>
    intro r d s i x hn ht T suite he hc ha hx hd hs hm hl
    exact runRing_here hn ht (keySetCmd_transmit _ he hc ha hx hd hs hm hl)
  case rotate =>
    intro r d s i j x hn ht T he hc ha hd hx hm hr hj
    have dir : ¬ fld d.aux 20 2 = 2 := by omega
    exact runRing_here hn ht ((if_neg dir).trans (keyRotateCmd_waits _ he hc ha hx hm hr hj))
  case rotateTransmit =>
    intro r d s i x hn ht T suite he hc ha hx hd hs hm hl
    exact runRing_here hn ht ((if_pos hd).trans (keySetCmd_transmit _ he hc ha hx hd hs hm hl))
  case removes =>
    intro r d s i x hn ht T he hc ha hz hg h6 h7 hv hx hu
    exact runRing_here hn ht (sessionSetCmd_removes _ he hc (sessionFields_of_lt ha hz hg h6 h7) hv hx hu)
  case used =>
    intro r d s i x hn ht T he hc ha hz hg h6 h7 hv hx hu
    exact runRing_here hn ht (sessionSetCmd_inUse _ he hc (sessionFields_of_lt ha hz hg h6 h7) hv hx hu)
  case replaces =>
    intro r d s i x hn ht T fl a g port ip mux he hc ha hz hg h6 h7 hv hx hu hp hr hl
    exact runRing_here hn ht (sessionSetCmd_replaces _ he hc (sessionFields_of_lt ha hz hg h6 h7) hg h6 hv hx hu hp hr hl)

end Sys2Proof.Proofs
end

section
/-! PROOFS. Packets (R165, R166, R174, R176, R180, R183, R187, R200, R204, R210): the frame that the MPE takes, the packet and the RTCP that a session
sends, the keys and contexts that a session gives up or regains, and what the jitter buffer's own times change. -/

namespace Sys2Proof.Proofs

set_option Elab.async false

open Sys2Proof.Machine Sys2Proof.Laws

section
variable {e c i j : Nat} {k : EntryCheck} {f : RxHeld} {p : EgPkt} {rest : List EgPkt} {x : Session} {q : Channel} {s d : Dev}

/-! ### Frames received (R166) -/

/-- A device that leads takes the oldest frame of a MAC. -/
theorem ingressFrame_takes (hl : s.leads = true) (hd : s.domainOn 18 = true) (ht : macTake e s = some (f, d)) :
    ingressFrame e k s = frameTake e f k d := by
  simp [ingressFrame, hl, hd, ht]

/-- What a test of R166 drops is counted under that test, and under DROP_DISABLED where the MPE is disabled. -/
theorem frameTake_drop (hp : parseFrame s e f.octets = .drop c) :
    frameTake e f k s = s.bump64 (if s.rbit Reg.mpeCfg 0 then c else Reg.mpeDropDisabled) := by
  simp only [frameTake, hp]

theorem frameTake_ptp {o : Octets} (hp : parseFrame s e f.octets = .ptp o) : frameTake e f k s = s.emit (.punt true none o) := by
  simp only [frameTake, hp]

theorem frameTake_arp {vid : Nat} {o : Octets} (hp : parseFrame s e f.octets = .arp vid o) :
    frameTake e f k s = punt none f.octets (arpTake e vid o) s := by
  simp only [frameTake, hp]

theorem frameTake_icmp {v6 : Bool} {vid src : Nat} {o : Octets} (hp : parseFrame s e f.octets = .icmp v6 vid src o)
    (hen : s.rbit Reg.mpeCfg 0 = true) :
    frameTake e f k s = punt none f.octets (fun u => if v6 then icmpTake e vid src (octs f.octets 6 6) o u else u) s := by
  simp only [frameTake, hp, hen, not_true_eq_false, false_and, if_false]

theorem frameTake_udp {a src sport dport : Nat} {u : Octets} (hp : parseFrame s e f.octets = .udp a src sport dport u) :
    frameTake e f k s = if s.rbit Reg.mpeCfg 0 then udpTake a src sport dport u k f.stampNs s else s.bump64 Reg.mpeDropDisabled := by
  simp only [frameTake, hp]

/-! ### Packets sent (R176) -/

/-- A route record whose two copies are not both lost can be used (R162). -/
theorem routeRead_stands {r : RoutePar} (i : Nat) (s : Dev) (h : r ≠ .lost) : routeRead i r s = (true, s) := by
  cases r with
  | ok => rfl
  | oneBad => rfl
  | lost => exact absurd rfl h

/-- The oldest packet handed over leaves in its session, where that has its keys. -/
theorem egressPacket_sends (hl : s.leads = true) (hd : s.domainOn 18 = true) (hq : s.mpe.egress = p :: rest) (hp : p.session = some i)
    (hx : session? { s with mpe := { s.mpe with egress := rest } } i = some x) (hr : k.route ≠ .lost)
    (hk : keyLostNow { s with mpe := { s.mpe with egress := rest } } x = false) (hf : x.fetching = false)
    (hc : k.ctxBad = true → x.suite = 0) :
    egressPacket k s = egressSend i x p { s with mpe := { s.mpe with egress := rest } } := by
  have whole : ¬ (k.ctxBad = true ∧ x.suite ≠ 0) := fun ⟨bad, suite⟩ => suite (hc bad)
  simp [egressPacket, hl, hd, hq, hp, hx, routeRead_stands _ _ hr, hk, hf, whole]

/-! ### RTCP sent (R174) -/

/-- A session with a running leg sends its RTCP on a device that leads. -/
theorem rtcpTimer_sends (hl : s.leads = true) (hd : s.domainOn 18 = true) (hx : session? s i = some x) (hg : runningLeg s i x = true) :
    rtcpTimer i k s = rtcpSend i false k s := by
  simp [rtcpTimer, hl, hd, hx, hg]

/-- RTCP goes to and from the port after RTP's, but for a session that multiplexes the two. -/
theorem rtcpPort {n : Nat} (mux : Bool) (hn : n < 65536) : (if mux then n else (n + 1) % 65536) = (n + (!mux).toNat) % 65536 := by
  cases mux with
  | false => rfl
  | true => exact (Nat.mod_eq_of_lt hn).symm

/-- A session that is not SRTCP, or has its keys, sends a compound packet, protected and its index mirrored where it is SRTCP. -/
theorem rtcpSend_sends (hx : session? s i = some x) (hr : k.route ≠ .lost) (hrem : x.remotePort < 65536) (hloc : x.localPort < 65536)
    (hk : (x.srtcp && x.suite != 0) = true → keyLostNow s x = false ∧ x.fetching = false ∧ k.ctxBad = false) :
    let secured := x.srtcp && x.suite != 0
    let z := rtcpPacket x (s.rbit Reg.mpeCfg 1) false s
    let y := { x with expPrior := z.2.1.expected, recvPrior := z.2.1.received }
    let o := if secured then srtcpProtect x.suite x.ctx.txKey x.ctx.txSalt x.ctx.srtcpIdx z.1 else z.1
    let w := if secured then { y with ctx := { y.ctx with srtcpIdx := (y.ctx.srtcpIdx + 1) % 2 ^ 31 } } else y
    let u := setSession i w (if secured then z.2.2.bump64 Reg.secProtect else z.2.2)
    let up := (!x.rtcpMux).toNat
    let v := (sendUdp w ((x.remotePort + up) % 65536) ((x.localPort + up) % 65536) (u.rfld Reg.mpeRtcpCfg 0 6) (rtcpTxq u) o u).2
    rtcpSend i false k s = if secured then mirrorSession i v else v := by
  simp only [← rtcpPort _ hrem, ← rtcpPort _ hloc]
  cases secured : x.srtcp && x.suite != 0 with
  | false =>
    simp only [rtcpSend, routeRead_stands _ _ hr, hx, secured, Bool.false_eq_true, false_and, if_false]
  | true =>
    obtain ⟨keyed, held, whole⟩ := hk secured
    simp only [rtcpSend, routeRead_stands _ _ hr, hx, secured, keyed, held, whole, Bool.false_eq_true, or_self, and_false, if_false, if_true]

/-! ### Retained keys and fetched contexts (R180, R183) -/

/-- A retained key 64 packets or a second past its promotion is released, and the standby hears of it. -/
theorem rotationRelease_frees {r : RotEntry} (hr : kvGet s.mpe.rot j = some r) (hk : r.retained = true) (hx : session? s r.session = some x)
    (ho : (x.rot = true ∧ x.rotIdx = j ∧ r.from_ + 64 < x.ctx.roc * 65536 + x.ctx.sl) ∨
      400 ≤ (s.time.lastTick.getD 0 % 2 ^ 32 + 2 ^ 32 - r.promo) % 2 ^ 32) :
    rotationRelease j s = mirrorSession r.session (rotFree r.session s) := by
  have due : (x.rot && x.rotIdx == j && decide (r.from_ + 64 < x.ctx.roc * 65536 + x.ctx.sl)) = true ∨
      decide (400 ≤ (s.time.lastTick.getD 0 % 2 ^ 32 + 2 ^ 32 - r.promo) % 2 ^ 32) = true := by
    simpa only [Bool.and_eq_true, beq_iff_eq, decide_eq_true_eq, and_assoc] using ho
  simp only [rotationRelease, hr, hx]
  exact if_pos ⟨hk, due⟩

theorem cryptoFetchDone_restores (n : CryptoCtx) (hx : session? s i = some x) (hf : x.fetching = true) :
    cryptoFetchDone i n s = occur 0x302 {} (setSession i { x with fetching := false, ctx := n } (s.bump Reg.secKeyRepair)) := by
  simp only [cryptoFetchDone, hx, hf, if_true]

/-! ### The jitter buffer's own times (R200, R204, R210) -/

/-- A change of an open channel's jitter buffer. -/
theorem modJb_of_chan (g : Jb → Jb) (hq : s.chan? c = some q) : modJb c g s = s.setChan c { q with jb := g q.jb } := by
  simp only [modJb, Dev.modChan, hq]

@[simp] theorem elapseTo_chan (s : Dev) (t c : Nat) : (s.elapseTo t).chan? c = s.chan? c := rfl

/-- A channel whose template has no RFE-out node keeps no drift. -/
theorem driftFit_clears (hq : s.chan? c = some q) (hn : q.template.holds 7 = false) :
    driftFit c s = s.setChan c { q with jb := { q.jb with drift := 0 } } := by
  simp [driftFit, hq, hn, modJb_of_chan _ hq]

/-- An ALIGNED channel whose last report is 30 s old records once that its mapping is stale. -/
theorem alignStale_records {t : Nat} (hq : s.chan? c = some q) (ht : q.jb.srAt = some t) (hm : q.now 12 1 = 2) (hs : q.jb.stale = false) :
    alignStale c s = tileEvent c 0x0206 [] ((s.elapseTo (t + usCycles 30000000)).setChan c { q with jb := { q.jb with stale := true } }) := by
  have later : (s.elapseTo (t + usCycles 30000000)).chan? c = some q := (elapseTo_chan ..).trans hq
  simp [alignStale, hq, ht, hm, hs, modJb_of_chan _ later]

end

/-- Settles O25: each clause is one command of the MPE or the playout, in a state that meets its conditions. -/
theorem packetsFlowThroughTheMpe : Obligations.PacketsFlowThroughTheMpe := by
  unfold Obligations.PacketsFlowThroughTheMpe
  refine ⟨?mpe, ?sec, ?ingress, ?egress, ?rtcp, ?release, ?fetched, ?decay, ?drift, ?stale⟩
  case mpe =>
    intro by_ en s hn hg
    exact run_ends hn (gated_of_accepts _ _ _ _ hg)
  case sec =>
    intro by_ en s hn hg
    exact run_ends hn (gated_of_accepts _ _ _ _ hg)
  case ingress =>
    intro e x s f d hn hl hd ht
    have takes {u : Dev} (hu : frameTake e f x d = u) : exec (.ingressFrame e x) s = .next (ended s u) :=
      run_ends hn ((ingressFrame_takes hl hd ht).trans hu)
    exact ⟨fun c hp => takes (frameTake_drop hp), fun o hp => takes (frameTake_ptp hp), fun vid o hp => takes (frameTake_arp hp),
      fun v6 vid src o hp hen => takes (frameTake_icmp hp hen), fun a src sport dport u hp => takes (frameTake_udp hp)⟩
  case egress =>
    intro s k p rest i x hn hl hd hq hp d hx hr hk hf hc h o y z
    exact run_ends hn (egressPacket_sends hl hd hq hp hx hr hk hf hc)
  case rtcp =>
    intro i k x s hn hl hd hx hg hr secured hk z y o w u up v hrem hloc
    exact run_ends hn ((rtcpTimer_sends hl hd hx hg).trans (rtcpSend_sends hx hr hrem hloc hk))
  case release =>
    intro j e x s hn hr hk hx ho
    exact run_ends hn (rotationRelease_frees hr hk hx ho)
  case fetched =>
    intro i x c s hn hx hf
    exact run_ends hn (cryptoFetchDone_restores c hx hf)
  case decay =>
    intro c k s hn hk
    exact run_ends hn (modJb_of_chan _ hk)
  case drift =>
    intro c k s hn hk h7
    exact run_ends hn (driftFit_clears hk h7)
  case stale =>
    intro c t k s hn hk ht hm hs
    exact run_ends hn (alignStale_records hk ht hm hs)

end Sys2Proof.Proofs
end

section
/-! PROOFS. Tests (R229, R230, R532 to R538): what a test that starts does to its lane, its tile or its mirror pair, the test of a tile that returns
to service, and what a result leaves. -/

namespace Sys2Proof.Proofs

set_option Elab.async false

open Sys2Proof.Machine Sys2Proof.Laws

section
variable {s : Dev} {d : Desc} {p : Octets} {m : TestMeasure} {cmd : Option Nat} {night : Bool} {k : Nat} {x : Test}

/-! ### MIRROR_TEST (R532, R539) -/

/-- MIRROR_TEST of this kind, taken and executed on this device, runs `testCmd` on the device with the descriptor taken. -/
theorem runTestFrom_here {kind : Nat} {r : Fin 4} {s : State} {e : Dev} (hn : noInjection s) (ht : takesHere r 0x11 d s.dev)
    (hk : oct d.params 0 = kind) (he : testCmd d m s.dev.pci.nextId (taken r 0x11 d s.dev) = e) :
    (if testWhole (.ring r d) then run (testFrom kind (.ring r d) m) s else .fault .malformedDescriptor) = .next (ended s e) := by
  have ⟨⟨whole, _⟩, _⟩ := ht
  have own : testFrom kind (.ring r d) m s.dev = takeRing r 0x11 d (fun _ => none) (testCmd d m) s.dev := if_pos (.inl hk)
  exact (if_pos whole).trans (run_ends hn (own.trans ((takeRing_here r 0x11 d _ _ s.dev ht).trans he)))

/-- A request that the device allows starts its test. -/
theorem testCmd_begins (id : Nat) (hc : descClean d = true) (ha : d.aux = 0) (hq : testAsk d.params s = .ok) :
    testCmd d m id s = testBegin d.params m (some id) false s := by
  simp only [testCmd, hc, ha, hq, ne_eq, not_true_eq_false, or_self, if_false]

/-! ### Tests that start (R533 to R535) -/

/-- The test that a request begins: of the unit that its PARAMS name, from the moment of its start. -/
def startedTest (kind : Nat) (p : Octets) (m : TestMeasure) (cmd : Option Nat) (night : Bool) (s : Dev) : Test :=
  { key := ⟨kind, oct p 1⟩, m := m, params := p, start := s.now, abandon := 0, cmd := cmd, night := night }

/-- A tested lane is switched on in near-end loop (R533). -/
theorem testBegin_lane (hk : oct p 0 = 1) :
    testBegin p m cmd night s =
      ({ s with tests := s.tests ++ [startedTest 1 p m cmd night s] }.setFld (Reg.sdsCfg (oct p 1)) 10 2 1).setBit (Reg.sdsCfg (oct p 1)) 0 true := by
  simp only [testBegin, hk, if_true, startedTest]

/-! What a test needs of its tile does not depend on the tests that run. -/

@[simp] theorem tileSet_tests (s : Dev) (l : List Test) (t : Nat) : tileSet { s with tests := l } t = tileSet s t := rfl

@[simp] theorem testSet_tests (s : Dev) (l : List Test) (t : Nat) (p : Octets) : testSet { s with tests := l } t p = testSet s t p := rfl

@[simp] theorem tileWillServe_tests (s : Dev) (l : List Test) (t codec : Nat) :
    tileWillServe { s with tests := l } t codec = tileWillServe s t codec := rfl

theorem testWake_awake {n : Nat} (h : s.clState n ≠ 0) : testWake n s = s := if_neg h

/-- A tile that holds the set already only drops the load that waited for it (R228). -/
theorem takeSet_held {t : Nat} (h : tileSet s t = some k) : takeSet t k s = { s with loads := kvDel s.loads t } := if_pos (.inl h)

/-- A TILE test in an awake cluster, of the set that the tile holds, only displaces a load that waits (R534). -/
theorem testBegin_tile (hk : oct p 0 = 2) (hs : testSet s (oct p 1) p = some k) (hw : s.clState (oct p 1 / 16) ≠ 0)
    (ht : tileSet s (oct p 1) = some k) :
    testBegin p m cmd night s =
      { s with tests := s.tests ++ [startedTest 2 p m cmd night s], loads := kvDel s.loads (oct p 1) } := by
  simp only [testBegin, hk, Nat.reduceEqDiff, if_true, if_false, testSet_tests, hs, takeSet_held, tileSet_tests, ht, startedTest]
  exact testWake_awake hw

theorem needSet_served {t codec : Nat} (h : tileWillServe s t codec = true) : needSet t codec s = s := if_pos h

/-- A tile for which no load waits takes no set. -/
theorem loadDue_none {t : Nat} (h : kvGet s.loads t = none) : loadDue t s = s := by simp only [loadDue, h]

/-- A MIRROR test on a tile that is awake and serves its codec charges the tile (R535). -/
theorem testBegin_mirror (hk : oct p 0 = 3) (hv : tileWillServe s (oct p 1) (oct p 5) = true) (hl : kvGet s.loads (oct p 1) = none)
    (hw : s.clState (oct p 1 / 16) ≠ 0) :
    testBegin p m cmd night s = refreshLoads (oct p 1 / 16) { s with tests := s.tests ++ [startedTest 3 p m cmd night s] } := by
  simp only [testBegin, hk, Nat.reduceEqDiff, if_false, needSet_served, tileWillServe_tests, hv, loadDue_none, hl,
    startedTest]
  exact congrArg _ (testWake_awake hw)

/-! ### The return-to-service test (R229) -/

/-- A tile in TESTING is tested with its own set, for no command. -/
theorem serviceTest_begins {t : Nat} (ht : tileState s t = 2) (he : s.tests = []) :
    serviceTest t m s = { s with tests :=
      [{ key := ⟨2, t⟩, m := m, params := padTo 48 [2, BitVec.ofNat 8 t, 0xFF], start := s.now, abandon := 0, cmd := none, night := false }] } := by
  simp only [serviceTest, ht, he, List.any_nil, Bool.false_eq_true, not_false_eq_true, and_self, if_true, List.nil_append]

/-! ### Results (R538) -/

/-- A result ends the one test that runs: a lane that passes is good again, and a tile in TESTING comes back or goes OUT. -/
theorem testResult_ends (hx : s.tests = [x]) (hp : x.key.kind = 1 ∨ s.clState (x.key.unit / 16) ≠ 0) :
    let fail := testFail s x
    let u := if x.key.kind = 3 then (s.bump64 Reg.gduSpawn x.m.frames).bump64 Reg.gduRetire x.m.frames else s
    let d := testFinish x (if fail = 0 then 0 else 1) fail 0 (laneRead x u)
    testResult x.key s =
      if x.key.kind = 1 ∧ fail = 0 then { d with boot := { d.boot with badLanes := d.boot.badLanes.filter (· != x.key.unit) } }
      else if x.key.kind = 2 ∧ tileState d x.key.unit = 2 then (if fail = 0 then tileServe x.key.unit d else tileOut x.key.unit d) else d := by
  intro fail u d
  have powered : ¬ (x.key.kind ≠ 1 ∧ s.clState (x.key.unit / 16) = 0) := fun ⟨tile, off⟩ => hp.elim tile (· off)
  have found : s.tests.find? (fun y => y.key == x.key) = some x := by simp only [hx, BEq.rfl, List.find?_cons_of_pos]
  simp only [testResult, found, if_neg powered]
  by_cases lane : x.key.kind = 1 ∧ testFail s x = 0
  · simp only [lane, Nat.reduceEqDiff, and_self, false_and, if_true, if_false, fail, u, d]
  · simp only [lane, if_false, fail, u, d]

end

/-- Settles O22: a request that is allowed starts the test of its kind, the tile in TESTING is tested, and the result of the one test ends it. -/
theorem testsStartAndEnd : Obligations.TestsStartAndEnd := by
  unfold Obligations.TestsStartAndEnd
  refine ⟨?lane, ?tile, ?mirror, ?service, ?result⟩
  case lane =>
    intro r d m s hn ht hc ha hk hq T u x
    exact runTestFrom_here hn ht hk ((testCmd_begins _ hc ha hq).trans (testBegin_lane hk))
  case tile =>
    intro r d m s k hn ht hc ha hk hq T u x hs hw hh
    exact runTestFrom_here hn ht hk ((testCmd_begins _ hc ha hq).trans (testBegin_tile hk hs hw hh))
  case mirror =>
    intro r d m s hn ht hc ha hk hq T u x hv hl hw
    exact runTestFrom_here hn ht hk ((testCmd_begins _ hc ha hq).trans (testBegin_mirror hk hv hl hw))
  case service =>
    intro t m s hn ht he
    exact ⟨_, rfl, rfl, rfl, run_ends hn (serviceTest_begins ht he)⟩
  case result =>
    rintro k x s hn hx rfl hp
    exact run_ends hn (testResult_ends hx hp)

end Sys2Proof.Proofs
end

section
/-! PROOFS. Kernel sets (R228 to R230): the reload of a tile whose instruction memory failed, its end, and the load of a set. -/

namespace Sys2Proof.Proofs

set_option Elab.async false

open Sys2Proof.Machine Sys2Proof.Laws

section
variable {s : Dev} {k : Nat}

theorem cluster_of_tile (n t : Fin 16) : (16 * n.val + t.val) / 16 = n.val := by omega

theorem fin_of_tile (n t : Fin 16) (h : (16 * n.val + t.val) % 16 < 16) : (⟨(16 * n.val + t.val) % 16, h⟩ : Fin 16) = t :=
  Fin.ext (by simp only; omega)

/-- The tile of an awake cluster whose fetch fails parity reloads its set from the reserve, or from a tile that holds it where the reserve's copy
fails, and goes OUT where the set is lost. -/
theorem kernelReload_reloads (n t : Fin 16) (addr : Nat) (ok : Bool) (hc : s.clState n = 3) (ht : tileState s (16 * n.val + t.val) ≠ 3)
    (hk : tileSet s (16 * n.val + t.val) = some k) :
    let u := 16 * n.val + t.val
    let d := occurCode (0x100 + u) 0x0304 none ([0, 0, 0, 0] ++ toLe 4 addr)
      ((s.bump (Reg.tileImemPar u)).setFld (Reg.tileState u) 0 2 1)
    let e := failResource n (.tile t) (testAbandon (tileKey u) 1 { d with reloads := kvSet d.reloads u d.cycles })
    let z := if e.lostSets.contains k then (false, e) else if ok then (true, e) else reserveRepair u k e
    kernelReload u addr ok s = if z.1 then z.2 else tileOut u z.2 := by
  simp only [kernelReload, cluster_of_tile, fin_of_tile, hc, ht, hk, ne_eq, not_true_eq_false, or_self, if_false]

theorem reloadDone_tests {t : Nat} (ht : tileState s t = 1) :
    reloadDone t s = (s.bump (Reg.tileReload t)).setFld (Reg.tileState t) 0 2 2 := if_neg (not_not_intro ht)

/-- The tile of an awake cluster takes the set that waits for it, and the opens of its cluster that waited for the set complete. -/
theorem ksetLoad_awake (n t : Fin 16) (hc : s.clState n ≠ 0) :
    ksetLoad (16 * n.val + t.val) s = finishOpens n (loadDue (16 * n.val + t.val) s) := by
  simp only [ksetLoad, cluster_of_tile, hc, if_false]

end

/-- Settles O24: each clause is one command of a tile, in a state in which it acts. -/
theorem tilesReloadTheirKernels : Obligations.TilesReloadTheirKernels := by
  unfold Obligations.TilesReloadTheirKernels
  refine ⟨?fails, ?reloaded, ?loads⟩
  case fails =>
    intro n t a ok s k hn hc ht hk u d e z
    exact run_ends hn (kernelReload_reloads n t a.toNat ok hc ht hk)
  case reloaded =>
    intro n t s hn ht
    exact run_ends hn (reloadDone_tests ht)
  case loads =>
    intro n t s hn hc
    exact run_ends hn (ksetLoad_awake n t hc)

end Sys2Proof.Proofs
end

section
/-! PROOFS. Echo cancellation (R243, R244, R246, R248, R249, R254, R257): what the canceller's commands do to the record of a channel whose
filters are free to change, how a shadow starts, fades in or is given up, and the write of `EE.CFG.EN`. -/

namespace Sys2Proof.Proofs

set_option Elab.async false

open Sys2Proof.Machine Sys2Proof.Laws

section
variable {s u : Dev} {c n p : Nat} {k q : Channel} {x : Shadow} {t : Stamp}

/-! ### The canceller of an open channel -/

/-- A change of an open channel's canceller. -/
theorem modEcho_of_chan (f : Echo → Echo) (hk : s.chan? c = some k) : modEcho c f s = s.setChan c { k with echo := f k.echo } := by
  simp only [modEcho, Dev.modChan, hk]

/-- The filters of a channel are free to change where its engine is enabled and double-talk, a cross-fade and tones are all absent. -/
theorem echoFree_iff : echoFree s k = true ↔
    echoRuns s k = true ∧ k.echo.dt = false ∧ k.echo.fade = none ∧ k.echo.tone = .enabled := by
  simp [echoFree, and_assoc]

/-- Neither the record of a channel nor a counter moves the clock that an event is stamped with. -/
theorem echoEvent_of_counted (e : Channel) (a code : Nat) (o : Octets) :
    echoEvent c code o ((s.setChan c e).bump a) = echoEventAt s.now c code o ((s.setChan c e).bump a) := rfl

theorem echoEvent_of_setChan (e : Channel) (code : Nat) (o : Octets) :
    echoEvent c code o (s.setChan c e) = echoEventAt s.now c code o (s.setChan c e) := rfl

/-! ### Copies and divergence (R243, R248) -/

theorem copyTaps_whole (hk : s.chan? c = some k) (hx : k.echo.shadow = none) :
    copyTaps c s = s.setChan c { k with echo := { k.echo with fg := k.echo.bg, copies := 0 } } := by
  simp only [copyTaps, modEcho_of_chan _ hk, hx]

/-- With a shadow, the foreground takes the background's other windows, and the shadow's window starts to fade in. -/
theorem copyTaps_fades (hk : s.chan? c = some k) (hx : k.echo.shadow = some x) :
    copyTaps c s = s.setChan c { k with echo := { k.echo with
      fg := k.echo.bg.set x.window (k.echo.fg.getD x.window []), shadow := none, fade := some x, copies := 0, faded := 0 } } := by
  simp only [copyTaps, modEcho_of_chan _ hk, hx]

theorem echoCopy_free (hk : s.chan? c = some k) (hf : echoFree s k = true) : echoCopy c s = copyTaps c s := by
  simp only [echoCopy, hk, hf, if_true]

theorem diverge_free (hk : s.chan? c = some k) (hf : echoFree s k = true) : diverge c n s = resetTaps s.now c n s := by
  simp only [diverge, hk, hf, if_true]

theorem shadowAbandon_none (cause : Nat) (hk : s.chan? c = some k) (hx : k.echo.shadow = none) : shadowAbandon t c cause s = s := by
  simp [shadowAbandon, hk, hx]

/-- A shadow that is abandoned gives its window back to the foreground's taps, and its cause is recorded (R249). -/
theorem shadowAbandon_some (cause : Nat) (hk : s.chan? c = some k) (hx : k.echo.shadow = some x) :
    shadowAbandon t c cause s = echoEventAt t c 0x0401 ([BitVec.ofNat 8 x.window] ++ toLe 2 x.start ++ [BitVec.ofNat 8 cause])
      ((s.setChan c { k with echo := { k.echo with
        bg := k.echo.bg.set x.window (k.echo.fg.getD x.window []), bgStarts := k.echo.bgStarts.set x.window x.oldStart
        shadow := none, held := 0 } }).bump (Reg.eeAbandons (k.home / 16))) := by
  simp only [shadowAbandon, hk, hx, Option.map_some, Option.bind_some, modEcho_of_chan _ hk]

/-- A divergence acts on the channel as the abandoning of its shadow, if it has one, has left it. -/
theorem resetTaps_after (hk : s.chan? c = some k) (hu : shadowAbandon t c 1 s = u) (hq : u.chan? c = some q) :
    resetTaps t c n s = echoEventAt t c 0x0402 (toLe 2 (sat 16 n)) ((u.setChan c { q with echo := { q.echo with
      bg := q.echo.fg, bgStarts := q.echo.starts, resets := 0 } }).bump (Reg.eeDiverge (k.home / 16))) := by
  simp only [resetTaps, hk, hu, modEcho_of_chan _ hq]

/-! ### The placement loop (R246) -/

/-- A run with a proposal starts a shadow where the proposal has held long enough and beats the least window by the margin, and only counts it
otherwise. -/
theorem placementRun_proposes (hk : s.chan? c = some k) (hf : echoFree s k = true) (hs : 48 < ecTailMs k.params) (hx : k.echo.shadow = none)
    (hp : proposal k.echo (ecTailMs k.params) (leastWindow k.echo) = some p) :
    let least := leastWindow k.echo
    let old := k.echo.starts.getD least 0
    let near := decide ((p : Int) - k.echo.lastProp ≤ 2) && decide ((k.echo.lastProp : Int) - p ≤ 2)
    let held := if 0 < k.echo.held ∧ near = true then k.echo.held + 1 else 1
    placementRun c s =
      if echoField s k 7 2 10 3 ≤ held ∧
          regionEnergy k.echo.loc old ^ 20 * 10 ^ echoField s k 8 2 40 6 ≤ regionEnergy k.echo.loc p ^ 20 then
        s.setChan c { k with echo := { k.echo with
          held := 0, lastProp := p, bg := k.echo.bg.set least [], bgStarts := k.echo.bgStarts.set least p
          shadow := some ⟨least, p, old⟩, copies := 0, resets := 0, age := 0, idle := 0 } }
      else s.setChan c { k with echo := { k.echo with held := held, lastProp := p } } := by
  obtain ⟨runs, talk, fade, tone⟩ := echoFree_iff.mp hf
  have runsLoop : placementRun c s = placementLoop c (ecTailMs k.params) s := by simp only [placementRun, hk, runs, if_true]
  have free : ¬ (ecTailMs k.params ≤ 48 ∨ k.echo.tone ≠ .enabled ∨ k.echo.dt = true ∨ k.echo.shadow.isSome = true ∨
      k.echo.fade.isSome = true) := by
    simp [talk, fade, tone, hx, hs]
  simp only [runsLoop, placementLoop, hk, if_neg free, hp, modEcho_of_chan _ hk]

/-! ### Moves and tones (R248, R254) -/

/-- At the end of a fade the foreground holds the shadow's window, and the move is recorded. -/
theorem fadeEnd_moves (hk : s.chan? c = some k) (hx : k.echo.fade = some x) :
    fadeEnd t c s = echoEventAt t c 0x0400
      ([BitVec.ofNat 8 x.window] ++ toLe 2 x.oldStart ++ toLe 2 x.start ++ toLe 2 (sat 16 (1000 * k.echo.age / bandHz k.params)))
      ((s.setChan c { k with echo := { k.echo with fg := k.echo.fg.set x.window (k.echo.bg.getD x.window [])
                                                   starts := k.echo.starts.set x.window x.start, fade := none } }).bump
        (Reg.eeMoves (k.home / 16))) := by
  simp only [fadeEnd, hk, hx, Option.map_some, Option.bind_some, modEcho_of_chan _ hk]

theorem toneRelease_enables (hk : s.chan? c = some k) (ht : k.echo.tone ≠ .enabled) (hr : echoRuns s k = true) :
    toneRelease c s = echoEvent c 0x0404 [if k.echo.tone = .disabled then 2 else 1]
      (s.setChan c { k with echo := { k.echo with tone := .enabled, quiet := 0 } }) := by
  simp only [toneRelease, hk, hr, if_true, releaseTone, ht, if_false, modEcho_of_chan _ hk, echoEvent_of_setChan]

/-! ### The engine's enable (R257) -/

/-- A write of `EE.CFG.EN` shows the engine's status, and one that enables it again empties the reference histories of its channels. -/
theorem eeEnWrite_eq (n : Nat) (en : Bool) (s : Dev) :
    eeEnWrite n en s =
      let u := eeStatus n (s.setBit (Reg.eeCfg n) 0 en)
      if en = true ∧ s.rbit (Reg.eeCfg n) 0 = false
        then (homedIn u n).foldl (fun v q => modEcho q.1 (fun e => { e with ref := [], refBad := 0 }) v) u else u := by
  simp only [eeEnWrite, Bool.not_eq_true]

end

/-- Settles O26: each clause is one command of the canceller, in a state in which it acts. -/
theorem echoFiltersCopyMoveAndClear : Obligations.EchoFiltersCopyMoveAndClear := by
  unfold Obligations.EchoFiltersCopyMoveAndClear
  refine ⟨?copy, ?fade, ?diverge, ?divergeShadow, ?counts, ?starts, ?move, ?abandon, ?talk, ?tone, ?enable⟩
  case copy =>
    intro c k s hn hk hf hx
    exact run_ends hn ((echoCopy_free hk hf).trans (copyTaps_whole hk hx))
  case fade =>
    intro c k x s hn hk hf hx
    exact run_ends hn ((echoCopy_free hk hf).trans (copyTaps_fades hk hx))
  case diverge =>
    intro c n k s hn hk hf hx
    rw [echoEvent_of_counted]
    exact run_ends hn ((diverge_free hk hf).trans (resetTaps_after hk (shadowAbandon_none 1 hk hx) hk))
  case divergeShadow =>
    intro c n k q x s hn hk hf hx u hq
    have abandoned : shadowAbandon s.dev.now c 1 s.dev = u := (shadowAbandon_some 1 hk hx).trans (echoEvent_of_counted ..).symm
    exact run_ends hn ((diverge_free hk hf).trans (resetTaps_after hk abandoned hq))
  case counts =>
    intro c p k s hn hk hf hs hx hp near held short
    exact run_ends hn ((placementRun_proposes hk hf hs hx hp).trans (if_neg fun ⟨long, _⟩ => Nat.not_le_of_lt short long))
  case starts =>
    intro c p k s hn hk hf hs hx least old hp again above below long margin
    refine run_ends hn ((placementRun_proposes hk hf hs hx hp).trans (if_pos ⟨?_, margin⟩))
    simpa [again, above, below] using long
  case move =>
    intro c k x s hn hk hx
    rw [echoEvent_of_counted]
    exact run_ends hn (fadeEnd_moves hk hx)
  case abandon =>
    intro c k x why s hn hk hx
    rw [echoEvent_of_counted]
    exact run_ends hn (shadowAbandon_some (abandonNum why) hk hx)
  case talk =>
    intro c k s hn hk
    exact run_ends hn (modEcho_of_chan _ hk)
  case tone =>
    intro c k s hn hk ht hr
    exact run_ends hn (toneRelease_enables hk ht hr)
  case enable =>
    intro by_ n en s hn hg d pass u
    exact run_ends hn ((gated_of_accepts _ _ _ _ hg).trans (eeEnWrite_eq n en s.dev))

end Sys2Proof.Proofs
end

section
/-! PROOFS. Filter chains and tone detectors (R283 to R285, R287, R290, R293, R310, R314, R321): the status that each operation of
`RFE.BANK_CMD` shows and what it does to the profile, the end of a swap, a synchronising reset, the level registers, and the ends of a data
call and of a received event. -/

namespace Sys2Proof.Proofs

set_option Elab.async false

open Sys2Proof.Machine Sys2Proof.Laws

/-- A write that is accepted, with no injection due, ends where its operation leaves the device. -/
theorem run_gated_ends {by_ : Requester} {a : Nat} {f : Dev → Dev} {s : State} {d : Dev} (hn : noInjection s) (hg : accepts by_ a s)
    (h : f s.dev = d) : run (gated by_ a f) s = .next (ended s d) :=
  run_ends hn ((gated_of_accepts by_ a f s hg).trans h)

section
variable {s : Dev} {n p c : Nat} {x : Profile} {k : Channel}

/-! ### Bank operations (R283, R284) -/

/-- COMMIT tests the profile before the window: the active bank first, then a swap, the number of stages and their stability. -/
theorem bankCommit_loaded (b : Bool) (hx : rfeProfile s n p = some x) :
    bankCommit n p b s =
      if b = x.active then bankStatus n 3 s
      else if x.swap.isSome then bankStatus n 2 s
      else if 8 < oct (bankWin s n) 0 then bankStatus n 5 s
      else if unstable (bankWin s n) then bankStatus n 6 s
      else bankStatus n 0 (bankLive n (setRfeProfile n p (x.setBank b (bankWin s n)) s)) := by
  simp only [bankCommit, hx]
  by_cases active : b = x.active
  · simp only [if_pos active, ite_self]
  · simp only [if_neg active]

theorem bankRead_loaded (b : Bool) (hx : rfeProfile s n p = some x) :
    bankRead n p b s =
      bankStatus n 0 ((upTo 46).foldl (fun d i => d.setNat (Reg.rfeBankWin n i) (le (x.bank b) (4 * i) 4)) s) := by
  simp only [bankRead, hx]

theorem bankSettle_loaded (b : Bool) (hx : rfeProfile s n p = some x) :
    let o := putOcts (x.bank b) 2 (toLe 2 (s.rfld (Reg.rfeBankWin n 0) 0 16))
    bankSettle n p b s = bankStatus n 0 (setRfeProfile n p (if b then { x with bankB := o } else { x with bankA := o }) s) := by
  simp only [bankSettle, hx]

theorem bankSwap_idle {f : Nat} (hf : f ≤ 64) (hx : rfeProfile s n p = some x) (hw : x.swap = none) :
    bankSwap n p f s = bankStatus n 0 (swapAsk n p f x s) := by
  simp only [bankSwap, if_neg (Nat.not_lt_of_le hf), hx, hw]

theorem bankSwap_latches {f : Nat} (hf : f ≤ 64) (hx : rfeProfile s n p = some x) (hw : x.swap.isSome = true) (hl : x.latched = none) :
    bankSwap n p f s = bankStatus n 1 (setRfeProfile n p { x with latched := some f } s) := by
  obtain ⟨w, hw⟩ := Option.isSome_iff_exists.mp hw
  simp only [bankSwap, if_neg (Nat.not_lt_of_le hf), hx, hw, hl]

theorem bankSwap_full {f : Nat} (hf : f ≤ 64) (hx : rfeProfile s n p = some x) (hw : x.swap.isSome = true)
    (hl : x.latched.isSome = true) : bankSwap n p f s = bankStatus n 7 s := by
  obtain ⟨w, hw⟩ := Option.isSome_iff_exists.mp hw
  obtain ⟨g, hl⟩ := Option.isSome_iff_exists.mp hl
  simp only [bankSwap, if_neg (Nat.not_lt_of_le hf), hx, hw, hl]

/-- A profile that is not loaded answers 4, unless SWAP finds its fade out of range before it looks. -/
theorem bankOps_notLoaded (b : Bool) (f : Nat) (hx : rfeProfile s n p = none) :
    bankCommit n p b s = bankStatus n 4 s ∧ bankRead n p b s = bankStatus n 4 s ∧ bankSettle n p b s = bankStatus n 4 s ∧
      bankSwap n p f s = bankStatus n (if 64 < f then 5 else 4) s := by
  refine ⟨?_, ?_, ?_, ?_⟩
  · simp only [bankCommit, hx]
  · simp only [bankRead, hx]
  · simp only [bankSettle, hx]
  · simp only [bankSwap, hx, ← apply_ite (fun st => bankStatus n st s)]

theorem bankOther_reserved {op : Nat} (h : op = 0 ∨ 5 ≤ op) : bankOther n op s = bankStatus n 5 s :=
  if_neg (by omega)

/-! ### The end of a swap (R285) -/

/-- A swap that has begun may end once its ticks are over and no node of the current epoch runs the profile. -/
theorem swapOver_due {w : Swap} (hx : rfeProfile s n p = some x) (hw : x.swap = some w) (hb : w.begun = true)
    (ht : w.t0 + 50 + fadeTicks w.fade ≤ s.time.ticks) (hi : profileBusy s n p true = false) : swapOver s n p true = some x := by
  have loaded : profileIn s n p true = some x := hx
  simp only [swapOver, loaded, Option.filter_some, hw, hb, ht, hi, decide_true, Bool.not_false, Bool.and_self, if_true]

/-- With no swap latched behind it and no channel in the cluster, a swap that ends is counted and recorded with none late. -/
theorem swapEnd_over (hx : swapOver s n p true = some x) (hl : x.latched = none) (hh : homedIn s n = []) :
    swapEnd n p s = note (rfeSource n) 0x0504 none [0, 0, 0, 0, BitVec.ofNat 8 p, 0]
      ((setRfeProfile n p { x with swap := none } s).bump (Reg.rfeSwaps n)) := by
  simp only [swapEnd, swapEndIn, hx, Option.isSome_some, hh, hl, List.filter_nil, List.length_nil]
  rfl

/-! ### Synchronising resets and levels (R287, R290) -/

/-- A request for a tick two ahead or more, with none pending and a selector that is not reserved, is scheduled. -/
theorem syncGo_schedules {t sel : Nat} (ht : (s.reg (Reg.rfeSyncLo n)).toNat + 2 ^ 32 * s.rfld (Reg.rfeSyncHi n) 0 24 = t)
    (hsel : s.rfld (Reg.rfeSyncHi n) 24 8 = sel) (hahead : s.tickNow + 2 ≤ t) (hfree : (s.ce n).sync = none)
    (hok : ¬ (64 ≤ sel ∧ sel ≤ 0xFD)) :
    syncGo n s = ((s.setCe n { s.ce n with sync := some ⟨s.target t, sel⟩ }).setBit (Reg.rfeSyncCmd n) 2 true).setFld
      (Reg.rfeSyncCmd n) 0 2 0 := by
  have notPending : ¬ (s.ce n).sync.isSome = true := by simp [hfree]
  simp only [syncGo, ht, hsel, if_neg (Nat.not_lt_of_le hahead), if_neg notPending, if_neg hok]

theorem lvlSel_shows {v : Word} (hk : s.chan? (fld v 0 16) = some k) (hn : k.home / 16 = n) :
    let z := if bit v 16 then k.rfeOut else k.rfeIn
    lvlSel n v s = ((((s.setNat (Reg.rfeLvlSel n) (v.toNat % 2 ^ 17 + 2 ^ 31)).setNat (Reg.rfeLvlRms n) (lvlReg z.rms)).setNat
      (Reg.rfeLvlPeak n) (lvlReg z.peak)).setNat (Reg.rfeLvlEnv n) (lvlReg z.env)).setNat (Reg.rfeLvlTick n) (z.tick % 2 ^ 32) := by
  simp only [lvlSel, hk, if_neg (not_not_intro hn)]

/-- A channel that the cluster does not hold shows no values, whether it is open elsewhere or not open. -/
theorem lvlSel_elsewhere {v : Word} (h : ∀ k ∈ s.chan? (fld v 0 16), k.home / 16 ≠ n) :
    lvlSel n v s = s.setNat (Reg.rfeLvlSel n) (v.toNat % 2 ^ 17) := by
  cases hk : s.chan? (fld v 0 16) with
  | none => simp only [lvlSel, hk]
  | some k => simp only [lvlSel, hk, if_pos (h k hk)]

/-! ### Data calls and received events (R310, R314) -/

theorem vbdQuiet_ends (hk : s.chan? c = some k) (hv : k.vbd = true) (hd : s.domainServed (1 + k.home / 16) = true)
    (he : s.rbit (Reg.tdCfg (k.home / 16)) 0 = true) (hq : (k.par 6 2).testBit 2 = true) (hp : (progOf s k.params).isSome = true) :
    vbdQuiet c s = vbdEnd c 0 (toneEvent c 0x0603 s.now [] s) := by
  have listening : ¬ (¬ k.vbd = true ∨ ¬ s.domainServed (1 + k.home / 16) = true ∨ ¬ s.rbit (Reg.tdCfg (k.home / 16)) 0 = true ∨
      ¬ (k.par 6 2).testBit 2 = true ∨ (progOf s k.params).isNone = true) := by
    simp [hv, hd, he, hq, Option.isNone_eq_false_iff.mpr hp]
  simp only [vbdQuiet, hk, if_neg listening]

theorem eventTimeout_ends {e : RxEvent} (hk : s.chan? c = some k) (he : k.rxEvent = some e) : eventTimeout c s = rxEnds c k e s := by
  simp only [eventTimeout, hk, he, Option.bind_some, Option.map_some]

/-- An event that crosses nowhere ends on its own side alone. -/
theorem rxEnds_here {e : RxEvent} {u : Dev} (hu : s.setChan c { (if e.playing then lineEnds s k else k) with rxEvent := none } = u)
    (hc : crossTo u k = none) : rxEnds c k e s = u := by
  simp only [rxEnds, hu, hc]

theorem rxEnds_crossed {e : RxEvent} {u : Dev} {q : Nat}
    (hu : s.setChan c { (if e.playing then lineEnds s k else k) with rxEvent := none } = u) (hc : crossTo u k = some q) :
    rxEnds c k e s = crossUpdate q k { e with ended := true } u := by
  simp only [rxEnds, hu, hc]

end

/-- Settles O27: each clause is one command of a filter engine or tone detector, in a state in which it acts or is refused. -/
theorem filterChainsAndTonesAreControlled : Obligations.FilterChainsAndTonesAreControlled := by
  unfold Obligations.FilterChainsAndTonesAreControlled
  refine ⟨?commit, ?read, ?settle, ?swap, ?notLoaded, ?reserved, ?swapEnd, ?sync, ?level, ?levelElsewhere, ?rfeEnable, ?quiet,
    ?eventEnds, ?eventCrosses, ?tdEnable⟩
  case commit =>
    intro by_ n p b x s hn hg hx
    exact run_gated_ends hn hg (bankCommit_loaded b hx)
  case read =>
    intro by_ n p b x s hn hg hx
    exact run_gated_ends hn hg (bankRead_loaded b hx)
  case settle =>
    intro by_ n p b x s hn hg hx o
    exact run_gated_ends hn hg (bankSettle_loaded b hx)
  case swap =>
    intro by_ n p f x s hn hg hf hx
    refine ⟨fun idle => ?_, fun swapping free => ?_, fun swapping taken => ?_⟩
    · exact run_gated_ends hn hg (bankSwap_idle hf hx idle)
    · exact run_gated_ends hn hg (bankSwap_latches hf hx swapping free)
    · exact run_gated_ends hn hg (bankSwap_full hf hx swapping taken)
  case notLoaded =>
    intro by_ n p f b s hn hg hx t
    obtain ⟨commit, read, settle, swap⟩ := bankOps_notLoaded b f hx
    exact ⟨run_gated_ends hn hg commit, run_gated_ends hn hg read, run_gated_ends hn hg settle,
      run_gated_ends hn hg swap⟩
  case reserved =>
    intro by_ n op s hn hg ho
    exact run_gated_ends hn hg (bankOther_reserved ho)
  case swapEnd =>
    intro n p x w s hn hx hw hb ht hi hl hh
    exact run_ends hn (swapEnd_over (swapOver_due hx hw hb ht hi) hl hh)
  case sync =>
    intro by_ n v s hn hg hv t sel ahead free ok
    exact run_gated_ends hn hg ((if_pos hv).trans (syncGo_schedules rfl rfl ahead free ok))
  case level =>
    intro by_ n v k s hn hg hk hh z
    exact run_gated_ends hn hg (lvlSel_shows hk hh)
  case levelElsewhere =>
    intro by_ n v s hn hg h
    exact run_gated_ends hn hg (lvlSel_elsewhere h)
  case rfeEnable =>
    intro by_ n en s hn hg d pass
    exact run_gated_ends hn hg rfl
  case quiet =>
    intro c k s hn hk hv hd he hq hp
    exact run_ends hn (vbdQuiet_ends hk hv hd he hq hp)
  case eventEnds =>
    intro c k e s hn hk he u hc
    exact run_ends hn ((eventTimeout_ends hk he).trans (rxEnds_here rfl hc))
  case eventCrosses =>
    intro c k e q s hn hk he u hc
    exact run_ends hn ((eventTimeout_ends hk he).trans (rxEnds_crossed rfl hc))
  case tdEnable =>
    intro by_ n en s hn hg
    exact run_gated_ends hn hg rfl

end Sys2Proof.Proofs
end

section
/-! PROOFS. Tones and recordings (R316, R342, R345, R346): what TONE_PLAY, TONE_STOP, RECORD_START and RECORD_STOP make of an open channel. -/

namespace Sys2Proof.Proofs

set_option Elab.async false

open Sys2Proof.Machine Sys2Proof.Laws

section
variable {d : Desc} {c : Nat} {k : Channel} {s : Dev}

/-! ### Tones (R316) -/

/-- DIR 0 asks for the line side, 1 for the network side, and 2 for both: what a tone command puts there replaces what was to come there. -/
theorem toneNext_set (dir : Nat) (x : ToneNext) (k : Channel) :
    (let l := if dir = 1 then k else { k with lineNext := x }
      if dir = 0 then l else { l with netNext := x }) =
      { k with lineNext := if dir = 1 then k.lineNext else x, netNext := if dir = 0 then k.netNext else x } := by
  by_cases net : dir = 1
  · subst net
    rfl
  · by_cases line : dir = 0
    · subst line
      rfl
    · simp only [if_neg net, if_neg line]

/-- A tone that the profile defines, at a level that F1 has and below the channel's bound for each frequency, is to play. -/
theorem tonePlayCmd_plays {o : Octets} (id : Nat) (ho : onOpen d c k s) (ha : d.aux = 0) (hd : oct d.params 0 < 3) (hz : d.zeroFrom 6 47 = true)
    (ht : toneDef (toneSection s) (oct d.params 1) = some o) (hl : d.arg 4 2 = 0x8000 ∨ toneLevel (d.arg 4 2) = true)
    (hf : (defFreqs o).any (fun f => decide (5 * rateHz (k.par 2 1) ≤ f)) = false) :
    let g : ToneGen := { def_ := oct d.params 1, level := (playLevel o (d.arg 4 2) % 65536).toNat, count := d.arg 2 2, played := 0, started := false }
    tonePlayCmd d id s = completeWith id .ok (s.setChan c { k with
      lineNext := if oct d.params 0 = 1 then k.lineNext else .play g, netNext := if oct d.params 0 = 0 then k.netNext else .play g }) := by
  have playable : ¬ (¬ (d.arg 4 2 = 0x8000 ∨ toneLevel (d.arg 4 2) = true) ∨
      (defFreqs o).any (fun f => decide (5 * rateHz (k.par 2 1) ≤ f)) = true) := by
    rintro (level | freq)
    · exact level hl
    · exact Bool.false_ne_true (hf.symm.trans freq)
  rw [tonePlayCmd, onChannel_acts ho id false (by simp [ha, hd, hz])]
  simp only [ht, if_neg playable, toneNext_set]

/-- A tone is to stop, whether or not one plays. -/
theorem toneStopCmd_stops (id : Nat) (ho : onOpen d c k s) (ha : d.aux = 0) (hd : oct d.params 0 < 3) (hz : d.zeroFrom 1 47 = true) :
    toneStopCmd d id s = completeWith id .ok (s.setChan c { k with
      lineNext := if oct d.params 0 = 1 then k.lineNext else .stop, netNext := if oct d.params 0 = 0 then k.netNext else .stop }) := by
  rw [toneStopCmd, onChannel_acts ho id false (by simp [ha, hd, hz])]
  simp only [toneNext_set]

/-! ### Recordings (R342, R345, R346) -/

/-- The fields that RECORD_START tests (R342), as its body writes them: directions, the order of the blocks, and no reserved octet set. -/
def recordFieldsOk (d : Desc) : Bool :=
  d.aux == 0 && oct d.params 0 != 0 && decide (oct d.params 0 < 4) && (decide (oct d.params 4 ≤ 2) || oct d.params 4 == 0xFF) &&
    oct d.params 1 == 0 && d.zeroFrom 5 47

theorem recordFieldsOk_of_lt (ha : d.aux = 0) (h0 : oct d.params 0 ≠ 0) (h4 : oct d.params 0 < 4)
    (hord : oct d.params 4 ≤ 2 ∨ oct d.params 4 = 0xFF) (h1 : oct d.params 1 = 0) (hz : d.zeroFrom 5 47 = true) : recordFieldsOk d = true := by
  simp [recordFieldsOk, ha, h0, h4, hord, h1, hz]

/-- A channel that records nothing and has a recording tap starts a stream for each direction, where the sink, the rate and the pool allow it. -/
theorem recordStartCmd_starts (id : Nat) {n : Nat} (ho : onOpen d c k s) (hfields : recordFieldsOk d = true)
    (hrecs : k.recs = []) (htap : k.template.holds 0x11 = true) (hsink : s.leads = true → recordStartPre s = none)
    (hn : ((oct d.params 0).testBit 0).toNat + ((oct d.params 0).testBit 1).toNat = n)
    (hrate : (recBits s + n * 16 * rateHz (k.par 2 1) + 999999) / 1000000 ≤ min 8000 (s.rfld Reg.arcRecLimit 0 16))
    (hpool : n * recCells s (k.par 2 1) ≤ s.rfld Reg.arcRecPoolFree 0 21) :
    let one (content : Nat) : RecStream := { content := content, sid := d.arg 2 2, order := oct d.params 4 }
    recordStartCmd d id s = catalogueNow c (completeWith id .ok (refreshRec (s.setChan c { k with
      recs := (if (oct d.params 0).testBit 0 then [one 1] else []) ++ (if (oct d.params 0).testBit 1 then [one 2] else []) }))) := by
  have sink : ¬ (s.leads = true ∧ (recordStartPre s).isSome = true) := by
    rintro ⟨leads, refused⟩
    simp [hsink leads] at refused
  rw [recordStartCmd, ← recordFieldsOk, onChannel_acts ho id false hfields]
  simp only [hn, hrecs, htap, List.isEmpty_nil, not_true_eq_false, if_false, if_neg sink, if_neg (Nat.not_lt.mpr hrate),
    if_neg (Nat.not_lt.mpr hpool)]

/-- A channel that records nothing has no block to leave; any other closes its open blocks, and completes when the last has left (R346). -/
theorem recordStopCmd_closes (id : Nat) (ho : onOpen d c k s) (ha : d.aux = 0) (hz : d.zeroFrom 0 47 = true) :
    recordStopCmd d id s = if k.recs = [] then complete id .ok (zeros 4) s else recFinish c (recCloseAll c s) := by
  have noBlock : toLe 4 0 = zeros 4 := by decide
  rw [recordStopCmd, onChannel_acts ho id false (by simp [ha, hz])]
  simp only [List.isEmpty_iff, noBlock]

end

/-- Settles O17: each command is taken here, and its fields pass, so that it acts on the tones or the recordings of its open channel. -/
theorem tonesAndRecordingsAreCommanded : Obligations.TonesAndRecordingsAreCommanded := by
  unfold Obligations.TonesAndRecordingsAreCommanded
  refine ⟨?play, ?stop, ?record, ?close⟩
  case play =>
    intro r d s c k o hn ht T lv dir ho ha hd hz hdef hl hf g
    exact runRing_here hn ht (tonePlayCmd_plays _ ho ha hd hz hdef hl hf)
  case stop =>
    intro r d s c k hn ht T dir ho ha hd hz
    exact runRing_here hn ht (toneStopCmd_stops _ ho ha hd hz)
  case record =>
    intro r d s c k hn ht T dirs order n ho ha h0 h4 hord h1 hz hrecs htap hsink hrate hpool one
    exact runRingPre_here hn ht (recordStartCmd_starts _ ho (recordFieldsOk_of_lt ha h0 h4 hord h1 hz) hrecs htap hsink rfl hrate hpool)
  case close =>
    intro r d s c k hn ht T ho ha hz
    exact runRing_here hn ht (recordStopCmd_closes _ ho ha hz)

end Sys2Proof.Proofs
end

section
/-! PROOFS. TDM highways (R325, R329, R331, R333, R335 to R337, R339): what a write of `TDM.H[h].CFG` comes to, and what a loss, a recovery, a
fallback, a frame-sync edge, a slip, a fight and a late span do on a highway in a state in which they act. -/

namespace Sys2Proof.Proofs

set_option Elab.async false

open Sys2Proof.Machine Sys2Proof.Laws

section
variable {s : Dev} {h i c t v old : Nat} {w : Word} {k : Channel} {p : TdmPin}

/-! ### The configuration (R325, R339) -/

/-- A write of the configuration is refused for a reserved rate, for another field of an enabled highway, and for an enable that its legs or
its synthesiser do not fit. -/
def CfgRefused (s : Dev) (h v old : Nat) : Prop :=
  6 ≤ v % 8 ∨ (old.testBit 31 = true ∧ v % 2 ^ 31 ≠ old % 2 ^ 31) ∨ (v.testBit 31 = true ∧ legsFit s h (v % 8) = false) ∨
    (v.testBit 31 = true ∧ old.testBit 31 = false ∧ masterFits s v = false)

theorem not_cfgRefused (rate : v % 8 < 6) (fields : old.testBit 31 = true → v % 2 ^ 31 = old % 2 ^ 31)
    (legs : v.testBit 31 = true → legsFit s h (v % 8) = true)
    (master : v.testBit 31 = true → old.testBit 31 = false → masterFits s v = true) : ¬ CfgRefused s h v old := by
  rintro (reserved | ⟨was, other⟩ | ⟨en, unfit⟩ | ⟨en, was, unfit⟩)
  · exact Nat.not_le_of_lt rate reserved
  · exact other (fields was)
  · simp [legs en] at unfit
  · simp [master en was] at unfit

theorem tdmCfgWrite_refused (refused : CfgRefused s h (w.toNat &&& tdmMask) (s.reg (Reg.tdmCfg h)).toNat) :
    tdmCfgWrite h w s = s.setBit (Reg.tdmStatus h) 9 true := by
  unfold tdmCfgWrite
  extract_lets a v old en was bad d
  split
  · rfl
  next rate =>
    split
    · rfl
    next fields =>
      split
      · rfl
      next legs =>
        refine if_pos ?_
        rcases refused with reserved | other | ⟨enabled, unfit⟩ | ⟨enabled, off, unfit⟩
        · exact absurd reserved rate
        · exact absurd other fields
        · exact absurd ⟨enabled, by simp [v, unfit]⟩ legs
        · exact ⟨enabled, by simp [was, old, a, off], by simp [v, unfit]⟩

/-- A write that is not refused clears `CFG_ERR`; it then enables the highway unless it is shorted, disables it, or is stored. -/
theorem tdmCfgWrite_taken (hv : w.toNat &&& tdmMask = v) (ho : (s.reg (Reg.tdmCfg h)).toNat = old) (taken : ¬ CfgRefused s h v old) :
    tdmCfgWrite h w s =
      let d := s.setBit (Reg.tdmStatus h) 9 false
      if old.testBit 31 = v.testBit 31 then d.setNat (Reg.tdmCfg h) v
      else if v.testBit 31 then
        (if h ∈ s.boot.tdmShort then d.setNat (Reg.tdmCfg h) (v % 2 ^ 31) else tdmEnable h (d.setNat (Reg.tdmCfg h) v))
      else tdmDisable h d := by
  simp only [CfgRefused, not_or, ← Bool.not_eq_true] at taken
  obtain ⟨rate, fields, legs, master⟩ := taken
  simp only [tdmCfgWrite, hv, ho, if_neg rate, if_neg fields, if_neg legs, if_neg master, List.contains_iff_mem, setBit_boot]

theorem tdmCfgWrite_enables (hv : w.toNat &&& tdmMask = v) (ho : (s.reg (Reg.tdmCfg h)).toNat = old) (taken : ¬ CfgRefused s h v old)
    (en : v.testBit 31 = true) (was : old.testBit 31 = false) :
    tdmCfgWrite h w s =
      let d := s.setBit (Reg.tdmStatus h) 9 false
      if h ∈ s.boot.tdmShort then d.setNat (Reg.tdmCfg h) (v % 2 ^ 31) else tdmEnable h (d.setNat (Reg.tdmCfg h) v) := by
  simp only [tdmCfgWrite_taken hv ho taken, en, was, Bool.false_eq_true, if_false, if_true]

theorem tdmCfgWrite_disables (hv : w.toNat &&& tdmMask = v) (ho : (s.reg (Reg.tdmCfg h)).toNat = old) (taken : ¬ CfgRefused s h v old)
    (en : v.testBit 31 = false) (was : old.testBit 31 = true) :
    tdmCfgWrite h w s = tdmDisable h (s.setBit (Reg.tdmStatus h) 9 false) := by
  simp only [tdmCfgWrite_taken hv ho taken, en, was, Bool.true_eq_false, Bool.false_eq_true, if_false]

theorem tdmCfgWrite_stores (hv : w.toNat &&& tdmMask = v) (ho : (s.reg (Reg.tdmCfg h)).toNat = old) (taken : ¬ CfgRefused s h v old)
    (same : v.testBit 31 = old.testBit 31) :
    tdmCfgWrite h w s = (s.setBit (Reg.tdmStatus h) 9 false).setNat (Reg.tdmCfg h) v := by
  simp only [tdmCfgWrite_taken hv ho taken, same, if_true]

/-! ### The clock of a slave (R329, R331, R335, R336) -/

/-- A loss that is not yet declared is marked and counted, keeps the time of the first, and is recorded. -/
theorem tdmLoss_declares (hs : tdmSlave s h = true) (hf : fallbackOn s h = false) (good : s.rbit (Reg.tdmStatus h) i = true) :
    let d := (s.setBit (Reg.tdmStatus h) i false).bump (Reg.tdmClkLoss h)
    tdmLoss h i s =
      occur (0x3C8 + h) {} (tdmShow h (setTdm h { tdmOf d h with lostAt := some ((tdmOf d h).lostAt.getD d.cycles) } d)) :=
  if_neg (by simp [hs, hf, good])

theorem tdmRecovered_ends (hs : tdmSlave s h = true) (hf : fallbackOn s h = false) (lost : tdmLost s h = true) :
    tdmRecovered h s =
      faultEnd (0x3C8 + h) [] (tdmShow h (setTdm h { tdmOf s h with lostAt := none } (s.setFld (Reg.tdmStatus h) 1 2 3))) :=
  if_neg (by simp [hs, hf, lost])

theorem tdmFallback_starts (ht : (tdmOf s h).lostAt = some t) (hs : tdmSlave s h = true) (hf : fallbackOn s h = false)
    (allowed : s.rbit (Reg.tdmCfg h) 23 = true) :
    tdmFallback h s = tdmShow h ((s.elapseTo (t + usCycles 10000)).setBit (Reg.tdmStatus h) 3 true) := by
  have acts : ¬ (¬ tdmSlave s h = true ∨ fallbackOn s h = true ∨ ¬ s.rbit (Reg.tdmCfg h) 23 = true) := by simp [hs, hf, allowed]
  simp only [tdmFallback, ht, if_neg acts]

/-- A highway with one more frame-sync edge captured: its stamp, before those of the 1,023 edges that came last. -/
def edgeCaptured (s : Dev) (h : Nat) : Tdm := { tdmOf s h with edges := (stampNs s.now :: (tdmOf s h).edges).take 1024 }

theorem slaveFsEdge_captures (onTime : Bool) (hs : tdmSlave s h = true) (hf : fallbackOn s h = false) :
    slaveFsEdge h onTime s =
      if onTime then
        (setTdm h { edgeCaptured s h with fsRun := min 2 ((edgeCaptured s h).fsRun + 1) } (s.drawBelow 200001).2).setReg (Reg.tdmFreq h)
          (BitVec.ofInt 32 (((s.drawBelow 200001).1 : Int) - 100000))
      else (setTdm h { edgeCaptured s h with fsRun := 0 } s).bump (Reg.tdmFsErr h) :=
  if_neg (by simp [hs, hf])

/-- The edges that a highway holds after a slip (R331): a received frame that is repeated carries a stamp of its own, and one that is dropped
takes its stamp away. -/
def slipEdges (receive again : Bool) (x : Tdm) : List Nat :=
  if ¬ receive then x.edges else if again then (x.edges.head?.map (· + 125000)).toList ++ x.edges else x.edges.drop 1

theorem slip_recentres (receive again : Bool) (hs : tdmSlave s h = true) (good : tdmLost s h = false) (hf : fallbackOn s h = false) :
    let d := (setTdm h { tdmOf s h with edges := slipEdges receive again (tdmOf s h) } s).bump
      (if receive then Reg.tdmSlipRx h else Reg.tdmSlipTx h)
    let once := d.oncePer (0x3D000 + h) d.now.sec
    slip h receive again s = if once.1 then occur (0x3D0 + h) {} once.2 else once.2 :=
  if_neg (by simp [hs, good, hf])

/-! ### Pins and spans (R333, R336, R337) -/

/-- A fight on CLK or FS ends a fallback; any other releases the pin that fights. -/
theorem fight_releases (hd : drives s h p = true) :
    let d := s.bump (Reg.tdmFight h)
    fight h p s =
      if fallbackOn d h = true ∧ p ≠ .tx
      then tdmShow h (setTdm h { tdmOf d h with lostAt := some d.cycles } (d.setBit (Reg.tdmStatus h) 3 false))
      else occur (0x3C0 + h) {} (tdmShow h (d.setBit (Reg.tdmStatus h) (pinBit p) true)) :=
  if_neg (not_not_intro hd)

theorem underrun_fills (hk : s.chan? c = some k) (hon : tdmOn s h = true) (hl : k.legs.line.map lineHighway = some h)
    (supplied : k.supplied = true) (frames : s.rbit (Reg.tdmStatus h) 0 = true ∨ s.rbit (Reg.tdmCfg h) 24 = true) :
    let u := s.bump (Reg.tdmUnderrun h)
    underrun h c s = if txFree u h then u.emit (.silence h c) else u := by
  simp only [underrun, hk]
  exact if_pos ⟨hon, hl, supplied, frames⟩

end

/-- Settles O28: each clause is one command of a highway, in a state in which it acts or is refused. -/
theorem highwaysRunAndFail : Obligations.HighwaysRunAndFail := by
  unfold Obligations.HighwaysRunAndFail
  refine ⟨?refused, ?taken, ?clkLoss, ?fsLoss, ?recovered, ?fallback, ?edge, ?slip, ?fight, ?rearm, ?underrun⟩
  case refused =>
    intro by_ h w s hn hg v old refused
    exact run_gated_ends hn hg (tdmCfgWrite_refused refused)
  case taken =>
    intro by_ h w s hn hg v old rate legs d cfgErr
    refine ⟨fun en was fits whole => ?_, fun en was fits short => ?_, fun en was fields => ?_, fun same fields => ?_⟩
    · have taken : ¬ CfgRefused s.dev h v old := not_cfgRefused rate (by simp [was]) legs fun _ _ => fits
      exact run_gated_ends hn hg ((tdmCfgWrite_enables rfl rfl taken en was).trans (if_neg whole))
    · have taken : ¬ CfgRefused s.dev h v old := not_cfgRefused rate (by simp [was]) legs fun _ _ => fits
      exact run_gated_ends hn hg ((tdmCfgWrite_enables rfl rfl taken en was).trans (if_pos short))
    · have taken : ¬ CfgRefused s.dev h v old := not_cfgRefused rate (fun _ => fields) legs (by simp [en])
      exact run_gated_ends hn hg (tdmCfgWrite_disables rfl rfl taken en was)
    · have taken : ¬ CfgRefused s.dev h v old := not_cfgRefused rate fields legs (by simp +contextual [same])
      exact run_gated_ends hn hg (tdmCfgWrite_stores rfl rfl taken same)
  case clkLoss =>
    intro h s hn hs hf good d
    exact run_ends hn (tdmLoss_declares hs hf good)
  case fsLoss =>
    intro h s hn hs hf good d
    exact run_ends hn (tdmLoss_declares hs hf good)
  case recovered =>
    intro h s hn hs hf lost
    exact run_ends hn (tdmRecovered_ends hs hf lost)
  case fallback =>
    intro h t s hn ht hs hf allowed
    exact run_ends hn (tdmFallback_starts ht hs hf allowed)
  case edge =>
    intro h s hn hs hf x
    exact ⟨run_ends hn (slaveFsEdge_captures false hs hf), _, _, run_ends hn (slaveFsEdge_captures true hs hf)⟩
  case slip =>
    intro h receive again s hn hs good hf x z d u
    exact run_ends hn (slip_recentres receive again hs good hf)
  case fight =>
    intro h p s hn hd d
    exact run_ends hn (fight_releases hd)
  case rearm =>
    intro by_ h v s hn hg
    exact run_gated_ends hn hg rfl
  case underrun =>
    intro h c k s hn hk hon hl supplied frames u
    exact run_ends hn (underrun_fills hk hon hl supplied frames)

end Sys2Proof.Proofs
end

section
/-! PROOFS. Steps and what they leave (log entries 1, 4 and 6): a step takes one command off the queue, a step on an empty queue is one cycle, and
the end of a command that leaves nothing due shows status alone. -/

namespace Sys2Proof.Proofs

set_option Elab.async false

open Sys2Proof.Machine Sys2Proof.Laws

/-! ### Steps -/

/-- Settles O1. -/
theorem stepRunsFrontCommand : Obligations.StepRunsFrontCommand := by
  unfold Obligations.StepRunsFrontCommand
  intro c rest s front
  exact step_of_front front

/-- Settles O2: with no injection due, the cycle is all that the step does before it ends. -/
theorem emptyQueueStepIsOneCycle : Obligations.EmptyQueueStepIsOneCycle := by
  unfold Obligations.EmptyQueueStepIsOneCycle
  intro s empty hn
  exact (step_of_empty empty).trans (run_of_noInjection (fun d => d.elapse 1) s hn)

/-- Settles O53: a command that completes leaves the queue's rest, on which it ran, alone. -/
theorem everyStepTakesOneCommand : Obligations.EveryStepTakesOneCommand := by
  unfold Obligations.EveryStepTakesOneCommand
  intro c rest s t front ends
  obtain ⟨u, outcome, left⟩ := exec_endsBy c { s with pending := rest }
  rw [← step_of_front front, ends] at outcome
  split at outcome
  · cases outcome
    exact left
  · cases outcome

/-! ### What status writes -/

/-- `d` is `s` but for status: registers of `shownRegs`, ADJ_REMAIN and CL_MARGIN apart in their low four bits, and what the GDU holds. -/
structure ShowsOf (d s : Dev) : Prop where
  frame : { d with regs := s.regs, gdu := s.gdu } = s
  reg : ∀ a, a ∉ shownRegs → d.reg a = s.reg a
  bits : ∀ a i, a ∉ Reg.tbAdjRemain :: (upTo 16).map Reg.gduClMargin → 4 ≤ i → d.rbit a i = s.rbit a i

theorem ShowsOf.rfl {s : Dev} : ShowsOf s s := ⟨Eq.refl s, fun _ _ => Eq.refl _, fun _ _ _ _ => Eq.refl _⟩

theorem ShowsOf.trans {d e s : Dev} (h : ShowsOf d e) (k : ShowsOf e s) : ShowsOf d s where
  frame := (congrArg (fun x : Dev => { x with regs := s.regs, gdu := s.gdu }) h.frame).trans k.frame
  reg a ha := (h.reg a ha).trans (k.reg a ha)
  bits a i ha hi := (h.bits a i ha hi).trans (k.bits a i ha hi)

theorem ShowsOf.ite {p : Prop} [Decidable p] {d e s : Dev} (h : ShowsOf d s) (k : ShowsOf e s) : ShowsOf (if p then d else e) s := by
  split
  · exact h
  · exact k

theorem ShowsOf.cycles {d s : Dev} (h : ShowsOf d s) : d.cycles = s.cycles := (congrArg Dev.cycles h.frame :)
theorem ShowsOf.flt {d s : Dev} (h : ShowsOf d s) : d.flt = s.flt := (congrArg Dev.flt h.frame :)
theorem ShowsOf.tileUsed {d s : Dev} (h : ShowsOf d s) : d.tileUsed = s.tileUsed := (congrArg Dev.tileUsed h.frame :)
theorem ShowsOf.tileMem {d s : Dev} (h : ShowsOf d s) : d.tileMem = s.tileMem := (congrArg Dev.tileMem h.frame :)

/-- A status bit is written. -/
theorem showsOf_setBit {a i : Nat} (b : Bool) (s : Dev) (ha : a ∈ shownRegs) (hi : i < 4) : ShowsOf (s.setBit a i b) s where
  frame := rfl
  reg _ hc := reg_setBit_other _ _ _ _ _ fun same => hc (same ▸ ha)
  bits _ _ _ hj := rbit_setBit_other _ _ _ _ _ _ (by omega) (.inr (by omega))

/-- A register whose status is wider is written. -/
theorem showsOf_setReg {a : Nat} (w : Word) (s : Dev) (ha : a ∈ shownRegs) (hw : a ∈ Reg.tbAdjRemain :: (upTo 16).map Reg.gduClMargin) :
    ShowsOf (s.setReg a w) s where
  frame := rfl
  reg _ hc := reg_setReg_other _ _ _ _ fun same => hc (same ▸ ha)
  bits _ j hc _ := congrArg (bit · j) (reg_setReg_other _ _ _ _ fun same => hc (same ▸ hw))

theorem showsOf_setCg (n : Nat) (g : ClusterGdu) (s : Dev) : ShowsOf (s.setCg n g) s := ⟨rfl, fun _ _ => rfl, fun _ _ _ _ => rfl⟩

/-! ### The status of every unit -/

theorem mem_upTo {n k : Nat} : n ∈ upTo k ↔ n < k := List.mem_range

/-- The registers of a cluster that show status. -/
theorem shownRegs_cluster {n : Nat} (h : n < 16) : Reg.gduClMargin n ∈ shownRegs ∧ Reg.eeStatus n ∈ shownRegs ∧ Reg.rfeStatus n ∈ shownRegs ∧
    Reg.tdStatus n ∈ shownRegs := by
  have mem (f : Nat → Nat) : f n ∈ (upTo 16).map f := List.mem_map_of_mem (mem_upTo.mpr h)
  simp only [shownRegs, List.mem_append, mem, true_or, or_true, and_self]

theorem shownRegs_device : Reg.mpeStatus ∈ shownRegs ∧ Reg.tbStatus ∈ shownRegs ∧ Reg.tbAdjRemain ∈ shownRegs ∧ Reg.tbAdjCmd ∈ shownRegs ∧
    Reg.fltStatus ∈ shownRegs := by
  simp [shownRegs]

theorem showMargin_shows {n : Nat} (s : Dev) (h : n < 16) : ShowsOf (showMargin n s) s := by
  unfold showMargin
  extract_lets cg ms least
  obtain ⟨margin, -⟩ := shownRegs_cluster h
  refine .ite .rfl ((showsOf_setReg _ _ margin ?_).trans (showsOf_setCg ..))
  exact List.mem_cons_of_mem _ (List.mem_map_of_mem (mem_upTo.mpr h))

theorem engineShow_shows {n : Nat} (s : Dev) (h : n < 16) : ShowsOf (engineShow n s) s := by
  obtain ⟨-, ee, rfe, td⟩ := shownRegs_cluster h
  have two {a : Nat} (ha : a ∈ shownRegs) (p q : Bool) (d : Dev) : ShowsOf ((d.setBit a 0 p).setBit a 1 q) d :=
    (showsOf_setBit q _ ha (by decide)).trans (showsOf_setBit p _ ha (by decide))
  exact .ite (((two td _ _ _).trans (two rfe _ _ _)).trans ((two ee _ _ _).trans (showMargin_shows s h))) (showMargin_shows s h)

theorem enginesShow_shows {l : List Nat} (s : Dev) (h : ∀ n ∈ l, n < 16) : ShowsOf (l.foldl (fun s n => engineShow n s) s) s := by
  induction l generalizing s with
  | nil => exact .rfl
  | cons n l ih =>
    rw [List.forall_mem_cons] at h
    exact (ih _ h.2).trans (engineShow_shows s h.1)

theorem timeShow_shows (s : Dev) : ShowsOf (timeShow s) s := by
  obtain ⟨-, status, remain, cmd, -⟩ := shownRegs_device
  exact (showsOf_setBit _ _ cmd (by decide)).trans
    ((showsOf_setReg _ _ remain List.mem_cons_self).trans (showsOf_setBit _ _ status (by decide)))

theorem showAll_shows (s : Dev) : ShowsOf (showAll s) s := by
  obtain ⟨mpe, -, -, -, pair⟩ := shownRegs_device
  have engines := enginesShow_shows (l := upTo 16) s fun n => mem_upTo.mp
  have idle {d : Dev} (h : ShowsOf d s) : ShowsOf (if d.domainOn 18 then mpeIdle d else d) s :=
    .ite ((showsOf_setBit _ _ mpe (by decide)).trans h) h
  have time {d : Dev} (h : ShowsOf d s) : ShowsOf (if d.domainOn 26 then timeShow d else d) s := .ite ((timeShow_shows d).trans h) h
  exact (showsOf_setBit _ _ pair (by decide)).trans (time (idle engines))

/-! ### Margins (R119) -/

/-- A cluster's record with the margins of the last second. -/
def recent (c : Nat) (g : ClusterGdu) : ClusterGdu := { g with margins := g.margins.filter (fun p => decide (c < p.1 + usCycles 1000000)) }

theorem recent_recent (c : Nat) (g : ClusterGdu) : recent c (recent c g) = recent c g := by
  simp [recent, List.filter_filter]

theorem cg_setCg (n k : Nat) (g : ClusterGdu) (s : Dev) : (s.setCg n g).cg k = if k = n then g else s.cg k := by
  simp only [Dev.cg, Dev.setCg, kvGet_kvSet]
  split <;> rfl

theorem showMargin_cg (n k : Nat) (s : Dev) : (showMargin n s).cg k = if k = n then recent s.cycles (s.cg k) else s.cg k := by
  unfold showMargin
  extract_lets cg ms least
  split
  next empty =>
    split
    next same =>
      have none : (s.cg k).margins = [] := same ▸ List.isEmpty_iff.mp empty
      rw [recent, none, List.filter_nil, ← none]
    next => rfl
  next =>
    refine (cg_setCg n k _ s).trans ?_
    split
    next same => rw [same]; rfl
    next => rfl

theorem engineShow_cg (n k : Nat) (s : Dev) : (engineShow n s).cg k = if k = n then recent s.cycles (s.cg k) else s.cg k := by
  rw [← showMargin_cg]
  unfold engineShow
  dsimp only
  split <;> rfl

theorem enginesShow_cg {l : List Nat} (k : Nat) (s : Dev) (h : ∀ n ∈ l, n < 16) :
    (l.foldl (fun s n => engineShow n s) s).cg k = if k ∈ l then recent s.cycles (s.cg k) else s.cg k := by
  induction l generalizing s with
  | nil => rfl
  | cons n l ih =>
    rw [List.forall_mem_cons] at h
    rw [List.foldl_cons, ih _ h.2, (engineShow_shows s h.1).cycles, engineShow_cg]
    by_cases here : k = n <;> by_cases later : k ∈ l <;> simp [here, later, recent_recent]

theorem showAll_cg (k : Nat) (s : Dev) : (showAll s).cg k = if k < 16 then recent s.cycles (s.cg k) else s.cg k := by
  have engines := enginesShow_cg (l := upTo 16) k s fun n => mem_upTo.mp
  simp only [mem_upTo] at engines
  rw [← engines]
  have idle (d : Dev) : (if d.domainOn 18 then mpeIdle d else d).cg k = d.cg k := by split <;> rfl
  have time (d : Dev) : (if d.domainOn 26 then timeShow d else d).cg k = d.cg k := by split <;> rfl
  exact (time _).trans (idle _)

/-! ### The end of a quiet command -/

theorem settle_quiet {s : State} (h : quiet s.dev) : settle s = { s with dev := showAll (tileForget s.dev) } := by
  obtain ⟨running, -, -, noReset, -⟩ := id h
  have chip : (showAll (tileForget s.dev)).flt.chip = none :=
    (congrArg Flt.chip (showAll_shows (tileForget s.dev)).flt).trans noReset
  simp only [settle, if_neg running, settleDev_quiet s.dev h, chip]

theorem mem_tileForget (t : Nat) (s : Dev) : t ∈ (tileForget s).tileUsed ↔ t ∈ s.tileUsed ∨ (t < 256 ∧ tileWorks s t = true) := by
  simp only [tileForget, tilesNew, List.mem_append, List.mem_filter, mem_upTo, Bool.and_eq_true, Bool.not_eq_true', List.contains_eq_mem,
    decide_eq_false_iff_not]
  tauto

/-- Settles O52: a command that leaves nothing due ends with what tile memory forgets and with the status of every unit. -/
theorem settlingShowsStatusOnly : Obligations.SettlingShowsStatusOnly := by
  unfold Obligations.SettlingShowsStatusOnly
  intro s idle
  rw [settle_quiet idle]
  have shows := showAll_shows (tileForget s.dev)
  refine ⟨rfl, rfl, ?frame, fun n low => ?margins, fun n high => ?beyond, fun t => ?used, shows.tileMem, shows.reg, shows.bits⟩
  case frame => exact congrArg (fun d : Dev => { d with tileMem := s.dev.tileMem, tileUsed := s.dev.tileUsed }) shows.frame
  case margins => exact (showAll_cg n _).trans (if_pos low)
  case beyond => exact (showAll_cg n _).trans (if_neg (Nat.not_lt.mpr high))
  case used => rw [shows.tileUsed]; exact mem_tileForget t s.dev

end Sys2Proof.Proofs
end

section
/-! PROOFS. An occurrence in the status of its source (R489, R510): the words of the source that it writes, and the word of FLT.STICKY. -/

namespace Sys2Proof.Proofs

set_option Elab.async false

open Sys2Proof.Machine Sys2Proof.Laws

/-! ### Stamps in registers -/

theorem stamp_of_wf {t : Stamp} (h : t.wf = true) : t.sec < 2 ^ 48 ∧ t.ns < 1000000000 ∧ t.tepoch < 256 := by
  simpa [Stamp.wf, and_assoc] using h

/-- A stamp takes three words: the nanoseconds, the low word of the seconds, and the rest of the seconds with the time epoch. -/
theorem reg_putStamp (a b : Nat) (t : Stamp) (s : Dev) :
    (putStamp a t s).reg b =
      if b = a + 8 then BitVec.ofNat 32 (t.sec / 2 ^ 32 % 0x10000 + t.tepoch % 256 * 0x10000)
      else if b = a + 4 then BitVec.ofNat 32 (t.sec % 2 ^ 32) else if b = a then BitVec.ofNat 32 t.ns else s.reg b := by
  simp only [putStamp, Dev.setNat, reg_setReg]

/-- The words of a stamp that a Ledger entry can hold read as it was written. -/
theorem putStamp_reads (a : Nat) {t : Stamp} (s : Dev) (h : t.wf = true) :
    ((putStamp a t s).reg a).toNat = t.ns ∧ ((putStamp a t s).reg (a + 4)).toNat = t.sec % 2 ^ 32 ∧
      ((putStamp a t s).reg (a + 8)).toNat = t.sec / 2 ^ 32 + t.tepoch * 0x10000 := by
  obtain ⟨sec, ns, tepoch⟩ := stamp_of_wf h
  simp only [reg_putStamp, Nat.left_eq_add, Nat.add_left_cancel_iff, if_true, if_false, OfNat.ofNat_ne_zero, Nat.reduceEqDiff,
    BitVec.toNat_ofNat]
  omega

theorem reg_putStamp_other {a b : Nat} (t : Stamp) (s : Dev) (h : b ≠ a) (h4 : b ≠ a + 4) (h8 : b ≠ a + 8) : (putStamp a t s).reg b = s.reg b := by
  rw [reg_putStamp, if_neg h8, if_neg h4, if_neg h]

/-! ### The status of a source -/

section
variable {n : Nat} {real forced : Bool} {t : Stamp} {s : Dev}

/-- The device with an occurrence's stamps in FIRST, where its source had none, and in LAST. -/
def stamped (n : Nat) (t : Stamp) (s : Dev) : Dev :=
  putStamp (Reg.srcLastNs n) t (if s.rfld (Reg.srcStatus n) 8 8 = 0 then putStamp (Reg.srcFirstNs n) t s else s)

/-- A status word with REAL and FORCED set by an occurrence's kinds. -/
def kindsWord (real forced : Bool) (w : Word) : Word :=
  let r := if real then putBit w 1 true else w
  if forced then putBit r 2 true else r

/-- STATUS of a source after an occurrence: COUNT up by one, and REAL and FORCED set by its kinds. -/
def statusWord (real forced : Bool) (w : Word) : Word := kindsWord real forced (putFld w 8 8 (sat 8 (fld w 8 8 + 1)))

/-- The words of the stamps lie behind STATUS, and those of FLT.STICKY before every source's. -/
theorem source_addresses (h : n < 1024) : Reg.srcFirstNs n = Reg.srcStatus n + 4 ∧ Reg.srcLastNs n = Reg.srcStatus n + 16 ∧
    Reg.fltSticky (n / 32) < Reg.srcStatus n := by
  simp only [Reg.srcStatus, Reg.srcFirstNs, Reg.srcLastNs, Reg.fltSticky]
  omega

theorem reg_stamped_before {a : Nat} (h : n < 1024) (ha : a ≤ Reg.srcStatus n) : (stamped n t s).reg a = s.reg a := by
  obtain ⟨first, last, -⟩ := source_addresses h
  rw [stamped, reg_putStamp_other _ _ (by omega) (by omega) (by omega)]
  split
  · exact reg_putStamp_other _ _ (by omega) (by omega) (by omega)
  · rfl

/-- The device with an occurrence counted and stamped. -/
def countStamped (n : Nat) (t : Stamp) (s : Dev) : Dev :=
  putStamp (Reg.srcLastNs n) t ((if s.rfld (Reg.srcStatus n) 8 8 = 0 then putStamp (Reg.srcFirstNs n) t s else s).setFld (Reg.srcStatus n) 8 8
    (sat 8 (s.rfld (Reg.srcStatus n) 8 8 + 1)))

/-- COUNT is written in a word of its own. -/
theorem reg_countStamped (a : Nat) (h : n < 1024) :
    (countStamped n t s).reg a =
      if a = Reg.srcStatus n then putFld (s.reg a) 8 8 (sat 8 (fld (s.reg a) 8 8 + 1)) else (stamped n t s).reg a := by
  obtain ⟨first, last, -⟩ := source_addresses h
  by_cases status : a = Reg.srcStatus n
  · subst status
    rw [if_pos rfl, countStamped, reg_putStamp_other _ _ (by omega) (by omega) (by omega), Dev.setFld, reg_setReg_same]
    split
    · rw [reg_putStamp_other _ _ (by omega) (by omega) (by omega)]
      rfl
    · rfl
  · rw [if_neg status, stamped, countStamped, reg_putStamp, reg_putStamp, reg_setFld_other _ _ _ _ _ _ status]

theorem reg_kindsSet (a st : Nat) (d : Dev) :
    (let r := if real then d.setBit st 1 true else d
      if forced then r.setBit st 2 true else r).reg a = if a = st then kindsWord real forced (d.reg a) else d.reg a := by
  by_cases status : a = st
  · subst status
    cases real <;> cases forced <;> simp [kindsWord, Dev.setBit]
  · cases real <;> cases forced <;> simp [status]

/-- What an occurrence makes of every register: STATUS and FLT.STICKY apart, it writes the stamps alone. -/
theorem reg_statusOcc (a : Nat) (h : n < 1024) :
    let w := statusWord real forced (s.reg (Reg.srcStatus n))
    (statusOcc n real forced t s).reg a =
      if a = Reg.fltSticky (n / 32) then putBit (s.reg a) (n % 32) (bit w 1 || bit w 2)
      else if a = Reg.srcStatus n then w else (stamped n t s).reg a := by
  obtain ⟨-, -, sticky⟩ := source_addresses h
  have apart : Reg.fltSticky (n / 32) ≠ Reg.srcStatus n := Nat.ne_of_lt sticky
  have early : (stamped n t s).reg (Reg.fltSticky (n / 32)) = s.reg (Reg.fltSticky (n / 32)) := reg_stamped_before h (Nat.le_of_lt sticky)
  have kinds (b : Nat) := reg_kindsSet (real := real) (forced := forced) b (Reg.srcStatus n) (countStamped n t s)
  simp only [reg_countStamped _ h] at kinds
  intro w
  show (stickyUpdate n _).reg a = _
  rw [stickyUpdate, Dev.setBit, reg_setReg]
  split
  next at_sticky =>
    subst at_sticky
    rw [Dev.rbit, Dev.rbit]
    exact congrArg₂ (fun x y => putBit x (n % 32) (bit y 1 || bit y 2)) ((kinds _).trans (by rw [if_neg apart, if_neg apart, early]))
      ((kinds _).trans (by rw [if_pos rfl, if_pos rfl]; rfl))
  next =>
    refine (kinds a).trans ?_
    split
    next status => exact congrArg (fun b => statusWord real forced (s.reg b)) status
    next => rfl

/-! ### The fields of the status -/

theorem fld_putBit_other (w : Word) {i lo len : Nat} (b : Bool) (h : i < 32) (hd : lo + len ≤ i ∨ i + 1 ≤ lo) :
    fld (putBit w i b) lo len = fld w lo len := fld_putFld_other _ _ _ _ _ _ h hd

theorem bit_putFld_other (w : Word) {i lo len : Nat} (v : Nat) (h : lo + len ≤ 32) (hd : i < lo ∨ lo + len ≤ i) :
    bit (putFld w lo len v) i = bit w i := by
  rw [bit, testBit_putFld _ _ _ _ _ h, if_neg (by omega), bit]

/-- COUNT and LIVE are no kinds: what sets REAL and FORCED leaves them alone. -/
theorem kindsWord_fields (w : Word) : fld (kindsWord real forced w) 8 8 = fld w 8 8 ∧ bit (kindsWord real forced w) 0 = bit w 0 ∧
    bit (kindsWord real forced w) 1 = (bit w 1 || real) ∧ bit (kindsWord real forced w) 2 = (bit w 2 || forced) := by
  have count (w : Word) (i : Nat) (hi : i < 8) : fld (putBit w i true) 8 8 = fld w 8 8 := fld_putBit_other w true (by omega) (.inr hi)
  have other (w : Word) (i j : Nat) (hi : i < 32) (h : j ≠ i) : bit (putBit w i true) j = bit w j := bit_putBit_other w i j true hi h
  cases real <;> cases forced <;> simp [kindsWord, count, other, bit_putBit_same]

/-- The fields of STATUS after an occurrence (R489). -/
theorem statusWord_fields (w : Word) : fld (statusWord real forced w) 8 8 = min 255 (fld w 8 8 + 1) ∧
    bit (statusWord real forced w) 0 = bit w 0 ∧ bit (statusWord real forced w) 1 = (bit w 1 || real) ∧
    bit (statusWord real forced w) 2 = (bit w 2 || forced) := by
  obtain ⟨count, live, isReal, isForced⟩ := kindsWord_fields (real := real) (forced := forced) (putFld w 8 8 (sat 8 (fld w 8 8 + 1)))
  have counted : fld (putFld w 8 8 (sat 8 (fld w 8 8 + 1))) 8 8 = min 255 (fld w 8 8 + 1) := by
    rw [fld_putFld_same _ _ _ _ (by decide), sat]
    omega
  have below (i : Nat) (hi : i < 8) : bit (putFld w 8 8 (sat 8 (fld w 8 8 + 1))) i = bit w i := bit_putFld_other _ _ (by decide) (.inl hi)
  exact ⟨count.trans counted, live.trans (below 0 (by decide)), isReal.trans (by rw [below 1 (by decide)]),
    isForced.trans (by rw [below 2 (by decide)])⟩

/-- The words of a stamp follow one another. -/
theorem stamp_addresses (n : Nat) : (Reg.srcFirstSecLo n = Reg.srcFirstNs n + 4 ∧ Reg.srcFirstSecHi n = Reg.srcFirstNs n + 8) ∧
    Reg.srcLastSecLo n = Reg.srcLastNs n + 4 ∧ Reg.srcLastSecHi n = Reg.srcLastNs n + 8 := by
  simp only [Reg.srcFirstNs, Reg.srcFirstSecLo, Reg.srcFirstSecHi, Reg.srcLastNs, Reg.srcLastSecLo, Reg.srcLastSecHi]
  omega

/-- Before LAST the registers hold what FIRST has become. -/
theorem reg_stamped_first {a : Nat} (ha : a < Reg.srcLastNs n) :
    (stamped n t s).reg a = (if s.rfld (Reg.srcStatus n) 8 8 = 0 then putStamp (Reg.srcFirstNs n) t s else s).reg a :=
  reg_putStamp_other _ _ (by omega) (by omega) (by omega)

/-- All but the words of the two stamps stand. -/
theorem reg_stamped_other {a : Nat} (first : a ≠ Reg.srcFirstNs n) (firstLo : a ≠ Reg.srcFirstSecLo n) (firstHi : a ≠ Reg.srcFirstSecHi n)
    (last : a ≠ Reg.srcLastNs n) (lastLo : a ≠ Reg.srcLastSecLo n) (lastHi : a ≠ Reg.srcLastSecHi n) : (stamped n t s).reg a = s.reg a := by
  obtain ⟨⟨f4, f8⟩, l4, l8⟩ := stamp_addresses n
  rw [stamped, reg_putStamp_other _ _ last (l4 ▸ lastLo) (l8 ▸ lastHi)]
  split
  · exact reg_putStamp_other _ _ first (f4 ▸ firstLo) (f8 ▸ firstHi)
  · rfl

/-- LAST holds the stamp of the occurrence. -/
theorem stamped_last (h : t.wf = true) :
    ((stamped n t s).reg (Reg.srcLastNs n)).toNat = t.ns ∧ ((stamped n t s).reg (Reg.srcLastSecLo n)).toNat = t.sec % 2 ^ 32 ∧
      ((stamped n t s).reg (Reg.srcLastSecHi n)).toNat = t.sec / 2 ^ 32 + t.tepoch * 0x10000 := by
  obtain ⟨-, lo, hi⟩ := stamp_addresses n
  rw [lo, hi]
  exact putStamp_reads _ _ h

end

/-- Settles O60: the fields of the status word, the words of its two stamps, the bit of FLT.STICKY, and what no occurrence writes. -/
theorem occurrencesUpdateTheirStatus : Obligations.OccurrencesUpdateTheirStatus := by
  unfold Obligations.OccurrencesUpdateTheirStatus
  intro n real forced t s ht d c hi
  obtain ⟨first, last, sticky⟩ := source_addresses n.isLt
  obtain ⟨⟨f4, f8⟩, l4, l8⟩ := stamp_addresses n
  obtain ⟨lastNs, lastLo, lastHi⟩ := stamped_last (n := n.val) (s := s) ht
  obtain ⟨count, live, isReal, isForced⟩ := statusWord_fields (real := real) (forced := forced) (s.reg (Reg.srcStatus n))
  have status : d.reg (Reg.srcStatus n) = statusWord real forced (s.reg (Reg.srcStatus n)) := by
    rw [reg_statusOcc _ n.isLt, if_neg (by omega), if_pos rfl]
  have behind {a : Nat} (h : Reg.srcStatus n < a) : d.reg a = (stamped n t s).reg a := by
    rw [reg_statusOcc _ n.isLt, if_neg (by omega), if_neg (by omega)]
  have early {a : Nat} (h : Reg.srcStatus n < a) (k : a < Reg.srcLastNs n) :
      d.reg a = (if c = 0 then putStamp (Reg.srcFirstNs n) t s else s).reg a := (behind h).trans (reg_stamped_first k)
  refine ⟨?count, fun none => ?first, fun some => ?stands, ?lastNs, ?lastLo, ?lastHi, ?real, ?forced, ?live, ?sticky, fun a other => ?other⟩
  case count => rw [Dev.rfld, status, count]; rfl
  case real => rw [Dev.rbit, status, isReal]; rfl
  case forced => rw [Dev.rbit, status, isForced]; rfl
  case live => rw [Dev.rbit, status, live]; rfl
  case first =>
    obtain ⟨ns, lo, high⟩ := putStamp_reads (Reg.srcFirstNs n) s ht
    rw [early (by omega) (by omega), early (by omega) (by omega), early (by omega) (by omega), if_pos none, f4, f8]
    exact ⟨ns, lo, high⟩
  case stands =>
    rw [early (by omega) (by omega), early (by omega) (by omega), early (by omega) (by omega), if_neg some]
    exact ⟨rfl, rfl, rfl⟩
  case lastNs => rw [behind (by omega), lastNs]
  case lastLo => rw [behind (by omega), lastLo]
  case lastHi => rw [behind (by omega), lastHi]
  case sticky =>
    rw [Dev.rbit, Dev.rbit, Dev.rbit, status, reg_statusOcc _ n.isLt, if_pos rfl, bit_putBit_same _ _ _ (Nat.mod_lt _ (by decide))]
  case other =>
    simp only [List.mem_cons, List.not_mem_nil, or_false, not_or] at other
    obtain ⟨st, f, flo, fhi, l, llo, lhi, sk⟩ := other
    rw [reg_statusOcc _ n.isLt, if_neg sk, if_neg st, reg_stamped_other f flo fhi l llo lhi]

end Sys2Proof.Proofs
end

section
/-! PROOFS. Tile memory under a write of the debug window (R552): the octets of the word that is written, and those that are not. -/

namespace Sys2Proof.Proofs

set_option Elab.async false

open Sys2Proof.Machine Sys2Proof.Laws

/-- A word written into tile memory through the window, octet by octet. -/
def tilePutWord (used : List Nat) (m : List Host.Cell) (a : Nat) (part : Nat → Byte) : List Host.Cell :=
  (upTo 4).foldl (fun m i => tilePut used m (a + i) (part i)) m

variable {used : List Nat} {m : List Host.Cell} {a : Nat} {part : Nat → Byte}

/-- The octet just written: the value, or nothing where a zero is what nothing reads as. -/
theorem tileOctet_put_same (used : List Nat) (m : List Host.Cell) (a : Nat) (v : Byte) :
    tileOctet (tilePut used m a v) a = if v = 0 ∧ ¬ used.contains (a / 0x800000) then none else some v := by
  unfold tileOctet tilePut
  split
  · exact kvGet_kvDel_same m a
  · exact kvGet_kvSet_same m a v

theorem tilePutWord_eq (used : List Nat) (m : List Host.Cell) (a : Nat) (part : Nat → Byte) :
    tilePutWord used m a part =
      tilePut used (tilePut used (tilePut used (tilePut used m a (part 0)) (a + 1) (part 1)) (a + 2) (part 2)) (a + 3) (part 3) := rfl

theorem memory_wf_putWord (h : Memory.wf used m = true) : Memory.wf used (tilePutWord used m a part) = true :=
  memory_wf_put _ _ _ _ (memory_wf_put _ _ _ _ (memory_wf_put _ _ _ _ (memory_wf_put _ _ _ _ h)))

/-- A word leaves every octet beside it alone. -/
theorem tileOctet_putWord_other {x : Nat} (h : x < a ∨ a + 4 ≤ x) : tileOctet (tilePutWord used m a part) x = tileOctet m x := by
  simp only [tilePutWord_eq]
  rw [tileOctet_put_other _ _ _ _ _ (by omega), tileOctet_put_other _ _ _ _ _ (by omega), tileOctet_put_other _ _ _ _ _ (by omega),
    tileOctet_put_other _ _ _ _ _ (by omega)]

/-- Each octet of a word is written once. -/
theorem tileOctet_putWord {i : Nat} (h : i < 4) :
    tileOctet (tilePutWord used m a part) (a + i) = if part i = 0 ∧ ¬ used.contains ((a + i) / 0x800000) then none else some (part i) := by
  simp only [tilePutWord_eq]
  have last {j : Nat} (hj : i ≠ j) (m : List Host.Cell) : tileOctet (tilePut used m (a + j) (part j)) (a + i) = tileOctet m (a + i) :=
    tileOctet_put_other _ _ _ _ _ (by omega)
  obtain rfl | rfl | rfl | rfl : i = 0 ∨ i = 1 ∨ i = 2 ∨ i = 3 := by omega
  · rw [last (by decide), last (by decide), last (by decide)]
    exact tileOctet_put_same _ _ _ _
  · rw [last (by decide), last (by decide)]
    exact tileOctet_put_same _ _ _ _
  · rw [last (by decide)]
    exact tileOctet_put_same _ _ _ _
  · exact tileOctet_put_same _ _ _ _

/-- A write of the window leaves tile memory as it is, or writes one word of the tile that the window shows. -/
theorem debugWrite_cases (by_ : Requester) (off : Nat) (v : Word) (s : Dev) :
    (debugWrite by_ off v s).tileUsed = s.tileUsed ∧
      ((debugWrite by_ off v s).tileMem = s.tileMem ∨ (debugWrite by_ off v s).tileMem =
        tilePutWord s.tileUsed s.tileMem (tileAddr (debugTile s) (off / 4 * 4)) fun i => BitVec.ofNat 8 (v.toNat / 2 ^ (8 * i))) := by
  unfold debugWrite
  extract_lets t a
  repeat' split
  case isFalse => exact ⟨rfl, .inr rfl⟩
  all_goals exact ⟨rfl, .inl rfl⟩

/-- Settles O51: a write of the window is refused, or writes one word, octet by octet. -/
theorem debugWritesChangeOneWord : Obligations.DebugWritesChangeOneWord := by
  unfold Obligations.DebugWritesChangeOneWord
  intro by_ off v s a d part
  obtain ⟨used, same | word⟩ := debugWrite_cases by_ off v s
  · exact ⟨used, fun wf => by rw [used, same]; exact wf, fun x _ => by rw [same], fun changed => absurd same changed⟩
  · refine ⟨used, fun wf => ?_, fun x beside => ?_, fun _ i hi => ?_⟩
    · rw [used, word]
      exact memory_wf_putWord wf
    · rw [word]
      exact tileOctet_putWord_other beside
    · rw [word, tileOctet_putWord hi]
      split
      next zero => exact .inr ⟨zero.1, by simpa using zero.2, rfl⟩
      next => exact .inl rfl

end Sys2Proof.Proofs
end

section
/-! PROOFS. The archive engine (R350, R353 to R356, R364): where a compressed block goes, what becomes of a sink's buffers, and the writes of its
enable and of a FIFO's depth. -/

namespace Sys2Proof.Proofs

set_option Elab.async false

open Sys2Proof.Machine Sys2Proof.Laws

section
variable {s : Dev} {k : Nat} {j : ArcJob} {rest : List ArcJob} {r : CompressOut} {t : Nat}

/-! ### The compressor (R350, R355) -/

/-- The device with the compressor's job taken from sink `k`. -/
def jobTaken (k : Nat) (rest : List ArcJob) (s : Dev) : Dev :=
  let x := s.setSink k { s.sink k with jobs := rest }
  if k = 1 then f1Status x else x

/-- A finished block leaves for the device that holds the sink, where there is one. -/
def blockLeaves (k : Nat) (o : Octets) (s : Dev) : Dev :=
  match dossierDest s with
  | none => sinkGo k s
  | some h => sinkGo k (sendBlock h (o.length / ronMost + 1) o s)

theorem blockLeaves_to {h : Nat} {o : Octets} (hd : dossierDest s = some h) :
    blockLeaves k o s = sinkGo k (sendBlock h (o.length / ronMost + 1) o s) := by
  simp only [blockLeaves, hd]

/-- The compressor has finished the oldest job of sink `k`: its engine is on, no block is held, and the octets are a stream of the job's. -/
structure Finishes (s : Dev) (k : Nat) (j : ArcJob) (rest : List ArcJob) (r : CompressOut) : Prop where
  jobs : (s.sink k).jobs = j :: rest
  on : s.domainOn 28 = true
  own : j.remote = false
  free0 : (s.sink 0).job = none
  free1 : (s.sink 1).job = none
  coded : codedOk j r.coded = true

/-- A finished block of a sink that this device has not waits for no sink; another waits until its sink is on or exhausted. -/
theorem blockCompressed_finishes (hj : Finishes s k j rest r)
    (ready : (k = 1 ∨ s.leads = true) → s.rbit (Reg.arcSinkStatus k) 1 = true ∨ sinkOn s k = true) :
    blockCompressed k r s =
      if (k = 1 ∨ s.leads = true) ∧ (jobTaken k rest s).rbit (Reg.arcSinkStatus k) 1 = true then sinkGo k (dropJob 1 j (jobTaken k rest s))
      else if r.inParity then sinkGo k (dropJob 2 j (occur 0x3E5 {} (jobTaken k rest s)))
      else
        let u := (jobTaken k rest s).bump64 Reg.arcInOctets j.octets.length
        let o := folioBlock j r.coded
        if k = 1 ∨ s.leads = true then sinkGo k (startBlock k j r.outParity o u)
        else blockLeaves k o u := by
  obtain ⟨jobs, on, own, free0, free1, coded⟩ := hj
  have works : ¬ (¬ s.domainOn 28 = true ∨ j.remote = true ∨ (s.sink 0).job.isSome = true ∨ (s.sink 1).job.isSome = true ∨
      ¬ codedOk j r.coded = true) := by simp [on, own, free0, free1, coded]
  have goes : ¬ ((k = 1 ∨ s.leads = true) ∧ ¬ s.rbit (Reg.arcSinkStatus k) 1 = true ∧ ¬ sinkOn s k = true) := by
    rintro ⟨here, room, off⟩
    exact (ready here).elim room off
  simp only [blockCompressed, jobs, if_neg works, if_neg goes]
  rfl

/-! ### Sinks (R353 to R355) -/

theorem sinkTail_posts {v : Word} {bufs : List (Nat × Nat)} :
    let n := 2 ^ s.rfld (Reg.arcSinkSize k) 0 5
    let posted := (fld v 0 16 + n - s.rfld (Reg.arcSinkTail k) 0 16 % n) % n
    let d := s.setFld (Reg.arcSinkTail k) 0 16 (fld v 0 16)
    let size := d.rfld (Reg.arcSinkSize k) 0 5
    let x := d.sink k
    let u := d.setSink k { x with bufs := x.bufs ++ (bufs.take posted).map (fun b => { addr := b.1, len := b.2, used := 0 }) }
    let need := ((u.sink k).fifo.head?.map (·.octets.length)).getD 1
    sinkTail k (fld v 0 16) bufs s =
      if size < 4 ∨ 16 < size then d
      else sinkGo k (if need ≤ sinkRoom (u.sink k) then u.setBit (Reg.arcSinkStatus k) 1 false else u) := by
  intro n posted d size x u need
  have whole : fld v 0 16 % 65536 = fld v 0 16 := Nat.mod_eq_of_lt (fld_lt v 0 16)
  unfold sinkTail
  rw [whole]
  by_cases bad : size < 4 ∨ 16 < size
  · rw [if_pos bad]
    exact if_pos (show ¬ (4 ≤ size ∧ size ≤ 16) by omega)
  · rw [if_neg bad]
    exact if_neg (show ¬ ¬ (4 ≤ size ∧ size ≤ 16) by omega)

theorem sinkIdle_closes {b : SinkBuf} {bufs : List SinkBuf} (ht : (s.sink k).lastEnd = some t) (hb : (s.sink k).bufs = b :: bufs)
    (hu : b.used ≠ 0) (on : sinkOn s k = true) :
    sinkIdle k s = closeBuf k false (s.elapseTo (t + usCycles (1000 * max 1 (s.rfld (Reg.arcSinkCtrl k) 8 8)))) := by
  simp only [sinkIdle, ht, hb]
  exact if_neg (by simp [hu, on])

theorem sinkError_disables (on : sinkOn s k = true) (hb : (s.sink k).bufs ≠ []) :
    sinkError k s = occur 0x3E4 {}
      (((closeBuf k true s).setBit (Reg.arcSinkStatus k) 0 true).setBit (Reg.arcSinkCtrl k) 0 false) :=
  if_neg (by simp [on, hb])

theorem outputExhausted_drops (hj : (s.sink k).job = some j) (ht : (s.sink k).heldAt = some t)
    (full : ¬ (((s.sink k).fifo.head?.map (·.octets.length)).getD 1 ≤ sinkRoom (s.sink k) ∧ sinkOn s k = true)) :
    let x := s.sink k
    let d := s.elapseTo (t + usCycles (max 1 (s.rfld Reg.arcExhWait 0 16)))
    let u := if x.markLost
      then (d.bump (Reg.arcFifoMarkLost (3 + k))).setSink k { x with
        job := none, waiting := x.waiting.map (fun w => { w with octets := zeros w.octets.length, zero := true }), marked := 0 }
      else d.setSink k { x with job := none, waiting := [], fifo := x.fifo.take (x.fifo.length - x.marked), marked := 0 }
    let v := (closeBuf k false u).setBit (Reg.arcSinkStatus k) 1 true
    outputExhausted k s = sinkGo k (if j.remote then blockLost v else dropJob 1 j v) := by
  simp only [outputExhausted, hj, ht, if_neg full]

/-! ### Enabling, and the FIFO depths (R356, R364) -/

theorem arcEn_keeps {en : Bool} (h : en = true ∨ s.rbit Reg.arcCfg 0 = false) : arcEn en s = s.setBit Reg.arcCfg 0 en :=
  if_neg (by rcases h with h | h <;> simp [h])

theorem arcEn_stops (h : s.rbit Reg.arcCfg 0 = true) :
    arcEn false s =
      let d := s.setBit Reg.arcCfg 0 false
      let u := d.chans.foldl (fun s p =>
        (p.2.recs.foldl (fun s r => recGap p.1 r.content (r.staged.length / 2) 4 p.2.owner s) s).modChan p.1
          (fun k => { k with recs := k.recs.map (fun r => { r with staged := [], nextNs := none }) })) d
      let lost := u.ledger.export_.length / 32
      let v := if lost = 0 then u else u.bump Reg.arcLdgLost lost
      f1Status { v with ledger := { v.ledger with export_ := [], exportAt := none, exportStamp := none } } :=
  if_pos ⟨h, Bool.false_ne_true⟩

end

/-- Settles O29: each clause is one command of the archive engine, with its block, its sink or its registers in a state in which it acts. -/
theorem archiveEngineMovesBlocks : Obligations.ArchiveEngineMovesBlocks := by
  unfold Obligations.ArchiveEngineMovesBlocks
  refine ⟨?block, ?tail, ?idle, ?error, ?exhausted, ?enable, ?disable, ?depth⟩
  case block =>
    intro k r j rest s hn hj hd hrem h0 h1 hc here x d o u
    have job : Finishes s.dev k j rest r := ⟨hj, hd, hrem, h0, h1, hc⟩
    refine ⟨fun h was full => ?_, fun h on room bad => ?_, fun h on room good => ?_, fun h bad => ?_, fun h good dest hdest => ?_⟩
    · exact run_ends hn ((blockCompressed_finishes job fun _ => .inl was).trans (if_pos ⟨h, full⟩))
    · have room : ¬ (here ∧ d.rbit (Reg.arcSinkStatus k) 1 = true) := fun full => Bool.false_ne_true (room.symm.trans full.2)
      exact run_ends hn ((blockCompressed_finishes job fun _ => .inr on).trans ((if_neg room).trans (if_pos bad)))
    · have room : ¬ (here ∧ d.rbit (Reg.arcSinkStatus k) 1 = true) := fun full => Bool.false_ne_true (room.symm.trans full.2)
      exact run_ends hn ((blockCompressed_finishes job fun _ => .inr on).trans
        ((if_neg room).trans ((if_neg (ne_true_of_eq_false good)).trans (if_pos h))))
    · have elsewhere : ¬ (here ∧ d.rbit (Reg.arcSinkStatus k) 1 = true) := fun full => h full.1
      exact run_ends hn ((blockCompressed_finishes job fun own => absurd own h).trans ((if_neg elsewhere).trans (if_pos bad)))
    · have elsewhere : ¬ (here ∧ d.rbit (Reg.arcSinkStatus k) 1 = true) := fun full => h full.1
      exact run_ends hn ((blockCompressed_finishes job fun own => absurd own h).trans
        ((if_neg elsewhere).trans ((if_neg (ne_true_of_eq_false good)).trans ((if_neg h).trans (blockLeaves_to hdest)))))
  case tail =>
    intro by_ k v bufs s hn hg n posted d size x u need
    exact run_gated_ends hn hg sinkTail_posts
  case idle =>
    intro k t b rest s hn ht hb hu on
    exact run_ends hn (sinkIdle_closes ht hb hu on)
  case error =>
    intro k s hn on hb
    exact run_ends hn (sinkError_disables on hb)
  case exhausted =>
    intro k j t s hn hj ht x full d u v
    exact run_ends hn (outputExhausted_drops hj ht full)
  case enable =>
    intro by_ en s hn hg h
    exact run_gated_ends hn hg (arcEn_keeps h)
  case disable =>
    intro by_ s hn hg h d u lost v
    exact run_gated_ends hn hg (arcEn_stops h)
  case depth =>
    intro by_ f v s hn hg
    exact run_gated_ends hn hg rfl

end Sys2Proof.Proofs
end

section
/-! PROOFS. Groups and lanes of the network ports (R367 to R376, R394): the write of a group's mode, and the states through which a lane comes up,
trains, fails, and loses its signal. -/

namespace Sys2Proof.Proofs

set_option Elab.async false

open Sys2Proof.Machine Sys2Proof.Laws

section
variable {s : Dev} {m e h t : Nat} {en : Bool} {v : Word}

/-! ### Groups (R367, R368) -/

/-- A MAC or a lane of the group that starts at `h` is enabled. -/
def groupBusy (s : Dev) (h : Nat) : Prop := ∃ i < 4, s.rbit (Reg.macCfg (h + i)) 0 = true ∨ s.rbit (Reg.sdsCfg (h + i)) 0 = true

theorem groupMembers_any (s : Dev) (h : Nat) :
    ((upTo 4).map (h + ·)).any (fun e => s.rbit (Reg.macCfg e) 0 || s.rbit (Reg.sdsCfg e) 0) = true ↔ groupBusy s h := by
  simp [groupBusy, mem_upTo]

theorem groupWrite_refused (bad : groupOk (v.toNat % 64) = false ∨ groupBusy s h) : groupWrite h v s = s.setBit (Reg.macStatus h) 6 true :=
  if_pos (bad.imp (by simp +contextual) (groupMembers_any s h).mpr)

theorem groupWrite_taken (good : groupOk (v.toNat % 64) = true) (idle : ¬ groupBusy s h) :
    groupWrite h v s = (upTo 4).foldl (fun d i => macShow (h + i) (d.setFld (Reg.sdsCfg (h + i)) 1 2
      (if v.toNat % 8 = 4 then 1 else if v.toNat % 8 = 5 then 2 else 0))) ((s.setBit (Reg.macStatus h) 6 false).setNat (Reg.macGroup h) (v.toNat % 64)) := by
  have mode : v.toNat % 64 % 8 = v.toNat % 8 := by omega
  have taken := mt (groupMembers_any s h).mp idle
  simp only [groupWrite, good, not_true_eq_false, false_or, if_neg taken, List.foldl_map, mode]

/-! ### Enables and loops (R370, R376, R394) -/

theorem laneEnWrite_network (hm : m < 8) : laneEnWrite m en s = sdsEnWrite m en s := if_pos hm

theorem sdsEnWrite_same (h : en = s.rbit (Reg.sdsCfg m) 0 ∨ (en = true ∧ m ∈ s.boot.badLanes)) : sdsEnWrite m en s = s :=
  if_pos (h.imp_right fun ⟨on, bad⟩ => ⟨on, List.contains_iff_mem.mpr bad⟩)

theorem sdsEnWrite_on (was : s.rbit (Reg.sdsCfg m) 0 = false) (whole : m ∉ s.boot.badLanes) :
    sdsEnWrite m true s = setTrain m 1 (s.setBit (Reg.sdsCfg m) 0 true) :=
  if_neg (by simp [was, whole])

/-- The link of the port that holds a lane goes down with the lane. -/
def laneLinkGone (m : Nat) (localF : Bool) (s : Dev) : Dev :=
  match macOfLane s m with
  | some e => linkGone e localF false s
  | none => s

theorem sdsEnWrite_off (was : s.rbit (Reg.sdsCfg m) 0 = true) :
    let u := laneLinkGone m false (s.setBit (Reg.sdsCfg m) 0 false)
    sdsEnWrite m false s = (u.setNat (Reg.sdsStatus m) 0).setLane m { u.lane m with txInv := false, failedAt := none } :=
  if_neg (by simp [was])

/-! ### Signal and training (R370 to R372) -/

theorem laneSignal_network (hm : m < 8) : laneSignal m s = signalDetect m s := if_pos hm

/-- Auto-negotiation holds lane `m`: it runs on lane `a`, and has not resolved. -/
abbrev negotiates (s : Dev) (a m : Nat) : Prop := s.rbit (Reg.sdsCfg a) 3 = true ∧ (a = m ∨ trainState s a < 3)

theorem signalDetect_waiting (ht : trainState s m = 1) (hm : m < 8) (hc : carriesNet s = true) :
    let d := s.setBit (Reg.sdsStatus m) 0 true
    signalDetect m s = if negotiates d (anLane d m) m then setTrain m 2 d else laneTrain m d := by
  have waits : ¬ (trainState s m ≠ 1 ∨ (m < 8 ∧ ¬ carriesNet s = true)) := by simp [ht, hc]
  refine (if_neg waits).trans ?_
  simp only [hm, true_and]

theorem laneTrain_trains (ht : s.rbit (Reg.sdsCfg m) 4 = true) : laneTrain m s = (setTrain m 3 s).setBit (Reg.sdsStatus m) 1 true :=
  if_pos ht

/-- A lane that does not train enters DATA at once; whether it is within its convergence limit is a free value. -/
theorem laneTrain_data (ht : s.rbit (Reg.sdsCfg m) 4 = false) :
    laneTrain m s = (laneData m (s.drawBelow 2).2).setBit (Reg.sdsStatus m) 3 ((s.drawBelow 2).1 == 1) :=
  if_neg (by simp [ht])

theorem anResolved_trains (ht : trainState s m = 2) (ha : anLane s m = m) (he : macOfLane s m = some e) :
    anResolved m s = (lanesOf s e).foldl (fun d i => if trainState d i = 2 then laneTrain i d else d) s := by
  have resolves : ¬ (trainState s m ≠ 2 ∨ anLane s m ≠ m ∨ macOfLane s m = none) := by simp [ht, ha, he]
  refine (if_neg resolves).trans ?_
  simp only [he]

theorem laneTrained_network {r : TrainOut} (hm : m < 8) : laneTrained m r s = trainingComplete m r s := if_pos hm

theorem trainingComplete_data {r : TrainOut} (ht : trainState s m = 3) :
    let d := laneData m s
    let u := ((if d.rbit (Reg.sdsCfg m) 6 then d.setBit (Reg.sdsStatus m) 4 r.rxInv else d).setBit (Reg.sdsStatus m) 2 true).setBit
      (Reg.sdsStatus m) 3 true
    let rate := u.rfld (Reg.sdsCfg m) 1 2
    let v := u.setNat (Reg.sdsTxFfe m) (if rate = 1 ∨ rate = 2 then r.ffe.toNat % 2 ^ 24 else r.ffe.toNat)
    trainingComplete m r s = if v.rbit (Reg.sdsCfg m) 5 then v else v.setNat (Reg.sdsRxEq m) (r.eq.toNat &&& 0xFF1F) :=
  if_neg (not_not_intro ht)

theorem trainingFail_waits (ht : trainState s m = 3) :
    let d := setTrain m 5 (s.bump (Reg.sdsTrainFail m))
    trainingFail m s = oncePerSec (laneSource m) (d.setLane m
      { txInv := if d.rbit (Reg.sdsCfg m) 9 then !(d.lane m).txInv else (d.lane m).txInv, failedAt := some (d.cycles + usCycles 100000) }) :=
  if_neg (not_not_intro ht)

theorem failedWaitEnd_waits (hf : (s.lane m).failedAt = some t) :
    failedWaitEnd m s = laneWait m ((s.elapseTo t).setLane m { s.lane m with failedAt := none }) := by
  simp only [failedWaitEnd, hf]

theorem polarityFlip_flips (ht : trainState s m = 4) (inv : s.rbit (Reg.sdsCfg m) 6 = true) (untrained : s.rbit (Reg.sdsCfg m) 4 = false)
    (down : ∀ e ∈ macOfLane s m, linkIs s e = false) :
    polarityFlip m s = s.setBit (Reg.sdsStatus m) 4 (!s.rbit (Reg.sdsStatus m) 4) := by
  cases hm : macOfLane s m with
  | none => simp [polarityFlip, hm, ht, inv, untrained]
  | some e => simp [polarityFlip, hm, ht, inv, untrained, down e hm]

/-! ### Signal loss and eyes (R370, R375) -/

theorem laneSignalLost_network (hm : m < 8) : laneSignalLost m s = signalLost m s := if_pos hm

theorem signalLost_idle (ht : trainState s m ≠ 4) : signalLost m s = s.setBit (Reg.sdsStatus m) 0 false := if_pos ht

theorem signalLost_data (ht : trainState s m = 4) :
    signalLost m s = laneWait m (laneLinkGone m true
      (occur (laneSource m) {} ((s.setBit (Reg.sdsStatus m) 0 false).bump (Reg.sdsLos m)))) :=
  if_neg (not_not_intro ht)

theorem eyeMeasure_shows {eyes : List (Nat × Nat)} {n : Nat} (ht : trainState s m = 4) :
    let rate := s.rfld (Reg.sdsCfg m) 1 2
    let eye (j : Nat) := if j = 0 ∨ ¬ (rate = 1 ∨ rate = 2) then eyes.getD j (0, 0) else (0, 0)
    let put (j : Nat) (d : Dev) := d.setNat (Reg.sdsEye m j) (sat 12 (eye j).1 + 65536 * sat 7 (eye j).2)
    eyeMeasure m eyes n s = (put 2 (put 1 (put 0 s))).setNat (Reg.sdsSnr m) (sat 10 n) := by
  intro rate eye put
  refine (if_neg (not_not_intro ht)).trans ?_
  have eyes_eq (j : Nat) (hj : j ∈ upTo 3) :
      (if j < (if rate = 1 ∨ rate = 2 then 1 else 3) then eyes.getD j (0, 0) else (0, 0)) = eye j := by
    have low := mem_upTo.mp hj
    by_cases one : rate = 1 ∨ rate = 2 <;> simp [eye, one, low]
  have measured := List.foldl_ext _ (fun d j => put j d) s fun d j hj => congrArg (fun e : Nat × Nat =>
    d.setNat (Reg.sdsEye m j) (sat 12 e.1 + 65536 * sat 7 e.2)) (eyes_eq j hj)
  exact congrArg (fun d : Dev => d.setNat (Reg.sdsSnr m) (sat 10 n)) measured

end

/-- Settles O30: a write is refused where its value is reserved or a member of the group is enabled, and taken elsewhere. -/
theorem groupWriteNeedsTheGroupOff : Obligations.GroupWriteNeedsTheGroupOff := by
  unfold Obligations.GroupWriteNeedsTheGroupOff
  refine ⟨?taken, ?refused⟩
  case taken =>
    intro by_ b v s hn hg h good off
    have idle : ¬ groupBusy s.dev h := by
      rintro ⟨i, hi, mac | lane⟩
      · exact Bool.false_ne_true ((off i hi).1.symm.trans mac)
      · exact Bool.false_ne_true ((off i hi).2.symm.trans lane)
    exact run_gated_ends hn hg (groupWrite_taken good idle)
  case refused =>
    intro by_ b v i s hn hg h bad
    exact run_gated_ends hn hg (groupWrite_refused (bad.imp_right fun busy => ⟨i, busy⟩))

/-- Settles O31: each clause is one command of a lane, in a state in which it acts. -/
theorem lanesTrainAndMeasure : Obligations.LanesTrainAndMeasure := by
  unfold Obligations.LanesTrainAndMeasure
  refine ⟨?enable, ?loop, ?signal, ?resolved, ?trained, ?failed, ?waited, ?polarity, ?lost, ?eyes⟩
  case enable =>
    intro by_ m en s hn hg hm d
    refine ⟨fun same => ?_, fun on was whole => ?_, fun off was => ?_⟩
    · exact run_gated_ends hn hg ((laneEnWrite_network hm).trans (sdsEnWrite_same same))
    · subst on
      exact run_gated_ends hn hg ((laneEnWrite_network hm).trans (sdsEnWrite_on was whole))
    · subst off
      exact run_gated_ends hn hg ((laneEnWrite_network hm).trans (sdsEnWrite_off was))
  case loop =>
    intro by_ m l s hn hg
    exact run_gated_ends hn hg rfl
  case signal =>
    intro m s hn ht hm hc d a an
    have detected := (laneSignal_network hm).trans (signalDetect_waiting ht hm hc)
    refine ⟨fun waits => ?_, fun free trains => ?_, fun free data => ⟨(d.drawBelow 2).1 == 1, d.free + 1, ?_⟩⟩
    · exact run_ends hn (detected.trans (if_pos waits))
    · exact run_ends hn (detected.trans ((if_neg free).trans (laneTrain_trains trains)))
    · exact run_ends hn (detected.trans ((if_neg free).trans (laneTrain_data data)))
  case resolved =>
    intro m e s hn ht ha he
    exact run_ends hn (anResolved_trains ht ha he)
  case trained =>
    intro m r s hn ht hm d u rate v
    exact run_ends hn ((laneTrained_network hm).trans (trainingComplete_data ht))
  case failed =>
    intro m s hn ht d
    exact run_ends hn (trainingFail_waits ht)
  case waited =>
    intro m t s hn hf
    exact run_ends hn (failedWaitEnd_waits hf)
  case polarity =>
    intro m s hn ht inv untrained down
    exact run_ends hn (polarityFlip_flips ht inv untrained down)
  case lost =>
    intro m s hn hm d
    refine ⟨fun idle => ?_, fun data => ?_⟩
    · exact run_ends hn ((laneSignalLost_network hm).trans (signalLost_idle idle))
    · exact run_ends hn ((laneSignalLost_network hm).trans (signalLost_data data))
  case eyes =>
    intro m eyes n s hn ht rate eye put
    exact run_ends hn (eyeMeasure_shows ht)

end Sys2Proof.Proofs
end

section
/-! PROOFS. Links and frames of the network ports (R376 to R378, R385, R386, R388, R393): a MAC's enable, its link up and down, the frames that it
takes and drops, the frame that it sends, and its pauses; and the same of the Night Desk's port. -/

namespace Sys2Proof.Proofs

set_option Elab.async false

open Sys2Proof.Machine Sys2Proof.Laws

section
variable {s : Dev} {e t : Nat} {en l r ok : Bool} {c : MacCount}

/-! ### Links (R377, R393) -/

theorem macEnWrite_eq :
    let d := s.setBit (Reg.macCfg e) 0 en
    let u := ((d.setMac e { d.mac e with pauseUntil := none, xoffAt := none }).setBit (Reg.macStatus e) 2 false).setBit (Reg.macStatus e) 3 false
    macEnWrite e en s =
      if en = s.rbit (Reg.macCfg e) 0 ∨ (en = true ∧ macNamed s e = false) then s
      else if en then follow (0x348 + e) (!linkIs u e) {} u else faultEnd (0x348 + e) [] (discardTx e u) := by
  simp only [macEnWrite, Bool.not_eq_true]

theorem linkUp_comes {lm : Byte} (hc : carriesNet s = true) (hd : s.domainOn (netDomain e) = true) (lanes : lanesOf s e ≠ [])
    (data : ∀ m ∈ lanesOf s e, trainState s m = 4) :
    linkUp e lm s = faultEnd (0x348 + e) [] ((((s.setFld (Reg.macStatus e) 8 8 lm.toNat).setBit (Reg.macStatus e) 0 true).setBit
      (Reg.macStatus e) 4 false).setBit (Reg.macStatus e) 5 false) :=
  if_neg (by simpa [hc, hd, lanes] using data)

theorem linkDown_goes (hd : s.domainOn (netDomain e) = true) :
    let d := ((s.setBit (Reg.macStatus e) 0 false).setBit (Reg.macStatus e) 4 l).setBit (Reg.macStatus e) 5 r
    let u := discardTx e d
    let v := ((u.setMac e { u.mac e with pauseUntil := none, xoffAt := none }).setBit (Reg.macStatus e) 2 false).setBit (Reg.macStatus e) 3 false
    let w := (lanesOf v e).foldl (fun d m => laneWait m d) v
    let x := if l then w.emit (.remoteFault e) else w
    linkDown e l r s = if linkIs s e = false then d else if x.rbit (Reg.macCfg e) 0 then occur (0x348 + e) {} x else x := by
  simp only [linkDown, if_pos hd, linkGone, Bool.not_eq_true]

/-! ### Frames received (R378, R386) -/

theorem macReceive_open {f : RxFrame} (loop : loopOf s e = 0) : macReceive e f s = frameEnd e f s := if_pos loop

/-- A frame that fails a test is counted in the counter of the test, and two of the tests record it. -/
theorem frameEnd_drops {f : RxFrame} (runs : macRuns s e = true) (network : e ≠ 8) (ht : rxTest (fecCount e f s) e f = some c) :
    let d := fecCount e f s
    frameEnd e f s = if c = .rxOverflow then oncePerSec (0x350 + e) (count c e d)
      else if c = .rxParity then occur (0x360 + e) {} (count c e d) else count c e d := by
  simp only [frameEnd, if_neg (not_not_intro runs), ht, if_neg network]

/-- A port with a frame counted by the class of its destination, after RX_OK and RX_OCTETS. -/
def frameCounted (e : Nat) (f : RxFrame) (s : Dev) : Dev :=
  let c := count .rxOctets e (count .rxOk e s) f.len
  if f.octets.take 6 = [0xFF, 0xFF, 0xFF, 0xFF, 0xFF, 0xFF] then count .rxBcast e c
  else if oct f.octets 0 % 2 = 1 then count .rxMcast e c else c

/-- The first octet of the destination decides, in the frame as in its address. -/
theorem oct_take_zero (o : Octets) : oct (o.take 6) 0 = oct o 0 := by cases o <;> rfl

/-- A frame that passes the tests, and is no frame of MAC control, is counted and held. -/
theorem frameEnd_holds {f : RxFrame} (runs : macRuns s e = true) (ht : rxTest (fecCount e f s) e f = none) (data : be f.octets 12 2 ≠ 0x8808) :
    let u := frameCounted e f (fecCount e f s)
    let t := if e = 8 then u.nowNs else shiftSixteenths (u.nowNs - f.len * 8000 / portRate u e) (- latOf u (stampLane u e))
    frameEnd e f s = watermarks e (putPort u e { portOf u e with rx := (portOf u e).rx ++ [⟨f.octets, f.len, t⟩] }) := by
  simp only [frameEnd, if_neg (not_not_intro runs), ht, if_neg data, oct_take_zero]
  rfl

/-- The Night Desk's port in full duplex does not defer after a frame. -/
theorem nightReceive_full {f : RxFrame} (full : nightHalf (frameEnd 8 f s) = false) : nightReceive f s = frameEnd 8 f s := by
  have loop : macReceive 8 f s = frameEnd 8 f s := macReceive_open rfl
  simp [nightReceive, loop, full]

/-! ### Frames sent (R376, R388, R402) -/

/-- The device with the frame that starts next taken from its queue. -/
def frameTaken (e : Nat) (f : TxFrame) (s : Dev) : Dev := macShow e (putPort s e { portOf s e with tx := (portOf s e).tx.erase f })

/-- A frame with its stamp inserted, where its sender asks for it. -/
def frameStamped (f : TxFrame) (t : Stamp) (y : Nat) : Octets := if f.insert then insertStamp f.octets t y else f.octets

/-- The stamp of a frame goes to the queue of stamps where its sender asks for it there. -/
def stampKept (e : Nat) (f : TxFrame) (t : Stamp) (y : Nat) (s : Dev) : Dev :=
  match f.stampId with
  | some id => if f.insert then s else tsqPush e id t y s
  | none => s

theorem frameStamped_plain {f : TxFrame} (h : f.insert = false) (t : Stamp) (y : Nat) : frameStamped f t y = f.octets :=
  if_neg (ne_true_of_eq_false h)

theorem stampKept_unasked {f : TxFrame} (h : f.stampId = none) (t : Stamp) (y : Nat) : stampKept e f t y s = s := by
  simp only [stampKept, h]

/-- A frame counted as sent, or its parity error recorded. -/
def txCounted (e : Nat) (ok : Bool) (o : Octets) (s : Dev) : Dev :=
  if ok then count .txOctets e (count .txOk e s) (o.length + 4) else occur (0x360 + e) {} (count .txParity e s)

/-- A frame leaves on the wire, comes back to its own receiver, or goes nowhere. -/
def frameLeaves (e : Nat) (ok : Bool) (o : Octets) (s : Dev) : Dev :=
  match loopOf s e with
  | 0 => s.emit (.frame e o ok)
  | 1 => frameEnd e { octets := o, len := o.length + 4, fcsOk := ok, parityOk := true, fecCorr := 0, fecUncorr := 0, fecSym := [] } s
  | _ => s

theorem frameLeaves_wire {o : Octets} (h : loopOf s e = 0) : frameLeaves e ok o s = s.emit (.frame e o ok) := by
  simp only [frameLeaves, h]

theorem frameLeaves_back {o : Octets} (h : loopOf s e = 1) : frameLeaves e ok o s =
    frameEnd e { octets := o, len := o.length + 4, fcsOk := ok, parityOk := true, fecCorr := 0, fecUncorr := 0, fecSym := [] } s := by
  simp only [frameLeaves, h]

theorem transmitFrame_starts {x : Nat} {f : TxFrame} (runs : macRuns s e = true) (free : (portOf s e).pauseUntil = none)
    (open_ : e = 8 ∨ s.ron.fenced = false) (hf : nextTx (portOf s e).tx = some f) :
    let d := frameTaken e f s
    let six := ((x : Int) + if e = 8 then 0 else latOf d (stampLane d e))
    let t := stampOf (shiftSixteenths d.nowNs six) d.time.tepoch
    let y := (six % 16).toNat
    let o := frameStamped f t y
    transmitFrame e ok x s = frameLeaves e (ok || e == 8) o (txCounted e (ok || e == 8) o (stampKept e f t y d)) := by
  have starts : ¬ (¬ macRuns s e = true ∨ (portOf s e).pauseUntil.isSome = true ∨ (e ≠ 8 ∧ s.ron.fenced = true)) := by
    rintro (down | paused | ⟨network, fenced⟩)
    · exact down runs
    · simp [free] at paused
    · exact open_.elim network (ne_true_of_eq_false · fenced)
  simp only [transmitFrame, if_neg starts, hf]
  rfl

theorem nightTransmit_sends {x : Nat} (ready : s.night.defer = none) (idle : s.night.backoff = none) :
    nightTransmit x s = { transmitFrame 8 true x s with night := { (transmitFrame 8 true x s).night with attempts := 0, deferred := false } } :=
  if_neg (by simp [ready, idle])

/-! ### Pauses (R385, R386) -/

theorem pauseExpiry_ends (ht : (portOf s e).pauseUntil = some t) :
    let u := putPort (s.elapseTo t) e { portOf (s.elapseTo t) e with pauseUntil := none }
    pauseExpiry e s = if e = 8 then u else u.setBit (Reg.macStatus e) 2 false := by
  simp only [pauseExpiry, ht]

/-- Above the low mark XOFF is sent again, and its time noted. -/
theorem xoffResend_renews (ht : (portOf s e).xoffAt = some t)
    (high : lowMark (s.elapseTo t) e * rxBuffer (s.elapseTo t) e < 64 * rxUsed (portOf (s.elapseTo t) e))
    (sends : sendsPause (s.elapseTo t) e = true) : xoffResend e s = sendXoff e (s.elapseTo t) := by
  simp only [xoffResend, ht, if_neg (Nat.not_le.mpr high), if_pos sends]

end

theorem mac_ne_night (e : Fin 8) : e.val ≠ 8 := Nat.ne_of_lt e.isLt

theorem portOf_mac (s : Dev) (e : Fin 8) : portOf s e = s.mac e := if_neg (mac_ne_night e)

theorem putPort_mac (s : Dev) (e : Fin 8) (m : Mac) : putPort s e m = s.setMac e m := if_neg (mac_ne_night e)

/-- Settles O32: each clause is one command of a port, in a state in which it acts. -/
theorem linksCarryFrames : Obligations.LinksCarryFrames := by
  unfold Obligations.LinksCarryFrames
  refine ⟨?enable, ?up, ?down, ?holds, ?drops, ?nightHolds, ?sends, ?nightSends, ?pause, ?nightPause, ?xoff⟩
  case enable =>
    intro by_ e en s hn hg d u
    exact run_gated_ends hn hg macEnWrite_eq
  case up =>
    intro e lm s hn hc hd lanes data
    exact run_ends hn (linkUp_comes hc hd lanes data)
  case down =>
    intro e l r s hn hd d u v w x
    exact run_ends hn (linkDown_goes hd)
  case holds =>
    intro e f s hn loop runs d ht data c u
    have held := (macReceive_open loop).trans (frameEnd_holds runs ht data)
    rw [putPort_mac, portOf_mac, if_neg (mac_ne_night e)] at held
    exact run_ends hn held
  case drops =>
    intro e f c s hn loop runs d ht
    exact run_ends hn ((macReceive_open loop).trans (frameEnd_drops runs (mac_ne_night e) ht))
  case nightHolds =>
    intro f s hn runs full d ht data c u
    exact run_ends hn ((nightReceive_full full).trans (frameEnd_holds runs ht data))
  case sends =>
    intro e ok x f s hn runs free open_ hf d six t y o u v
    have starts := transmitFrame_starts (ok := ok) (x := x) runs free (.inr open_) hf
    simp only [if_neg (mac_ne_night e), beq_false_of_ne (mac_ne_night e), Bool.or_false] at starts
    refine ⟨fun wire => ?_, fun back => ?_⟩
    · exact run_ends hn (starts.trans (frameLeaves_wire wire))
    · exact run_ends hn (starts.trans (frameLeaves_back back))
  case nightSends =>
    intro ok x f s hn runs free ready idle hf plain unasked d u
    have sent : transmitFrame 8 true x s.dev = u := by
      have starts := transmitFrame_starts (ok := true) (x := x) runs free (.inl rfl) hf
      simp only [frameStamped_plain plain, stampKept_unasked unasked] at starts
      exact starts
    exact run_ends hn ((nightTransmit_sends ready idle).trans (by rw [sent]))
  case pause =>
    intro e t s hn ht
    exact run_ends hn ((pauseExpiry_ends ht).trans (if_neg (mac_ne_night e)))
  case nightPause =>
    intro t s hn ht d
    exact run_ends hn (pauseExpiry_ends ht)
  case xoff =>
    intro p t s hn e ht d high sends u
    exact run_ends hn (xoffResend_renews ht high sends)

end Sys2Proof.Proofs
end

section
/-! PROOFS. The time base (R400, R404, R409, R410, R413, R414, R417, R418, R420, R422, R424, R425): its increment, corrections and slews, the servo's
states and messages, the pulses in and out, and the synthesisers. -/

namespace Sys2Proof.Proofs

set_option Elab.async false

open Sys2Proof.Machine Sys2Proof.Laws

section
variable {s : Dev} {c : Correction} {v : Word} {t w : Nat} {m : PtpExchange}

/-! ### The increment (R400) -/

/-- The increment that a write of INCR_INT asks for. -/
def incrAsked (v : Word) (s : Dev) : Nat := fld v 0 8 * 2 ^ 32 + (s.reg Reg.tbIncrFrac).toNat

theorem incrWrite_within (low : incrNominal - incrLimit ≤ incrAsked v s) (high : incrAsked v s ≤ incrNominal + incrLimit) :
    incrWrite v s = setIncr (incrAsked v s) (s.elapse 1) := by
  have kept : max (incrNominal - incrLimit) (min (incrNominal + incrLimit) (incrAsked v s)) = incrAsked v s := by omega
  refine (if_pos kept).trans ?_
  exact congrArg (fun n => setIncr n (s.elapse 1)) kept

/-- An increment beyond the limit is clamped, and recorded. -/
theorem incrWrite_above (high : incrNominal + incrLimit < incrAsked v s) :
    incrWrite v s = occur 0x04C {} (setIncr (incrNominal + incrLimit) (s.elapse 1)) := by
  have clamp : max (incrNominal - incrLimit) (min (incrNominal + incrLimit) (incrAsked v s)) = incrNominal + incrLimit := by omega
  refine (if_neg (fun kept => Nat.ne_of_lt high (clamp.symm.trans kept))).trans ?_
  exact congrArg (fun n => occur 0x04C {} (setIncr n (s.elapse 1))) clamp

theorem incrWrite_below (low : incrAsked v s < incrNominal - incrLimit) :
    incrWrite v s = occur 0x04C {} (setIncr (incrNominal - incrLimit) (s.elapse 1)) := by
  have clamp : max (incrNominal - incrLimit) (min (incrNominal + incrLimit) (incrAsked v s)) = incrNominal - incrLimit := by omega
  refine (if_neg (fun kept => Nat.ne_of_gt low (clamp.symm.trans kept))).trans ?_
  exact congrArg (fun n => occur 0x04C {} (setIncr n (s.elapse 1))) clamp

/-! ### Corrections and slews (R409, R410, R422, R424) -/

theorem adjGo_judges (go : bit v 0 = true) :
    let x := correct (signed 64 ((s.reg Reg.tbAdjLo).toNat + 2 ^ 32 * (s.reg Reg.tbAdjHi).toNat)) (bit v 1) 0 s
    adjGo v s = timeShow (x.2.setFld Reg.tbAdjCmd 0 3 x.1) := if_neg (not_not_intro go)

theorem adjGo_clear (go : bit v 0 = false) : adjGo v s = s := if_pos (ne_true_of_eq_false go)

theorem slewEnd_ends (left : s.time.slewLeft ≠ 0) (running : s.time.running = true) :
    slewEnd s = timeShow (s.elapse ((s.time.slewLeft.natAbs + s.slewShare - 1) / s.slewShare)) := if_neg (by simp [left, running])

theorem correctionApply_applies (hc : s.time.corr = some c) : correctionApply s = corrApply c (s.elapseToTime (c.applyAt * nsUnit)) := by
  simp only [correctionApply, hc]

theorem correctionResend_sends (hc : s.time.corr = some c) (leads : s.leads = true) : correctionResend s = corrSend s.time.corrWait c s := by
  simp only [correctionResend, hc, if_pos leads]

theorem gridSlewEnd_ends (left : s.time.gridRes ≠ 0) :
    let gap := slewMax s * 125000 * nsUnit / 1000000
    gridSlewEnd s = ((s.elapseToTime (s.time.gridFrom + (s.time.gridRes.natAbs + gap - 1) / gap * 125000 * nsUnit)).modTime
      (fun t => { t with gridRes := 0 })).setBit Reg.tbStatus 4 false := if_neg left

/-! ### The servo (R404, R413, R414, R425) -/

theorem servoExchange_starts (leads : s.leads = true) (start : servo s = 0 ∨ servo s = 5) :
    servoExchange m s = servoSlew m.offset (setServo 1 [] ((s.setFld Reg.tbServo 4 3 m.mac.val).modTime
      (fun t => { t with path := some m.meanPath, lastSync := s.cycles, lastOffset := m.offset }))) :=
  (if_neg (not_not_intro leads)).trans (if_pos start.symm)

theorem servoExchange_other (leads : s.leads = true) (h0 : servo s ≠ 0) (h5 : servo s ≠ 5) (port : s.rfld Reg.tbServo 4 3 ≠ m.mac.val) :
    servoExchange m s = s.modTime (fun t => { t with otherPort := some (m.mac.val, m.offset) }) :=
  (if_neg (not_not_intro leads)).trans ((if_neg (not_or_intro h5 h0)).trans (if_pos port))

theorem servoLocked_locks (leads : s.leads = true) (acquiring : servo s = 1) (ht : s.time.lockSince = some t) :
    servoLocked s = setServo 2 [] (s.elapseTo (t + usCycles 16000000)) := by
  simp only [servoLocked, ht, leads, acquiring, and_self, if_true]

theorem holdoverTimeout_holds (leads : s.leads = true) (locked : servo s = 1 ∨ servo s = 2 ∨ servo s = 4) :
    holdoverTimeout s = setServo 3 [] s := if_pos ⟨leads, locked⟩

theorem timeMasterLost_holds (follows : s.leads = false) (follower : servo s = 5) :
    timeMasterLost s = occur 0x049 {} (setServo 3 [] (s.elapseTo (s.time.lastSync + usCycles 10000))) :=
  if_neg (by simp [follows, follower])

/-- A Delay_Req and a two-step Sync ask for their stamp, and a one-step Sync for its insertion. -/
theorem ptpSend_enqueues {e id : Nat} {k : PtpKind} {one : Bool} {f : Octets} (hd : s.domainOn 25 = true) :
    ptpSend e k one id f s =
      (enqueue e 7 f (if k = .delayReq ∨ (k = .sync ∧ one = false) then some id else none) (k == .sync && one) s).2 := by
  refine (if_neg (not_not_intro hd)).trans ?_
  cases k
  case sync => cases one <;> rfl
  all_goals rfl

/-! ### Pulses (R417, R418) -/

theorem ppsOutEdge_skips {d : Dev} (en : s.rbit Reg.tbPpsOut 0 = true) (running : s.time.running = true)
    (hd : s.elapseToTime (ppsNext s * nsUnit) = d) (rose : d.time.ppsRiseAt = some t) (early : d.cycles < t + usCycles 200000) :
    ppsOutEdge s = d.setBit Reg.tbStatus 5 true := by
  subst hd
  refine (if_neg (by simp [en, running])).trans ?_
  simp only [rose, if_pos early]

theorem ppsOutEdge_rises {d : Dev} (en : s.rbit Reg.tbPpsOut 0 = true) (running : s.time.running = true)
    (hd : s.elapseToTime (ppsNext s * nsUnit) = d) (late : ∀ c : Nat, d.time.ppsRiseAt = some c → c + usCycles 200000 ≤ d.cycles) :
    ppsOutEdge s = ppsOutEdge.rise d := by
  subst hd
  refine (if_neg (by simp [en, running])).trans ?_
  cases rose : (s.elapseToTime (ppsNext s * nsUnit)).time.ppsRiseAt with
  | none => simp only [rose]
  | some c => simp only [rose, if_neg (Nat.not_lt.mpr (late c rose))]

theorem ppsOutFall_falls (high : s.time.ppsHigh = true) (rose : s.time.ppsRiseAt = some t) :
    ppsOutFall s = ppsLow (s.elapseTo (t + usCycles (1000 * max 1 (min 500 (s.rfld Reg.tbPpsOut 8 10))))) := by
  refine (if_neg (not_not_intro high)).trans ?_
  simp only [rose, Option.getD_some]

theorem ppsInEdge_glitch (x : Nat) (en : s.rbit Reg.tbPpsIn 0 = true) (on : s.domainOn 26 = true) (short : w < 100) :
    ppsInEdge w x s = s.bump Reg.tbPpsInGlitch := (if_neg (by simp [en, on])).trans (if_pos short)

/-- An edge of PPS_IN at the present instant. -/
def edgeNow (s : Dev) : Dev := { s with time := { s.time with ppsInAt := s.cycles } }

/-- An edge's instant is that of the device on which the last of its registers is written. -/
theorem edgeNow_setNat (a n : Nat) : (s.setNat a n).modTime (fun t => { t with ppsInAt := s.cycles }) = edgeNow (s.setNat a n) := rfl

/-- The registers of an edge that is stamped, and its instant; `sec` is a second of the scale in ns. -/
def ppsStamped (x ns sec : Nat) (s : Dev) : Dev :=
  edgeNow ((((s.setNat Reg.tbPpsInNs (ns % sec)).setNat Reg.tbPpsInSec (ns / sec % 2 ^ 32)).setNat Reg.tbPpsInInfo
    (ns / sec / 2 ^ 32 % 65536 + 65536 * (x % 16) + 2 ^ 31)).setNat Reg.tbPpsInErr (satInt 32 (nearest ns sec)))

/-- An edge's error is judged by its tolerance, and steers a servo that it is the reference of. -/
def ppsJudged (err : Int) (s : Dev) : Dev :=
  let z := if s.rfld Reg.tbPpsTol 0 24 < err.natAbs then occur 0x048 {} s else s
  if Config.ppsReference (sectionOf z 8) = true ∧ z.leads = true ∧ z.rbit Reg.tbStatus 0 = true then servoSlew err z else z

theorem ppsInEdge_stamps (x : Nat) (en : s.rbit Reg.tbPpsIn 0 = true) (on : s.domainOn 26 = true) (long : 100 ≤ w) :
    ppsInEdge w x s = ppsJudged (nearest s.nowNs nsPerSec) (faultEnd 0x047 [] (ppsStamped x s.nowNs nsPerSec s)) := by
  have counts : ¬ (¬ s.rbit Reg.tbPpsIn 0 = true ∨ ¬ s.domainOn 26 = true) := by simp [en, on]
  refine Eq.trans ?_ (congrArg (fun d => ppsJudged (nearest s.nowNs nsPerSec) (faultEnd 0x047 [] d)) (edgeNow_setNat _ _))
  exact (if_neg counts).trans (if_neg (Nat.not_lt.mpr long))

theorem ppsInMissing_records (en : s.rbit Reg.tbPpsIn 0 = true) (on : s.domainOn 26 = true) :
    ppsInMissing s = occur 0x047 {} (s.elapseTo (s.time.ppsInAt + usCycles 1500000)) := if_pos ⟨en, on⟩

end

/-- Settles O34: each clause is one command of the scale, in a state in which it acts. -/
theorem theScaleIsSteered : Obligations.TheScaleIsSteered := by
  unfold Obligations.TheScaleIsSteered
  refine ⟨?within, ?clamped, ?go, ?noGo, ?slewEnd, ?apply, ?resend, ?gridEnd⟩
  case within =>
    intro by_ v s hn hg w low high
    exact run_gated_ends hn hg (incrWrite_within low high)
  case clamped =>
    intro by_ v s hn hg w
    refine ⟨fun above => ?_, fun below => ?_⟩
    · exact run_gated_ends hn hg (incrWrite_above above)
    · exact run_gated_ends hn hg (incrWrite_below below)
  case go =>
    intro by_ v s hn hg go x
    exact run_gated_ends hn hg (adjGo_judges go)
  case noGo =>
    intro by_ v s hn hg go
    exact run_gated_ends hn hg (adjGo_clear go)
  case slewEnd =>
    intro s hn left running
    exact run_ends hn (slewEnd_ends left running)
  case apply =>
    intro c s hn hc d u
    exact run_ends hn (correctionApply_applies hc)
  case resend =>
    intro c s hn hc leads
    exact run_ends hn (correctionResend_sends hc leads)
  case gridEnd =>
    intro s hn left gap d
    exact run_ends hn (gridSlewEnd_ends left)

/-- Settles O36: each clause is one command of the servo, in a state in which it acts. -/
theorem theServoLocksAndHoldsOver : Obligations.TheServoLocksAndHoldsOver := by
  unfold Obligations.TheServoLocksAndHoldsOver
  refine ⟨?starts, ?other, ?locks, ?holds, ?lost, ?sends⟩
  case starts =>
    intro m s hn leads start d
    exact run_ends hn (servoExchange_starts leads start)
  case other =>
    intro m s hn leads h0 h5 port
    exact run_ends hn (servoExchange_other leads h0 h5 port)
  case locks =>
    intro c s hn leads acquiring hc
    exact run_ends hn (servoLocked_locks leads acquiring hc)
  case holds =>
    intro s hn leads locked
    exact run_ends hn (holdoverTimeout_holds leads locked)
  case lost =>
    intro s hn follows follower
    exact run_ends hn (timeMasterLost_holds follows follower)
  case sends =>
    intro e k one id f s hn hd
    exact run_ends hn (ptpSend_enqueues hd)

/-- Settles O37: each clause is one command of the pulses or a synthesiser, in a state in which it acts. -/
theorem pulsesAndSynthesisers : Obligations.PulsesAndSynthesisers := by
  unfold Obligations.PulsesAndSynthesisers
  refine ⟨?edge, ?fall, ?glitch, ?stamp, ?missing, ?synth⟩
  case edge =>
    intro s hn en running d
    refine ⟨fun ⟨c, rose, early⟩ => ?_, fun late => ?_⟩
    · exact run_ends hn (ppsOutEdge_skips en running rfl rose early)
    · exact run_ends hn (ppsOutEdge_rises en running rfl late)
  case fall =>
    intro c s hn high rose d v
    exact run_ends hn (ppsOutFall_falls high rose)
  case glitch =>
    intro w x s hn en on short
    exact run_ends hn (ppsInEdge_glitch _ en on short)
  case stamp =>
    intro w x s hn en on long ns d u z
    have stamped := ppsInEdge_stamps x.val en on long
    simp only [ppsStamped, nsPerSec, Nat.cast_ofNat] at stamped
    exact run_ends hn stamped
  case missing =>
    intro s hn en on
    exact run_ends hn (ppsInMissing_records en on)
  case synth =>
    intro by_ n v s hn hg w
    exact run_gated_ends hn hg rfl

end Sys2Proof.Proofs
end

section
/-! PROOFS. The lanes of the Ronong link (R423, R436 to R440, R450, R542): calibration, training and HELLO, the loss of a partner, heartbeats and
time frames, and new keys. -/

namespace Sys2Proof.Proofs

set_option Elab.async false

open Sys2Proof.Machine Sys2Proof.Laws

section
variable {s : Dev} {k t : Nat} {x : Int} {o : Octets}

/-! ### Calibration and training (R436, R437, R542) -/

theorem calibDone_trains (calib : ronState s k = 1) (fresh : (s.rl k).calBad = false)
    (good : x.natAbs ≤ calMax (s.setNat (Reg.ronLaneCal k) (satInt 32 x))) :
    calibDone k x s = laneWait (8 + k) (setRon k 2 (s.setNat (Reg.ronLaneCal k) (satInt 32 x))) :=
  (if_neg (by simp [calib, fresh])).trans (if_pos good)

theorem calibDone_fails {d : Dev} (calib : ronState s k = 1) (fresh : (s.rl k).calBad = false)
    (hd : s.setNat (Reg.ronLaneCal k) (satInt 32 x) = d) (bad : calMax d < x.natAbs) :
    calibDone k x s = note (laneSource (8 + k)) 0x0900 none ([1, 1] ++ toLe 2 0x20)
      (d.setRl k { d.rl k with calBad := true, downAt := d.cycles }) := by
  subst hd
  exact (if_neg (by simp [calib, fresh])).trans (if_neg (Nat.not_le.mpr bad))

theorem elapseTo_rl (n j : Nat) : (s.elapseTo n).rl j = s.rl j := rfl

theorem calibRepeat_repeats {d : Dev} (calib : ronState s k = 1) (bad : (s.rl k).calBad = true)
    (hd : s.elapseTo ((s.rl k).downAt + usCycles 1000000) = d) (same : d.rl k = s.rl k) :
    calibRepeat k s = d.setRl k { s.rl k with calBad := false } := by
  rw [← same, ← hd]
  exact if_pos ⟨calib, bad⟩

theorem laneDownEnd_trains (down : ronState s k = 5) :
    laneDownEnd k s = laneWait (8 + k) (setRon k 2 (s.elapseTo ((s.rl k).downAt + usCycles 1000))) := if_pos down

/-! ### HELLO (R439) -/

theorem helloSend_cannot (no : helloCan s = false) : helloSend k s = s := if_pos (ne_true_of_eq_false no)

theorem helloSend_clear (can : helloCan s = true) (clear : s.rbit Reg.ronCfg 1 = false) :
    helloSend k s = ronSend k 1 2 0 (s.rl k).mine (s.setRl k { s.rl k with helloSent := true }) :=
  (if_neg (not_not_intro can)).trans (if_pos (ne_true_of_eq_false clear))

/-- Where keys are to be agreed, a HELLO is signed with a number drawn for it. -/
theorem helloSend_signed {d : Dev} (can : helloCan s = true) (hd : s.setRl k { s.rl k with helloSent := true } = d)
    (enc : d.rbit Reg.ronCfg 1 = true) :
    helloSend k s = ronSend k 1 2 0 ((s.rl k).mine ++ ecdsaSign (keyScalar (d.boot.identity.getD [])) (keyScalar (d.drawOctets 48).1)
      (sha384 ((s.rl k).mine ++ (s.rl k).theirs))) { d with free := d.free + 1 } := by
  subst hd
  exact (if_neg (not_not_intro can)).trans (if_neg (not_not_intro enc))

theorem helloRetry_sends (hello : ronState s k = 3) : helloRetry k s = helloSend k s := if_pos hello

theorem helloRetry_keeps (no : ronState s k ≠ 3 ∨ helloCan s = false) : helloRetry k s = s := by
  by_cases hello : ronState s k = 3
  · exact (helloRetry_sends hello).trans (helloSend_cannot (no.resolve_left (not_not_intro hello)))
  · exact if_neg hello

/-! ### A partner that is lost (R450), heartbeats (R438) and time frames (R423) -/

theorem partnerLost_loses (known : (s.rl k).lost = false) (heard : (s.rl k).heardAt.isSome = true) (on : ronState s k ≠ 0) :
    let u := s.elapseTo (lostFrom k s)
    let d := (u.bump (Reg.ronLaneHbMiss k)).setRl k { s.rl k with lost := true, lostAt := u.cycles }
    partnerLost k s = if ronState d k = 4 then ronDown k true d else occur (laneSource (8 + k)) {} d :=
  if_neg (by simp [known, on, Option.isSome_iff_ne_none.mp heard])

theorem heartbeatSend_starts (kick : s.ron.hbKickAt = some t) (recent : s.cycles ≤ t + 100000) (lane : ronState s k = 3 ∨ ronState s k = 4) :
    heartbeatSend k s = (ronStart k 1 1 (ronPartner s k) 0 (heartbeatOctets k s) s).getD s := by
  have within : s.cycles ≤ t + usCycles 200 := recent
  refine if_neg ?_
  simp only [kick, decide_eq_true within, not_true_eq_false, false_or]
  exact fun ⟨h3, h4⟩ => lane.elim h3 h4

theorem timeFrameSend_sends (follows : s.leads = false) (up : ronState s k = 4) (active : ronPartner s k = s.ron.activeHid) :
    timeFrameSend k s = ronSend k 0 1 0 (timeFrameStamp k true s) s := if_neg (by simp [follows, up, active])

/-! ### New keys (R440) -/

/-- The device at a rekey, once its fresh HELLO has left. -/
def rekeyHello (k : Nat) (o : Octets) (s : Dev) : Dev :=
  let f := helloFresh k (rekeyDue k s)
  helloSend k (f.setRl k { f.rl k with theirs := o.take 402 })

/-- The partner's HELLO of a rekey stands. -/
def RekeyGood (k : Nat) (o : Octets) (d : Dev) : Prop :=
  helloPlan k o d = true ∧ o.length = 498 ∧ certOk d (oct o 0) (octs o 146 256) = true ∧
    (helloSigned o (d.rl k).mine = true ∨ helloSigned o [] = true)

/-- The tests of a rekey fail exactly where its HELLO does not stand. -/
theorem rekeyRefused_iff {d : Dev} :
    (¬ helloPlan k o d = true ∨ o.length ≠ 498 ∨ ¬ certOk d (oct o 0) (octs o 146 256) = true ∨
      ¬ (helloSigned o (d.rl k).mine = true ∨ helloSigned o [] = true)) ↔ ¬ RekeyGood k o d := by
  simp only [RekeyGood, not_and_or, ne_eq]

theorem rekey_refused (up : ronState s k = 4) (enc : s.rbit (Reg.ronLaneStatus k) 3 = true) (bad : ¬ RekeyGood k o (rekeyHello k o s)) :
    rekey k o s = occur 0x3A5 {} (rekeyHello k o s) :=
  (if_neg (by simp [up, enc])).trans (if_pos (rekeyRefused_iff.mpr bad))

theorem rekey_agrees {d : Dev} (up : ronState s k = 4) (enc : s.rbit (Reg.ronLaneStatus k) 3 = true) (hd : rekeyHello k o s = d)
    (good : RekeyGood k o d) :
    let u := d.setRl k { d.rl k with keys := linkKeys d k (o.take 402), oldKeys := (d.rl k).keys, phaseAt := some d.cycles, keyedAt := d.cycles }
    rekey k o s = u.setBit (Reg.ronLaneStatus k) 4 (!u.rbit (Reg.ronLaneStatus k) 4) := by
  subst hd
  exact (if_neg (by simp [up, enc])).trans (if_neg (fun refused => rekeyRefused_iff.mp refused good))

end

/-- Settles O38: each clause is one command of a Ronong lane, in a state in which it acts. -/
theorem ronongLanesRunAndSend : Obligations.RonongLanesRunAndSend := by
  unfold Obligations.RonongLanesRunAndSend
  refine ⟨?calibrated, ?calibBad, ?calibAgain, ?hello, ?helloNot, ?downEnd, ?lost, ?heartbeat, ?kick, ?timeFrame, ?rekey⟩
  case calibrated =>
    intro k x s hn calib fresh good
    exact run_ends hn (calibDone_trains calib fresh good)
  case calibBad =>
    intro k x s hn calib fresh d bad
    exact run_ends hn (calibDone_fails calib fresh rfl bad)
  case calibAgain =>
    intro k s hn calib bad
    exact run_ends hn (calibRepeat_repeats calib bad rfl (elapseTo_rl _ _))
  case hello =>
    intro k s hn hello can l d
    refine ⟨fun clear => ?_, fun enc => ⟨(d.drawOctets 48).1, d.free + 1, ?_⟩⟩
    · exact run_ends hn ((helloRetry_sends hello).trans (helloSend_clear can clear))
    · exact run_ends hn ((helloRetry_sends hello).trans (helloSend_signed can rfl enc))
  case helloNot =>
    intro k s hn no
    exact run_ends hn (helloRetry_keeps no)
  case downEnd =>
    intro k s hn down
    exact run_ends hn (laneDownEnd_trains down)
  case lost =>
    intro k s hn known heard on
    exact run_ends hn (partnerLost_loses known heard on)
  case heartbeat =>
    intro k t s hn kick recent lane
    exact run_ends hn (heartbeatSend_starts kick recent lane)
  case kick =>
    intro by_ s hn hg
    exact run_gated_ends hn hg rfl
  case timeFrame =>
    intro k s hn follows up active
    exact run_ends hn (timeFrameSend_sends follows up active)
  case rekey =>
    intro k o s hn up enc f d l good
    refine ⟨fun bad => ?_, fun stands => ?_⟩
    · exact run_ends hn (rekey_refused up enc bad)
    · exact run_ends hn (rekey_agrees up enc rfl stands)

end Sys2Proof.Proofs
end

section
/-! PROOFS. Takeovers (R444, R451 to R458): TAKEOVER frames, a lost worker, staged dossiers, hand-back, switch-over, and the standby's own takeover. -/

namespace Sys2Proof.Proofs

set_option Elab.async false

open Sys2Proof.Machine Sys2Proof.Laws

section
variable {s d : Dev} {k h n r t g : Nat} {hd : RonHdr} {w : Takeover} {p : PlanDev} {o : Octets}

/-! ### TAKEOVER frames (R451, R454) -/

theorem takeoverFrame_here {kind : Nat} {act : Dev → Dev} (here : framesHere k hd 1 6 s) :
    takeoverFrame k hd h kind n act s = act (counted k hd 1 s) := ronTake_here k hd 1 6 0 _ act s here

theorem takeoverTake_restores (hack : ackSend hd 6 s = d) (reserve : d.role = 3) (idle : d.ron.takeover = none) :
    takeoverTake hd h s = restoreBegin h d := by
  simp only [takeoverTake, hack, reserve, idle, if_true]

theorem takeoverTake_queues (hack : ackSend hd 6 s = d) (reserve : d.role = 3) (busy : d.ron.takeover = some w)
    (back : w.handback.isSome = true) :
    takeoverTake hd h s = { d with ron := { d.ron with queued := d.ron.queued ++ [h] } } := by
  simp only [takeoverTake, hack, reserve, busy, back, if_true]

/-- The channels of device `h` are to rotate their dossiers. -/
def rotateOf (h : Nat) (s : Dev) : Dev :=
  { s with chans := s.chans.map (fun (p : Nat × Channel) => (p.1, if p.2.owner = h then { p.2 with rotateDue := true } else p.2)) }

theorem handBackTake_reserve (hack : ackSend hd 6 s = d) (reserve : d.role = 3) (serving : d.ron.takeover = some w) (its : w.hid = h) :
    handBackTake hd h n s = setRes 4 h { rotateOf h d with
      ron := { (rotateOf h d).ron with takeover := some { w with handback := some ((rotateOf h d).target n) } } } := by
  simp only [handBackTake, hack, reserve, serving, if_true]
  exact if_neg (not_not_intro its)

theorem handBackTake_device (hack : ackSend hd 6 s = d) (other : d.role ≠ 3) (mine : h = d.hid) :
    handBackTake hd h n s = { d with ron := { d.ron with takeover := some ⟨h, none, true, some (d.target n)⟩ } } := by
  subst hack
  exact (if_neg other).trans (if_pos mine)

/-! ### A lost worker (R448, R450, R451) -/

theorem workerTakeover_acts (leads : s.activeManager = true) (other : h ≠ s.hid) (lost : (s.rl h).lost = true)
    (alive : s.rbit (Reg.ronAlias h) 9 = false) (own : s.rfld (Reg.ronAlias h) 0 4 = h)
    (planned : (planOthers (standbyWait (s.rl h).lostAt s)).find? (fun d => d.hid == h) = some p) :
    let u := standbyWait (s.rl h).lostAt s
    workerTakeover h s =
      if standbyHears (s.rl h).lostAt h u = true ∧ u.rbit Reg.ronCfg 2 = true ∧ p.role ≠ 1 then detourLive (u.setBit (Reg.ronAlias h) 8 true)
      else if p.role = 2 then takeDevice h u else detourLive (u.setBit (Reg.ronAlias h) 8 false) := by
  refine (if_neg (by simp [leads, other, lost, alive, own])).trans ?_
  simp only [planned]

/-! ### Staged dossiers (R444) and de-duplication (R451) -/

theorem batchWrite_empty (dossiers : s.ron.stagedDossiers = []) (records : s.ron.stagedRecords = []) : batchWrite s = s :=
  if_pos (.inl (by simp [dossiers, records]))

theorem filter_upTo_eq : ∀ a < 16, (upTo 16).filter (fun n => a == n) = [a] := by decide

/-- The tile of a channel by its staged record, or else by what is stored. -/
def stagedTile (s : Dev) (g : Nat) : Nat :=
  match kvGet s.ron.stagedRecords g with
  | some r => if s.spare then storeTile s g else nfld (le r 0 4) 20 8
  | none => storeTile s g

theorem stagedTile_record (records : s.ron.stagedRecords = [(g, o)]) (normal : s.spare = false) :
    stagedTile s = fun x => if x = g then nfld (le o 0 4) 20 8 else storeTile s x := by
  funext x
  by_cases hx : x = g
  · simp [stagedTile, records, normal, kvGet, hx]
  · simp [stagedTile, records, kvGet, hx, Ne.symm hx]

/-- The clusters `ns` wake, and what is staged for their tiles is written. -/
def wokenWrite (tile : Nat → Nat) (ns : List Nat) (s : Dev) : Dev :=
  let u := ns.foldl (fun s n => if s.clState n = 0 ∧ ¬ s.rbit Reg.pwrDomainFail (1 + n) then (clusterUp n s).setFld Reg.gduClState (2 * n) 2 1 else s) s
  writeStaged (fun g => u.clState (tile g / 16) != 0) (u.elapse (usCycles 2 * ns.length))

theorem batchWrite_writes (records : s.ron.stagedRecords ≠ []) (store : s.role = 3 ∨ s.spare = true) :
    let gs := s.ron.stagedDossiers.map (·.1) ++ s.ron.stagedRecords.map (·.1)
    batchWrite s = wokenWrite (stagedTile s) ((upTo 16).filter (fun n => gs.any (fun g => stagedTile s g / 16 == n))) s :=
  if_neg (by simp [records, store])

/-- A cluster that is awake takes what is staged for it 2 µs later. -/
theorem wokenWrite_awake {tile : Nat → Nat} (awake : s.clState n = 2) :
    wokenWrite tile [n] s = writeStaged (fun x => s.clState (tile x / 16) != 0) (s.elapse 1000) := by
  have stands : (if s.clState n = 0 ∧ ¬ s.rbit Reg.pwrDomainFail (1 + n) then (clusterUp n s).setFld Reg.gduClState (2 * n) 2 1 else s) = s :=
    if_neg (by simp [awake])
  simp only [wokenWrite, List.foldl_cons, List.foldl_nil, stands, List.length_cons, List.length_nil, usCycles]

theorem batchWrite_record (dossiers : s.ron.stagedDossiers = []) (records : s.ron.stagedRecords = [(g, o)]) (reserve : s.role = 3)
    (normal : s.spare = false) (awake : s.clState (nfld (le o 0 4) 20 8 / 16) = 2) (inside : nfld (le o 0 4) 20 8 / 16 < 16) :
    batchWrite s = writeStaged (fun x => s.clState ((if x = g then nfld (le o 0 4) 20 8 else storeTile s x) / 16) != 0) (s.elapse 1000) := by
  refine (batchWrite_writes (by simp [records]) (.inl reserve)).trans ?_
  simp only [dossiers, records, stagedTile_record records normal, List.map_nil, List.map_cons, List.nil_append, List.any_cons, List.any_nil,
    Bool.or_false, if_true, filter_upTo_eq _ inside, wokenWrite_awake awake]

theorem dedupEnd_ends (since : kvGet s.ron.dedup h = some (t + 1)) (hd : s.elapseTo (t + 1 + usCycles 2000000) = d) :
    dedupEnd h s = { d with ron := { d.ron with dedup := kvDel d.ron.dedup h } } := by
  subst hd
  simp only [dedupEnd, since]

/-! ### Switch-over (R458) and hand-back (R454) -/

theorem switchoverWrite_asks (leads : s.activeManager = true) (none_ : s.ron.switchAt = none) (idle : s.ron.takeover = none)
    (other : (otherManager s).isSome = true) :
    switchoverWrite s = ctrlStatus 0 { s with ron := { s.ron with switchAt := some (s.time.ticks + 2) } } :=
  (if_neg (not_not_intro leads)).trans ((if_neg (by simp [none_, idle])).trans (if_neg (by simp [Option.isSome_iff_ne_none.mp other])))

/-- The standby, where its lane is UP, hears device `h`. -/
def standbyHeard (h : Nat) (s : Dev) : Bool :=
  match otherManager s with
  | none => true
  | some j => (match (s.rl j).peer with | some m => m.heard.toNat.testBit h | none => false)

theorem standbyHeard_of_peer (heard : ∀ j ∈ otherManager s, ∃ m ∈ (s.rl j).peer, m.heard.toNat.testBit h = true) : standbyHeard h s = true := by
  unfold standbyHeard
  cases hj : otherManager s with
  | none => rfl
  | some j =>
    obtain ⟨m, hm, bit⟩ := heard j hj
    simp only [Option.mem_def.mp hm, bit]

theorem handbackWrite_asks (leads : s.activeManager = true) (reserve : reserveHid s = some r) (served : s.rfld (Reg.ronAlias h) 0 4 = r)
    (other : h ≠ r) (none_ : s.ron.switchAt = none) (own : ∀ w ∈ s.ron.takeover, w.handback = none ∧ w.hid = h)
    (reached : h = s.hid ∨ ((directLane s h).isSome = true ∧ standbyHeard h s = true)) :
    let n := s.tickNow + 81
    let d := ronSendTo r 1 6 0 (takeoverOctets h 1 n) { s with ron := { s.ron with takeover := some ⟨h, none, h == s.hid, some (s.target n)⟩ } }
    handbackWrite h s = ctrlStatus 0 (if h = d.hid then d else ronSendTo h 1 6 0 (takeoverOctets h 1 n) d) := by
  have free : s.ron.takeover.any (fun t => t.handback.isSome || t.hid != h) = false := by
    cases ht : s.ron.takeover with
    | none => rfl
    | some w => simp [own w ht]
  have ways : ¬ (h ≠ s.hid ∧ ((directLane s h).isNone = true ∨ ¬ standbyHeard h s = true)) := by
    rcases reached with mine | ⟨lane, heard⟩
    · exact fun away => away.1 mine
    · simp [heard, Option.isSome_iff_ne_none.mp lane]
  refine (if_neg (not_not_intro leads)).trans ?_
  simp only [reserve]
  exact (if_neg (by simp [served, other])).trans ((if_neg (by simp [free, none_])).trans (if_neg ways))

/-! ### The standby's takeover (R455, R456) -/

/-- The new active manager, once it has announced itself. -/
def managerAnnounced (s : Dev) : Dev :=
  announce (guardApply (occur 0x3A2 {} (({ s with ron := { s.ron with active := true, activeHid := s.hid, inherited := true } } : Dev).setFld
    Reg.ronStatus 2 2 1)))

theorem managerBegin_lost : managerBegin true s =
    setServo 3 [] (if s.ron.activeHid ≠ (managerAnnounced s).hid then takeDevice s.ron.activeHid (managerAnnounced s) else managerAnnounced s) := by
  simp only [managerBegin, true_and]
  rfl

theorem managerTakeover_begins (manager : s.role = 1) (standby : s.ron.active = false) (plan : s.ron.plan.isSome = true)
    (free : s.ron.fenced = false) (lost : peerLostAt s = some t) (most : quorum t s = true) : managerTakeover s = managerBegin true s := by
  refine (if_neg (by simp [manager, standby, free, Option.isSome_iff_ne_none.mp plan])).trans ?_
  simp only [lost, most, if_true]

theorem splitLane_records (manager : s.role = 1) (standby : s.ron.active = false) (lost : peerLostAt s = some t) (few : quorum t s = false) :
    splitLane s = occur 0x3AB {} s := by
  refine (if_neg (by simp [manager, standby])).trans ?_
  simp only [lost, few, Bool.false_eq_true, if_false]

end

/-- Settles O41: each clause is one command of a takeover, in a state in which it acts. -/
theorem takeoversRunTheirCourse : Obligations.TakeoversRunTheirCourse := by
  unfold Obligations.TakeoversRunTheirCourse
  refine ⟨?takeover, ?handBack, ?handBackDevice, ?fence, ?worker, ?batchEmpty, ?batch, ?dedup, ?switchover, ?handback, ?manager, ?split⟩
  case takeover =>
    intro k hd h s n hn here d reserve
    refine ⟨fun idle => ?_, fun t busy back => ?_⟩
    · exact run_ends hn ((takeoverFrame_here here).trans (takeoverTake_restores rfl reserve idle))
    · exact run_ends hn ((takeoverFrame_here here).trans (takeoverTake_queues rfl reserve busy back))
  case handBack =>
    intro k hd h s n t hn here d reserve serving its
    exact run_ends hn ((takeoverFrame_here here).trans (handBackTake_reserve rfl reserve serving its))
  case handBackDevice =>
    intro k hd h s n hn here d other mine
    exact run_ends hn ((takeoverFrame_here here).trans (handBackTake_device rfl other mine))
  case fence =>
    intro k hd h s hn here
    exact run_ends hn (takeoverFrame_here here)
  case worker =>
    intro h s d hn leads other lost alive own u planned
    exact run_ends hn (workerTakeover_acts leads other lost alive own planned)
  case batchEmpty =>
    intro s hn dossiers records
    exact run_ends hn (batchWrite_empty dossiers records)
  case batch =>
    intro s g r hn dossiers records reserve normal awake inside
    exact run_ends hn (batchWrite_record dossiers records reserve normal awake inside)
  case dedup =>
    intro h t s hn since d
    exact run_ends hn (dedupEnd_ends since rfl)
  case switchover =>
    intro by_ s hn hg leads none_ idle other
    exact run_gated_ends hn hg (switchoverWrite_asks leads none_ idle other)
  case handback =>
    intro by_ h s r hn hg leads reserve served other none_ own reached n d
    exact run_gated_ends hn hg (handbackWrite_asks leads reserve served other none_ own
      (reached.imp_right (fun ⟨lane, heard⟩ => ⟨lane, standbyHeard_of_peer heard⟩)))
  case manager =>
    intro s t hn manager standby plan free lost most old u v
    exact run_ends hn ((managerTakeover_begins manager standby plan free lost most).trans managerBegin_lost)
  case split =>
    intro s t hn manager standby lost few
    exact run_ends hn (splitLane_records manager standby lost few)

end Sys2Proof.Proofs
end

section
/-! PROOFS. The host's side: the registers of the rings (R465, R467 to R469) and the PCIe endpoint (R470, R471). -/

namespace Sys2Proof.Proofs

set_option Elab.async false

open Sys2Proof.Machine Sys2Proof.Laws

section
variable {s : Dev} {r t ch : Nat} {v : Word}

/-! ### The registers of the rings -/

theorem tailDoorbell_moves (hd : s.domainOn 24 = true) (en : s.rbit (Reg.pciCrCtrl r) 0 = true) :
    tailDoorbell r v s = s.setNat (Reg.pciCrTail r) (fld v 0 16 % ringSize (s.reg (Reg.pciCrCtrl r))) := if_pos ⟨hd, en⟩

theorem headDoorbell_moves (hd : s.domainOn 24 = true) (en : s.rbit (Reg.pciErCtrl r) 0 = true) :
    headDoorbell r v s = s.setNat (Reg.pciErHead r) (fld v 0 16 % ringSize (s.reg (Reg.pciErCtrl r))) := if_pos ⟨hd, en⟩

theorem crCtrlWrite_enables (off : s.rbit (Reg.pciCrCtrl r) 0 = false) (on : bit v 0 = true) (small : v.toNat < 32) :
    crCtrlWrite r v s = (((s.setReg (Reg.pciCrCtrl r) v).setNat (Reg.pciCrHead r) 0).setNat (Reg.pciCrTail r) 0).setNat (Reg.pciCrStatus r) 2 := by
  have whole : BitVec.ofNat 32 (v.toNat % 32) = v := by rw [Nat.mod_eq_of_lt small, BitVec.ofNat_toNat, BitVec.setWidth_eq]
  simp only [crCtrlWrite, whole, off, on, Bool.false_eq_true, false_and, if_false, not_false_eq_true, and_self, if_true]

theorem erCtrlWrite_enables (off : s.rbit (Reg.pciErCtrl r) 0 = false) (on : bit v 0 = true) (clean : v.toNat &&& 0xFFFFFF1F = v.toNat) :
    erCtrlWrite r v s =
      (((erDrop r (s.setReg (Reg.pciErCtrl r) v)).setNat (Reg.pciErHead r) 0).setNat (Reg.pciErTail r) 0).setNat (Reg.pciErStatus r) 2 := by
  have whole : BitVec.ofNat 32 (v.toNat &&& 0xFFFFFF1F) = v := by rw [clean, BitVec.ofNat_toNat, BitVec.setWidth_eq]
  simp only [erCtrlWrite, whole, off, on, Bool.false_eq_true, false_and, if_false, not_false_eq_true, and_self, if_true]

theorem coalesceTimer_signals (first : (s.er r).firstAt = some t) :
    coalesceTimer r s = msix r ((s.elapseTo t).setEr r { s.er r with unsignalled := 0, firstAt := none }) := by
  simp only [coalesceTimer, first]

/-! ### The endpoint -/

theorem endpointDown_resets (src : Nat) (hd : s.domainOn 24 = true) : endpointDown src s = endpointReset (occur src {} s) := if_pos hd

theorem dmaReadError_fetch (hd : s.domainOn 24 = true) (low : 1 ≤ ch) (high : ch ≤ 4) (en : s.rbit (Reg.pciCrCtrl (ch - 1)) 0 = true) :
    dmaReadError ch s = occur 0x0CB {} (s.setBit (Reg.pciCrStatus (ch - 1)) 0 true) :=
  (if_neg (not_not_intro hd)).trans ((if_pos ⟨low, high⟩).trans (if_pos en))

theorem dmaReadError_image (hd : s.domainOn 24 = true) (pull : s.phase = 5 ∧ s.boot.pulling = true) : dmaReadError 0 s = hostPullDone none s :=
  (if_neg (not_not_intro hd)).trans ((if_neg (by simp)).trans ((if_pos rfl).trans (if_pos pull)))

theorem dmaReadError_zero (hd : s.domainOn 24 = true) (idle : ¬ (s.phase = 5 ∧ s.boot.pulling = true)) : dmaReadError 0 s = occur 0x0CB {} s :=
  (if_neg (not_not_intro hd)).trans ((if_neg (by simp)).trans ((if_pos rfl).trans (if_neg idle)))

theorem dmaReadError_other (hd : s.domainOn 24 = true) (low : 9 ≤ ch) (high : ch ≤ 11) : dmaReadError ch s = occur 0x0CB {} s :=
  (if_neg (not_not_intro hd)).trans ((if_neg (by omega)).trans ((if_neg (by omega)).trans (if_pos ⟨low, high⟩)))

end

/-- Settles O21: each clause is one write of a ring register, or the ring's timer, in a state in which it acts. -/
theorem ringRegistersAct : Obligations.RingRegistersAct := by
  unfold Obligations.RingRegistersAct
  refine ⟨?tail, ?head, ?command, ?event, ?timer⟩
  case tail =>
    intro r v s hn hd en
    exact run_ends hn (tailDoorbell_moves hd en)
  case head =>
    intro r v s hn hd en
    exact run_ends hn (headDoorbell_moves hd en)
  case command =>
    intro r v s hn hg off on small
    exact run_gated_ends hn hg (crCtrlWrite_enables off on small)
  case event =>
    intro r v s hn hg off on clean
    exact run_gated_ends hn hg (erCtrlWrite_enables off on clean)
  case timer =>
    intro r s t hn first
    exact run_ends hn (coalesceTimer_signals first)

/-- Settles O42: each clause is one fault of the endpoint or of a DMA channel. -/
theorem pcieEndpointIsResetAndStops : Obligations.PcieEndpointIsResetAndStops := by
  unfold Obligations.PcieEndpointIsResetAndStops
  refine ⟨?linkDown, ?flr, ?fetch, ?other, ?image⟩
  case linkDown =>
    intro s hn hd
    exact run_ends hn (endpointDown_resets 0x0C9 hd)
  case flr =>
    intro s hn hd
    exact run_ends hn (endpointDown_resets 0x0CC hd)
  case fetch =>
    intro ch s hn hd low high en
    exact run_ends hn (dmaReadError_fetch hd low high en)
  case other =>
    intro ch s hn hd which
    rcases which with ⟨zero, idle⟩ | ⟨low, high⟩
    · exact run_ends hn ((congrArg (dmaReadError · s.dev) zero).trans (dmaReadError_zero hd idle))
    · exact run_ends hn (dmaReadError_other hd low high)
  case image =>
    intro ch s hn hd zero phase pulling
    exact run_ends hn ((congrArg (dmaReadError · s.dev) zero).trans (dmaReadError_image hd ⟨phase, pulling⟩))

end Sys2Proof.Proofs
end

section
/-! PROOFS. The Night Desk's port and its requests (R473 to R480, R504). -/

namespace Sys2Proof.Proofs

set_option Elab.async false

open Sys2Proof.Machine Sys2Proof.Laws

section
variable {s : Dev} {f h : Bool} {n t a op : Nat} {q : NdReq} {p : NdPeer} {o : Octets}

/-! ### The PHY and its reference (R473) -/

theorem phyPoll_noLink (up : s.phase ≠ 0) :
    phyPoll false f h s = nightLinkDown (s.setBit Reg.ndkStatus 9 (!s.rbit (Reg.srcStatus 0x0D1) 0)) :=
  (if_neg up).trans (if_pos (.inr (by simp)))

theorem phyPoll_link {d : Dev} (up : s.phase ≠ 0) (hd : s.setBit Reg.ndkStatus 9 (!s.rbit (Reg.srcStatus 0x0D1) 0) = d) (port : nightPort d = true) :
    let on (b : Bool) : Bool := s.rfld Reg.ndkMode 0 2 == 1 || (s.rfld Reg.ndkMode 0 2 == 2 && b)
    phyPoll true f h s = ((d.setBit Reg.ndkStatus 1 (on f)).setBit Reg.ndkStatus 2 (on h)).setBit Reg.ndkStatus 0 true := by
  subst hd
  exact (if_neg up).trans (if_neg (by simp [port]))

theorem rmiiMissing_down (up : s.phase ≠ 0) (mode : s.rfld Reg.ndkMode 0 2 ≠ 0) :
    rmiiMissing s = occur 0x0D1 {} (nightLinkDown (s.setBit Reg.ndkStatus 9 false)) := if_neg (not_or_intro up mode)

/-! ### Collisions and back-off (R475) -/

/-- A frame of the port may collide: half duplex, with a frame to send and nothing that holds it back. -/
def Collides (s : Dev) : Prop :=
  nightHalf s = true ∧ s.rbit Reg.ndkCfg 0 = true ∧ s.night.mac.tx ≠ [] ∧ s.night.defer = none ∧ s.night.backoff = none

theorem Collides.not_held (c : Collides s) :
    ¬ (¬ nightHalf s = true ∨ ¬ s.rbit Reg.ndkCfg 0 = true ∨ s.night.mac.tx.isEmpty = true ∨ s.night.defer.isSome = true ∨
      s.night.backoff.isSome = true) := by
  obtain ⟨half, en, waits, defer, backoff⟩ := c
  simp [half, en, waits, defer, backoff]

/-- A collision is counted and jams. -/
def jammed (s : Dev) : Dev :=
  let u := s.bump64 Reg.ndkCollisions
  { u with night := { u.night with defer := some (u.cycles + bitCycles u 128) } }

theorem collision_late (c : Collides s) (late : 512 < n) : collision n s = nightDropHead ((jammed s).bump64 Reg.ndkLateColl) :=
  (if_neg c.not_held).trans (if_pos late)

theorem collision_excess (c : Collides s) (early : n ≤ 512) (many : 16 ≤ (jammed s).night.attempts + 1) :
    collision n s = nightDropHead ((jammed s).bump64 Reg.ndkExcessColl) :=
  (if_neg c.not_held).trans ((if_neg (Nat.not_lt.mpr early)).trans (if_pos many))

/-- The back-off of attempt `a`, which waits `r` slots. -/
def backedOff (a r : Nat) (s : Dev) : Dev :=
  { s with night := { s.night with attempts := a, backoff := some (s.cycles + bitCycles s (32 + 512 * r)) } }

theorem collision_backsOff (c : Collides s) (early : n ≤ 512) (ha : (jammed s).night.attempts + 1 = a) (few : a < 16) :
    collision n s = backedOff a ((jammed s).drawBelow (2 ^ min a 10)).1 ((jammed s).drawBelow (2 ^ min a 10)).2 := by
  subst ha
  exact (if_neg c.not_held).trans ((if_neg (Nat.not_lt.mpr early)).trans (if_neg (Nat.not_le.mpr few)))

theorem drawBelow_lt (pos : 0 < n) : (s.drawBelow n).1 < n :=
  lt_of_lt_of_eq (Nat.mod_lt _ (lt_of_lt_of_le pos (le_max_left _ _))) (max_eq_left pos)

theorem backoffExpiry_ends {d : Dev} (waits : s.night.backoff = some t) (hd : s.elapseTo t = d) :
    backoffExpiry s = { d with night := { d.night with backoff := none } } := by
  subst hd
  simp only [backoffExpiry, waits]

theorem deferEnd_ends {d : Dev} (defers : s.night.defer = some t) (hd : s.elapseTo t = d) :
    let waits : Bool := !d.night.mac.tx.isEmpty
    let u := if waits = true ∧ d.night.deferred = false then d.bump64 Reg.ndkDeferred else d
    deferEnd s = { u with night := { u.night with defer := none, deferred := u.night.deferred || waits } } := by
  subst hd
  simp only [deferEnd, defers, Bool.not_eq_true]

/-! ### Taking requests (R477 to R479) -/

theorem ndDatagram_takes {x : RxHeld} {r : List RxHeld} (port : nightPort s = true) (rx : s.night.mac.rx = x :: r) :
    ndDatagram s = nightTake x.octets
      (watermarks 8 { s with night := { s.night with mac := { s.night.mac with rx := r } } }) := by
  refine (if_neg (not_not_intro port)).trans ?_
  simp only [rx]

/-- The second of the rate's count. -/
def rateSecond (s : Dev) : Nat := s.cycles / 500000000

/-- The requests counted in the present second. -/
def rateCount (s : Dev) : Nat := if s.night.sec = rateSecond s then s.night.count else 0

/-- One more request in the present second. -/
def rateCounted (s : Dev) : Dev := { s with night := { s.night with sec := rateSecond s, count := rateCount s + 1 } }

/-- What a request within its rate does, by its authentication. -/
def nightJudged (q : NdReq) (o : Octets) (s : Dev) : Dev :=
  if ¬ q.auth then nightAdmit q s
  else if s.night.recordLost then nightAdmit q s
  else if ¬ ((nightKey s).map (fun k => nightTagOk k o)).getD false then
    let s := s.bump64 Reg.ndkAuthFail
    let z := s.oncePer 0x0D2 (rateSecond s)
    if z.1 then occur 0x0D2 {} z.2 else z.2
  else if q.bootId ≠ s.night.bootId ∨ s.night.lastSeq.any (fun l => decide (q.seq ≤ l)) then nightRespond q 3 [] (s.bump64 Reg.ndkStale)
  else nightAdmit q { s with night := { s.night with lastSeq := some q.seq } }

theorem nightDatagram_of_request (hq : nightRequest p o = some q) :
    nightDatagram p o s = if nightRate (fastOscRun s) ≤ rateCount (fastOscRun s) ∨ 5 ≤ (fastOscRun s).night.queue.length
      then (fastOscRun s).bump64 Reg.ndkRateDrop else nightJudged q o (rateCounted (fastOscRun s)) := by
  have second : usCycles 1000000 = 500000000 := by norm_num [usCycles]
  simp only [nightDatagram, hq, second]
  rfl

theorem nightDatagram_drops (hq : nightRequest p o = some q)
    (full : nightRate (fastOscRun s) ≤ rateCount (fastOscRun s) ∨ 5 ≤ (fastOscRun s).night.queue.length) :
    nightDatagram p o s = (fastOscRun s).bump64 Reg.ndkRateDrop := (nightDatagram_of_request hq).trans (if_pos full)

theorem nightDatagram_judges (hq : nightRequest p o = some q) (rate : rateCount (fastOscRun s) < nightRate (fastOscRun s))
    (room : (fastOscRun s).night.queue.length < 5) : nightDatagram p o s = nightJudged q o (rateCounted (fastOscRun s)) :=
  (nightDatagram_of_request hq).trans (if_neg (not_or_intro (Nat.not_le.mpr rate) (Nat.not_le.mpr room)))

theorem nightJudged_admits (free : q.auth = false ∨ s.night.recordLost = true) : nightJudged q o s = nightAdmit q s := by
  by_cases auth : q.auth = true
  · exact (if_neg (not_not_intro auth)).trans (if_pos (free.resolve_left (by simp [auth])))
  · exact if_pos auth

theorem nightJudged_badTag (auth : q.auth = true) (kept : s.night.recordLost = false)
    (bad : ∀ k : Octets, nightKey s = some k → nightTagOk k o = false) :
    let v := s.bump64 Reg.ndkAuthFail
    let z := v.oncePer 0x0D2 (rateSecond v)
    nightJudged q o s = if z.1 then occur 0x0D2 {} z.2 else z.2 := by
  have no : ¬ ((nightKey s).map (fun k => nightTagOk k o)).getD false = true := by
    cases hk : nightKey s with
    | none => exact Bool.false_ne_true
    | some k => exact ne_true_of_eq_false (bad k hk)
  exact (if_neg (not_not_intro auth)).trans ((if_neg (ne_true_of_eq_false kept)).trans (if_pos no))

theorem nightJudged_goodTag {k : Octets} (auth : q.auth = true) (kept : s.night.recordLost = false) (key : nightKey s = some k)
    (good : nightTagOk k o = true) :
    nightJudged q o s = if q.bootId ≠ s.night.bootId ∨ s.night.lastSeq.any (fun l => decide (q.seq ≤ l)) = true
      then nightRespond q 3 [] (s.bump64 Reg.ndkStale) else nightAdmit q { s with night := { s.night with lastSeq := some q.seq } } := by
  have yes : ((nightKey s).map (fun k => nightTagOk k o)).getD false = true := by simp [key, good]
  exact (if_neg (not_not_intro auth)).trans ((if_neg (ne_true_of_eq_false kept)).trans (if_neg (not_not_intro yes)))

/-! ### Functions that read (R479, R480, R504) -/

theorem nightGet_answers {body : Dev → Octets} (hq : nightHead s (· == op) = some q) (empty : q.body = []) :
    nightGet op body s = nightEnd q 0 (body s) (fastOscRun s) := by
  simp only [nightGet, hq, empty, List.isEmpty_nil, if_true]

theorem nightGet_badParam {body : Dev → Octets} (hq : nightHead s (· == op) = some q) (full : q.body ≠ []) :
    nightGet op body s = nightEnd q 2 [] s := by
  simp only [nightGet, hq, List.isEmpty_iff, if_neg full]

theorem ndFaultLog_answers {i m : Byte} (bad : List Nat) (hq : nightHead s (· == 6) = some q) (body : q.body = [i, m]) (some_ : 0 < m.toNat)
    (most : m.toNat ≤ 32) :
    let recs := ((s.flt.log.drop i.toNat).take m.toNat).zipIdx i.toNat
    ndFaultLog bad s = nightEnd q 0 ((recs.map (fun p => if bad.contains p.2 then List.replicate 32 0xFF else p.1)).flatten)
      (recs.foldl (fun d p => if bad.contains p.2 then occur 0x01B {} d else d) (fastOscRun s)) := by
  have first : oct q.body 0 = i.toNat := by rw [body]; rfl
  have count : oct q.body 1 = m.toNat := by rw [body]; rfl
  have fits : ¬ (q.body.length ≠ 2 ∨ m.toNat = 0 ∨ 32 < m.toNat) := by
    simp only [body, List.length_cons, List.length_nil]
    omega
  simp only [ndFaultLog, hq, first, count, if_neg fits]

theorem ndBadOpcode_answers (hq : nightHead s (fun op => op == 0 || decide (16 ≤ op)) = some q) : ndBadOpcode s = nightEnd q 1 [] s := by
  simp only [ndBadOpcode, hq]

end

/-- Settles O43: each clause is one command of the port or one request, in a state in which it acts. -/
theorem nightDeskAnswersRequests : Obligations.NightDeskAnswersRequests := by
  unfold Obligations.NightDeskAnswersRequests
  refine ⟨?noLink, ?link, ?reference, ?collision, ?backoff, ?defer, ?takes, ?request, ?hello, ?identity, ?power, ?faults, ?gasp, ?log, ?badParam,
    ?reserved⟩
  case noLink =>
    intro f h s hn up
    exact run_ends hn (phyPoll_noLink up)
  case link =>
    intro f h s hn up mode d on port
    exact run_ends hn (phyPoll_link up rfl port)
  case reference =>
    intro s hn up mode
    exact run_ends hn (rmiiMissing_down up mode)
  case collision =>
    intro n s hn half en waits defer backoff u d a
    have c : Collides s.dev := ⟨half, en, waits, defer, backoff⟩
    refine ⟨fun late => ?_, fun early many => ?_, fun early few => ⟨(d.drawBelow (2 ^ min a 10)).1, d.free + 1, ?_, ?_⟩⟩
    · exact run_ends hn (collision_late c late)
    · exact run_ends hn (collision_excess c early many)
    · exact drawBelow_lt (Nat.two_pow_pos _)
    · exact run_ends hn (collision_backsOff c early rfl few)
  case backoff =>
    intro t s hn waits d
    exact run_ends hn (backoffExpiry_ends waits rfl)
  case defer =>
    intro t s hn defers
    exact run_ends hn (deferEnd_ends defers rfl)
  case takes =>
    intro s h r hn port rx
    exact run_ends hn (ndDatagram_takes port rx)
  case request =>
    intro p o q s hq d sec n u
    refine ⟨fun full => ?_, fun rate room free => ?_, fun rate room auth kept bad => ?_, fun k rate room auth kept key good => ?_⟩
    · exact nightDatagram_drops hq full
    · exact (nightDatagram_judges hq rate room).trans (nightJudged_admits free)
    · exact (nightDatagram_judges hq rate room).trans (nightJudged_badTag auth kept bad)
    · exact (nightDatagram_judges hq rate room).trans (nightJudged_goodTag auth kept key good)
  case hello =>
    intro q s hn hq empty
    exact run_ends hn (nightGet_answers hq empty)
  case identity =>
    intro q s hn hq empty
    exact run_ends hn (nightGet_answers hq empty)
  case power =>
    intro q s hn hq empty
    exact run_ends hn (nightGet_answers hq empty)
  case faults =>
    intro q s hn hq empty
    exact run_ends hn (nightGet_answers hq empty)
  case gasp =>
    intro q s hn hq empty
    exact run_ends hn (nightGet_answers hq empty)
  case log =>
    intro q s i n bad hn hq body some_ most
    exact run_ends hn (ndFaultLog_answers bad hq body some_ most)
  case badParam =>
    intro q c op s hn hop hq full
    simp only [List.mem_cons, Prod.mk.injEq, List.not_mem_nil, or_false] at hop
    rcases hop with ⟨rfl, rfl⟩ | ⟨rfl, rfl⟩ | ⟨rfl, rfl⟩ | ⟨rfl, rfl⟩ | ⟨rfl, rfl⟩
    all_goals exact run_ends hn (nightGet_badParam hq full)
  case reserved =>
    intro q s hn hq
    exact run_ends hn (ndBadOpcode_answers hq)

end Sys2Proof.Proofs
end

section
/-! PROOFS. The fault collector (R487 to R496, R502, R506, R510), the error pair and the outputs (R499 to R501, R570). -/

namespace Sys2Proof.Proofs

set_option Elab.async false

open Sys2Proof.Machine Sys2Proof.Laws

section
variable {s : Dev} {n t : Nat} {o : OccData} {p : OutPin}

/-! ### Occurrences and injections (R488 to R494, R502) -/

/-- The counter that a block keeps of the source counts too. -/
def countedSource (n : Nat) (s : Dev) : Dev := match sourceCounter n with | some a => s.bump a | none => s

/-- A rise that the collector meets is recorded, where no injection waits. -/
theorem faultOccur_records {d : Dev} (none_ : s.flt.forced = []) (sensed : sourceSensed n s = true)
    (rises : (hasLive n && s.rbit (Reg.srcStatus n) 0) = false) (hd : (if n = 0x011 then s.setBit Reg.fltStatus 2 true else s) = d) :
    faultOccur n o s = sourceEffect n (countedSource n (occur n o d)) := by
  have meets : ¬ (¬ sourceSensed n s = true ∨ (hasLive n = true ∧ s.rbit (Reg.srcStatus n) 0 = true)) := by
    rw [← Bool.and_eq_true, rises]
    simp [sensed]
  have free : d.flt.forced = [] := by
    rw [← hd]
    split <;> exact none_
  refine (if_neg meets).trans ?_
  simp only [hd, free, List.contains_nil, Bool.false_eq_true, if_false, takeInjections_none d free]
  rfl

theorem faultOccur_present (none_ : s.flt.forced = []) (live : hasLive n = true) (present : s.rbit (Reg.srcStatus n) 0 = true) :
    faultOccur n o s = s := (if_pos (.inr ⟨live, present⟩)).trans (takeInjections_none s none_)

theorem faultClear_ends (sensed : sourceSensed n s = true) : faultClear n s = faultEnd n [] s := if_pos sensed

theorem forceSource_injects (none_ : s.flt.forced = []) (produced : (sourceMask n).isSome = true) (en : s.rbit Reg.fltCfg 2 = true) :
    forceSource n s = { s with flt := { s.flt with forced := [n] } } := by
  refine (if_neg (by simp [Option.isSome_iff_ne_none.mp produced])).trans ((if_pos en).trans ?_)
  simp only [none_, List.filter_nil, List.nil_append]

theorem forceSource_refused (produced : (sourceMask n).isSome = true) (off : s.rbit Reg.fltCfg 2 = false) :
    forceSource n s = s.bump Reg.fltForceRefused :=
  (if_neg (by simp [Option.isSome_iff_ne_none.mp produced])).trans (if_neg (ne_true_of_eq_false off))

@[simp] theorem clearSource_flt : (clearSource n s).flt = s.flt := rfl

/-! ### Traps, the watchdog and the control SRAM (R487, R495, R506) -/

theorem trapLate_occurs {d : Dev} (since : kvGet s.flt.trapSince n = some t) (other : n ≠ 0x0C3) (on : s.domainOn 25 = true)
    (hd : s.elapseTo (t + usCycles 1000) = d) :
    trapLate n s = occur 0x0C3 {} { d with flt := { d.flt with trapSince := kvDel d.flt.trapSince n } } := by
  have acts : ¬ (n = 0x0C3 ∨ ¬ s.domainOn 25 = true) := by simp [other, on]
  subst hd
  simp only [trapLate, since, if_neg acts]

theorem firmwareWatchdog_occurs (on : s.domainOn 25 = true) (armed : s.rbit Reg.ctlStatus 1 = true) :
    firmwareWatchdog s = occur 0x0C0 {} s := if_pos ⟨on, armed⟩

theorem controlParity_repaired (on : s.domainOn 25 = true) (dual : s.rbit Reg.ctlStatus 0 = true) :
    controlParity true s = occur 0x0C1 {} (s.bump Reg.ctlSramRepair) := (if_neg (by simp [on, dual])).trans (if_pos rfl)

theorem controlParity_lost (on : s.domainOn 25 = true) (dual : s.rbit Reg.ctlStatus 0 = true) :
    controlParity false s = occur 0x0C2 {} (s.setBit Reg.ctlStatus 2 false) :=
  (if_neg (by simp [on, dual])).trans (if_neg Bool.false_ne_true)

/-! ### The error pair and the outputs (R499 to R501, R570) -/

theorem pairClear_clears (free : ∀ n < 1024, s.rbit (Reg.srcStatus n) 0 = true → (maskOf s n).testBit 4 = false) :
    pairClear s = if s.rbit Reg.fltStatus 0 then
        pairDrive true { s.setBit Reg.fltStatus 0 false with flt := { (s.setBit Reg.fltStatus 0 false).flt with pairFlip := false } }
      else s := by
  refine if_neg (ne_true_of_eq_false (List.any_eq_false.mpr (fun n hn => ?_)))
  rw [Bool.and_eq_true]
  exact fun ⟨live, holds⟩ => ne_true_of_eq_false (free n (List.mem_range.mp hn) live) holds

theorem pairClear_keeps (hn : n < 1024) (live : s.rbit (Reg.srcStatus n) 0 = true) (holds : (maskOf s n).testBit 4 = true) :
    pairClear s = s := if_pos (List.any_eq_true.mpr ⟨n, List.mem_range.mpr hn, by rw [live, holds]; rfl⟩)

theorem pairHalf_flips (up : s.phase ≠ 0) (mode : s.rbit Reg.fltCfg 1 = true) (clear : s.rbit Reg.fltStatus 0 = false) :
    let flip : Bool := heartbeatRuns s && !s.flt.pairFlip
    pairHalf s = pairShow (pairDrive (!flip) { s with flt := { s.flt with pairFlip := flip } }) := if_neg (by simp [up, mode, clear])

theorem pairMismatch_releases (up : s.phase ≠ 0) (driven : s.rbit Reg.fltStatus 2 = false) :
    pairMismatch s = occur 0x011 {} (s.setBit Reg.fltStatus 2 true) := if_neg (by simp [up, driven])

theorem outputShort_releases (up : s.phase ≠ 0) (driven : s.shorts.contains p = false) :
    outputShort p s = occur 0x028 {} { s with shorts := p :: s.shorts } := if_neg (not_or_intro up (ne_true_of_eq_false driven))

end

/-- With no injection due, an occurrence ends where the collector leaves the device. -/
theorem exec_faultOccurrence {n : Fin 1024} {o : OccData} {s : State} {d : Dev} (h : faultOccur n.val o s.dev = d) :
    exec (.faultOccurrence n o) s = .next (ended s d) := congrArg (fun d => Host.Outcome.next (ended s d)) h

/-- With no injection due, a write of CLEAR ends with what it clears. -/
theorem exec_clear {by_ : Requester} {n : Fin 1024} {s : State} (hn : noInjection s) (hg : accepts by_ (Reg.srcStatus n.val) s) :
    exec (.clear by_ n) s = .next (ended s (clearSource n.val s.dev)) := by
  have clears : takeInjections (gated by_ (Reg.srcStatus n.val) (clearSource n.val) s.dev) = clearSource n.val s.dev := by
    rw [gated_of_accepts by_ _ _ s hg]
    exact takeInjections_none _ hn
  exact congrArg (fun d => Host.Outcome.next (ended s d)) clears

/-- Settles O45: each clause is one command of the collector, in a state in which it acts. -/
theorem occurrencesAreCollected : Obligations.OccurrencesAreCollected := by
  unfold Obligations.OccurrencesAreCollected
  refine ⟨?records, ?present, ?ends, ?force, ?refused, ?clear, ?lock, ?trap, ?watchdog, ?sram⟩
  case records =>
    intro n o s hn sensed rises d u
    exact exec_faultOccurrence (faultOccur_records hn sensed rises rfl)
  case present =>
    intro n o s hn live present
    exact exec_faultOccurrence (faultOccur_present hn live present)
  case ends =>
    intro n s hn sensed
    exact run_ends hn (faultClear_ends sensed)
  case force =>
    intro by_ n s hn hg produced en
    exact run_gated_ends hn hg (forceSource_injects hn produced en)
  case refused =>
    intro by_ n s hn hg produced off
    exact run_gated_ends hn hg (forceSource_refused produced off)
  case clear =>
    intro by_ n s hn hg
    exact exec_clear hn hg
  case lock =>
    intro by_ s hn hg
    exact run_gated_ends hn hg rfl
  case trap =>
    intro n t s hn since other on d
    exact run_ends hn (trapLate_occurs since other on rfl)
  case watchdog =>
    intro s hn on armed
    exact run_ends hn (firmwareWatchdog_occurs on armed)
  case sram =>
    intro s hn on dual
    exact ⟨run_ends hn (controlParity_repaired on dual), run_ends hn (controlParity_lost on dual)⟩

/-- Settles O46: each clause is one command of the pair or of an output, in a state in which it acts. -/
theorem outputsShowAndRelease : Obligations.OutputsShowAndRelease := by
  unfold Obligations.OutputsShowAndRelease
  refine ⟨?clears, ?keeps, ?kick, ?half, ?mismatch, ?short⟩
  case clears =>
    intro by_ s hn hg free d
    exact run_gated_ends hn hg (pairClear_clears free)
  case keeps =>
    intro by_ n s hn hg inside live holds
    exact run_gated_ends hn hg (pairClear_keeps inside live holds)
  case kick =>
    intro by_ s hn hg
    exact run_gated_ends hn hg rfl
  case half =>
    intro s hn up mode clear
    exact run_ends hn (pairHalf_flips up mode clear)
  case mismatch =>
    intro s hn up driven
    exact run_ends hn (pairMismatch_releases up driven)
  case short =>
    intro p s hn up driven
    exact run_ends hn (outputShort_releases up driven)

end Sys2Proof.Proofs
end

section
/-! PROOFS. Domains and clocks (R511, R515 to R518, R521). -/

namespace Sys2Proof.Proofs

set_option Elab.async false

open Sys2Proof.Machine Sys2Proof.Laws

section
variable {s d : Dev} {n t : Nat} {v : Word} {a b : Bool}

/-! ### Domains (R511, R515) -/

/-- The fold over the bits of a write, with what was refused and the device apart. -/
theorem domainEnWrite_bits (by_ : Option Requester) (v : Word) (s : Dev) :
    let r := (upTo 30).foldl (fun (p : Bool × Dev) d => (p.1 || (domainBit by_ d (bit v d) p.2).1, (domainBit by_ d (bit v d) p.2).2)) (false, s)
    domainEnWrite by_ v s = fastOscRun (r.2.setBit Reg.pwrDomainEn 30 r.1) := by
  unfold domainEnWrite
  generalize upTo 30 = bits
  rfl

theorem drainTimeout_downs (drains : kvGet s.pwr.draining n = some t) (hd : s.elapseTo (t + usCycles 1000) = d) :
    drainTimeout n s = domainDown n (if domainIdle d n then d else d.bump Reg.pwrDrainTimeout) := by
  subst hd
  simp only [drainTimeout, drains]

theorem domainWakeDone_ups (wakes : kvGet s.pwr.waking n = some t) : domainWakeDone n s = domainUp n (s.elapseTo t) := by
  simp only [domainWakeDone, wakes]

/-! ### Clocks (R516 to R518) -/

/-- The selected reference is lost in phase 9, where CLKSEL may be written. -/
def ReferenceLost (s : Dev) : Prop :=
  s.phase = 9 ∧ s.pwr.shutdown = false ∧ s.rbit (Reg.srcStatus (if s.rbit Reg.pwrClksel 0 then 0x002 else 0x001)) 0 = true

theorem clkselWrite_relocks (lost : ReferenceLost s) :
    clkselWrite v s = bootRetry (((s.setBit Reg.pwrClksel 0 (bit v 0)).setBit Reg.pwrClksel 3 true).setBit Reg.pwrClksel 5
      (!s.rbit Reg.pwrClksel (if bit v 0 then 2 else 1))) := by
  obtain ⟨phase, on, live⟩ := lost
  exact if_pos ⟨phase, ne_true_of_eq_false on, live⟩

theorem clkselWrite_refused (stands : ¬ ReferenceLost s) : clkselWrite v s = s.bump Reg.pwrOffWr :=
  if_neg (fun ⟨phase, on, live⟩ => stands ⟨phase, eq_false_of_ne_true on, live⟩)

theorem referenceCheck_follows (up : s.boot.porstLow = false) :
    referenceCheck a b s = follow 0x002 (!b) {} ((follow 0x001 (!a) {} (s.setBit Reg.pwrClksel 1 a)).setBit Reg.pwrClksel 2 b) :=
  if_neg (ne_true_of_eq_false up)

theorem pllLost_unlocks (up : s.boot.porstLow = false) (locked : s.rbit Reg.pwrClksel 3 = true) (external : s.rbit Reg.pwrClksel 5 = false) :
    pllLost s = occur 0x003 {} (s.setBit Reg.pwrClksel 3 false) := if_neg (by simp [up, locked, external])

theorem fastOscStop_stops (runs : s.pwr.fastOsc = some t) (hd : s.elapseTo (t + usCycles 1000) = d) :
    fastOscStop s = { d with pwr := { d.pwr with fastOsc := none } } := by
  subst hd
  simp only [fastOscStop, runs]

/-! ### Droop slowing (R521) -/

theorem droopFire_halves (on : s.domainOn (droopDomain n) = true)
    (hd : s.bump (if n < 64 then Reg.pwrClDroop (n / 4) else Reg.pwrDroopOther) = d) :
    droopFire n s = halvedDomain (droopDomain n) { d with pwr := { d.pwr with
      firings := kvSet d.pwr.firings (droopDomain n) ((kvGet d.pwr.firings (droopDomain n)).getD 0 + 1), droopAt := some d.cycles,
      halted := kvSet d.pwr.halted (droopDomain n) (d.cycles + 5 * profByte d 2) } } := by
  subst hd
  exact if_neg (not_not_intro on)

theorem droopEnd_returns (holds : kvGet s.pwr.halted n = some t) (hd : s.elapseTo t = d) :
    droopEnd n s = halvedDomain n { d with pwr := { d.pwr with halted := kvDel d.pwr.halted n } } := by
  subst hd
  simp only [droopEnd, holds]

end

/-- Settles O47: each clause is one command of the domains and clocks, in a state in which it acts. -/
theorem domainsAndClocksSwitch : Obligations.DomainsAndClocksSwitch := by
  unfold Obligations.DomainsAndClocksSwitch
  refine ⟨?domainEn, ?drain, ?wake, ?clksel, ?references, ?pll, ?oscillator, ?droop, ?hold⟩
  case domainEn =>
    intro by_ v s hn hg r
    exact run_gated_ends hn hg (domainEnWrite_bits (some by_) v s.dev)
  case drain =>
    intro n t s hn drains u
    exact run_ends hn (drainTimeout_downs drains rfl)
  case wake =>
    intro n t s hn wakes
    exact run_ends hn (domainWakeDone_ups wakes)
  case clksel =>
    intro by_ v s hn hg lost
    refine ⟨fun isLost => ?_, fun stands => ?_⟩
    · exact run_gated_ends hn hg (clkselWrite_relocks isLost)
    · exact run_gated_ends hn hg (clkselWrite_refused stands)
  case references =>
    intro a b s hn up
    exact run_ends hn (referenceCheck_follows up)
  case pll =>
    intro s hn up locked external
    exact run_ends hn (pllLost_unlocks up locked external)
  case oscillator =>
    intro t s hn runs d
    exact run_ends hn (fastOscStop_stops runs rfl)
  case droop =>
    intro k s hn n on d u
    exact run_ends hn (droopFire_halves on rfl)
  case hold =>
    intro n t s hn holds d u
    exact run_ends hn (droopEnd_returns holds rfl)

end Sys2Proof.Proofs
end

section
/-! PROOFS. Supply and heat (R523 to R528): the AVS loop, telemetry, the supply windows, the sensors, and the clocks of hot and cool clusters. -/

namespace Sys2Proof.Proofs

set_option Elab.async false

open Sys2Proof.Machine Sys2Proof.Laws

section
variable {s d : Dev} {n v i : Nat} {l : List Int}

/-! ### Voltage and telemetry (R523 to R525) -/

theorem avsRun_answered (up : s.boot.porstLow = false) (on : s.pwr.shutdown = false)
    (hd : slackHalving (slackVotes l s) (fastOscRun s) = d) :
    let e : Dev := { d with pwr := { d.pwr with avsMiss := 0 } }
    avsRun l true s = if e.pwr.frozen = true ∨ e.rbit Reg.pwrAvsCtrl 0 = false then e else avsMove (avsStep (slackVotes l s) e) e := by
  subst hd
  refine (if_neg (by simp [up, on])).trans ((if_neg (by simp)).trans ?_)
  exact if_congr (or_congr Iff.rfl (by rw [Bool.not_eq_true])) rfl rfl

theorem avsRun_unanswered (up : s.boot.porstLow = false) (on : s.pwr.shutdown = false)
    (hd : slackHalving (slackVotes l s) (fastOscRun s) = d) :
    let e : Dev := { d with pwr := { d.pwr with avsMiss := d.pwr.avsMiss + 1, frozen := d.pwr.frozen || decide (3 ≤ d.pwr.avsMiss + 1) } }
    avsRun l false s = if d.pwr.avsMiss + 1 = 3 then occur 0x00C {} e else e := by
  subst hd
  exact (if_neg (by simp [up, on])).trans (if_pos Bool.false_ne_true)

theorem telemetry_answered (up : s.boot.porstLow = false) :
    let d : Dev := { s with pwr := { s.pwr with pmbMiss := 0 } }
    telemetry (some (v, i)) s = (d.setFld Reg.pwrVcoreMeas 0 16 (sat 16 v)).setFld Reg.pwrIcoreMeas 0 16 (sat 16 i) :=
  if_neg (ne_true_of_eq_false up)

theorem telemetry_missed (up : s.boot.porstLow = false) :
    let d : Dev := { s with pwr := { s.pwr with pmbMiss := s.pwr.pmbMiss + 1 } }
    let u := (d.setFld Reg.pwrVcoreMeas 0 16 0xFFFF).setFld Reg.pwrIcoreMeas 0 16 0xFFFF
    telemetry none s = if s.pwr.pmbMiss + 1 < 3 then d else if s.pwr.pmbMiss + 1 = 3 then occur 0x00D {} u else u :=
  if_neg (ne_true_of_eq_false up)

theorem windowExit_records (up : s.boot.porstLow = false) : windowExit n s = occur (0x008 + n) {} s := if_neg (ne_true_of_eq_false up)

/-! ### The sensors (R526, R528) -/

/-- The sensors' registers take what is read; a sensor without power shows its least value. -/
def sensorsShown (l : List Int) (s : Dev) : Dev :=
  (upTo 20).foldl (fun d i => d.setFld (Reg.pwrTemp i) 0 16 (if d.domainOn (tempDomain i) then satInt 16 (l.getD i 0) else 0x8000)) s

/-- The powered sensors are judged, those without power being strange no longer. -/
def sensorsJudged (s : Dev) : Dev :=
  let e : Dev := { s with pwr := { s.pwr with strange := s.pwr.strange.filter (fun p => (powered s).contains p.1) } }
  (powered e).foldl (fun d i => tempJudge i d) e

/-- THERM_MAX shows the greatest reading that counts, and a throttled cluster counts its millisecond. -/
def heatShown (s : Dev) : Dev :=
  let u := s.setFld Reg.pwrThermMax 0 16 (match tempCounts s with | [] => 0x8000 | a :: r => satInt 16 (r.foldl max a))
  if (upTo 16).any (fun n => u.rbit (Reg.pwrClClk n) 9) then u.bump Reg.pwrThrottleMs else u

theorem temperatureRead_reads (up : s.boot.porstLow = false) (hd : sensorsJudged (sensorsShown l s) = d) :
    temperatureRead l s = if (tempCounts d).any (fun v => decide (1150 ≤ v)) = true ∧ (heatShown d).pwr.shutdown = false
      then shutdown (heatShown d) else heatShown d := by
  subst hd
  refine (if_neg (ne_true_of_eq_false up)).trans ?_
  exact if_congr (and_congr Iff.rfl (by rw [Bool.not_eq_true]; rfl)) rfl rfl

/-! ### The clusters' clocks (R527) -/

/-- Registers other than the clocks of the clusters below `n` are as on `s`. -/
def ClocksLeft (n : Nat) (s x : Dev) : Prop := ∀ b, (∀ j < n, b ≠ Reg.pwrClClk j) → x.reg b = s.reg b

/-- A pass over the clusters in which each settles its own clock, from what the clusters before it leave as it was, settles every clock. -/
theorem foldl_clocks {g : Dev → Nat → Dev} {f : Nat → Nat} {k : Nat}
    (own : ∀ j < k, ∀ x : Dev, ClocksLeft j s x → (g x j).rfld (Reg.pwrClClk j) 0 6 = f j ∧ ∀ b ≠ Reg.pwrClClk j, (g x j).reg b = x.reg b) :
    ClocksLeft k s ((upTo k).foldl g s) ∧ ∀ j < k, ((upTo k).foldl g s).rfld (Reg.pwrClClk j) 0 6 = f j := by
  induction k with
  | zero => exact ⟨fun _ _ => rfl, fun j hj => absurd hj (Nat.not_lt_zero j)⟩
  | succ k ih =>
    obtain ⟨left, done⟩ := ih (fun j hj => own j (Nat.lt_succ_of_lt hj))
    obtain ⟨last, others⟩ := own k (Nat.lt_succ_self k) _ left
    have split : (upTo (k + 1)).foldl g s = g ((upTo k).foldl g s) k := by
      simp only [upTo, List.range_succ, List.foldl_append, List.foldl_cons, List.foldl_nil]
    rw [split]
    refine ⟨fun b hb => ?_, fun j hj => ?_⟩
    · exact (others b (hb k (Nat.lt_succ_self k))).trans (left b (fun j hj => hb j (Nat.lt_succ_of_lt hj)))
    · rcases Nat.lt_succ_iff_lt_or_eq.mp hj with before | rfl
      · have apart : Reg.pwrClClk j ≠ Reg.pwrClClk k := by
          simp only [Reg.pwrClClk]
          omega
        rw [Dev.rfld, others _ apart]
        exact done j before
      · exact last

theorem ClocksLeft.own {x : Dev} (h : ClocksLeft n s x) : x.rfld (Reg.pwrClClk n) 0 6 = s.rfld (Reg.pwrClClk n) 0 6 := by
  have same : x.reg (Reg.pwrClClk n) = s.reg (Reg.pwrClClk n) := h _ (fun j hj => by
    simp only [Reg.pwrClClk]
    omega)
  rw [Dev.rfld, same, Dev.rfld]

/-- A register outside the clusters' clocks. -/
theorem ClocksLeft.reg {x : Dev} {b : Nat} (h : ClocksLeft n s x) (hn : n ≤ 16) (outside : b < 0x10100 ∨ 0x10140 ≤ b) : x.reg b = s.reg b :=
  h b (fun j hj => by
    simp only [Reg.pwrClClk]
    omega)

theorem ClocksLeft.profByte {x : Dev} (h : ClocksLeft n s x) (hn : n ≤ 16) (off : Nat) : profByte x off = profByte s off := by
  simp only [Machine.profByte, Dev.rfld, h.reg hn (b := Reg.pwrProfile (off / 4)) (.inr (by simp only [Reg.pwrProfile]; omega))]

theorem ClocksLeft.profWord {x : Dev} (h : ClocksLeft n s x) (hn : n ≤ 16) (off : Nat) : profWord x off = profWord s off := by
  simp only [Machine.profWord, Dev.rfld, h.reg hn (b := Reg.pwrProfile (off / 4)) (.inr (by simp only [Reg.pwrProfile]; omega))]

theorem ClocksLeft.clusterTemp {x : Dev} (h : ClocksLeft n s x) (hn : n < 16) : clusterTemp x n = clusterTemp s n := by
  have temp : x.reg (Reg.pwrTemp n) = s.reg (Reg.pwrTemp n) := h.reg (Nat.le_of_lt hn) (.inl (by simp only [Reg.pwrTemp]; omega))
  have most : x.reg Reg.pwrThermMax = s.reg Reg.pwrThermMax := h.reg (Nat.le_of_lt hn) (.inl (by decide))
  have out : tempOut x n = tempOut s n := by rw [tempOut, Dev.rbit, temp]; rfl
  rw [Machine.clusterTemp, tempOf, Dev.rfld, Dev.rfld, temp, most, out]
  rfl

theorem setClFreq_rfld {f : Nat} (hf : f < 64) : (setClFreq n f s).rfld (Reg.pwrClClk n) 0 6 = f := by
  simp only [setClFreq, Dev.rfld, Dev.setBit, reg_setReg_same]
  rw [fld_putBit_other _ _ (by decide) (by decide)]
  exact (rfld_setFld_same s _ 0 6 f (by decide)).trans (Nat.mod_eq_of_lt hf)

theorem setClFreq_reg_other {f b : Nat} (hb : b ≠ Reg.pwrClClk n) : (setClFreq n f s).reg b = s.reg b := by
  simp only [setClFreq, reg_setBit_other _ _ _ _ _ hb, reg_setFld_other _ _ _ _ _ _ hb]

/-- A cluster settles its clock: it takes `f` where `c` holds, and keeps its own elsewhere. -/
theorem ClocksLeft.settle {x : Dev} {f : Nat} {c : Prop} [Decidable c] (h : ClocksLeft n s x) (hf : c → f < 64) :
    (if c then setClFreq n f x else x).rfld (Reg.pwrClClk n) 0 6 = (if c then f else s.rfld (Reg.pwrClClk n) 0 6) ∧
      ∀ b ≠ Reg.pwrClClk n, (if c then setClFreq n f x else x).reg b = x.reg b := by
  by_cases hc : c
  · rw [if_pos hc, if_pos hc]
    exact ⟨setClFreq_rfld (hf hc), fun b hb => setClFreq_reg_other hb⟩
  · rw [if_neg hc, if_neg hc]
    exact ⟨h.own, fun _ _ => rfl⟩

/-- Cluster `n` is to lower its clock; `hot` is whether every one is. -/
abbrev Lowers (hot : Bool) (s : Dev) (n : Nat) : Prop :=
  s.rfld (Reg.pwrClClk n) 0 6 ≠ 0 ∧ profByte s 12 < s.rfld (Reg.pwrClClk n) 0 6 ∧ (hot = true ∨ (profWord s 10 : Int) ≤ clusterTemp s n)

/-- Cluster `n` may raise its clock; `hot` is whether none may. -/
abbrev Raises (hot : Bool) (s : Dev) (n : Nat) : Prop :=
  s.rfld (Reg.pwrClClk n) 0 6 ≠ 0 ∧ s.rfld (Reg.pwrClClk n) 0 6 < profClFreq s ∧ hot = false ∧ clusterTemp s n < (profWord s 10 : Int) - 30

/-- One cluster of a pass that lowers clocks. -/
def lowered (hot : Bool) (s : Dev) (n : Nat) : Dev := if Lowers hot s n then setClFreq n (s.rfld (Reg.pwrClClk n) 0 6 - 1) s else s

/-- One cluster of a pass that raises clocks. -/
def raised (hot : Bool) (s : Dev) (n : Nat) : Dev := if Raises hot s n then setClFreq n (s.rfld (Reg.pwrClClk n) 0 6 + 1) s else s

/-- Two tests in a row, of which the first ends with `y`, as one. -/
theorem ite_ite_left {p q : Prop} [Decidable p] [Decidable q] {x y : Dev} : (if p then y else if q then x else y) = if ¬ p ∧ q then x else y := by
  by_cases hp : p
  · rw [if_pos hp, if_neg (fun h => h.1 hp)]
  · by_cases hq : q
    · rw [if_neg hp, if_pos hq, if_pos ⟨hp, hq⟩]
    · rw [if_neg hp, if_neg hq, if_neg (fun h => hq h.2)]

theorem throttleDown_pass : throttleDown s = throttleLive ((upTo 16).foldl (lowered (chipHot s)) s) := by
  refine congrArg (fun g => throttleLive ((upTo 16).foldl g s)) (funext fun x => funext fun n => ?_)
  refine ite_ite_left.trans (if_congr ?_ rfl rfl)
  rw [not_or, Nat.not_le, and_assoc]

theorem throttleUp_pass : throttleUp s = throttleLive ((upTo 16).foldl (raised (chipHot s)) s) := by
  refine congrArg (fun g => throttleLive ((upTo 16).foldl g s)) (funext fun x => funext fun n => ?_)
  refine ite_ite_left.trans (if_congr ?_ rfl rfl)
  rw [not_or, Nat.not_le, and_assoc, Bool.not_eq_true]

theorem lowered_settles {hot : Bool} {x : Dev} (hn : n < 16) (h : ClocksLeft n s x) :
    (lowered hot x n).rfld (Reg.pwrClClk n) 0 6 =
        (if Lowers hot s n then s.rfld (Reg.pwrClClk n) 0 6 - 1 else s.rfld (Reg.pwrClClk n) 0 6) ∧
      ∀ b ≠ Reg.pwrClClk n, (lowered hot x n).reg b = x.reg b := by
  have test : Lowers hot x n ↔ Lowers hot s n := by
    simp only [Lowers, h.own, h.profByte (Nat.le_of_lt hn), h.profWord (Nat.le_of_lt hn), h.clusterTemp hn]
  have step : lowered hot x n = if Lowers hot s n then setClFreq n (s.rfld (Reg.pwrClClk n) 0 6 - 1) x else x := if_congr test (by rw [h.own]) rfl
  rw [step]
  exact h.settle (fun _ => lt_of_le_of_lt (Nat.sub_le _ _) (fld_lt _ _ _))

theorem raised_settles {hot : Bool} {x : Dev} (hn : n < 16) (bound : profClFreq s < 64) (h : ClocksLeft n s x) :
    (raised hot x n).rfld (Reg.pwrClClk n) 0 6 =
        (if Raises hot s n then s.rfld (Reg.pwrClClk n) 0 6 + 1 else s.rfld (Reg.pwrClClk n) 0 6) ∧
      ∀ b ≠ Reg.pwrClClk n, (raised hot x n).reg b = x.reg b := by
  have test : Raises hot x n ↔ Raises hot s n := by
    simp only [Raises, profClFreq, h.own, h.profByte (Nat.le_of_lt hn), h.profWord (Nat.le_of_lt hn), h.clusterTemp hn]
  have step : raised hot x n = if Raises hot s n then setClFreq n (s.rfld (Reg.pwrClClk n) 0 6 + 1) x else x := if_congr test (by rw [h.own]) rfl
  rw [step]
  exact h.settle (fun ⟨_, below, _⟩ => lt_of_le_of_lt below bound)

end

/-- Settles O48: each clause is one command of the power manager, and the clusters of a throttling pass settle their clocks one by one. -/
theorem supplyAndHeatAreManaged : Obligations.SupplyAndHeatAreManaged := by
  unfold Obligations.SupplyAndHeatAreManaged
  refine ⟨?answered, ?unanswered, ?telemetry, ?missed, ?window, ?sensors, ?down, ?up⟩
  case answered =>
    intro l s hn up on v d e
    exact run_ends hn (avsRun_answered up on rfl)
  case unanswered =>
    intro l s hn up on d n e
    exact run_ends hn (avsRun_unanswered up on rfl)
  case telemetry =>
    intro v i s hn up d
    exact run_ends hn (telemetry_answered up)
  case missed =>
    intro s hn up n d u
    exact run_ends hn (telemetry_missed up)
  case window =>
    intro r s hn up
    exact run_ends hn (windowExit_records up)
  case sensors =>
    intro l s hn up d e j u w
    exact run_ends hn (temperatureRead_reads up rfl)
  case down =>
    intro s hn
    refine ⟨(upTo 16).foldl (lowered (chipHot s.dev)) s.dev, run_ends hn throttleDown_pass, fun n => ?_⟩
    exact (foldl_clocks (k := 16) (fun _ hj _ left => lowered_settles hj left)).2 n.val n.isLt
  case up =>
    intro s hn bound
    refine ⟨(upTo 16).foldl (raised (chipHot s.dev)) s.dev, run_ends hn throttleUp_pass, fun n => ?_⟩
    exact (foldl_clocks (k := 16) (fun _ hj _ left => raised_settles hj bound left)).2 n.val n.isLt

end Sys2Proof.Proofs
end

section
/-! PROOFS. Ledger entries (R10, R88, R95): where the octets of a string's parts stand, the fields of an entry, and what a manager reads back. -/

namespace Sys2Proof.Proofs

set_option Elab.async false

open Sys2Proof.Machine Sys2Proof.Laws

/-! ### Octet strings (R10) -/

section
variable {a b : Octets} {off n v : Nat}

@[simp] theorem length_toLe (n v : Nat) : (toLe n v).length = n := by
  induction n generalizing v with
  | zero => rfl
  | succ n ih => simp [toLe, ih]

/-- The number that `n` octets spell is the number laid out in them, as far as they reach. -/
theorem leNat_toLe (n v : Nat) : leNat (toLe n v) = v % 256 ^ n := by
  induction n generalizing v with
  | zero => simp [toLe, leNat, Nat.mod_one]
  | succ n ih =>
    rw [toLe, leNat, ih, BitVec.toNat_ofNat]
    exact Nat.mod_mul.symm.trans (congrArg (v % ·) (pow_succ' 256 n).symm)

theorem octs_whole (h : a.length = n) : octs a 0 n = a := by simp [octs, ← h]

/-- Octets within the first part of a string. -/
theorem octs_append_left (h : off + n ≤ a.length) : octs (a ++ b) off n = octs a off n := by
  have inside : off ≤ a.length := by omega
  rw [octs, List.drop_append_of_le_length inside, List.take_append_of_le_length (by rw [List.length_drop]; omega), octs]

/-- Octets beyond the first part of a string. -/
theorem octs_append_right (h : a.length ≤ off) : octs (a ++ b) off n = octs b (off - a.length) n := by
  simp [octs, List.drop_append, List.drop_eq_nil_of_le h]

theorem oct_append_right (h : a.length ≤ off) : oct (a ++ b) off = oct b (off - a.length) := by
  simp [oct, List.getElem?_append_right h]

theorem oct_append_left (h : off < a.length) : oct (a ++ b) off = oct a off := by
  simp [oct, List.getElem?_append_left h]

end

/-! ### The entry (R88) -/

section
variable {e : LedgerEvent} {flags : Nat}

/-- The flags of an entry, with its time epoch in the low octet. -/
def flagWord (e : LedgerEvent) (flags : Nat) : Nat := ((e.flags ||| flags) &&& 0xFF00) + e.stamp.tepoch % 256

theorem and_high_mod (x : Nat) : (x &&& 0xFF00) % 256 = 0 := by
  rw [show (256 : Nat) = 2 ^ 8 from rfl, Nat.and_mod_two_pow]
  simp

theorem flagWord_mod (e : LedgerEvent) (flags : Nat) : flagWord e flags % 256 = e.stamp.tepoch % 256 := by
  have := and_high_mod (e.flags ||| flags)
  unfold flagWord
  omega

theorem flagWord_div (e : LedgerEvent) (flags : Nat) : flagWord e flags / 256 = (e.flags ||| flags) / 256 &&& 0xFF := by
  have low := and_high_mod (e.flags ||| flags)
  have high : ((e.flags ||| flags) &&& 0xFF00) / 256 = (e.flags ||| flags) / 256 &&& 0xFF := Nat.and_div_two_pow (n := 8)
  unfold flagWord
  omega

theorem flagWord_lt (e : LedgerEvent) (flags : Nat) : flagWord e flags < 2 ^ 16 := by
  have : (e.flags ||| flags) / 256 &&& 0xFF ≤ 0xFF := Nat.and_le_right
  have := flagWord_div e flags
  omega

/-- An entry is its fields in the order of R88. -/
theorem entryOctets_eq (e : LedgerEvent) (flags : Nat) : entryOctets e flags =
    toLe 4 e.stamp.ns ++ (toLe 6 e.stamp.sec ++ (toLe 2 e.src ++ (toLe 2 e.code ++ (toLe 2 (flagWord e flags) ++
      (toLe 4 (chanField e.chan) ++ padTo 12 e.data))))) := by
  simp only [entryOctets, flagWord, List.append_assoc]

theorem length_entryOctets (e : LedgerEvent) (flags : Nat) : (entryOctets e flags).length = 32 := by
  simp [entryOctets_eq, length_padTo]

/-- The octets of each field. -/
theorem octs_entryOctets (e : LedgerEvent) (flags : Nat) :
    octs (entryOctets e flags) 0 4 = toLe 4 e.stamp.ns ∧ octs (entryOctets e flags) 4 6 = toLe 6 e.stamp.sec ∧
    octs (entryOctets e flags) 10 2 = toLe 2 e.src ∧ octs (entryOctets e flags) 12 2 = toLe 2 e.code ∧
    octs (entryOctets e flags) 14 2 = toLe 2 (flagWord e flags) ∧ octs (entryOctets e flags) 16 4 = toLe 4 (chanField e.chan) ∧
    octs (entryOctets e flags) 20 12 = padTo 12 e.data := by
  rw [entryOctets_eq]
  refine ⟨?_, ?_, ?_, ?_, ?_, ?_, ?_⟩ <;>
    simp [octs_append_right, octs_append_left, octs_whole, length_padTo]

theorem tepoch_lt (he : e.wf = true) : e.stamp.tepoch < 256 := by
  simp only [LedgerEvent.wf, Stamp.wf, Bool.and_eq_true, decide_eq_true_eq] at he
  omega

/-- The number in each field; stamp, source and code fit their fields in an event that is well formed. -/
theorem le_entryOctets (he : e.wf = true) :
    le (entryOctets e flags) 0 4 = e.stamp.ns ∧ le (entryOctets e flags) 4 6 = e.stamp.sec ∧
    le (entryOctets e flags) 10 2 = e.src ∧ le (entryOctets e flags) 12 2 = e.code ∧
    le (entryOctets e flags) 14 2 = flagWord e flags := by
  obtain ⟨ns, sec, src, code, flag, -, -⟩ := octs_entryOctets e flags
  have := flagWord_lt e flags
  simp only [LedgerEvent.wf, Stamp.wf, Bool.and_eq_true, decide_eq_true_eq] at he
  obtain ⟨⟨⟨⟨⟨⟨hsec, hns⟩, -⟩, hsrc⟩, hcode⟩, -⟩, -⟩ := he
  simp only [le, ns, sec, src, code, flag, leNat_toLe]
  refine ⟨?_, ?_, ?_, ?_, ?_⟩ <;> exact Nat.mod_eq_of_lt (by omega)

theorem le_entryOctets_chan (hc : ∀ g, e.chan = some g → g < 2 ^ 20) :
    le (entryOctets e flags) 16 4 = (match e.chan with | some g => 2 ^ 31 + g | none => 0) := by
  obtain ⟨-, -, -, -, -, chan, -⟩ := octs_entryOctets e flags
  rw [le, chan, leNat_toLe]
  cases h : e.chan with
  | none => rfl
  | some g =>
    have := hc g h
    simp only [chanField]
    omega

/-- The octets of the flags: the time epoch, and the flags above it. -/
theorem oct_entryOctets (e : LedgerEvent) (flags : Nat) :
    oct (entryOctets e flags) 14 = e.stamp.tepoch % 256 ∧ oct (entryOctets e flags) 15 = (e.flags ||| flags) / 256 &&& 0xFF := by
  have := flagWord_lt e flags
  have octets : oct (entryOctets e flags) 14 = flagWord e flags % 256 ∧ oct (entryOctets e flags) 15 = flagWord e flags / 256 % 256 := by
    rw [entryOctets_eq]
    constructor <;> simp [oct_append_right, oct_append_left] <;> rfl
  rw [octets.1, octets.2, flagWord_mod, flagWord_div]
  refine ⟨rfl, Nat.mod_eq_of_lt (Nat.lt_of_le_of_lt Nat.and_le_right (by decide))⟩

/-- The flags that an entry shows are the event's and the writer's. -/
theorem testBit_flags {i : Nat} (hi : i < 8) : (oct (entryOctets e flags) 15).testBit i = (e.flags ||| flags).testBit (8 + i) := by
  have mask : Nat.testBit 0xFF i = true := by
    rw [show (0xFF : Nat) = 2 ^ 8 - 1 from rfl, Nat.testBit_two_pow_sub_one]
    exact decide_eq_true hi
  rw [(oct_entryOctets e flags).2, Nat.testBit_and, mask, Bool.and_true, show (256 : Nat) = 2 ^ 8 from rfl, Nat.testBit_div_two_pow, Nat.add_comm]

/-- A manager reads an entry's fields back (R95), with REMOTE set. -/
theorem entryEvent_entryOctets (he : e.wf = true) (hc : ∀ g, e.chan = some g → g < 2 ^ 20) :
    let x := entryEvent (entryOctets e flags)
    x.stamp = e.stamp ∧ x.src = e.src ∧ x.code = e.code ∧ x.chan = e.chan ∧ x.data = padTo 12 e.data ∧ x.flags.testBit 12 = true := by
  obtain ⟨ns, sec, src, code, flag⟩ := le_entryOctets (flags := flags) he
  obtain ⟨-, -, -, -, -, -, data⟩ := octs_entryOctets e flags
  refine ⟨?_, src, code, ?_, data, ?_⟩
  · simp only [entryEvent, ns, sec, flag, flagWord_mod, Nat.mod_eq_of_lt (tepoch_lt he)]
  · simp only [entryEvent, le_entryOctets_chan hc]
    cases h : e.chan with
    | none => rfl
    | some g =>
      have small := hc g h
      have mark : (2 ^ 31 + g).testBit 31 = true := by
        rw [Nat.testBit_two_pow_add_eq, Nat.testBit_lt_two_pow (by omega)]
        rfl
      have low : (2 ^ 31 + g) % 2 ^ 20 = g := by omega
      exact (if_pos mark).trans (congrArg some low)
  · rw [entryEvent, Nat.testBit_or]
    exact Bool.or_eq_true_iff.mpr (.inr (by decide))

end

/-- Settles O59: each field is found at its offset, and is read back from there. -/
theorem ledgerEntriesAreLaidOut : Obligations.LedgerEntriesAreLaidOut := by
  unfold Obligations.LedgerEntriesAreLaidOut
  intro e flags he hc _ o
  obtain ⟨ns, sec, src, code, -⟩ := le_entryOctets (flags := flags) he
  obtain ⟨-, -, -, -, -, -, data⟩ := octs_entryOctets e flags
  exact ⟨length_entryOctets e flags, ns, sec, src, code, fun i hi => testBit_flags hi,
    (oct_entryOctets e flags).1.trans (Nat.mod_eq_of_lt (tepoch_lt he)), le_entryOctets_chan hc, data, entryEvent_entryOctets he hc⟩

end Sys2Proof.Proofs
end

section
/-! PROOFS. The epochs' numbers (R75), the reads of the time base that latch (R69, R401, R406, R418), and the steps of the time (R93, R411). -/

namespace Sys2Proof.Proofs

set_option Elab.async false

open Sys2Proof.Machine Sys2Proof.Laws

/-! ### Distances of epoch numbers (R75) -/

/-- A number is older where its distance, modulo 256, is 128 or more. -/
theorem tepochOlder_iff {a b : Nat} (ha : a < 256) (hb : b < 256) : tepochOlder a b = true ↔ 128 ≤ (a + 256 - b) % 256 := by
  simp only [tepochOlder, Bool.and_eq_true, decide_eq_true_eq]
  omega

theorem tepochNewer_iff {a b : Nat} (ha : a < 256) (hb : b < 256) :
    a ≠ b ∧ tepochOlder a b = false ↔ 1 ≤ (a + 256 - b) % 256 ∧ (a + 256 - b) % 256 ≤ 127 := by
  rw [← Bool.not_eq_true, tepochOlder_iff ha hb]
  omega

/-- Settles O11: a distance and its reverse add up to 256, so that just one of them lies below 128. -/
theorem epochNumbersCompareModulo256 : Obligations.EpochNumbersCompareModulo256 := by
  unfold Obligations.EpochNumbersCompareModulo256
  exact ⟨fun a b ha hb => ⟨tepochNewer_iff ha hb, tepochOlder_iff ha hb⟩, rfl⟩

/-! ### Reads that latch (R69, R401, R406, R418) -/

/-- A read that its requester and the time base's domain serve returns its value after its effect. -/
theorem readWith_served {by_ : Requester} {a v : Nat} {f : Dev → Nat × Dev} {s d : Dev} (hr : reaches by_ s = true) (on : s.domainOn 26 = true)
    (hf : f s = (v, d)) : readWith by_ a f s = readAs by_ a v d := by
  rw [readWith, if_neg (not_not_intro hr), if_pos on, hf]

/-- Settles O33: each read is served, and latches what its block gives. -/
theorem timeReadsLatch : Obligations.TimeReadsLatch := by
  unfold Obligations.TimeReadsLatch
  refine ⟨?timeNs, ?tickLo, ?tsq, ?pps⟩
  case timeNs =>
    intro by_ s hn hr on ns d
    exact run_ends hn (readWith_served hr on rfl)
  case tickLo =>
    intro by_ s hn hr on n
    exact run_ends hn (readWith_served hr on rfl)
  case tsq =>
    intro by_ e s hn hr on
    exact run_ends hn (readWith_served hr on rfl)
  case pps =>
    intro by_ s hn hr on
    exact run_ends hn (readWith_served hr on rfl)

/-! ### Steps of the time (R93, R411) -/

/-- The time after a step: its offset is added, the slew discarded and its time epoch taken; `g` is what the grid has left to slew. -/
def stepMoved (c : Correction) (g : Int) (s : Dev) : Dev :=
  let at_ := ((s.time.t : Int) + unitsOf c.delta).toNat
  { s with time := { s.time with t := at_, slewLeft := 0, tepoch := c.tepoch, gridRes := g, gridFrom := at_
                                 nextTickAt := ((s.time.nextTickAt : Int) + unitsOf c.delta).toNat } }

/-- The status after a step. -/
def stepShown (g : Int) (s : Dev) : Dev :=
  let s := (s.setBit Reg.tbStatus 0 true).setBit Reg.tbStatus 4 (g != 0)
  let s := s.setFld Reg.tbTickStatus 24 8 s.time.tepoch
  if s.rbit Reg.tbTickCtrl 0 then s.setBit Reg.tbTickStatus 16 true else s

/-- What the work says of the clock and the time base. -/
theorem sameWork_time {a b : Dev} (h : SameWork a b) : a.time = b.time ∧ a.cycles = b.cycles := by
  have work := h.1
  simp only [Prod.mk.injEq] at work
  obtain ⟨cycles, -, -, time, -⟩ := work
  exact ⟨time, cycles⟩

theorem stepShown_same (g : Int) (s : Dev) : SameWork (stepShown g s) s := by
  have shown : SameWork (((s.setBit Reg.tbStatus 0 true).setBit Reg.tbStatus 4 (g != 0)).setFld Reg.tbTickStatus 24 8 s.time.tepoch) s :=
    (setFld_same ..).trans ((setBit_same ..).trans (setBit_same ..))
  exact .ite ((setBit_same ..).trans shown) shown

/-- A step moves the time, shows, and is recorded. -/
theorem stepApply_eq (c : Correction) (s : Dev) :
    ∃ (g : Int) (data : Octets), stepApply c s = occurCode 0x042 0x0800 none data (stepShown g (stepMoved c g s)) := ⟨_, _, rfl⟩

/-- The pace of the time does not depend on a bit of TB.STATUS. -/
theorem elapse_setBit_time (i n : Nat) (b : Bool) (s : Dev) : ((s.setBit Reg.tbStatus i b).elapse n).time = (s.elapse n).time := by
  have share : (s.setBit Reg.tbStatus i b).slewShare = s.slewShare := by
    have : Reg.tbSlewMax ≠ Reg.tbStatus := by decide
    simp only [Dev.slewShare, Dev.rfld, reg_setBit_other _ _ _ _ _ this]
  simp only [Dev.elapse, Dev.timeAfter, Dev.slewTaken, share, setBit_time]

theorem elapse_cycles (n : Nat) (s : Dev) : (s.elapse n).cycles = s.cycles + n := rfl

/-- The time epoch of a step: one up where a time already set moves back. -/
theorem backEpoch_eq (first : Bool) (delta : Int) (t : Nat) :
    (if (true && !!first && decide (delta < 0)) = true then (t + 1) % 256 else t) = if first = true ∧ delta < 0 then (t + 1) % 256 else t := by
  simp

/-- A standalone device applies a step that it accepts in the next cycle. -/
theorem corrAccept_alone {delta : Int} {s : Dev} (alone : s.standalone = true) : ∃ c : Correction, c.step = true ∧ c.delta = delta ∧
    (c.tepoch = if s.rbit Reg.tbStatus 0 = true ∧ delta < 0 then (s.time.tepoch + 1) % 256 else s.time.tepoch) ∧
    corrAccept delta true s = corrApply c ((s.setBit Reg.tbStatus 2 false).elapse 1) :=
  ⟨_, rfl, rfl, backEpoch_eq _ _ _, if_pos alone⟩

theorem corrApply_step {c : Correction} {s : Dev} (step : c.step = true) :
    corrApply c s = timeShow (stepApply c (s.modTime (fun t => { t with corr := none }))) :=
  congrArg timeShow (if_pos step)

/-- Settles O35: a step that a standalone device accepts applies in the next cycle. -/
theorem stepMovesTimeAndTimeEpoch : Obligations.StepMovesTimeAndTimeEpoch := by
  unfold Obligations.StepMovesTimeAndTimeEpoch
  intro delta s alone
  obtain ⟨c, step, hdelta, htepoch, accepts⟩ := corrAccept_alone (delta := delta) alone
  obtain ⟨g, data, recorded⟩ := stepApply_eq c (((s.setBit Reg.tbStatus 2 false).elapse 1).modTime (fun t => { t with corr := none }))
  refine ⟨_, data, (accepts.trans (corrApply_step step)).trans (congrArg timeShow recorded), ?_⟩
  have units : unitsOf delta = delta * 2 ^ 32 := by simp [unitsOf, nsUnit]
  rw [(sameWork_time (stepShown_same g _)).1, (sameWork_time (stepShown_same g _)).2]
  simp only [stepMoved, Dev.modTime, hdelta, htepoch, units, elapse_setBit_time, elapse_cycles, setBit_cycles, and_self]

end Sys2Proof.Proofs
end

section
/-! PROOFS. Epochs (R77, R78, R84, R85, R99): the schedule, the steps of staging on a standalone device, and the end of a switch. -/

namespace Sys2Proof.Proofs

set_option Elab.async false

open Sys2Proof.Machine Sys2Proof.Laws

/-! ### What taking a command keeps -/

section
variable {r : Fin 4} {op : Nat} {d : Desc} {s : Dev}

/-- Taking a command leaves the epochs, the time and the boot unit alone. -/
theorem taken_keeps : (taken r op d s).epochs = s.epochs ∧ (taken r op d s).time = s.time ∧ (taken r op d s).boot = s.boot := by
  obtain ⟨l, p, h⟩ := taken_eq r op d s
  rw [h]
  exact ⟨rfl, rfl, rfl⟩

theorem taken_epochState : epochState (taken r op d s) = epochState s := by
  have apart : ∀ r : Fin 4, Reg.gduEpochState ≠ Reg.pciCrHead r ∧ Reg.gduEpochState ≠ Reg.pciCrStatus r := by decide
  simp only [epochState, Dev.rfld, taken_reg r op _ d s (apart r).1 (apart r).2]

theorem taken_role : (taken r op d s).role = s.role := by rw [Dev.role, Dev.role, taken_keeps.2.2]

theorem taken_tickNow : (taken r op d s).tickNow = s.tickNow := by simp only [Dev.tickNow, Dev.nowNs, taken_keeps]

end

/-! ### The schedule (R77) -/

section
variable {s u : Dev} {e : Epochs} {b : Bank} {d : Desc} {epoch tick tepoch id : Nat}

theorem leads_of_alone (alone : s.role = 0) : s.leads = true ∧ s.activeManager = false := by
  simp [Dev.leads, Dev.standalone, Dev.activeManager, alone]

/-- The epochs of a standalone device that schedules bank `b`. -/
def scheduled (b : Bank) (epoch tick tepoch : Nat) (e : Epochs) : Epochs :=
  { e with next := some b, sched := some { epoch := epoch, tick := tick, tepoch := tepoch }, master := true, from_ := none
           releaseTick := none, target := tick, ackWait := [], switchWait := [], releaseWait := [] }

/-- A standalone device schedules a staged bank that is not in use for a tick two or more ahead. -/
theorem epochTry_schedules (alone : s.role = 0) (hs : s.epochs = e) (ht : s.time.tepoch = tepoch) (next : e.next = some b)
    (staged : epochState s = 5) (he : epoch = (e.cur.epoch + 1) % 256) (ahead : s.tickNow + 2 ≤ tick) (free : stagedInUse s b = false) :
    epochTry epoch tick s = (0, epochPending (setEpochState 2 (s.withEpochs (scheduled b epoch tick tepoch e)))) := by
  subst hs ht
  have worker : ¬ s.role = 1 := by omega
  unfold epochTry
  simp only [(leads_of_alone alone).1, next, staged, he, Nat.not_lt.mpr ahead, free, worker, not_true_eq_false, ne_eq, if_false, Bool.false_eq_true]
  rfl

theorem epochTry_tooSoon (alone : s.role = 0) (hs : s.epochs = e) (next : e.next = some b) (staged : epochState s = 5)
    (he : epoch = (e.cur.epoch + 1) % 256) (soon : tick < s.tickNow + 2) : epochTry epoch tick s = (1, occur 0x0A4 {} s) := by
  subst hs
  unfold epochTry
  simp only [(leads_of_alone alone).1, next, staged, he, soon, not_true_eq_false, ne_eq, if_false, if_true]

/-- EPOCH_SCHEDULE answers with its status. -/
theorem epochSchedule_answers (hc : descClean d = true) (ha : d.aux = 0) (hz : d.zeroFrom 8 47 = true) :
    let x := epochTry (d.arg 7 1) (d.arg 0 7) s
    epochSchedule d id s = complete id (if x.1 = 0 then .ok else .refused) [BitVec.ofNat 8 x.1] x.2 := if_neg (by simp [hc, ha, hz])

theorem epochSchedule_ok (hc : descClean d = true) (ha : d.aux = 0) (hz : d.zeroFrom 8 47 = true)
    (hx : epochTry (d.arg 7 1) (d.arg 0 7) s = (0, u)) : epochSchedule d id s = complete id .ok [0] u := by
  rw [epochSchedule_answers hc ha hz, hx]
  rfl

theorem epochSchedule_tooSoon (hc : descClean d = true) (ha : d.aux = 0) (hz : d.zeroFrom 8 47 = true)
    (hx : epochTry (d.arg 7 1) (d.arg 0 7) s = (1, u)) : epochSchedule d id s = complete id .refused [1] u := by
  rw [epochSchedule_answers hc ha hz, hx]
  rfl

/-- The epoch that the registers of the schedule name. -/
def regEpoch (s : Dev) : Nat := s.rfld Reg.gduEpochSchedHi 24 8

/-- The tick that the registers of the schedule name. -/
def regTick (s : Dev) : Nat := (s.reg Reg.gduEpochSchedLo).toNat + 2 ^ 32 * s.rfld Reg.gduEpochSchedHi 0 24

theorem epochGo_tries {x : Nat × Dev} (hx : epochTry (regEpoch s) (regTick s) s = x) : epochGo s = x.2.setNat Reg.gduEpochCmd x.1 := by
  subst hx
  rfl

end

/-! ### Staging (R78, R99) -/

section
variable {s u : Dev} {b : Bank} {d : Desc} {r step used id ty lim entry : Nat} {act : Dev → StageEnd × Dev} {o p : Octets} {t : Template}

/-- A step that succeeds on a standalone device completes there. -/
theorem epochStage_alone (alone : s.role = 0) (hc : descClean d = true) (ha : d.aux.toNat = step) (hz : d.zeroFrom used 47 = true)
    (acts : act s = (.done, u)) : epochStage r step d act used id s = stageComplete id (.done, u) := by
  obtain ⟨leads, single⟩ := leads_of_alone alone
  unfold epochStage
  simp only [leads, single, hc, ha, hz, acts, not_true_eq_false, and_false, ne_eq, or_self, if_false, Bool.false_eq_true]

theorem stageBegin_begins (idle : epochState s = 0) : stageBegin s =
    (.done, setEpochState 1 (s.withEpochs { s.epochs with next := some { s.epochs.cur with epoch := (s.epochs.cur.epoch + 1) % 256 } })) :=
  if_neg (not_not_intro idle)

theorem stageEnd_ends (staging : epochState s = 1) (next : s.epochs.next.isSome = true) : stageEnd s = (.done, setEpochState 5 s) :=
  if_neg (by simp [staging, Option.isSome_iff_ne_none.mp next])

theorem stageAbort_aborts (staged : epochState s = 5) :
    stageAbort s = (.done, setEpochState 0 (s.withEpochs { s.epochs with next := none })) := if_neg (by simp [staged])

/-- The bank with a section's octets in it. -/
def sectionPut (ty : Nat) (o : Octets) (b : Bank) : Bank :=
  if ty = 2 then { b with templates := (sectionTemplates sectionFuel o []).1.foldl (fun l t => kvSet l t.id t) b.templates }
  else if ty = 4 then { b with codecTables := o }
  else if ty = 5 then { b with profiles := (sectionProfiles o).1 }
  else if ty = 10 then { b with cost := o }
  else { b with power := o }

/-- The device once a section is read: the profiles that it refuses are noted. -/
def sectionNoted (ty : Nat) (o : Octets) (s : Dev) : Dev := if ty = 5 then profilesRefused (sectionProfiles o).2 s else s

theorem types_of_sectionLimit (h : sectionLimit ty = some (lim, entry)) : ty = 2 ∨ ty = 4 ∨ ty = 5 ∨ ty = 10 ∨ ty = 11 := by
  unfold sectionLimit at h
  split at h <;> simp at h ⊢

/-- A section whose blocks decode, within its limit, and none of whose templates is refused goes into the free bank. -/
theorem stageSection_puts (next : s.epochs.next = some b) (staging : epochState s = 1) (known : sectionLimit ty = some (lim, entry))
    (decodes : folioDecode ty p = .ok o) (fits : o.length ≤ lim) (even : o.length % entry = 0)
    (good : ty = 2 → (sectionTemplates sectionFuel o []).2 = []) (hu : sectionNoted ty o (decodeJob none s) = u) :
    stageSection ty (some p) s = (.done, u.withEpochs { u.epochs with next := some (sectionPut ty o b) }) := by
  subst hu
  unfold stageSection
  simp only [next, staging, known, decodes, Nat.not_lt.mpr fits, even, not_true_eq_false, ne_eq, or_self, if_false]
  obtain rfl | rfl | rfl | rfl | rfl := types_of_sectionLimit known
  case inl => simp only [good rfl]; rfl
  all_goals rfl

theorem decodeJob_same (s : Dev) : SameWork (decodeJob none s) s := .ite (setFld_same ..) .rfl

theorem foldl_same {α : Type} {f : Dev → α → Dev} (hf : ∀ s x, SameWork (f s x) s) (l : List α) (s : Dev) : SameWork (l.foldl f s) s :=
  foldl_keeps (fun d => SameWork d s) f (fun d x kept => (hf d x).trans kept) l s .rfl

theorem profilesRefused_same (l : List Nat) (s : Dev) : SameWork (profilesRefused l s) s :=
  foldl_same (fun s _ => foldl_same (fun _ _ => .ite (note_same ..) .rfl) (upTo 16) s) l s

theorem sectionNoted_same (ty : Nat) (o : Octets) (s : Dev) : SameWork (sectionNoted ty o (decodeJob none s)) s :=
  .ite ((profilesRefused_same ..).trans (decodeJob_same s)) (decodeJob_same s)

theorem sameWork_role {a b : Dev} (h : SameWork a b) : a.role = b.role := by rw [Dev.role, h.boot]; rfl

/-- A standalone device sends a staged payload to nobody. -/
theorem stagePayload_alone (alone : s.role = 0) : stagePayload ty o s = s := if_neg (by simp [(leads_of_alone alone).2])

theorem stageSectionSend_alone (acts : stageSection ty (some p) s = (.done, u)) (alone : u.role = 0) :
    stageSectionSend ty (some p) s = (.done, u) := by
  simp only [stageSectionSend, acts, stagePayload_alone alone]

/-- A template that passes is stored in the free bank (R99). -/
theorem templateLoad_stores (hc : descClean d = true) (ha : d.aux = 0) (hz : d.zeroFrom 10 47 = true) (next : s.epochs.next = some b)
    (staging : epochState s = 1) (passes : checkTemplate o true [] = (0, some t)) :
    templateLoad d (some o) id s =
      complete id .ok [0] (s.withEpochs { s.epochs with next := some { b with templates := kvSet b.templates t.id t } }) := by
  unfold templateLoad
  simp only [hc, ha, hz, next, staging, passes, not_true_eq_false, ne_eq, or_self, if_false]

end

/-! ### The end of a switch (R84, R85) -/

section
variable {s : Dev} {b : Bank} {t : Nat}

theorem setCe_epochs (n : Nat) (g : ClusterEng) (s : Dev) : (s.setCe n g).epochs = s.epochs := rfl

theorem sameWork_epochs {a b : Dev} (h : SameWork a b) : a.epochs = b.epochs := by
  have work := h.1
  simp only [Prod.mk.injEq] at work
  obtain ⟨-, -, -, -, epochs, -⟩ := work
  exact epochs

theorem bankLive_same (n : Nat) (s : Dev) : SameWork (bankLive n s) s := .ite .rfl (faultEnd_same ..)

/-- Every cluster drops its copies of the previous epoch's profiles. -/
def profilesDropped (s : Dev) : Dev :=
  (upTo 16).foldl (fun s n => if (s.ce n).prevProfiles.isEmpty then s else bankLive n (s.setCe n { s.ce n with prevProfiles := [] })) s

theorem profilesDropped_epochs (s : Dev) : (profilesDropped s).epochs = s.epochs := by
  refine foldl_keeps (fun d => d.epochs = s.epochs) _ (fun d n kept => ?_) (upTo 16) s rfl
  dsimp only
  split
  · exact kept
  · exact ((sameWork_epochs (bankLive_same ..)).trans (setCe_epochs ..)).trans kept

/-- A previous bank that is drained is released. -/
theorem epochRelease_releases (prev : s.epochs.prev = some b) (drained : prevDrained s b.epoch = true) :
    ∃ d : Dev, epochRelease s = (if d.epochs.master then epochDone d else epochReport .released (setEpochState 0 d)) ∧
      d.epochs = { s.epochs with prev := none, releaseTick := some s.time.ticks } := by
  refine ⟨epochPending (epochCur (profilesDropped (s.withEpochs { s.epochs with prev := none, releaseTick := some s.time.ticks }))), ?_, ?_⟩
  · unfold epochRelease profilesDropped
    simp only [prev, drained, not_true_eq_false, if_false]
  · exact (setNat_epochs ..).trans ((setNat_epochs ..).trans (profilesDropped_epochs _))

theorem epochIncomplete_finds (released : s.epochs.releaseTick = some t) (master : s.epochs.master = true) (switched : epochState s = 3)
    (due : t + 8 ≤ s.time.ticks) (waits : s.epochs.switchWait ≠ []) : epochIncomplete s = occur 0x0A2 {} (setEpochState 4 s) := by
  unfold epochIncomplete
  simp only [released]
  exact if_pos ⟨master, switched, due, by simp [waits]⟩

end

/-- Settles O12: each command is taken here, or comes by its own path, and its step acts as its tests allow. -/
theorem epochsAreStagedScheduledAndReleased : Obligations.EpochsAreStagedScheduledAndReleased := by
  unfold Obligations.EpochsAreStagedScheduledAndReleased
  refine ⟨?schedule, ?tooSoon, ?answers, ?go, ?goAnswers, ?begin_, ?section_, ?end_, ?abort, ?template, ?release, ?incomplete⟩
  case schedule =>
    intro r d b s hn ht alone hc ha hz T e next staged he ahead free
    have tried := epochTry_schedules (s := T) (taken_role.trans alone) taken_keeps.1 (congrArg (·.tepoch) taken_keeps.2.1) next
      (taken_epochState.trans staged) he (taken_tickNow.symm ▸ ahead) free
    exact runRing_here hn ht (epochSchedule_ok hc ha hz tried)
  case tooSoon =>
    intro r d b s hn ht alone hc ha hz e next staged he soon
    have tried := epochTry_tooSoon (s := taken r 0x0F d s.dev) (taken_role.trans alone) taken_keeps.1 next (taken_epochState.trans staged) he
      (taken_tickNow.symm ▸ soon)
    exact runRing_here hn ht (epochSchedule_tooSoon hc ha hz tried)
  case answers =>
    intro r d s hn ht hc ha hz x
    exact runRing_here hn ht (epochSchedule_answers hc ha hz)
  case go =>
    intro by_ v b s hn hg hv alone n k e next staged he ahead free
    exact run_gated_ends hn hg ((if_pos hv).trans (epochGo_tries (epochTry_schedules alone rfl rfl next staged he ahead free)))
  case goAnswers =>
    intro by_ v s hn hg hv x
    exact run_gated_ends hn hg ((if_pos hv).trans (epochGo_tries rfl))
  case begin_ =>
    intro r d s hn ht alone hc ha hz idle e
    have begins := stageBegin_begins (taken_epochState (r := r) (op := 0x1B) (d := d) |>.trans idle)
    rw [taken_keeps.1] at begins
    exact runRing_here hn ht (epochStage_alone (taken_role.trans alone) hc (by rw [ha]; rfl) hz begins)
  case section_ =>
    intro r d p o b lim entry s hn ht alone hc ha hz next staging ty known decodes fits even good u v b'
    have puts := stageSection_puts (s := taken r 0x1B d s.dev) (by rw [taken_keeps.1]; exact next) (taken_epochState.trans staging) known decodes
      fits even good rfl
    have noted := sameWork_role (sectionNoted_same ty o (taken r 0x1B d s.dev))
    have sends := stageSectionSend_alone puts (noted.trans (taken_role.trans alone))
    exact runRing_here hn ht (epochStage_alone (taken_role.trans alone) hc (by rw [ha]; rfl) hz sends)
  case end_ =>
    intro r d s hn ht alone hc ha hz staging next
    have ends := stageEnd_ends (s := taken r 0x1B d s.dev) (taken_epochState.trans staging) (by rw [taken_keeps.1]; exact next)
    exact runRing_here hn ht (epochStage_alone (taken_role.trans alone) hc (by rw [ha]; rfl) hz ends)
  case abort =>
    intro r d s hn ht alone hc ha hz staged
    have aborts := stageAbort_aborts (taken_epochState (r := r) (op := 0x1B) (d := d) |>.trans staged)
    rw [taken_keeps.1] at aborts
    exact runRing_here hn ht (epochStage_alone (taken_role.trans alone) hc (by rw [ha]; rfl) hz aborts)
  case template =>
    intro r d o b t s hn ht hc ha hz next staging passes
    have stores := templateLoad_stores (id := s.dev.pci.nextId) (s := taken r 0x10 d s.dev) hc ha hz (by rw [taken_keeps.1]; exact next)
      (taken_epochState.trans staging) passes
    rw [taken_keeps.1] at stores
    exact runRing_here hn ht stores
  case release =>
    intro s b hn prev drained
    obtain ⟨d, releases, epochs⟩ := epochRelease_releases prev drained
    exact ⟨d, run_ends hn releases, epochs⟩
  case incomplete =>
    intro s t hn released master switched due waits
    exact run_ends hn (epochIncomplete_finds released master switched due waits)

end Sys2Proof.Proofs
end

section
/-! PROOFS. Nodes and instances of the GDU (R72, R106, R107, R110, R112, R116, R117): a node is dispatched, ends or overstays, and late
instances are marked and aborted. -/

namespace Sys2Proof.Proofs

set_option Elab.async false

open Sys2Proof.Machine Sys2Proof.Laws

/-- The device in the next cycle of the GDU. -/
def gduNext (s : Dev) : Dev := { s with gcycle := s.gcycle + 1 }

section
variable {s : Dev} {n c : Nat} {r : Resource} {e : ListEntry} {v : Service} {k : Channel} {i : Instance} {out : NodeOutcome}

/-! ### Nodes (R106, R110, R112, R117) -/

/-- An entry that an idle resource takes leaves its list, and its node is in service. -/
theorem nodeDispatch_takes (active : s.clState n = 3) (pick : pickEntry (gduNext s) n r = some e) :
    let d := gduNext s
    nodeDispatch n r .ok s = promoteHeld n (pullPicture e.chan e.node (setNodeState e.chan e.node .inService (noteP3 n r e.cls
      (d.setCg n { d.cg n with ready := (d.cg n).ready.erase e
                               service := (d.cg n).service ++ [⟨r, e.chan, e.node, s.cycles, engineOn d n e⟩] })))) := by
  have picked : pickEntry { s with gcycle := s.gcycle + 1 } n r = some e := pick
  refine (if_neg (not_not_intro active)).trans ?_
  simp only [picked, recordParity, not_true_eq_false, if_false]
  rfl

/-- A node in service for a channel that is not closing ends with its kind's effect. -/
theorem nodeComplete_ends (serves : findService (s.cg n) r c = some v) (hk : s.chan? c = some k) (live : k.st ≠ .closing) :
    nodeComplete n r c out .ok s = nodeDone n v (nodeEffect n v out (gduNext s)) := by
  have serves' : findService ((gduNext s).cg n) r c = some v := serves
  have hk' : (gduNext s).chan? c = some k := hk
  have goesOn : (k.st == .closing) = false := beq_false_of_ne live
  unfold nodeComplete
  rw [← gduNext]
  simp only [serves', recordParity, hk', goesOn, Bool.false_eq_true, if_false]

/-- The instant after the watchdog's time of a node in service, with the watchdog counted. -/
def watchdogDue (v : Service) (s : Dev) : Dev :=
  (s.elapseTo (v.since + usCycles (s.within Reg.gduNodeWdog 0 14 10 10000) + 1)).bump Reg.gduWdog

theorem watchdogDue_chan (v : Service) (s : Dev) (c : Nat) : (watchdogDue v s).chan? c = s.chan? c := by
  simp only [watchdogDue, Dev.chan?, bump_chans, Dev.elapseTo, elapse_chans]

/-- A node that overstays is failed, and recorded with the spawn tick that it ran for. -/
theorem nodeWatchdog_fails (serves : findService (s.cg n) r c = some v) (hk : s.chan? c = some k) :
    nodeWatchdog n r c s = occurRes 0x084
      { data := gduData ((k.active.map (·.spawnTick)).getD 0) v.node, chan := some (globalId k.owner c) } n r
      (failService n v (watchdogDue v (gduNext s))) := by
  have serves' : findService ((gduNext s).cg n) r c = some v := serves
  have hk' : (watchdogDue v (gduNext s)).chan? c = some k := (watchdogDue_chan v _ c).trans hk
  unfold nodeWatchdog
  rw [← gduNext]
  simp only [serves']
  rw [← watchdogDue, hk']
  rfl

/-! ### Instances (R72, R116) -/

/-- What a command names: ACTIVE or DEFERRED. -/
theorem named_of_chan {b : Bool} (hk : s.chan? c = some k) (hi : k.inst b = some i) :
    (s.chan? c).bind (fun k => (k.inst b).map (fun i => (k, i))) = some (k, i) := by
  rw [hk, Option.bind_some, hi, Option.map_some]

/-- The channel's record with what is late marked and counted. -/
def markLate (b : Bool) (i : Instance) (k : Channel) : Channel :=
  { k with active := if b then k.active else some { i with late := true }, deferred := if b then some { i with late := true } else k.deferred
           stats := { k.stats with late := k.stats.late + 1 } }

theorem instanceLate_marks {b : Bool} (hk : s.chan? c = some k) (hi : k.inst b = some i) (fresh : i.late = false) (live : i.closing = false) :
    instanceLate c b s = occur 0x081 { data := gduData i.spawnTick 0xFF, chan := some (globalId k.owner c) }
      (((s.elapseTo (deadline s i)).modChan c (markLate b i)).bump Reg.gduLate) := by
  unfold instanceLate
  rw [named_of_chan hk hi]
  exact if_neg (by simp [fresh, live])

theorem instanceLate_once {b : Bool} (hk : s.chan? c = some k) (hi : k.inst b = some i) (late : i.late = true) : instanceLate c b s = s := by
  unfold instanceLate
  simp only [named_of_chan hk hi, late, true_or, if_true]

/-- At the abort time, the undispatched nodes are cancelled. -/
theorem instanceAbort_active (hk : s.chan? c = some k) (hi : k.active = some i) (fresh : i.aborting = false) (live : i.closing = false) :
    let d := gduNext s
    instanceAbort c false s = flowOn c (cancelUndispatched c ((d.elapseTo (abortTime d i)).modChan c
      (fun k => { k with active := k.active.map (fun i => { i with aborting := true }) }))) := by
  have hk' : (gduNext s).chan? c = some k := hk
  unfold instanceAbort
  rw [← gduNext]
  simp only [named_of_chan hk' (b := false) hi, fresh, live, Bool.false_eq_true, or_self, if_false, abortActive]

/-- What is DEFERRED at its abort time is cancelled whole, counted and recorded. -/
theorem instanceAbort_deferred (hk : s.chan? c = some k) (hi : k.deferred = some i) (fresh : i.aborting = false) (live : i.closing = false) :
    let d := gduNext s
    let u := (d.elapseTo (abortTime d i)).modChan c (fun k => { k with
      deferred := none, stats := { k.stats with aborted := k.stats.aborted + 1 }
      jb := { k.jb with missed := k.jb.missed + i.pullMissed.toNat } })
    instanceAbort c true s = drained (occur 0x082 { data := gduData i.spawnTick 0xFF, chan := some (globalId k.owner c) }
      ((u.bump64 Reg.gduCancel i.nodes.length).bump Reg.gduAbort)) := by
  have hk' : (gduNext s).chan? c = some k := hk
  unfold instanceAbort
  rw [← gduNext]
  simp only [named_of_chan hk' (b := true) hi, fresh, live, Bool.false_eq_true, or_self, if_false, if_true]

end

/-- Settles O9: each clause is one command of the GDU, in a state in which it acts. -/
theorem nodesAreDispatchedAndEnd : Obligations.NodesAreDispatchedAndEnd := by
  unfold Obligations.NodesAreDispatchedAndEnd
  refine ⟨?dispatch, ?complete, ?watchdog, ?lateActive, ?lateDeferred, ?lateOnce, ?abortActive, ?abortDeferred⟩
  case dispatch =>
    intro n r s e hn active d pick
    exact run_ends hn (nodeDispatch_takes active pick)
  case complete =>
    intro n r c out s v k hn serves hk live
    exact run_ends hn (nodeComplete_ends serves hk live)
  case watchdog =>
    intro n r c s v k hn serves hk d e
    exact run_ends hn (nodeWatchdog_fails serves hk)
  case lateActive =>
    intro c s k i hn hk hi fresh live
    exact run_ends hn (instanceLate_marks (b := false) hk hi fresh live)
  case lateDeferred =>
    intro c s k i hn hk hi fresh live
    exact run_ends hn (instanceLate_marks (b := true) hk hi fresh live)
  case lateOnce =>
    intro c b s k i hn hk hi late
    exact run_ends hn (instanceLate_once hk hi late)
  case abortActive =>
    intro c s k i hn hk hi fresh live d u
    exact run_ends hn (instanceAbort_active hk hi fresh live)
  case abortDeferred =>
    intro c s k i hn hk hi fresh live d u
    exact run_ends hn (instanceAbort_deferred hk hi fresh live)

end Sys2Proof.Proofs
end

section
/-! PROOFS. Time frames and control frames of the Ronong link (R79, R184, R423, R424, R430, R433, R438, R439): what each does where its lane takes it. -/

namespace Sys2Proof.Proofs

set_option Elab.async false

open Sys2Proof.Machine Sys2Proof.Laws

/-- A frame that its lane takes acts on the device with the frame counted, and the command ends. -/
theorem run_frame_ends {k vl type aux : Nat} {hd : RonHdr} {payload : Octets} {act : Dev → Dev} {s : State} {d : Dev} (hn : noInjection s)
    (here : framesHere k hd vl type s.dev) (h : act (counted k hd vl s.dev) = d) :
    run (ronTake k hd vl type aux payload act) s = .next (ended s d) :=
  run_ends hn ((ronTake_here k hd vl type aux payload act s.dev here).trans h)

section
variable {s d : Dev} {k h type seq e t : Nat} {hd : RonHdr} {c : Correction} {o : Octets} {b : Bank} {m : MirrorMsg}

/-! ### Time frames (R423, R424) -/

/-- The follower whose servo has taken an exchange. -/
def exchangeNoted (k : Nat) (t1 t2 t3 : FineStamp) (s : Dev) : Dev :=
  setServo 5 [] { s with time := { s.time with lastSync := s.cycles, lastOffset := followerOffset k t1 t2 t3 s } }

/-- A reply of the active manager corrects a follower's increment, within its range. -/
theorem tReplyTake_steers {t1 t2 t3 : FineStamp} (follows : s.leads = false) (active : hd.src.val = s.ron.activeHid) :
    ∃ n m : Nat, n ≤ 2 * incrLimit ∧ tReplyTake k hd t1 t2 t3 s =
      setIncr (incrNominal - incrLimit + n) { exchangeNoted k t1 t2 t3 s with free := m } := by
  refine ⟨((exchangeNoted k t1 t2 t3 s).drawBelow (2 * incrLimit + 1)).1, (exchangeNoted k t1 t2 t3 s).free + 1, ?_, ?_⟩
  · exact Nat.le_of_lt_succ (drawBelow_lt (Nat.succ_pos _))
  · exact if_neg (by simp [follows, active])

/-- A correction is new to a follower: it is not the one held, and not the one last applied. -/
def CorrNew (c : Correction) (s : Dev) : Prop :=
  s.time.corr ≠ some c ∧ (s.time.corr = none → kvGet s.once 0x04A00 ≠ some c.applyAt)

theorem corrKnown_iff : (s.time.corr = some c ∨ s.time.corr.isNone = true ∧ kvGet s.once 0x04A00 = some c.applyAt) ↔ ¬ CorrNew c s := by
  simp only [CorrNew, not_and_or, Option.isNone_iff_eq_none, Classical.not_imp, ne_eq, not_not]

/-- The instant of the last correction that has come. -/
def corrMet (c : Correction) (s : Dev) : Dev := { s with once := kvSet s.once 0x04A00 c.applyAt }

/-- A new correction is acknowledged, and judged by its instant. -/
theorem tCorrTake_judges (follows : s.leads = false) (new : CorrNew c (ackSend hd 3 s)) :
    let v := corrMet c (ackSend hd 3 s)
    tCorrTake hd c s = if v.nowNs < c.applyAt then timeShow (v.modTime (fun t => { t with corr := some c })) else occur 0x04A {} (corrApply c v) :=
  (if_neg (ne_true_of_eq_false follows)).trans (if_neg (fun known => corrKnown_iff.mp known new))

/-! ### HELLO (R436, R439) -/

theorem helloTake_planless (hello : ronState s k = 3) (bad : helloPlan k o s = false) : helloTake k o s = occur 0x3A7 {} s :=
  (if_neg (not_not_intro hello)).trans (if_pos (ne_true_of_eq_false bad))

theorem helloTake_clear (hello : ronState s k = 3) (fits : helloPlan k o s = true) (clear : s.rbit Reg.ronCfg 1 = false) :
    helloTake k o s = ronUp k (if (s.rl k).helloSent then s else helloSend k s) :=
  (if_neg (not_not_intro hello)).trans ((if_neg (not_not_intro fits)).trans (if_pos (ne_true_of_eq_false clear)))

/-- A HELLO for a key agreement stands: it is whole, its certificate is good, and its signature covers this side's contents, or none. -/
def HelloStands (k : Nat) (o : Octets) (s : Dev) : Prop :=
  s.boot.identity.isSome = true ∧ o.length = 498 ∧ certOk s (oct o 0) (octs o 146 256) = true ∧
    (helloSigned o (s.rl k).mine = true ∨ helloSigned o [] = true)

theorem helloRefused_iff : (s.boot.identity.isNone = true ∨ o.length ≠ 498 ∨ ¬ certOk s (oct o 0) (octs o 146 256) = true ∨
    ¬ (helloSigned o (s.rl k).mine = true ∨ helloSigned o [] = true)) ↔ ¬ HelloStands k o s := by
  simp only [HelloStands, not_and_or, Option.isNone_iff_eq_none, Option.isSome_iff_ne_none, ne_eq, not_not]

theorem helloTake_refused (hello : ronState s k = 3) (fits : helloPlan k o s = true) (enc : s.rbit Reg.ronCfg 1 = true)
    (bad : ¬ HelloStands k o s) : helloTake k o s = occur 0x3A5 {} s :=
  (if_neg (not_not_intro hello)).trans ((if_neg (not_not_intro fits)).trans ((if_neg (not_not_intro enc)).trans
    (if_pos (helloRefused_iff.mpr bad))))

/-- The partner's contents are noted, and answered unless this side's HELLO has left with them known. -/
def helloAnswered (k : Nat) (o : Octets) (s : Dev) : Dev :=
  let u := s.setRl k { s.rl k with theirs := o.take 402 }
  if (s.rl k).helloSent = true ∧ (s.rl k).theirs = o.take 402 then u else helloSend k u

theorem helloAnswered_eq : (if ((s.rl k).helloSent && (s.rl k).theirs == o.take 402) = true then s.setRl k { s.rl k with theirs := o.take 402 }
    else helloSend k (s.setRl k { s.rl k with theirs := o.take 402 })) = helloAnswered k o s := by
  simp only [helloAnswered, Bool.and_eq_true, beq_iff_eq]

/-- A HELLO signed over both sides' contents agrees the keys and brings the lane UP. -/
theorem helloTake_agrees (hello : ronState s k = 3) (fits : helloPlan k o s = true) (enc : s.rbit Reg.ronCfg 1 = true)
    (stands : HelloStands k o s) (both : helloSigned o (s.rl k).mine = true) (hv : helloAnswered k o s = d) :
    helloTake k o s = ronUp k (d.setRl k { d.rl k with keys := linkKeys d k (o.take 402), keyedAt := d.cycles }) := by
  subst hv
  rw [← helloAnswered_eq]
  exact (if_neg (not_not_intro hello)).trans ((if_neg (not_not_intro fits)).trans ((if_neg (not_not_intro enc)).trans
    ((if_neg (fun refused => helloRefused_iff.mp refused stands)).trans (if_neg (not_not_intro both)))))

/-! ### HEARTBEAT (R430, R435, R438) -/

/-- What a heartbeat notes of its lane's partner; a plan that differs is recorded. -/
def heartbeatNoted (k : Nat) (o : Octets) (s : Dev) : Dev :=
  let m := hbParse s o
  let l := s.rl k
  let seen := (upTo 8).map (fun v => if pastMod 32 (m.nextSeq.getD v 0) (l.seen.getD v 0) then m.nextSeq.getD v 0 % 2 ^ 32 else l.seen.getD v 0)
  let u := s.setRl k { l with heardAt := some s.cycles, peer := some m, lost := false, seen := seen
                              freed := (upTo 8).map (fun v => m.freed.getD v 0) }
  ronDrain k (if m.digestOk then u else occur 0x3A7 {} u)

/-- A heartbeat that the active manager sends to another device on an UP lane. -/
def FromActive (k : Nat) (hd : RonHdr) (m : HbMsg) (s : Dev) : Prop :=
  ronState s k = 4 ∧ m.active = true ∧ isManager s hd.src.val = true ∧ s.activeManager = false

theorem notFromActive_iff {m : HbMsg} :
    (ronState s k ≠ 4 ∨ ¬ m.active = true ∨ ¬ isManager s hd.src.val = true ∨ s.activeManager = true) ↔ ¬ FromActive k hd m s := by
  simp only [FromActive, not_and_or, ne_eq, Bool.not_eq_false]

/-- The active manager's HID and cadence. -/
def activeNoted (hd : RonHdr) (m : HbMsg) (s : Dev) : Dev := cadenceAdopt m.cadence { s with ron := { s.ron with activeHid := hd.src.val } }

/-- A manager takes up the aliases that the active one sends. -/
def aliasesNoted (m : HbMsg) (s : Dev) : Dev :=
  if s.role ≠ 1 then s
  else (upTo 16).foldl (fun s h => match m.aliases[h]? with | some t => s.setFld (Reg.ronAlias h) 0 4 t | none => s) s

theorem heartbeatTake_eq (k : Nat) (hd : RonHdr) (o : Octets) (s : Dev) : heartbeatTake k hd o s =
    if ronState (heartbeatNoted k o s) k ≠ 4 ∨ ¬ (hbParse s o).active ∨ ¬ isManager (heartbeatNoted k o s) hd.src.val ∨
      (heartbeatNoted k o s).activeManager then heartbeatNoted k o s
    else aliasesNoted (hbParse s o) (activeNoted hd (hbParse s o) (heartbeatNoted k o s)) := by
  unfold heartbeatTake
  extract_lets m l seen u v w
  have noted : heartbeatNoted k o s = w := rfl
  rw [noted]
  clear_value w
  rfl

theorem heartbeatTake_other (hw : heartbeatNoted k o s = d) (other : ¬ FromActive k hd (hbParse s o) d) : heartbeatTake k hd o s = d := by
  rw [heartbeatTake_eq, hw, if_pos (notFromActive_iff.mpr other)]

theorem heartbeatTake_active (hw : heartbeatNoted k o s = d) (active : FromActive k hd (hbParse s o) d) :
    heartbeatTake k hd o s = aliasesNoted (hbParse s o) (activeNoted hd (hbParse s o) d) := by
  rw [heartbeatTake_eq, hw, if_neg (fun refused => notFromActive_iff.mp refused active)]

/-! ### ACK, EPOCH and MIRROR (R79, R184, R433) -/

/-- An ACK of the one frame that waits ends its wait. -/
theorem ackTake_ends (hs : s.ron.acks = [⟨hd.src, type, seq⟩]) :
    let u : Dev := { s with ron := { s.ron with acks := [] } }
    ackTake hd type seq s = if type = 5 then { u with epochs := { u.epochs with ackWait := u.epochs.ackWait.filter (· != hd.src.val) } }
      else if type = 3 then { u with time := { u.time with corrWait := u.time.corrWait.filter (· != hd.src.val) } } else u := by
  have waits : s.ron.acks.contains ⟨hd.src, type, seq⟩ = true := by simp [hs]
  have ended : s.ron.acks.filter (fun a => !(a.hid == hd.src.val && a.type == type)) = [] := by simp [hs]
  unfold ackTake
  simp only [waits, ended, not_true_eq_false, if_false]
  rfl

/-- The schedule that an announcement brings. -/
def announced (e t h : Nat) (s : Dev) : Dev :=
  let q : Schedule := { epoch := e, tick := t, tepoch := s.time.tepoch }
  setEpochState 2 (s.withEpochs { s.epochs with
    sched := some { q with late := tickReached s q }, master := false, from_ := some h, releaseTick := none, target := t })

theorem epochReceive_new (free : s.epochs.sched = none) (other : s.epochs.cur.epoch ≠ e) (next : s.epochs.next = some b) :
    epochReceive hd (.announce e t) s = ackSend hd 5 (announced e t hd.src.val s) := by
  have new : ¬ (s.epochs.sched.isSome = true ∨ s.epochs.cur.epoch = e) := by simp [free, other]
  refine congrArg (ackSend hd 5) ((if_neg new).trans ?_)
  simp only [next, announced]

theorem epochReceive_known (known : s.epochs.sched.isSome = true ∨ s.epochs.cur.epoch = e ∨ s.epochs.next = none) :
    epochReceive hd (.announce e t) s = ackSend hd 5 s := by
  refine congrArg (ackSend hd 5) ?_
  by_cases stands : s.epochs.sched.isSome = true ∨ s.epochs.cur.epoch = e
  · exact if_pos stands
  · have next : s.epochs.next = none := (or_assoc.mpr known).resolve_left stands
    refine (if_neg stands).trans ?_
    simp only [next]

theorem mirrorReceive_takes (manager : s.role = 1) (standby : s.ron.active = false) : mirrorReceive m s = mirrorTake m s :=
  if_pos ⟨manager, ne_true_of_eq_false standby⟩

end

/-- Settles O39: each frame is taken on its lane, and acts as its tests allow. -/
theorem timeAndControlFramesAreTaken : Obligations.TimeAndControlFramesAreTaken := by
  unfold Obligations.TimeAndControlFramesAreTaken
  refine ⟨?tSync, ?tReply, ?tCorr, ?hello, ?heartbeat, ?ack, ?announce, ?announceKnown, ?mirror⟩
  case tSync =>
    intro k hd t1 s hn here d
    exact run_frame_ends hn here rfl
  case tReply =>
    intro k hd t1 t2 t3 s hn here d follows active u
    obtain ⟨n, m, small, steers⟩ := tReplyTake_steers (k := k) (t1 := t1) (t2 := t2) (t3 := t3) follows active
    exact ⟨n, m, small, run_frame_ends hn here steers⟩
  case tCorr =>
    intro k hd c s hn here d follows u v fresh unapplied
    have judges := tCorrTake_judges (hd := hd) follows ⟨fresh, unapplied⟩
    refine ⟨fun early => ?_, fun past => ?_⟩
    · exact run_frame_ends hn here (judges.trans (if_pos early))
    · exact run_frame_ends hn here (judges.trans (if_neg (Nat.not_lt.mpr past)))
  case hello =>
    intro k hd o s hn here d hello
    refine ⟨fun bad => ?planless, fun fits clear => ?clear, fun fits enc bad => ?refused,
      fun fits enc identity whole cert both => ?agrees⟩
    case planless => exact run_frame_ends hn here (helloTake_planless hello bad)
    case clear => exact run_frame_ends hn here (helloTake_clear hello fits clear)
    case refused =>
      have refuses : ¬ HelloStands k o d := by
        rintro ⟨identity, whole, cert, signed⟩
        rcases bad with none_ | short | badCert | ⟨mine, alone⟩
        · simp [none_] at identity
        · exact short whole
        · simp [badCert] at cert
        · simp [mine, alone] at signed
      exact run_frame_ends hn here (helloTake_refused hello fits enc refuses)
    case agrees =>
      intro u v
      exact run_frame_ends hn here (helloTake_agrees hello fits enc ⟨identity, whole, cert, .inl both⟩ both rfl)
  case heartbeat =>
    intro k hd o s hn here d m l seen u w other x
    have noted : heartbeatNoted k o d = w := rfl
    clear_value w
    refine ⟨fun no => ?_, fun active away => ?_, fun active manager => ?_⟩
    · exact run_frame_ends hn here (heartbeatTake_other noted no)
    · exact run_frame_ends hn here ((heartbeatTake_active noted active).trans (if_pos away))
    · exact run_frame_ends hn here ((heartbeatTake_active noted active).trans (if_neg (not_not_intro manager)))
  case ack =>
    intro k hd type seq s hn here d waits u
    exact run_frame_ends hn here (ackTake_ends waits)
  case announce =>
    intro k hd e t b s hn here d free other next q
    exact run_frame_ends hn here (epochReceive_new free other next)
  case announceKnown =>
    intro k hd e t s hn here d known
    exact run_frame_ends hn here (epochReceive_known known)
  case mirror =>
    intro k hd m s hn here manager standby
    exact run_frame_ends hn here (mirrorReceive_takes manager standby)

end Sys2Proof.Proofs
end

section
/-! PROOFS. Commands that travel and data frames (R95, R144, R345, R432, R434, R440, R442 to R444): what each does where its lane takes it, and the
frames that are dropped. -/

namespace Sys2Proof.Proofs

set_option Elab.async false

open Sys2Proof.Machine Sys2Proof.Laws

section
variable {s u v : Dev} {k op id g r n aux : Nat} {hd : RonHdr} {d : Desc} {c : PendingCmd} {o rec : Octets} {q : Channel} {m : MediaRec}

/-! ### Commands and completions (R144) -/

/-- The command of a COMMAND frame as this device notes it, with its own number and its origin. -/
def frameCmd (k op aux : Nat) (d : Desc) (s : Dev) : PendingCmd :=
  { id := s.pci.nextId, ring := aux / 2 ^ 30 % 4, evr := d.evr.toNat % 4, opcode := op, tag := d.tag, slot := false
    chan := if channelOp op then some (descGid d) else none, field := descGid d, aux := d.aux.toNat, origin := some (k, aux) }

section
variable {body : Nat → Dev → Dev}

theorem takeFrame_here (hv : addCmd (frameCmd k op aux d s) s = v) (here : route op d true v = .here) :
    takeFrame k op d aux body s = body s.pci.nextId v := by
  subst hv
  unfold takeFrame
  extract_lets id c v
  have routed : route op d true v = .here := here
  simp only [routed]
  rfl

theorem takeFrame_refused {st : Status} (hv : addCmd (frameCmd k op aux d s) s = v) (refused : route op d true v = .refuse st) :
    takeFrame k op d aux body s = completeWith s.pci.nextId st v := by
  subst hv
  unfold takeFrame
  extract_lets id c v
  have routed : route op d true v = .refuse st := refused
  simp only [routed]
  rfl

/-- A command whose channel lies on another device again is not forwarded twice. -/
theorem takeFrame_forward {h : Nat} (hv : addCmd (frameCmd k op aux d s) s = v) (away : route op d true v = .forward h) :
    takeFrame k op d aux body s = completeWith s.pci.nextId .unreachable v := by
  subst hv
  unfold takeFrame
  extract_lets id c v
  have routed : route op d true v = .forward h := away
  simp only [routed]
  rfl

end

/-- A COMMAND frame with a whole descriptor runs as a command on the device. -/
theorem exec_commandFrame {k : Fin 16} {op : Byte} {aux : Word} {ok : Bool} {s : State} {e : Dev} (hn : noInjection s)
    (whole : d.params.length = 48) (here : framesHere k hd 1 3 s.dev)
    (he : takeFrame k op.toNat d aux.toNat (frameBody op.toNat d ok) (counted k hd 1 s.dev) = e) :
    exec (.commandFrame k hd op d aux ok) s = .next (ended s e) :=
  (if_pos (decide_eq_true whole)).trans (run_frame_ends hn here he)

/-- The sessions of channel `g` owe a BYE. -/
def byesOwed (g : Nat) (s : Dev) : Dev :=
  { s with mpe := { s.mpe with byes := s.mpe.byes ++ (s.mpe.sessions.filter (fun p => p.2.chan == g)).map (·.1) } }

/-- A COMPLETION completes the command that waits for it; a CLOSE that closed its channel owes its sessions a BYE. -/
theorem completionTake_completes (hid : aux % 2 ^ 30 = id) (waits : findCmd s id = some c) (own : c.origin = none) (pending : c.done = none)
    (other : c.opcode ≠ 0x1B) :
    let u := flushDone (modCmd id (fun c => { c with done := some (padTo 32 o) }) s)
    completionTake hd o aux s = if c.opcode = 5 ∧ le o 4 2 = 0 then byesOwed (le o 12 4 % 2 ^ 20) u else u := by
  subst hid
  unfold completionTake
  simp only [waits]
  exact (if_neg (by simp [own, pending])).trans (if_neg other)

/-! ### Media (R434) -/

/-- A record of the stream that an open channel plays, or of its first, goes to the channel. -/
theorem mediaTake_delivers (ingress : m.kind ≠ 1) (hq : s.chan? (m.chan % 65536) = some q) (owner : q.owner = m.chan / 65536)
    (restored : q.awaits = false) (header : rtpHeader m.rtp = some n) (stream : q.jb.ssrc = none ∨ q.jb.ssrc = some (be m.rtp 8 4)) :
    mediaTake m s = deliver (m.chan % 65536) m.rtp (m.rtp.drop n) (stampNs m.stamp)
      (s.setChan (m.chan % 65536) { q with jb := { q.jb with ssrc := some (be m.rtp 8 4) } }) := by
  have its : (s.chan? (m.chan % 65536)).filter (fun k => k.owner == m.chan / 65536) = some q := by simp [hq, owner]
  have same : ¬ (q.jb.ssrc.isSome = true ∧ q.jb.ssrc ≠ some (be m.rtp 8 4)) := by
    rintro ⟨known, changed⟩
    exact stream.elim (fun none_ => by simp [none_] at known) changed
  refine (if_neg ingress).trans ?_
  simp only [its, header]
  rw [if_neg (ne_true_of_eq_false restored), if_neg same, modJb_of_chan _ hq]

/-! ### Dossiers and catalogue records (R442 to R444) -/

theorem dossierTake_stages {w : Nat} (passive : s.activeManager = false) (keeps : s.role = 3 ∨ s.ron.takeover.isSome = true)
    (hu : dossierStage g w rec o s = u) :
    dossierTake hd g w rec o s = { u with ron := { u.ron with got := g :: u.ron.got.filter (· != g) } } := by
  subst hu
  exact (if_neg (ne_true_of_eq_false passive)).trans (if_pos keeps)

/-- Where the active manager passes a dossier on: from the reserve to the channel's device, and to the reserve from any other. -/
theorem passTo_eq (reserve : reserveHid s = some r) : passTo s hd g = some (if hd.src.val = r then g / 65536 else r) := by
  simp only [passTo, reserve]
  split <;> rfl

theorem dossierTake_passes {w : Nat} (active : s.activeManager = true) (hu : recordNote rec s = u) (reserve : reserveHid u = some r)
    (away : (if hd.src.val = r then g / 65536 else r) ≠ u.hid) :
    dossierTake hd g w rec o s = ronSendTo (if hd.src.val = r then g / 65536 else r) 3 1 g (toBe 4 w ++ rec ++ o) u := by
  subst hu
  refine (if_pos active).trans ?_
  simp only [passTo_eq reserve]
  exact if_neg away

theorem recordNote_whole (whole : rec.length = 80) : recordNote rec s = { s with ron := { s.ron with
    catalogue := if oct rec 66 = 0 then kvDel s.ron.catalogue (le rec 0 4 % 2 ^ 20) else kvSet s.ron.catalogue (le rec 0 4 % 2 ^ 20) rec } } :=
  if_neg (by omega)

theorem recordTake_notes (manager : s.role = 1) (standby : s.ron.active = false) (idle : s.ron.takeover = none) :
    recordTake hd rec s = recordNote rec s := by
  have passive : ¬ s.activeManager = true := by simp [Dev.activeManager, standby]
  exact (if_neg passive).trans ((if_neg (by simp [manager, idle])).trans (if_pos manager))

theorem recordTake_stages (passive : s.activeManager = false) (keeps : s.role = 3 ∨ s.ron.takeover.isSome = true) :
    recordTake hd rec s = recordStage rec s := (if_neg (ne_true_of_eq_false passive)).trans (if_pos keeps)

/-! ### Blocks in pieces (R345) -/

/-- The act of a FOLIO frame: a staged payload's piece, or a block's. -/
def folioAct (k : Nat) (aux : Word) (o : Octets) (s : Dev) : Dev :=
  if bit aux 30 then stageArrives (fld aux 0 16) (bit aux 31) o s else blockPiece k (bit aux 31) o s

theorem folioAct_piece {aux : Word} (block : bit aux 30 = false) (more : bit aux 31 = false) :
    folioAct k aux o s = { s with ron := { s.ron with pieces := kvSet s.ron.pieces k ((kvGet s.ron.pieces k).getD [] ++ o) } } :=
  (if_neg (ne_true_of_eq_false block)).trans (if_neg (ne_true_of_eq_false more))

theorem folioAct_last {aux : Word} (block : bit aux 30 = false) (last : bit aux 31 = true) :
    folioAct k aux o s = blockArrived ((kvGet s.ron.pieces k).getD [] ++ o) { s with ron := { s.ron with pieces := kvDel s.ron.pieces k } } :=
  (if_neg (ne_true_of_eq_false block)).trans (if_pos last)

/-! ### Frames that are dropped (R432, R440) -/

theorem frameDrop_crc (lane : ronState s k = 3 ∨ ronState s k = 4) :
    let d := ((s.bump (Reg.ronLaneCrcErr k)).bump (Reg.ronLaneDrop k)).setRl k { s.rl k with badRun := (s.rl k).badRun + 1 }
    frameDrop k .crc s = if 64 ≤ (s.rl k).badRun + 1 ∧ ronState d k = 4 then ronDown k true d else d :=
  if_neg (fun ⟨h3, h4⟩ => lane.elim h3 h4)

theorem frameDrop_tag (lane : ronState s k = 3 ∨ ronState s k = 4) (enc : s.rbit (Reg.ronLaneStatus k) 3 = true) :
    let d := (s.bump (Reg.ronLaneAuthFail k)).setRl k { s.rl k with badRun := 0 }
    let z := d.oncePer 0x3A5 d.now.sec
    frameDrop k .tag s = if z.1 then occur 0x3A5 {} z.2 else z.2 :=
  (if_neg (fun ⟨h3, h4⟩ => lane.elim h3 h4)).trans (if_neg (not_not_intro enc))

theorem frameDrop_clear (up : ronState s k = 4) (enc : s.rbit Reg.ronCfg 1 = true) :
    frameDrop k .clear s = (s.bump (Reg.ronLaneDrop k)).setRl k { s.rl k with badRun := 0 } :=
  (if_neg (fun ⟨_, h4⟩ => h4 up)).trans (if_pos ⟨up, enc⟩)

theorem frameDrop_other {w : RonDrop} (lane : ronState s k = 3 ∨ ronState s k = 4) (why : w = .length ∨ w = .dst ∨ w = .vl ∨ w = .type) :
    frameDrop k w s = (s.bump (Reg.ronLaneDrop k)).setRl k { s.rl k with badRun := 0 } := by
  refine (if_neg (fun ⟨h3, h4⟩ => lane.elim h3 h4)).trans ?_
  obtain rfl | rfl | rfl | rfl := why <;> rfl

end

/-- Settles O40: each frame is taken on its lane, and acts as its tests allow; a frame that is dropped is counted by its fault. -/
theorem commandAndDataFramesAreTaken : Obligations.CommandAndDataFramesAreTaken := by
  unfold Obligations.CommandAndDataFramesAreTaken
  refine ⟨?command, ?completion, ?media, ?mediaOne, ?dossier, ?dossierPass, ?catalogue, ?ledger, ?folio, ?crc, ?tag, ?clear, ?other⟩
  case command =>
    intro k hd op d aux ok s hn here whole u c v
    refine ⟨fun runs => ?_, fun st refused => ?_, fun h away => ?_⟩
    · exact exec_commandFrame hn whole here (takeFrame_here rfl runs)
    · exact exec_commandFrame hn whole here (takeFrame_refused rfl refused)
    · exact exec_commandFrame hn whole here (takeFrame_forward rfl away)
  case completion =>
    intro k hd o aux c s hn here d id waits own pending other u g
    exact run_frame_ends hn here (completionTake_completes rfl waits own pending other)
  case media =>
    intro k hd rs s hn here
    exact run_frame_ends hn here rfl
  case mediaOne =>
    intro k hd r q n s hn here d c ssrc ingress hq owner restored header stream
    exact run_frame_ends hn here (mediaTake_delivers ingress hq owner restored header stream)
  case dossier =>
    intro k hd g w rec o s hn here d keeps passive u
    exact run_frame_ends hn here (dossierTake_stages passive keeps rfl)
  case dossierPass =>
    intro k hd g r w rec o s hn here d active reserve h away
    exact run_frame_ends hn here (dossierTake_passes active rfl reserve away)
  case catalogue =>
    intro k hd rec s hn here whole d g
    refine ⟨fun manager standby idle => ?_, fun passive keeps => ?_⟩
    · exact run_frame_ends hn here ((recordTake_notes manager standby idle).trans (recordNote_whole whole))
    · exact run_frame_ends hn here (recordTake_stages passive keeps)
  case ledger =>
    intro k hd es s hn here d
    exact run_frame_ends hn here rfl
  case folio =>
    intro k hd aux o s hn here d all
    have acts : folioTake k hd aux o s.dev = folioAct k aux o d := ronTake_here _ _ _ _ _ _ _ _ here
    refine ⟨fun block more => ?_, fun block last => ?_, fun staged => ?_⟩
    · exact run_ends hn (acts.trans (folioAct_piece block more))
    · exact run_ends hn (acts.trans (folioAct_last block last))
    · exact run_ends hn (acts.trans (if_pos staged))
  case crc =>
    intro k s hn lane l d
    exact run_ends hn (frameDrop_crc lane)
  case tag =>
    intro k s hn lane enc d z
    exact run_ends hn (frameDrop_tag lane enc)
  case clear =>
    intro k s hn up enc
    exact run_ends hn (frameDrop_clear up enc)
  case other =>
    intro k w s hn lane why
    exact run_ends hn (frameDrop_other lane why)

end Sys2Proof.Proofs
end
